-- ==== Sys2Proof/Word.lean ====
section
/-!
DEFINITION. Sys2Proof/Word.lean: the word types of the Quetrajo (00_scope.md R2: registers are 32 bits wide).
-/
namespace Sys2Proof

/-- A register or an engine word (R2). -/
abbrev Word := BitVec 32

/-- One byte. -/
abbrev Byte := BitVec 8

end Sys2Proof
end

