-- ==== Sys2Proof/Machine/Bits.lean ====
section
/-!
DEFINITION. Sys2Proof/Machine/Bits.lean: bit-field, byte-order and sign helpers (00_scope.md R2, R3).
-/
namespace Sys2Proof.Machine

/-- Bits [lo + w - 1 : lo] of a number. -/
def bits (n lo w : Nat) : Nat := n / 2 ^ lo % 2 ^ w

/-- Bit i of a number. -/
def bit (n i : Nat) : Bool := n / 2 ^ i % 2 == 1

/-- n with bits [lo + w - 1 : lo] replaced by v. -/
def putBits (n lo w v : Nat) : Nat :=
  n - bits n lo w * 2 ^ lo + v % 2 ^ w * 2 ^ lo

/-- n with bit i set. -/
def setBit (n i : Nat) : Nat := putBits n i 1 1

/-- n with bit i cleared. -/
def clrBit (n i : Nat) : Nat := putBits n i 1 0

/-- 1 for true, 0 for false. -/
def b2n (b : Bool) : Nat := if b then 1 else 0

/-- The low k bytes of n, little-endian (R2, R57). -/
def le : Nat → Nat → List Byte
  | 0, _ => []
  | k + 1, n => BitVec.ofNat 8 n :: le k (n / 256)

/-- The low k bytes of n, network byte order (R2). -/
def be (k n : Nat) : List Byte := (le k n).reverse

/-- The number a little-endian byte string holds. -/
def ofLe : List Byte → Nat
  | [] => 0
  | b :: bs => b.toNat + 256 * ofLe bs

/-- The number a byte string in network byte order holds. -/
def ofBe (bs : List Byte) : Nat := ofLe bs.reverse

/-- k bytes of a byte string from offset o; bytes beyond its end read 0. -/
def slice (bs : List Byte) (o k : Nat) : List Byte :=
  let t := (bs.drop o).take k
  t ++ List.replicate (k - t.length) 0

/-- Little-endian number of k bytes at offset o. -/
def leAt (bs : List Byte) (o k : Nat) : Nat := ofLe (slice bs o k)

/-- Number of k bytes at offset o in network byte order. -/
def beAt (bs : List Byte) (o k : Nat) : Nat := ofBe (slice bs o k)

/-- A byte string cut or zero-padded to k bytes. -/
def padTo (k : Nat) (bs : List Byte) : List Byte := slice bs 0 k

/-- Two's complement value of a w-bit field. -/
def signed (w n : Nat) : Int := if n % 2 ^ w < 2 ^ (w - 1) then (n % 2 ^ w : Nat) else (n % 2 ^ w : Nat) - (2 ^ w : Nat)

/-- The w-bit two's complement field that holds i. -/
def unsigned (w : Nat) (i : Int) : Nat := (i % (2 ^ w : Nat)).toNat

/-- n bounded by the all-ones value of a w-bit counter (R6). -/
def sat (w n : Nat) : Nat := min n (2 ^ w - 1)

/-- Index of the lowest set bit below w of a number. -/
def lowestBit : Nat → Nat → Option Nat
  | 0, _ => none
  | w + 1, n => if n % 2 == 1 then some 0 else (lowestBit w (n / 2)).map (· + 1)

/-- Number of set bits below bit w. -/
def popcount : Nat → Nat → Nat
  | 0, _ => 0
  | w + 1, n => n % 2 + popcount w (n / 2)

/-- Bitwise exclusive or of two byte strings, as long as the shorter. -/
def xorBytes (a b : List Byte) : List Byte := List.zipWith (· ^^^ ·) a b

/-- The bits of a byte string, most significant bit of each byte first (line and belay order, R2). -/
def bitsOf (bs : List Byte) : List Bool :=
  bs.flatMap fun b => (List.range 8).map fun i => b.getLsbD (7 - i)

/-- The number a bit string holds, first bit most significant. -/
def ofBits (l : List Bool) : Nat := l.foldl (fun n b => 2 * n + b2n b) 0

/-- The first n bytes of a bit string, bit 7 of each first. -/
def bytesOf (l : List Bool) (n : Nat) : List Byte := (List.range n).map fun i => BitVec.ofNat 8 (ofBits ((l.drop (8 * i)).take 8))

/-- The low w bits of n as a bit string, most significant first. -/
def toBits (w n : Nat) : List Bool := (List.range w).map fun i => bit n (w - 1 - i)

/-- Number of positions in which two bit strings differ. -/
def hamming (a b : List Bool) : Nat := ((List.zipWith (· != ·) a b).filter id).length

end Sys2Proof.Machine
end

