-- ==== Sys2Proof/Machine/Types.lean ====
section
/-!
DEFINITION. Sys2Proof/Machine/Types.lean: the plain types that commands, image declarations and the state share.
-/
namespace Sys2Proof.Machine

/-- Line ports (Table 0-3). -/
inductive Port where
  | a | b
deriving DecidableEq, Repr, Inhabited

/-- Index of a line port in its register block. -/
def Port.ix : Port → Nat
  | .a => 0
  | .b => 1

/-- The other line port. -/
def Port.other : Port → Port
  | .a => .b
  | .b => .a

/-- Host paths (Table 3-4 PATH). -/
inductive Path where
  | pcie | inBand | remote
deriving DecidableEq, Repr, Inhabited

/-- PATH code of FLAGS bits 3:2. -/
def Path.code : Path → Nat
  | .pcie => 0
  | .inBand => 1
  | .remote => 2

/-- Operating modes (Table 4-1). -/
inductive Mode where
  | config | acquire | range | service | standby | island | bivouac | test
deriving DecidableEq, Repr, Inhabited

/-- Mode codes of Table 4-1. -/
def Mode.code : Mode → Nat
  | .config => 0
  | .acquire => 1
  | .range => 2
  | .service => 3
  | .standby => 4
  | .island => 5
  | .bivouac => 6
  | .test => 7

/-- Triggers of the mode controller (Table 4-2). -/
inductive Trigger where
  | reset | imageActive | aligned | acqLimit | registered | syncLost | deregistered | resumed | reacquired
  | verdictActive | verdictStandby | hostReq | wakeBelay | wakeHost | wakeGpio | pitch13 | portSwitch
deriving DecidableEq, Repr, Inhabited

/-- Trigger codes of Table 4-2. -/
def Trigger.code : Trigger → Nat
  | .reset => 0x00
  | .imageActive => 0x01
  | .aligned => 0x02
  | .acqLimit => 0x03
  | .registered => 0x04
  | .syncLost => 0x05
  | .deregistered => 0x06
  | .resumed => 0x07
  | .reacquired => 0x08
  | .verdictActive => 0x09
  | .verdictStandby => 0x0A
  | .hostReq => 0x0B
  | .wakeBelay => 0x0C
  | .wakeHost => 0x0D
  | .wakeGpio => 0x0E
  | .pitch13 => 0x0F
  | .portSwitch => 0x10

/-- Twin roles (R85). -/
inductive Role where
  | none | active | standby
deriving DecidableEq, Repr, Inhabited

/-- Role codes of MOD_STATUS.ROLE. -/
def Role.code : Role → Nat
  | .none => 0
  | .active => 1
  | .standby => 2

/-- Host requests of MOD_REQ (04, REQ encodings). -/
inductive Req where
  | bivouac | wake | test | exitTest | cancel
deriving DecidableEq, Repr, Inhabited

/-- REQ codes. -/
def Req.code : Req → Nat
  | .bivouac => 1
  | .wake => 2
  | .test => 3
  | .exitTest => 4
  | .cancel => 5

/-- Where a host request comes from: the register, or a message of a path. -/
inductive ReqSrc where
  | register | message (p : Path)
deriving DecidableEq, Repr, Inhabited

/-- Reset kinds that a device reset can have (Table 4-5). -/
inductive ResetKind where
  | powerOn | hard | soft
deriving DecidableEq, Repr, Inhabited

/-- Kind code of RESET_NOTICE (Table 3-6). -/
def ResetKind.code : ResetKind → Nat
  | .powerOn => 0
  | .hard => 1
  | .soft => 2

/-- A trained PCIe link: SPEED and WIDTH codes of HIF_STATUS (Table 3-1). -/
structure LinkState where
  speed : Nat
  width : Nat
deriving DecidableEq, Repr

/-- A host-to-device message as taken from a path (Table 3-4; FLAGS and REF are ignored). -/
structure HMsg where
  seq : Nat
  typ : Nat
  len : Nat
  payload : List Byte
deriving DecidableEq, Repr, Inhabited

/-- A message read from its 64-byte string. -/
def HMsg.ofBytes (b : List Byte) : HMsg :=
  { seq := leAt b 0 4, typ := leAt b 4 2, len := leAt b 6 1, payload := slice b 12 52 }

/-- A journalled device-to-host message; ans names the path and SEQ of the command an answer is for. -/
structure DMsg where
  seq : Nat
  typ : Nat
  ans : Option (Path × Nat)
  payload : List Byte
deriving DecidableEq, Repr, Inhabited

/-- The 64-byte string of a message (Table 3-4). -/
def DMsg.bytes (m : DMsg) (phase replay : Bool) : List Byte :=
  let flags := b2n phase + 2 * b2n replay + (match m.ans with | some (p, _) => 4 * p.code + 16 | none => 0)
  le 4 m.seq ++ le 2 m.typ ++ le 1 m.payload.length ++ le 1 flags ++
    le 4 (match m.ans with | some (_, r) => r | none => 0) ++ padTo 52 m.payload

/-- What a read of host memory over PCIe returns. -/
inductive HostData where
  | data (bytes : List Byte) | pcieError
deriving DecidableEq, Repr, Inhabited

/-- How an image fetch ends (Table 2-5, check 3). -/
inductive FetchEnd where
  | data (bytes : List Byte) | pcieError | uncorrectable
deriving DecidableEq, Repr, Inhabited

/-- IMG commands (Table 2-6). -/
inductive ImgCmd where
  | loadFull | loadPartial | reloadRetained | abandon | advanceEpoch | revokeKey
deriving DecidableEq, Repr, Inhabited

/-- CMD codes of Table 2-6. -/
def ImgCmd.code : ImgCmd → Nat
  | .loadFull => 1
  | .loadPartial => 2
  | .reloadRetained => 3
  | .abandon => 4
  | .advanceEpoch => 5
  | .revokeKey => 6

/-- States of an image operation (IMG_STATUS.STATE). -/
inductive ImgState where
  | empty | fetch | check | validate | drain | load | reset | enable | active | fault
deriving DecidableEq, Repr, Inhabited

/-- STATE codes of IMG_STATUS. -/
def ImgState.code : ImgState → Nat
  | .empty => 0
  | .fetch => 1
  | .check => 2
  | .validate => 3
  | .drain => 4
  | .load => 5
  | .reset => 6
  | .enable => 7
  | .active => 8
  | .fault => 9

/-- States of a power domain (Table 22-3), and OFF (R475). -/
inductive DomSt where
  | up | draining | stopping | retain | waking | off
deriving DecidableEq, Repr, Inhabited

/-- States of the power coordinator (R479). -/
inductive CoordSt where
  | run | entering | bivouac | exiting
deriving DecidableEq, Repr, Inhabited

/-- Codes of PWR_STATUS.STATE. -/
def CoordSt.code : CoordSt → Nat
  | .run => 0
  | .entering => 1
  | .bivouac => 2
  | .exiting => 3

/-- Requests of the power coordinator (R479). -/
inductive CoordReq where
  | enter | exit | allOn
deriving DecidableEq, Repr, Inhabited

/-- REQ codes of PWR_REQ_RESULT. -/
def CoordReq.code : CoordReq → Nat
  | .enter => 1
  | .exit => 2
  | .allOn => 3

/-- An instant of the time of day: seconds and nanoseconds (R266). -/
structure Tod where
  sec : Nat
  ns : Nat
deriving DecidableEq, Repr, Inhabited

/-- How the taps of an equaliser moved (R105): updates since calibration, and those of the last 10,000 that moved a tap, by number,
with the move of each tap, newest first. -/
structure Adapt where
  updates : Nat
  moves : List (Nat × List Int)
deriving DecidableEq, Repr, Inhabited

/-- A calibration has just set the taps. -/
def Adapt.new : Adapt := { updates := 0, moves := [] }

/-- One more update, which moved the taps by these steps. -/
def Adapt.step (x : Adapt) (d : List Int) : Adapt :=
  let n := x.updates + 1
  { updates := n, moves := (if d.all (· == 0) then x.moves else (n, d) :: x.moves).filter fun y => decide (n < y.1 + 10000) }

/-- How far tap k has changed over the last 10,000 updates (DEDUCED: its net change). -/
def Adapt.changed (x : Adapt) (k : Nat) : Nat := ((x.moves.map fun (y : Nat × List Int) => y.2.getD k 0).sum).natAbs

/-- ADAPTED of n taps after an update, from its value before (R105). -/
def Adapt.holds (x : Adapt) (n : Nat) (now : Bool) : Bool :=
  if now then (List.range n).all fun k => decide (x.changed k ≤ 4)
  else decide (10000 ≤ x.updates) && (List.range n).all fun k => decide (x.changed k ≤ 1)

/-- Block alignment of a rope or twin lane (R395): valid headers in hunt, the candidate position, and the headers and the invalid
headers of the window that runs with lock held. -/
structure Align where
  count : Nat
  cand : Nat
  pos : Nat
  bad : Nat
deriving DecidableEq, Repr, Inhabited

/-- A PRBS checker (R404): the last bits taken or generated, how many seeded it, how many matched in a row, and which of the last 64
were errors. -/
structure PrbsChk where
  reg : Nat
  seeded : Nat
  run : Nat
  errs : Nat
deriving DecidableEq, Repr, Inhabited

/-- What the transmitter of a lane sends (R398, R401, R404): electrical idle, its PCS output, the bits its CDR recovers, or a PRBS
pattern with an injection rate. -/
inductive LaneTx where
  | idle
  | pcs
  | far
  | prbs (pattern rate : Nat)
deriving DecidableEq, Repr, Inhabited

/-- What a receiver takes for a marker in CHECK: on a rope or twin lane the 8 payload bytes of a block with the first
most significant (R393); on an Ethernet lane with RS-FEC its alignment marker (R396). -/
inductive MarkerIn where
  | block (payload : BitVec 64)
  | alignment
deriving DecidableEq, Repr, Inhabited

/-- What a line receiver starts with when power comes back (Table 5-3): the received power, its gain and CTLE codes, its taps. -/
structure RxStart where
  power : BitVec 16
  eq : BitVec 6
  taps : BitVec 30
deriving DecidableEq, Repr, Inhabited

/-- What the belay correlator sees of a preamble: the strengths of eight symbols, and the strength estimated from them on (R183). -/
structure PreambleIn where
  symbols : List Nat
  strength : Nat
deriving DecidableEq, Repr, Inhabited

/-- What the belay correlator sees of a sync word: 32 symbol decisions, and the strength latched over them (R182, R183). -/
structure SyncIn where
  word : BitVec 32
  strength : Nat
deriving DecidableEq, Repr, Inhabited

/-- The sync headers that a lane receives at its candidate position, oldest first (R395). -/
structure HeadersIn where
  lane : Fin 18
  headers : List (Fin 4)
deriving DecidableEq, Repr, Inhabited

/-- A codeword as received: its index, its 16,384 scrambled bits with the first most significant, and the decoder's estimate of the
descrambled word after each iteration (R130 gives no decoding algorithm, so that the estimates come with the word). -/
structure CwIn where
  index : Nat
  word : Nat
  est : List Nat
deriving DecidableEq, Repr, Inhabited

/-- A downstream frame as the framer receives it (R123, Table 6-1): the 128 bits at the expected position, the 64 header bytes, and
the codewords, all as received; a codeword not listed was received as the scrambled codeword of zeros. -/
structure DsFrame where
  psync : BitVec 128
  header : List Byte
  cws : List CwIn
deriving DecidableEq, Repr, Inhabited

/-- The payload of a frame once decoded (R130, R131): information bits by codeword (unlisted 0), the uncorrectable codewords, and how
many bits decoding changed. -/
structure Payload where
  info : List (Nat × Nat)
  unc : List Nat
  corrected : Nat
deriving DecidableEq, Repr, Inhabited

/-- Activation states (Table 7-4). -/
inductive ActSt where
  | idle | listen | serial | ranging | registered | lost | resuming
deriving DecidableEq, Repr, Inhabited

/-- Codes of Table 7-4. -/
def ActSt.code : ActSt → Nat
  | .idle => 0
  | .listen => 1
  | .serial => 2
  | .ranging => 3
  | .registered => 4
  | .lost => 5
  | .resuming => 6

/-- A rescue hint (R170, R188). -/
structure Hint where
  tree : Nat
  tid : Nat
  eqd : Nat
  tdmBase : Nat
  grantId : Nat
  withdrawn : Bool
deriving DecidableEq, Repr, Inhabited

/-- A bandwidth map entry (Table 6-4). -/
structure Grant where
  id : Nat
  tdm : Bool
  lmm : Bool
  report : Bool
  start : Nat
  length : Nat
deriving DecidableEq, Repr, Inhabited

/-- The entry that 8 bytes spell. -/
def Grant.ofBytes (b : List Byte) : Grant :=
  let n := ofBe b
  { id := bits n 52 12, tdm := bit n 51, lmm := bit n 50, report := bit n 49, start := bits n 25 23, length := bits n 2 23 }

/-- A token bucket that the host can write: the policer of SCH_POL_SEL, a queue shaper, a port shaper (R245). -/
inductive BucketRef where
  | policer | shaper (n : Fin 8192) | portShaper (p : Fin 64)
deriving DecidableEq, Repr, Inhabited

/-- A failing bit that a memory test reports: the word (65,536 × instance + address) and the bit. -/
abbrev FailBit := Nat × Nat

/-- A spare word: instance and number. -/
abbrev SpareRef := Fin 2304 × Fin 8

end Sys2Proof.Machine
end

