-- ==== Sys2Proof/Syntax.lean ====
section
/-!
DEFINITION. Sys2Proof/Syntax.lean: the commands of the block, one constructor per row of spec/opcode_table.json, in its order.
An operand is what the row's step learns from outside the block (a written value, a received frame, a measurement).
-/
namespace Sys2Proof
open Machine

/-- The commands of the Quetrajo: its steps, each whole and indivisible (spec/95). -/
inductive Instr where
  /-- LOW_WORD_READ (R3): A read of the low word of a 64-bit register pair latches the high word of the same instant into a shadow. -/
  | lowWordRead (addr : Nat)
  /-- HIGH_WORD_READ (R3): A read of the high word returns and uses up an unused shadow, or returns the live high word when no shadow exists. -/
  | highWordRead (addr : Nat)
  /-- HIGH_WORD_WRITE (R3): A write of the high word is held until the low word is written, and both halves then take effect together. -/
  | highWordWrite (addr : Nat) (v : Word)
  /-- RC_READ (R4): A read of an RC counter returns its value and clears it, keeping an event counted in the same cycle. -/
  | rcRead (addr : Nat)
  /-- REGISTER_WRITE (R4): A host write to a register that has no row of its own acts as its access code gives, with reserved bits and encodings discarded. -/
  | registerWrite (addr : Nat) (v : Word)
  /-- NARROW_WRITE (R54): A register write narrower than 32 bits is discarded and sets HIF_ERR.WIDTH. -/
  | narrowWrite (addr : Nat)
  /-- UNMAPPED_ACCESS (R55): An access to an unmapped BAR0 address reads 0 or is discarded, and sets HIF_ERR.UNMAPPED. -/
  | unmappedAccess (addr : Nat) (write : Bool)
  /-- LOAD_FULL (R40): IMG command that fetches or takes from staging a full image, checks it and applies all sixteen pitches in order. -/
  | loadFull (source : Bool)
  /-- LOAD_PARTIAL (R43): IMG command that reloads one or more of pitches 1-15 in service through the reload phases. -/
  | loadPartial (source force : Bool)
  /-- RELOAD_RETAINED (R39): IMG command that restores the last full image and later partial reloads from the section store. -/
  | reloadRetained
  /-- ABANDON (R38): IMG command that stops an operation in FETCH, CHECK or VALIDATE, or acts as a drain expiry without FORCE in DRAIN. -/
  | abandon
  /-- ADVANCE_EPOCH (R31): IMG command that raises the fused epoch to IMG_RUN_EPOCH, or is refused with FUSE. -/
  | advanceEpoch (key : BitVec 16)
  /-- REVOKE_KEY (R32): IMG command that permanently sets the revocation bit of one fused key slot. -/
  | revokeKey (slot : Fin 4) (key : BitVec 16)
  /-- IMAGE_FETCH_DONE (R33): Completion of an image fetch into staging, after which the checks of Table 2-5 run and the operation proceeds or fails. -/
  | imageFetchDone (r : FetchEnd)
  /-- DRAIN_DONE (R44): Nothing remains in flight in the draining pitches, so the reload moves to LOAD. -/
  | drainDone
  /-- DRAIN_LIMIT_EXPIRY (R44): IMG_DRAIN_LIMIT expires in DRAIN: without FORCE the reload is abandoned, with FORCE work in flight is discarded and the reload continues. -/
  | drainLimitExpiry
  /-- PITCH_LOAD_DONE (R43): Writing the new sections completes, and the reloaded pitches are reset and enabled together. -/
  | pitchLoadDone (failed : Option (Fin 16))
  /-- HIF_CTL_WRITE (R62): A write of HIF_CTL that sets a ring enable from 0 to 1 resets that ring's HEAD and TAIL to 0. -/
  | hifCtlWrite (v : Word)
  /-- H2D_TAIL_WRITE (R63): A write of HIF_H2D_TAIL makes the Quetrajo fetch commands up to TAIL, or is discarded with TAIL_RANGE. -/
  | h2dTailWrite (v : Word) (entries : List (BitVec 512))
  /-- H2D_FETCH_ERROR (R63): A PCIe error on an H2D ring fetch sets HIF_ERR.H2D_FETCH and clears H2D_EN. -/
  | h2dFetchError
  /-- D2H_HEAD_WRITE (R64): A write of HIF_D2H_HEAD frees consumed ring entries, or is discarded with HEAD_RANGE. -/
  | d2hHeadWrite (v : Word)
  /-- HELLO (R58): H2D command answered with the path's expected sequence, journal bounds, boot count and mode, without consuming a sequence number. -/
  | hello (p : Path)
  /-- REPLAY (R69): H2D command that resends a range of journalled messages on the requesting path. -/
  | replay (p : Path)
  /-- SNAPSHOT (R70): H2D command that produces a state snapshot at point S, into host memory or as SNAP_PART messages. -/
  | snapshot (p : Path) (err : Bool)
  /-- REG_READ (R60): H2D command that reads up to 12 registers and returns their values in the answer. -/
  | regRead (p : Path)
  /-- REG_WRITE (R60): H2D command that writes up to 12 registers at ascending offsets. -/
  | regWrite (p : Path)
  /-- IMG_XFER (R61): H2D command that writes image bytes into the staging area. -/
  | imgXfer (p : Path)
  /-- D2H_RING_RESUME (R65): When ring space returns, writing resumes at the oldest unwritten message still journalled, counting skipped ones. -/
  | d2hRingResume
  /-- COALESCE_TIMER_EXPIRY (R66): TIME µs after the first unsignalled message, vector 0 is raised. -/
  | coalesceTimerExpiry
  /-- IB_FRAME_RECEIVE (R73): An in-band management frame is authenticated by CMAC and its messages are taken, or it is silently discarded. -/
  | ibFrameReceive (n : Fin 8) (frame : List Byte)
  /-- MODE_REQ_BIVOUAC (R79): Host request that seeks BIVOUAC through M16, or is held or answered MODE. -/
  | modeReqBivouac (src : ReqSrc)
  /-- MODE_REQ_WAKE (R78): Host WAKE request that raises WAKE_HOST to the mode controller. -/
  | modeReqWake (src : ReqSrc)
  /-- MODE_REQ_TEST (R79): Host request with key 0x5445 that seeks TEST through M3. -/
  | modeReqTest (src : ReqSrc) (key : BitVec 16)
  /-- MODE_REQ_EXIT_TEST (R79): Host request that leaves TEST through a SOFT reset under M19. -/
  | modeReqExitTest (src : ReqSrc)
  /-- MODE_REQ_CANCEL (R87): Host request that removes a held host request. -/
  | modeReqCancel (src : ReqSrc)
  /-- ACQ_LIMIT_EXPIRY (R78): MOD_ACQ_LIMIT expires in ACQUIRE and raises ACQ_LIMIT. -/
  | acqLimitExpiry
  /-- ACQ_LIMIT_WRITE (R78): A write of MOD_ACQ_LIMIT during ACQUIRE re-times the limit from the entry instant. -/
  | acqLimitWrite (v : Word)
  /-- GPIO_WAKE_EDGE (R78): An enabled GPIO edge raises WAKE_GPIO. -/
  | gpioWakeEdge (pin : Fin 8) (falling : Bool)
  /-- PACE_COMPARE (R99): Every 1 ms the supervisor compares the pace reading with the target and steps the core voltage by 5 mV. -/
  | paceCompare (reading : BitVec 16)
  /-- POWER_APPLIED (R91): Supply is applied and the supervisor starts a power-on reset. -/
  | powerApplied
  /-- RESET_RELEASE (R89): Every rail has been good for 20 ms with RST_N high, and the supervisor releases the device from reset. -/
  | resetRelease
  /-- BOOT_DONE (R90): The boot structure runs, CONFIG is entered with no image, and RESET_NOTICE is journalled as message 0. -/
  | bootDone
  /-- SOFT_RESET (R91): A write of PLT_RESET with key 0x534F starts a SOFT reset. -/
  | softReset (v : Word)
  /-- RST_N_LOW (R497): A low pulse of at least 10 µs on RST_N causes a HARD reset. -/
  | rstNLow
  /-- WDOG_KICK (R94): A write of PLT_WDOG_KICK advances the pattern or completes a host kick, or counts a wrong pattern. -/
  | wdogKick (v : Word)
  /-- WDOG_CFG_WRITE (R96): A write of PLT_WDOG_CFG arms or disarms the host watchdog with a full period. -/
  | wdogCfgWrite (v : Word)
  /-- WDOG_WARN (R95): Half of the host period passes without a kick and PLT_IRQ.WDOG_WARN is set. -/
  | wdogWarn
  /-- WATCHDOG_HOST (R94): The host watchdog period expires and causes a HARD reset. -/
  | watchdogHost
  /-- WATCHDOG_PLATFORM (R94): The 500 ms platform heartbeat expires and causes a HARD reset. -/
  | watchdogPlatform
  /-- BROWNOUT (R97): A supervised rail stays below its threshold for the stated time and causes a HARD reset. -/
  | brownout (rail : Fin 5)
  /-- AC_FAIL (R98): No valid input half-cycle for 12 ms sets AC_OK to 0 and raises AC_FAIL. -/
  | acFail
  /-- AC_RESTORED (R98): The input has been valid for 100 ms, AC_OK returns to 1 and AC_RESTORED is set. -/
  | acRestored
  /-- LOS_ON (R106): Received power stays below the LOS level for 100 µs and LOS is set on a line port. -/
  | losOn (p : Port) (power : BitVec 16)
  /-- LOS_OFF (R106): Received power stays above level plus hysteresis for 1 ms and LOS clears. -/
  | losOff (p : Port) (rx : RxStart)
  /-- LOL (R107): The line CDR loses lock, and a loss on a powered, uncalibrating port is counted and reported. -/
  | lol (p : Port)
  /-- LOL_CLEAR (R107): The line CDR has held lock for 100 µs and LOL clears. -/
  | lolClear (p : Port)
  /-- OVERLOAD_ON (R108): Received power stays above -5.0 dBm for 100 µs and OVERLOAD is set. -/
  | overloadOn (p : Port) (power : BitVec 16)
  /-- OVERLOAD_OFF (R108): Received power stays below -6.0 dBm for 1 ms and OVERLOAD clears. -/
  | overloadOff (p : Port) (power : BitVec 16)
  /-- PORT_READY (R109): Power-up calibration of a line front end completes and the port becomes READY. -/
  | portReady (p : Port) (eq : BitVec 6) (taps : BitVec 30)
  /-- OFFSET_CAL (R109): Every 1 s one slicer's offset is recalibrated in background by swapping it with the spare. -/
  | offsetCal (p : Port)
  /-- CAL_START (R109): LFE_x_CTL.CAL_START starts a full receiver calibration on a WARM port, or is refused. -/
  | calStart (p : Port)
  /-- FULL_CAL_DONE (R109): A full receiver calibration completes. -/
  | fullCalDone (p : Port) (eq : BitVec 6) (taps : BitVec 30)
  /-- TEC_LOCK_CHANGE (R112): The laser temperature enters or leaves ±0.5 °C of the set point and TEC_LOCK changes. -/
  | tecLockChange (p : Port) (lock : Bool) (temp : BitVec 16)
  /-- TEC_FAULT (R113): TEC_LOCK stays 0 for 15 s with the TEC running and TEC_FAULT is set. -/
  | tecFault (p : Port)
  /-- ROGUE_DETECT (R115): Light above -30 dBm outside a burst for over 1 µs opens the rogue switch and latches ROGUE. -/
  | rogueDetect (p : Port)
  /-- ROGUE_CLR (R115): LFE_x_CTL.ROGUE_CLR closes the rogue switch. -/
  | rogueClr (p : Port) (light : Bool)
  /-- PORT_SELECT (R117): A host write of LFE_SEL.PORT naming the other port starts a line port switch, or is refused. -/
  | portSelect (p : Port)
  /-- AUTO_SWITCH (R118): The holdoff expires with the active port faulty and the warm port clear, and an automatic switch starts. -/
  | autoSwitch
  /-- SWITCH_COMPLETE (R119): After any burst in progress ends, the ports exchange roles and PORT_SWITCH is raised. -/
  | switchComplete
  /-- HOLD_EXPIRY (R119): The hold after a switch expires and automatic switching resumes. -/
  | holdExpiry
  /-- PSYNC_HUNT_MATCH (R137): A PSync match in HUNT or PRESYNC creates or advances a candidate, and a third hit gains SYNC. -/
  | psyncHuntMatch (p : Port) (pos : Nat)
  /-- PSYNC_CANDIDATE_MISS (R137): A miss at a candidate's next frame position drops that candidate. -/
  | psyncCandidateMiss (p : Port) (pos : Nat)
  /-- DOWNSTREAM_FRAME (R123): The framer processes one downstream frame at its expected position in SYNC. -/
  | downstreamFrame (p : Port) (f : DsFrame)
  /-- DEFECT_WINDOW_END (R146): A window of 8,000 frames ends and DS and UNC are declared or cleared. -/
  | defectWindowEnd (p : Port)
  /-- DS_CFG_WRITE (R146): A write of LFR_DS_CFG with BER_M = 0 while DS is declared clears DS at once. -/
  | dsCfgWrite (v : Word)
  /-- UPSTREAM_FRAME_START (R151): Upstream frame k begins at its exact instant after the downstream frame plus EQD. -/
  | upstreamFrameStart
  /-- UPSTREAM_BURST (R141): An accepted grant is sent as a burst of preamble, delimiter, header and coded data. -/
  | upstreamBurst (power : BitVec 16) (biasMax : Bool)
  /-- RANGE_TIMEOUT (R166): RANGE_TIMEOUT expires in RANGING, the record is cleared and DEREGISTERED is raised. -/
  | rangeTimeout
  /-- RESUME_WAIT_EXPIRY (R166): RESUME_WAIT expires in RESUMING, the record is cleared and REACQUIRED is raised. -/
  | resumeWaitExpiry
  /-- SN_EN_WRITE (R166): Writing ACT_CTL.SN_EN = 0 in SERIAL withdraws the quiet-window ID and returns to LISTEN. -/
  | snEnWrite (v : Bool)
  /-- ACT_RESTART (R166): ACT_CTL.RESTART drops the registration record under A8, A9 or A14. -/
  | actRestart
  /-- PREAMBLE_DETECT (R183): Eight symbols at a code phase reach the acquisition threshold and a belay preamble is detected. -/
  | preambleDetect (p : Port) (phase : Nat) (x : PreambleIn)
  /-- SYNC_WORD_DETECT (R185): A belay sync word is detected at a tracked or candidate phase, latching strength or deciding capture. -/
  | syncWordDetect (p : Port) (phase : Nat) (x : SyncIn)
  /-- PREAMBLE_TIMEOUT (R185): A tracked preamble reaches 96 symbols without sync word and the receiver takes the candidate or searches. -/
  | preambleTimeout (p : Port)
  /-- CANDIDATE_DROP (R184): A re-acquisition candidate shows no sync word within 96 symbols and is dropped. -/
  | candidateDrop (p : Port)
  /-- BELAY_HEADER (R185): The decoded belay header has LEN above 32 and reception ends. -/
  | belayHeader (p : Port) (soft : List (Fin 8))
  /-- BELAY_PACKET_END (R185): The last coded symbol of a belay packet is decoded and the packet is checked and processed. -/
  | belayPacketEnd (p : Port) (soft : List (Fin 8))
  /-- MERGE_EFFECT (R189): EFFECT_SYM symbols after the merge packet, the new downstream code is loaded and the receiver restarts. -/
  | mergeEffect (p : Port)
  /-- BEACON_LOSS (R186): No beacon for BEL_BEACON_LOSS ms sets BEACON_LOST on a port. -/
  | beaconLoss (p : Port)
  /-- BELAY_WINDOW_START (R193): An eligible belay window starts and the terminal sends a STATUS or KEEPALIVE. -/
  | belayWindowStart
  /-- BELAY_TX_END (R194): An upstream belay transmission ends inside its window. -/
  | belayTxEnd
  /-- STATUS_REQ (R193): BEL_CTL.STATUS_REQ queues a STATUS packet. -/
  | statusReq
  /-- DS_CODE_WRITE (R181): A write of a new code to BEL_x_DS_CODE abandons reception and restarts the receiver in SEARCH. -/
  | dsCodeWrite (p : Port) (v : Word)
  /-- E1_INPUT_FRAME (R199): A received E1 frame is aligned, checked for defects and written into the elastic store. -/
  | e1InputFrame (n : Fin 16) (b : BitVec 256)
  /-- E1_LOS_ON (R200): 32 bit periods without a pulse set LOS on an E1 input. -/
  | e1LosOn (n : Fin 16)
  /-- E1_OUTPUT_FRAME (R205): At each frame the E1 output sends the highest-priority source of Table 9-2. -/
  | e1OutputFrame (n : Fin 16)
  /-- E1_DS_WINDOW (R209): A window of 1,000 submultiframes ends and DS is declared or cleared. -/
  | e1DsWindow (n : Fin 16)
  /-- HOLD_LIMIT (R208): A switchover gap exceeds TRB_HOLD_LIMIT and outputs change from repeated frames to AIS. -/
  | holdLimit
  /-- PARSE_FRAME (R215): A parse unit admits a frame, selects a profile, extracts the key and classifies it under one version. -/
  | parseFrame (user : Bool)
  /-- BUCKET_FETCH_DONE (R223): A Thicket bucket fetched from DRAM arrives and the lookups waiting in the miss queue complete. -/
  | bucketFetchDone (b : Fin 262144) (bad : Bool)
  /-- INSERT (R226): THK operation that stages a new entry, finding a free slot by cuckoo moves. -/
  | insert (t : Fin 64)
  /-- REPLACE (R225): THK operation that overwrites a staged entry or supersedes a live one. -/
  | replace (t : Fin 64)
  /-- DELETE (R225): THK operation that removes a staged entry or marks a live one dead at P. -/
  | delete (t : Fin 64)
  /-- LOOKUP (R225): THK operation that reads the entry visible to LIVE or to the pending set into registers. -/
  | lookup (t : Fin 64) (view : Bool)
  /-- HEDGE_WRITE (R228): THK operation that writes a Hedge row at an index with BIRTH = P. -/
  | hedgeWrite (i : Fin 4096)
  /-- HEDGE_CLEAR (R228): THK operation that removes a Hedge entry from P on. -/
  | hedgeClear (i : Fin 4096)
  /-- THK_BATCH (R229): A write of THK_BATCH_CMD executes COUNT records from host memory in order. -/
  | thkBatch (v : Word) (recs : List (Option (BitVec 512)))
  /-- COMMIT_GO (R232): THK_COMMIT.GO requests a commit, which proceeds or is held. -/
  | commitGo
  /-- COMMIT_RELEASE (R232): A held commit proceeds once its holding conditions have ended. -/
  | commitRelease
  /-- THK_ABORT (R233): THK_COMMIT.ABORT undoes the pending set and cancels a held commit. -/
  | thkAbort
  /-- HOLDER_AGED (R234): A version holder reaches THK_AGE_LIMIT and stops holding its version. -/
  | holderAged
  /-- WALKER_VISIT (R235): The retirement walker visits an entry or row and empties or rebases it. -/
  | walkerVisit
  /-- DEEP_TO_FRONT_COPY (R241): Hardware copies a queue's oldest deep-buffer cells into the front buffer. -/
  | deepToFrontCopy (q : Fin 8192)
  /-- CLASS_FIFO_FILL (R249): When a class launch FIFO has room, WFQ moves the head frame of the chosen queue into it. -/
  | classFifoFill (e : Fin 18) (c : Fin 8)
  /-- LAUNCH_SELECT (R250): When the egress can start a frame, the launch stage takes the first eligible class and starts its head frame. -/
  | launchSelect (e : Fin 18)
  /-- FRAME_LAUNCH_DONE (R251): The last bit of a frame leaves the launch stage and its cells are freed. -/
  | frameLaunchDone (e : Fin 18)
  /-- GATE_TICK (R253): A gate control list entry ends and the gate state changes on the launch stage tick. -/
  | gateTick (e : Fin 18)
  /-- GCL_COMMIT (R254): SCH_Ee_GCL_CTL.COMMIT computes the start of the pending list, or is refused. -/
  | gclCommit (e : Fin 18)
  /-- GCL_ABORT (R255): SCH_Ee_GCL_CTL.ABORT withdraws a committed list that has not started. -/
  | gclAbort (e : Fin 18)
  /-- GCL_START (R254): At the start instant the list banks exchange and the new list begins at entry 0. -/
  | gclStart (e : Fin 18)
  /-- TIMED_LAUNCH (R256): At a timed frame's launch instant it launches, or becomes late under the late-frame rules. -/
  | timedLaunch (e : Fin 18)
  /-- RESV_WRITE (R243): A write of SCH_Qn_RESV is applied, or discarded when it would raise the reserve total too far. -/
  | resvWrite (q : Fin 8192) (v : Word)
  /-- TOKEN_RATE_WRITE (R245): A rate write refills a token bucket at the old rate and then sets the new rate. -/
  | tokenRateWrite (b : BucketRef) (v : Word)
  /-- TOKEN_BURST_WRITE (R245): A burst write caps a token bucket's count at the new burst. -/
  | tokenBurstWrite (b : BucketRef) (v : Word)
  /-- INCR_WRITE (R267): A write of TMB_INCR_LO applies a new increment from the next tick, or is refused. -/
  | incrWrite (v : Word)
  /-- TIME_FRAC_READ (R269): A read of TMB_TIME_FRAC latches nanoseconds and seconds into shadows. -/
  | timeFracRead
  /-- STEP_ADD (R270): TMB_ADJ_CTL.GO with MODE ADD adds a signed step to the time. -/
  | stepAdd
  /-- STEP_SET (R270): TMB_ADJ_CTL.GO with MODE SET sets the time to the given value. -/
  | stepSet
  /-- LINE_WINDOW_END (R272): A line measurement window ends, reporting DEV and latching the head-end time. -/
  | lineWindowEnd
  /-- LINE_DEV_READ (R273): A read of TMB_LINE_DEV latches the time-of-day capture registers. -/
  | lineDevRead
  /-- REF_WINDOW_END (R274): A REF10M_IN measurement window ends and reports DEV, or is discarded. -/
  | refWindowEnd (elapsed : Nat) (gap : Bool)
  /-- PPS_IN_EDGE (R275): A rising edge on PPS_IN latches the time and sets NEW. -/
  | ppsInEdge
  /-- PPS_IN_READ (R275): A read of TMB_PPS_IN_NS clears NEW and latches the seconds registers. -/
  | ppsInRead
  /-- PPS_OUT_RISE (R281): PPS_OUT rises when the nanoseconds reach TMB_PPS_OFFSET. -/
  | ppsOutRise
  /-- PPS_OUT_FALL (R281): PPS_OUT falls after WIDTH µs of elapsed timebase time. -/
  | ppsOutFall
  /-- TXS_POP (R279): TMB_TXS_POP.GO moves the oldest stamp entry into the stamp registers. -/
  | txsPop
  /-- ADD (R310): Engine instruction: register addition. -/
  | add (e : Fin 512)
  /-- SUB (R310): Engine instruction: register subtraction. -/
  | sub (e : Fin 512)
  /-- AND (R310): Engine instruction: bitwise AND of registers. -/
  | and_ (e : Fin 512)
  /-- OR (R310): Engine instruction: bitwise OR of registers. -/
  | or_ (e : Fin 512)
  /-- XOR (R310): Engine instruction: bitwise XOR of registers. -/
  | xor_ (e : Fin 512)
  /-- SLL (R310): Engine instruction: shift left logical by a register. -/
  | sll (e : Fin 512)
  /-- SRL (R310): Engine instruction: shift right logical by a register. -/
  | srl (e : Fin 512)
  /-- SRA (R310): Engine instruction: shift right arithmetic by a register. -/
  | sra (e : Fin 512)
  /-- SLT (R310): Engine instruction: signed compare less than. -/
  | slt (e : Fin 512)
  /-- SLTU (R310): Engine instruction: unsigned compare less than. -/
  | sltu (e : Fin 512)
  /-- MUL (R310): Engine instruction: low 32 bits of a product. -/
  | mul (e : Fin 512)
  /-- MULHU (R310): Engine instruction: unsigned high 32 bits of a product. -/
  | mulhu (e : Fin 512)
  /-- REV (R310): Engine instruction: byte reverse of a register. -/
  | rev (e : Fin 512)
  /-- REVH (R310): Engine instruction: byte reverse of the low halfword, zero-extended. -/
  | revh (e : Fin 512)
  /-- CLZ (R310): Engine instruction: count of leading zeros. -/
  | clz (e : Fin 512)
  /-- POPC (R310): Engine instruction: count of set bits. -/
  | popc (e : Fin 512)
  /-- ADDI (R309): Engine instruction: add sign-extended immediate. -/
  | addi (e : Fin 512)
  /-- ANDI (R309): Engine instruction: AND with zero-extended immediate. -/
  | andi (e : Fin 512)
  /-- ORI (R309): Engine instruction: OR with zero-extended immediate. -/
  | ori (e : Fin 512)
  /-- XORI (R309): Engine instruction: XOR with zero-extended immediate. -/
  | xori (e : Fin 512)
  /-- SLLI (R309): Engine instruction: shift left logical by an immediate. -/
  | slli (e : Fin 512)
  /-- SRLI (R309): Engine instruction: shift right logical by an immediate. -/
  | srli (e : Fin 512)
  /-- SRAI (R309): Engine instruction: shift right arithmetic by an immediate. -/
  | srai (e : Fin 512)
  /-- SLTI (R309): Engine instruction: signed compare with an immediate. -/
  | slti (e : Fin 512)
  /-- SLTIU (R309): Engine instruction: unsigned compare with an immediate. -/
  | sltiu (e : Fin 512)
  /-- BEXT (R309): Engine instruction: extract a bit field zero-extended. -/
  | bext (e : Fin 512)
  /-- BINS (R309): Engine instruction: insert a bit field into the destination. -/
  | bins (e : Fin 512)
  /-- LUI (R309): Engine instruction: load the immediate times 2,048. -/
  | lui (e : Fin 512)
  /-- JAL (R309): Engine instruction: jump relative and link. -/
  | jal (e : Fin 512)
  /-- JALR (R309): Engine instruction: jump to register plus immediate and link. -/
  | jalr (e : Fin 512)
  /-- BEQ (R309): Engine instruction: branch when equal. -/
  | beq (e : Fin 512)
  /-- BNE (R309): Engine instruction: branch when not equal. -/
  | bne (e : Fin 512)
  /-- BLT (R309): Engine instruction: branch when signed less than. -/
  | blt (e : Fin 512)
  /-- BGE (R309): Engine instruction: branch when signed greater or equal. -/
  | bge (e : Fin 512)
  /-- BLTU (R309): Engine instruction: branch when unsigned less than. -/
  | bltu (e : Fin 512)
  /-- BGEU (R309): Engine instruction: branch when unsigned greater or equal. -/
  | bgeu (e : Fin 512)
  /-- LB (R287): Engine instruction: load a signed byte. -/
  | lb (e : Fin 512)
  /-- LBU (R287): Engine instruction: load an unsigned byte. -/
  | lbu (e : Fin 512)
  /-- LH (R287): Engine instruction: load a signed halfword. -/
  | lh (e : Fin 512)
  /-- LHU (R287): Engine instruction: load an unsigned halfword. -/
  | lhu (e : Fin 512)
  /-- LW (R287): Engine instruction: load a word. -/
  | lw (e : Fin 512)
  /-- SB (R287): Engine instruction: store a byte. -/
  | sb (e : Fin 512)
  /-- SH (R287): Engine instruction: store a halfword. -/
  | sh (e : Fin 512)
  /-- SW (R287): Engine instruction: store a word. -/
  | sw (e : Fin 512)
  /-- LBP (R295): Engine instruction: packet-space byte load. -/
  | lbp (e : Fin 512)
  /-- LHP (R295): Engine instruction: packet-space halfword load. -/
  | lhp (e : Fin 512)
  /-- LWP (R295): Engine instruction: packet-space word load. -/
  | lwp (e : Fin 512)
  /-- SBP (R295): Engine instruction: packet-space byte store. -/
  | sbp (e : Fin 512)
  /-- SHP (R295): Engine instruction: packet-space halfword store. -/
  | shp (e : Fin 512)
  /-- SWP (R295): Engine instruction: packet-space word store. -/
  | swp (e : Fin 512)
  /-- AADD (R300): Engine atomic add in shared RAM returning the old word. -/
  | aadd (e : Fin 512)
  /-- AAND (R300): Engine atomic AND in shared RAM returning the old word. -/
  | aand (e : Fin 512)
  /-- AOR (R300): Engine atomic OR in shared RAM returning the old word. -/
  | aor (e : Fin 512)
  /-- ASWAP (R300): Engine atomic swap in shared RAM returning the old word. -/
  | aswap (e : Fin 512)
  /-- ACAS (R300): Engine atomic compare-and-swap in shared RAM. -/
  | acas (e : Fin 512)
  /-- FENCE (R300): Engine instruction that waits until stores are visible and asynchronous operations are complete. -/
  | fence (e : Fin 512)
  /-- END (R304): Engine instruction that completes the task, decrements successors and frees the engine. -/
  | end_ (e : Fin 512)
  /-- YIELDPT (R328): Engine instruction at which a YIELD task gives way when a yield request is set. -/
  | yieldpt (e : Fin 512)
  /-- EVWAIT_ANY (R304): Engine instruction that continues when any masked flag is set, or leaves the engine to wait. -/
  | evwaitAny (e : Fin 512)
  /-- EVWAIT_ALL (R304): Engine instruction that continues when all masked flags are set, or leaves the engine to wait. -/
  | evwaitAll (e : Fin 512)
  /-- EVSET (R304): Engine instruction that sets an event flag of a task. -/
  | evset (e : Fin 512)
  /-- EVCLR (R304): Engine instruction that clears the running task's masked flags. -/
  | evclr (e : Fin 512)
  /-- EVGET (R304): Engine instruction that copies the running task's flags to a register. -/
  | evget (e : Fin 512)
  /-- TSR (R307): Engine instruction that reads the timebase nanoseconds and low seconds and latches the high seconds. -/
  | tsr (e : Fin 512)
  /-- TSRH (R307): Engine instruction that reads the latched high seconds. -/
  | tsrh (e : Fin 512)
  /-- PNEXT (R294): Engine instruction that takes the oldest posted frame or notice into the packet context. -/
  | pnext (e : Fin 512)
  /-- PNEW (R294): Engine instruction that creates a zero frame in the packet context. -/
  | pnew (e : Fin 512)
  /-- PHEAD (R297): Engine instruction that removes or prepends bytes at the frame head. -/
  | phead (e : Fin 512)
  /-- PLEN (R297): Engine instruction that sets the frame length. -/
  | plen (e : Fin 512)
  /-- PSEND (R298): Engine instruction that sends the context frame to a queue or the parse unit. -/
  | psend (e : Fin 512)
  /-- PRECIRC (R298): Engine instruction that returns the frame for its second pass. -/
  | precirc (e : Fin 512)
  /-- PDROP (R298): Engine instruction that discards the context frame. -/
  | pdrop (e : Fin 512)
  /-- TLKP (R302): Engine asynchronous Thicket lookup of a 40-byte key. -/
  | tlkp (e : Fin 512)
  /-- TOP (R303): Engine asynchronous Thicket operation record. -/
  | top (e : Fin 512)
  /-- TCOMMIT (R303): Engine asynchronous commit request. -/
  | tcommit (e : Fin 512)
  /-- ASYNC_COMPLETE (R301): An asynchronous Thicket operation completes and writes its result pair, or traps THK. -/
  | asyncComplete (e : Fin 512)
  /-- MSEND_TASK (R305): Engine instruction that sends a message to a local task and sets its flag. -/
  | msendTask (e : Fin 512)
  /-- MSEND_HOST (R305): Engine instruction that journals a message to the host as ENG_MSG. -/
  | msendHost (e : Fin 512)
  /-- MSEND_NODE (R305): Engine instruction that hands a message to the rope fabric for a task on another node. -/
  | msendNode (e : Fin 512)
  /-- MRECV (R306): Engine instruction that moves the oldest message of the task into memory. -/
  | mrecv (e : Fin 512)
  /-- PALLOC (R289): Engine instruction that allocates a range of virtual pages. -/
  | palloc (e : Fin 512)
  /-- PFREE (R292): Engine instruction that releases an allocation. -/
  | pfree (e : Fin 512)
  /-- CRC32C (R307): Engine CRC instruction with func 0, CRC-32C. -/
  | crc32c (e : Fin 512)
  /-- CRC32 (R307): Engine CRC instruction with func 1, CRC-32. -/
  | crc32 (e : Fin 512)
  /-- CRC16 (R307): Engine CRC instruction with func 2, CRC-16. -/
  | crc16 (e : Fin 512)
  /-- PAGE_FILL_DONE (R291): A page is filled into the page cache and the stalled engine continues. -/
  | pageFillDone (c : Fin 32) (page : Nat) (bad : List (Fin 512))
  /-- WINDOW_WRITE (R288): A host write to instruction RAM through the cluster window is discarded and counted. -/
  | windowWrite (c : Fin 32) (o : Fin 32768) (v : Word)
  /-- TASK_MSG (R316): H2D message that delivers a host message to a task. -/
  | taskMsg (p : Path)
  /-- DISPATCH (R324): The scheduler gives a READY task an idle engine of a usable cluster, or seeks a victim. -/
  | dispatch
  /-- PREEMPT_SWITCH (R327): A PREEMPT victim saves its context after outstanding operations, and the engine goes to the requesting task. -/
  | preemptSwitch
  /-- TSK_WRITE (R318): TSK_CMD WRITE stores a descriptor from the window registers. -/
  | tskWrite
  /-- TSK_READ (R318): TSK_CMD READ fills the window registers from a descriptor. -/
  | tskRead
  /-- TSK_FREE (R331): TSK_CMD FREE frees an IDLE or FAULTED task and drops its posted items. -/
  | tskFree
  /-- TSK_SET_FLAGS (R321): TSK_CMD SET_FLAGS ORs flags into a task. -/
  | tskSetFlags
  /-- TSK_CLEAR_FLAGS (R333): TSK_CMD CLEAR_FLAGS clears flags of a task. -/
  | tskClearFlags
  /-- TASK_RESTART (R331): TSK_CMD RESTART returns a FAULTED task to IDLE. -/
  | taskRestart
  /-- TSK_FLAGS_SET (R321): TSK_FLAGS message with OP SET sets flags of a task. -/
  | tskFlagsSet (p : Path)
  /-- TSK_FLAGS_CLEAR (R321): TSK_FLAGS message with OP CLEAR clears flags of a task. -/
  | tskFlagsClear (p : Path)
  /-- CHANNEL_GO (R351): GO starts an IDLE DMA channel as READY, or is refused. -/
  | channelGo (u : Fin 8) (k : Fin 16) (v : Word)
  /-- CHANNEL_STOP (R351): STOP returns a channel to IDLE at the end of the burst in progress. -/
  | channelStop (u : Fin 8) (k : Fin 16) (v : Word)
  /-- CHANNEL_CLEAR (R351): CLEAR releases a HALTED channel to IDLE. -/
  | channelClear (u : Fin 8) (k : Fin 16) (v : Word)
  /-- CHANNEL_START (R351): When the unit is free the lowest-numbered READY channel becomes RUNNING. -/
  | channelStart (u : Fin 8)
  /-- MOVE (R343): DMA instruction that moves LENGTH bytes between spaces in bursts. -/
  | move (u : Fin 8) (host : HostData)
  /-- DMA_BURST (R340): One indivisible DMA burst of up to 256 bytes is carried out. -/
  | dmaBurst (u : Fin 8) (host : HostData)
  /-- LATE_ERROR (R350): A destination error reported after REMAIN reached 0 halts the channel with LATE_ERROR. -/
  | lateError (u : Fin 8)
  /-- LOOP (R345): DMA instruction that opens a loop of COUNT iterations. -/
  | loop (u : Fin 8) (host : HostData)
  /-- ENDLOOP (R345): DMA instruction that counts an iteration and loops or closes. -/
  | endloop (u : Fin 8) (host : HostData)
  /-- WAIT_FLAG (R346): DMA WAIT on a task flag. -/
  | waitFlag (u : Fin 8) (host : HostData)
  /-- WAIT_REQUEST (R346): DMA WAIT on a peripheral request. -/
  | waitRequest (u : Fin 8) (host : HostData)
  /-- WAIT_SATISFIED (R346): The condition or request of a WAITING channel holds and it runs again. -/
  | waitSatisfied (u : Fin 8)
  /-- SIGNAL_TASK (R347): DMA SIGNAL that sets a task flag after prior writes are visible. -/
  | signalTask (u : Fin 8) (host : HostData)
  /-- SIGNAL_HOST (R347): DMA SIGNAL that sets the channel's EVENT interrupt bit. -/
  | signalHost (u : Fin 8) (host : HostData)
  /-- SIGNAL_CHANNEL (R347): DMA SIGNAL that acts as GO on another channel of the unit. -/
  | signalChannel (u : Fin 8) (host : HostData)
  /-- NOP (R342): DMA instruction that does nothing. -/
  | nop (u : Fin 8) (host : HostData)
  /-- DMA_END (R351): DMA instruction that ends the program, returning to IDLE or to READY when repeating. -/
  | dmaEnd (u : Fin 8) (host : HostData)
  /-- TAP_LATCH (R339): A tributary tap latches a frame and asserts its peripheral request. -/
  | tapLatch (n : Fin 16)
  /-- HPATH_CTL_WRITE (R354): Enabling a host frame ring resets its HEAD and TAIL to 0. -/
  | hpathCtlWrite (v : Word)
  /-- HOST_RING_TAIL_WRITE (R354): A write of a host frame ring TAIL posts descriptors to the path. -/
  | hostRingTailWrite (tx : Bool) (v : Word)
  /-- HOST_RX_DELIVER (R355): A frame of egress H is written into the RX descriptor's buffer and written back. -/
  | hostRxDeliver (desc : HostData)
  /-- HOST_TX_FETCH (R356): A TX descriptor's frame is read and sent as PSEND does, or written back with ARG. -/
  | hostTxFetch (desc data : HostData)
  /-- UNWRAP (R366): CPH command that unwraps a blob and writes the key record into a slot. -/
  | unwrap (kek : Fin 16) (force : Bool) (n : Fin 4096)
  /-- ERASE (R369): CPH command that removes both keys of one slot. -/
  | erase (n : Fin 4096)
  /-- ERASE_ALL (R369): CPH command that erases every slot. -/
  | eraseAll
  /-- KAT (R371): CPH command that runs a known-answer test in TEST. -/
  | kat (pass : Bool)
  /-- MAC_RX_FRAME (R377): A received Ethernet frame is passed to the parse unit or dropped and counted. -/
  | macRxFrame (n : Fin 8) (b : List Byte) (code overrun : Bool) (corrected uncorrectable : Nat)
  /-- PAUSE_TIMER_EXPIRY (R382): The pause timer runs out and the transmitter resumes. -/
  | pauseTimerExpiry (n : Fin 8)
  /-- PAUSE_TX_GO (R384): MAC_En_PAUSE_TX.GO queues one PAUSE frame. -/
  | pauseTxGo (n : Fin 8) (v : Word)
  /-- UNDERRUN (R381): The next byte of a cut-through frame has not arrived, the frame is ended with a bad FCS and CT_STEP rises. -/
  | underrun (n : Fin 8) (sent : Nat)
  /-- LPI_ENTER (R385): After IDLE µs with nothing to send the transmitter enters low-power idle. -/
  | lpiEnter (n : Fin 8)
  /-- LPI_EXIT (R385): The transmitter leaves low-power idle and sends idle for TW µs. -/
  | lpiExit (n : Fin 8)
  /-- RX_LPI_CHANGE (R386): The partner enters or leaves low-power idle and RX_LPI follows. -/
  | rxLpiChange (n : Fin 8) (on : Bool)
  /-- LINK_CHANGE (R376): A port's link comes up or goes down and LINK_CHG is set. -/
  | linkChange (n : Fin 8) (lock fec localFault remoteFault : Bool)
  /-- LANE_CAL_DONE (R398): Lane offset calibration completes and the lane enters CDR. -/
  | laneCalDone (i : Fin 18)
  /-- LANE_LOS_ON (R394): Lane input below squelch for 1 µs sets LOS. -/
  | laneLosOn (i : Fin 18)
  /-- LANE_LOS_OFF (R394): Lane input above squelch for 10 µs clears LOS. -/
  | laneLosOff (i : Fin 18)
  /-- LANE_CDR_LOCKED (R398): CDR lock held for 100 µs moves the lane to HUNT and starts adaptation. -/
  | laneCdrLocked (i : Fin 18)
  /-- CDR_LOCK_LOSS (R398): A lane's CDR loses lock and the lane returns to CDR. -/
  | cdrLockLoss (i : Fin 18)
  /-- BLOCK_LOCK (R395): 96 valid sync headers gain block lock and the lane enters CHECK. -/
  | blockLock (x : HeadersIn)
  /-- LANE_MARKER (R397): A lane marker received in CHECK decides polarity, order and skew. -/
  | laneMarker (i : Fin 18) (m : MarkerIn) (complemented : Bool) (arrival : Nat)
  /-- CHECK_TIMEOUT (R398): The 2 ms CHECK timer expires and the lane returns to HUNT. -/
  | checkTimeout (i : Fin 18)
  /-- FAIL_TIMEOUT (R398): After 100 ms in FAIL the lane returns to HUNT. -/
  | failTimeout (i : Fin 18)
  /-- LOCK_LOSS (R395): The 24th invalid header in a window loses block lock. -/
  | lockLoss (i : Fin 18) (headers : List (Fin 4))
  /-- FILLER_ADJUST (R391): The elastic store crosses its limits and a filler block is inserted or deleted. -/
  | fillerAdjust (i : Fin 18) (level : Fin 17)
  /-- LANE_WAKE_DONE (R401): A sleeping lane direction finishes waking. -/
  | laneWakeDone (i : Fin 18) (tx : Bool)
  /-- ROPE_FRAME_RX (R422): A rope frame is checked and delivered locally or forwarded by its route. -/
  | ropeFrameRx (n : Fin 8) (b : List Byte)
  /-- HAIL_TIMER (R410): Every 10 ms a rope port with link up sends a HAIL. -/
  | hailTimer (n : Fin 8)
  /-- HAIL_RX (R411): A received HAIL updates the adjacency and may trigger a reply, a resync or a collision check. -/
  | hailRx (n : Fin 8) (b : List Byte)
  /-- HAIL_TIMEOUT (R411): No HAIL for 30 ms takes the adjacency DOWN. -/
  | hailTimeout (n : Fin 8)
  /-- LSR_RX (R417): A received LSR is accepted and flooded when newer, or discarded. -/
  | lsrRx (n : Fin 8) (b : List Byte)
  /-- LSR_REFRESH (R417): Every 2 s a claimed module originates a new LSR. -/
  | lsrRefresh
  /-- LSR_AGE_OUT (R417): A held record reaches AGE 800 and is removed. -/
  | lsrAgeOut
  /-- NODE_CLAIM (R414): After SETTLE ms the module claims a node ID and originates its LSR. -/
  | nodeClaim
  /-- ROUTE_COMPUTE (R420): 1 ms after the last database change hardware recomputes primary and alternate routes. -/
  | routeCompute
  /-- REBIND (R425): ROP_CTL.REBIND makes a relay client seek a new server. -/
  | rebind
  /-- TWN_ENABLE_WRITE (R432): Setting TWN_CFG.EN makes the module standby; clearing it makes the role none. -/
  | twnEnableWrite (v : Word)
  /-- MIRROR_HELLO (R433): A received HELLO record updates pairing, ACK and mismatch state. -/
  | mirrorHello (seq : BitVec 32) (flags : BitVec 8) (b : List Byte)
  /-- MIRROR_HELLO_TIMER (R433): Every 1 ms each twin sends a HELLO record. -/
  | mirrorHelloTimer
  /-- MIRROR_THK_CHANGE (R436): A mirrored Thicket change is applied to the standby's pending set. -/
  | mirrorThkChange (seq : BitVec 32) (b : List Byte)
  /-- MIRROR_THK_COMMIT (R436): A mirrored commit is applied with the version it carries. -/
  | mirrorThkCommit (seq : BitVec 32) (b : List Byte)
  /-- MIRROR_HEDGE (R436): A mirrored Hedge write or clear is applied to the pending set. -/
  | mirrorHedge (seq : BitVec 32) (b : List Byte)
  /-- MIRROR_GCL (R437): A mirrored gate list commit or abort is applied with its start. -/
  | mirrorGcl (seq : BitVec 32) (b : List Byte)
  /-- MIRROR_TIME (R437): A mirrored INCR write or step is applied at the next tick. -/
  | mirrorTime (seq : BitVec 32) (b : List Byte)
  /-- MIRROR_KEY (R437): A mirrored key command is executed with FORCE = 1. -/
  | mirrorKey (seq : BitVec 32) (b : List Byte)
  /-- MIRROR_PN (R437): Mirrored PN counters are recorded as floors. -/
  | mirrorPn (seq : BitVec 32) (b : List Byte)
  /-- MIRROR_TRIB (R437): Mirrored E1 output frames and GPIO levels are kept for the hold. -/
  | mirrorTrib (seq : BitVec 32) (b : List Byte)
  /-- MIRROR_REG (R435): The mirrored registration record is taken by the standby. -/
  | mirrorReg (seq : BitVec 32) (b : List Byte)
  /-- BULK_BEGIN (R436): The standby empties its Thicket, Hedge and pending set for a bulk. -/
  | bulkBegin (seq : BitVec 32) (b : List Byte)
  /-- BULK_END (R436): The bulk ends, held ordinary records are applied and the mirror becomes SYNCED. -/
  | bulkEnd (seq : BitVec 32)
  /-- PN_ROUND (R435): Every 10 ms the active sends PN records of slots used. -/
  | pnRound
  /-- TRIB_RECORD_TIMER (R435): Every 125 µs the active sends the tributary record. -/
  | tribRecordTimer
  /-- MIRROR_TIMEOUT (R436): No record from the partner for 500 µs lapses or downs the mirror. -/
  | mirrorTimeout
  /-- TWN_RESYNC (R436): TWN_CTL.RESYNC requests a bulk. -/
  | twnResync (v : Word)
  /-- SYNC_COMMIT_TIMEOUT (R439): 10 ms without the standby's ACK completes a withheld commit and downs the mirror. -/
  | syncCommitTimeout
  /-- ARB_IN_VERDICT (R441): An ARB_IN level held for 100 µs is taken as a verdict. -/
  | arbInVerdict (level : Bool)
  /-- REFEREE_REPORT_TIMER (R443): Every 1 ms a twin sends a REPORT to its referee. -/
  | refereeReportTimer
  /-- REFEREE_REPORT_RX (R443): A referee receives a twin's REPORT. -/
  | refereeReportRx (b : List Byte)
  /-- REFEREE_TICK (R443): Every 1 ms the referee evaluates its pairs and sends verdicts. -/
  | refereeTick
  /-- REFEREE_VERDICT_RX (R441): A twin receives a referee VERDICT and accepts or ignores it. -/
  | refereeVerdictRx (b : List Byte)
  /-- GAP_START (R445): At the next downstream frame boundary after promotion the switchover gap begins. -/
  | gapStart
  /-- GAP_END (R445): The gap ends at the frame boundary after the first sent burst in SERVICE. -/
  | gapEnd
  /-- GAP_LIMIT_EXPIRY (R445): TWN_GAP_LIMIT expires and the gap ends. -/
  | gapLimitExpiry
  /-- TWIN_PEER_TIMER (R447): While the partner is in LISTEN or SERIAL the active queues a TWIN_PEER LMM every 1 s. -/
  | twinPeerTimer
  /-- SCRUB_READ (R457): The scrubber reads a protected word and corrects or logs it. -/
  | scrubRead (inst : Fin 2304) (addr : Fin 65536) (flips : BitVec 80) (last : Bool)
  /-- PITON_ADD (R461): A host write of MEM_PITON_ADD requests a piton. -/
  | pitonAdd (v : Word)
  /-- BIST_SLICE_START (R462): Every INTERVAL ms BIST starts isolating the next slice. -/
  | bistSliceStart
  /-- BIST_ISOLATED (R463): A slice's isolation condition holds and its test begins. -/
  | bistIsolated
  /-- BIST_ISOLATE_TIMEOUT (R463): Isolation exceeds ISOLATE_LIMIT and the slice is released untested. -/
  | bistIsolateTimeout
  /-- BIST_TEST_DONE (R464): The March test of a slice completes, failures are repaired and the slice is reinitialised and returned. -/
  | bistTestDone (fails : List FailBit) (spares : List SpareRef)
  /-- BIST_RUN (R466): MEM_BIST_RUN.GO runs full BIST in TEST. -/
  | bistRun (v : Word)
  /-- LOG_POP (R452): MEM_LOG_POP.GO moves the oldest error log entry into the log registers. -/
  | logPop
  /-- ACCESS_HOLD_EXPIRY (R473): An access hold ends PWR_LINGER µs after the last access. -/
  | accessHoldExpiry (dom : Fin 43)
  /-- DOMAIN_STOP (R474): A draining domain has no blocking work left and its logic stops. -/
  | domainStop (dom : Fin 43)
  /-- DOMAIN_RETAIN (R474): A stopping domain's power is switched and it enters retention. -/
  | domainRetain (dom : Fin 43)
  /-- DOMAIN_READY (R474): A waking domain becomes ready and stalled accesses proceed. -/
  | domainReady (dom : Fin 43)
  /-- HOST_READ_TIMEOUT (R476): A host read of a domain not ready within 1 ms completes with all ones. -/
  | hostReadTimeout
  /-- VOTE_HOST_WRITE (R483): A write of PWR_VOTE_HOST sets host votes, stored during BIVOUAC. -/
  | voteHostWrite (lo : Word)
  /-- ENTRY_COMMIT (R480): Every domain is in retention, SRAMs switch off, DRAM enters self-refresh and BIVOUAC is reached. -/
  | entryCommit
  /-- ENTRY_LIMIT_EXPIRY (R481): A domain still has blocking work at PWR_ENTRY_LIMIT and entry is refused and undone. -/
  | entryLimitExpiry
  /-- EXIT_DONE (R482): The voted domains are ready and the new mode after BIVOUAC is reached. -/
  | exitDone
  /-- ALL_ON_DONE (R484): Every domain is ready and M3 completes into TEST. -/
  | allOnDone
  /-- PLATFORM_HEARTBEAT_KICK (R94): The platform heartbeat in pitch 0 kicks the supervisor watchdog and restarts its 500 ms period. -/
  | platformHeartbeatKick
  /-- ADAPTATION_UPDATE (R105): One sign-sign LMS update of a line port's CTLE and DFE taps, which sets or clears ADAPTED after 10,000 updates. -/
  | adaptationUpdate (p : Port) (ctle : Int) (steps : List Int)
  /-- LANE_ADAPTATION_UPDATE (R400): One sign-sign LMS update of a lane's CTLE and 12 DFE taps, which sets or clears ADAPTED. -/
  | laneAdaptationUpdate (i : Fin 18) (ctle : Int) (steps : List Int)
  /-- LINE_PRBS_LOCK_CHANGE (R120): The line port's PRBS31 checker gains or loses lock on the received pattern, and errors count. -/
  | linePrbsLockChange (p : Port) (lock : Bool) (errors : Nat)
  /-- LANE_PRBS_LOCK_CHANGE (R404): A lane's PRBS checker locks after 64 matching bits or loses lock on 16 errors within 64 bits and reseeds. -/
  | lanePrbsLockChange (i : Fin 18) (received : List Bool) (last : Bool)
  /-- E1_LOS_OFF (R200): Pulses return on an E1 input, four or more in each of two 32-bit spans, and LOS clears. -/
  | e1LosOff (n : Fin 16)
  /-- SUPERVISOR_STOPPED (R98): After a bulk brown-out with mains absent, the bulk falls below 120 V and the supervisor stops, so the next start is a power-on reset. -/
  | supervisorStopped
deriving DecidableEq, Repr

end Sys2Proof
end

