-- ==== Sys2Proof/Machine/Crypto.lean ====
section
/-!
DEFINITION. Sys2Proof/Machine/Crypto.lean: the algorithms that the spec names by their standards: AES with 128- and 256-bit keys
(FIPS 197), AES-CMAC (RFC 4493; R73, R155, R179, R370), AES-GCM (R361, R363), key unwrap with padding (RFC 5649; R366), SHA-384
(R27, R35) and ECDSA over P-384 (R27, R30). Blocks are numbers whose first byte is most significant.
-/
namespace Sys2Proof.Machine

/-- The AES S-box, byte x at bits [8x + 7 : 8x] (FIPS 197). -/
def sboxes : Nat :=
  0xC072A49CAFA2D4ADF04759FA7DC982CA76ABD7FE2B670130C56F6BF27B777C63 |||
  0x75B227EBE28012079A059618C323C7041531D871F1E5A534CCF73F362693FDB7 <<< 256 |||
  0xCF584C4A39BECB6A5BB1FC20ED00D153842FE329B3D63B52A05A6E1B1A2C8309 <<< 512 |||
  0xD2F3FF1021DAB6BCF5389D928F40A351A89F3C507F02F94585334D43FBAAEFD0 <<< 768 |||
  0xDB0B5EDE14B8EE4688902A22DC4F816073195D643D7EA7C41744975FEC130CCD <<< 1024 |||
  0x08AE7A65EAF4566CA94ED58D6D37C8E779E4959162ACD3C25C2406490A3A32E0 <<< 1280 |||
  0x9E1DC186B95735610EF6034866B53E708A8BBD4B1F74DDE8C6B4A61C2E2578BA <<< 1536 |||
  0x16BB54B00F2D99416842E6BF0D89A18CDF2855CEE9871E9B948ED9691198F8E1 <<< 1792

/-- The inverse S-box. -/
def invSboxes : Nat :=
  0xCBE9DEC444438E3487FF2F9B8239E37CFBD7F3819EA340BF38A53630D56A0952 |||
  0x25D18B6D49A25B76B224D92866A12E084EC3FA420B954CEE3D23C2A632947B54 <<< 256 |||
  0x849D8DA75746155EDAB9EDFD5048706C92B6655DCC5CA4D41698688664F6F872 <<< 512 |||
  0x6B8A130103BDAFC1020F3FCA8F1E2CD00645B3B80558E4F70AD3BC8C00ABD890 <<< 768 |||
  0x6EDF751CE837F9E28535ADE72274AC9673E6B4F0CECFF297EADC674F4111913A <<< 1024 |||
  0xF45ACD78FEC0DB9A2079D2C64B3E56FC1BBE18AA0E62B76F89C5291D711AF147 <<< 1280 |||
  0xEF9CC9939F7AE52D0D4AB519A97F51605FEC8027591012B131C7078833A8DD1F <<< 1536 |||
  0x7D0C2155631469E126D677BA7E042B17619953833CBBEBC8B0F52AAE4D3BE0A0 <<< 1792

/-- Byte x of a packed table. -/
def tableByte (t x : Nat) : Nat := (t >>> (8 * x)) % 256

/-- Product by x in GF(2^8). -/
def gfDouble (b : Nat) : Nat := if b < 128 then 2 * b else (2 * b) ^^^ 0x11B

/-- Product in GF(2^8) by a constant of at most 4 bits. -/
def gfTimes (k b : Nat) : Nat :=
  let b2 := gfDouble b
  let b4 := gfDouble b2
  (if bit k 0 then b else 0) ^^^ (if bit k 1 then b2 else 0) ^^^ (if bit k 2 then b4 else 0) ^^^ (if bit k 3 then gfDouble b4 else 0)

/-- The 16 bytes of a block, and the block of a byte list. -/
def blockBytes (n : Nat) : List Nat := (List.range 16).map fun i => (n >>> (120 - 8 * i)) % 256
def bytesBlock (l : List Nat) : Nat := l.foldl (fun n b => 256 * n + b) 0

/-- ShiftRows by a step: byte i of the result is byte i + step × (i mod 4) of the block. -/
def shiftRows (step : Nat) (l : List Nat) : List Nat := (List.range 16).map fun i => l.getD ((i + step * (i % 4)) % 16) 0

/-- One column times the circulant matrix of first row k0 k1 k2 k3, column by column. -/
def mixColumns (k0 k1 k2 k3 : Nat) : List Nat → List Nat
  | a :: b :: c :: d :: r =>
    let row (w x y z : Nat) := gfTimes k0 w ^^^ gfTimes k1 x ^^^ gfTimes k2 y ^^^ gfTimes k3 z
    row a b c d :: row b c d a :: row c d a b :: row d a b c :: mixColumns k0 k1 k2 k3 r
  | _ => []

/-- SubWord, and RotWord, of a 32-bit word. -/
def subWord (w : Nat) : Nat := bytesBlock ((List.range 4).map fun i => tableByte sboxes ((w >>> (24 - 8 * i)) % 256))
def rotWord (w : Nat) : Nat := (w <<< 8) % 2 ^ 32 ||| w >>> 24

/-- Round constant i, from 1. -/
def roundConstant (i : Nat) : Nat := (List.replicate (i - 1) ()).foldl (fun c _ => gfDouble c) 1

/-- The words of the key schedule, newest first: n more words, nk words of key. -/
def keyWords (nk : Nat) : Nat → List Nat → List Nat
  | 0, ws => ws
  | n + 1, ws =>
    let i := ws.length
    let t := ws.headD 0
    let t' := if i % nk = 0 then subWord (rotWord t) ^^^ roundConstant (i / nk) <<< 24
      else if nk = 8 ∧ i % nk = 4 then subWord t else t
    keyWords nk n ((ws.getD (nk - 1) 0 ^^^ t') :: ws)

/-- Round keys of 4 words each, in order. -/
def roundKeys : List Nat → List Nat
  | a :: b :: c :: d :: r => (((a <<< 32 ||| b) <<< 32 ||| c) <<< 32 ||| d) :: roundKeys r
  | _ => []

/-- The key schedule: AES-128 for a key of 16 bytes, else AES-256. -/
def aesKeys (key : List Byte) : List Nat :=
  let nk := if key.length = 16 then 4 else 8
  roundKeys (keyWords nk (if nk = 4 then 40 else 52) ((List.range nk).map fun i => beAt key (4 * (nk - 1 - i)) 4)).reverse

/-- The middle and last rounds of the cipher, and of its inverse. -/
def aesRounds : List Nat → Nat → Nat
  | [], b => b
  | [k], b => bytesBlock (shiftRows 4 ((blockBytes b).map (tableByte sboxes))) ^^^ k
  | k :: ks, b => aesRounds ks (bytesBlock (mixColumns 2 3 1 1 (shiftRows 4 ((blockBytes b).map (tableByte sboxes)))) ^^^ k)
def aesInvRounds : List Nat → Nat → Nat
  | [], b => b
  | [k], b => bytesBlock ((shiftRows 12 (blockBytes b)).map (tableByte invSboxes)) ^^^ k
  | k :: ks, b => aesInvRounds ks (bytesBlock (mixColumns 14 11 13 9
      (blockBytes (bytesBlock ((shiftRows 12 (blockBytes b)).map (tableByte invSboxes)) ^^^ k))))

/-- The cipher under a key schedule, and its inverse. -/
def aesEncrypt (ks : List Nat) (b : Nat) : Nat := aesRounds ks.tail (b ^^^ ks.headD 0)
def aesDecrypt (ks : List Nat) (b : Nat) : Nat := aesInvRounds ks.reverse.tail (b ^^^ ks.reverse.headD 0)

/-- The whole blocks of a byte string, n at most, the last padded with zeros. -/
def blocksOf : Nat → List Byte → List Nat
  | 0, _ => []
  | n + 1, b => if b = [] then [] else beAt b 0 16 :: blocksOf n (b.drop 16)
def blocks (b : List Byte) : List Nat := blocksOf (b.length / 16 + 1) b

/-- Doubling in GF(2^128) for the CMAC subkeys. -/
def cmacDouble (n : Nat) : Nat := if n < 2 ^ 127 then 2 * n else (2 * n) % 2 ^ 128 ^^^ 0x87

/-- AES-CMAC of a message: 16 bytes. -/
def aesCmac (key m : List Byte) : List Byte :=
  let ks := aesKeys key
  let k1 := cmacDouble (aesEncrypt ks 0)
  let n := (m.length - 1) / 16 * 16
  let last := m.drop n
  let final := if last.length = 16 then beAt last 0 16 ^^^ k1 else beAt (last ++ [0x80]) 0 16 ^^^ cmacDouble k1
  be 16 (aesEncrypt ks ((blocks (m.take n)).foldl (fun x b => aesEncrypt ks (x ^^^ b)) 0 ^^^ final))

/-- Product in the field of GHASH, from bit i down. -/
def ghashTimes : Nat → Nat → Nat → Nat → Nat
  | 0, _, _, z => z
  | i + 1, x, v, z =>
    ghashTimes i x (if v % 2 = 1 then v / 2 ^^^ 0xE1 <<< 120 else v / 2) (if bit x i then z ^^^ v else z)

/-- GHASH of associated data and ciphertext under a hash key. -/
def ghash (h : Nat) (aad c : List Byte) : Nat :=
  (blocks aad ++ blocks c ++ [(8 * aad.length) <<< 64 ||| 8 * c.length]).foldl (fun y b => ghashTimes 128 (y ^^^ b) h 0) 0

/-- Counter mode of GCM from block number n. -/
def gcmCtr (ks : List Nat) (iv : Nat) : Nat → List Nat → List Nat
  | _, [] => []
  | n, b :: bs => (b ^^^ aesEncrypt ks (iv <<< 32 ||| n % 2 ^ 32)) :: gcmCtr ks iv (n + 1) bs
def gcmCrypt (ks : List Nat) (iv : Nat) (b : List Byte) : List Byte := ((gcmCtr ks iv 2 (blocks b)).flatMap (be 16)).take b.length

/-- The tag of GCM. -/
def gcmTag (ks : List Nat) (iv : Nat) (aad c : List Byte) : List Byte :=
  be 16 (ghash (aesEncrypt ks 0) aad c ^^^ aesEncrypt ks (iv <<< 32 ||| 1))

/-- AES-GCM with an IV of 12 bytes: ciphertext and tag (R361, R363). -/
def gcmSeal (key iv aad p : List Byte) : List Byte × List Byte :=
  let ks := aesKeys key
  let c := gcmCrypt ks (beAt iv 0 12) p
  (c, gcmTag ks (beAt iv 0 12) aad c)

/-- The plaintext of a ciphertext, where its tag is right. -/
def gcmOpen (key iv aad c tag : List Byte) : Option (List Byte) :=
  let ks := aesKeys key
  if gcmTag ks (beAt iv 0 12) aad c = tag then some (gcmCrypt ks (beAt iv 0 12) c) else none

/-- The unwrapping steps of RFC 3394 from t down to 1: the integrity register and the 8-byte registers, last first, in a ring. -/
def unwrapSteps (ks : List Nat) : Nat → Nat → List Nat → Nat × List Nat
  | 0, a, rs => (a, rs)
  | t + 1, a, rs =>
    let b := aesDecrypt ks ((a ^^^ (t + 1)) <<< 64 ||| rs.headD 0)
    unwrapSteps ks t (b >>> 64) (rs.tail ++ [b % 2 ^ 64])

/-- RFC 5649 unwrap with AES-256: none where the length, the integrity value or the padding is wrong (R366). -/
def keyUnwrap (kek blob : List Byte) : Option (List Byte) :=
  let ks := aesKeys (padTo 32 kek)
  let n := blob.length / 8 - 1
  if blob.length % 8 ≠ 0 ∨ n = 0 then none else
    let (a, p) :=
      if n = 1 then
        let b := aesDecrypt ks (beAt blob 0 16)
        (b >>> 64, be 8 (b % 2 ^ 64))
      else
        let r := unwrapSteps ks (6 * n) (beAt blob 0 8) ((List.range n).map fun i => beAt blob (8 * (n - i)) 8)
        (r.1, r.2.reverse.flatMap (be 8))
    let len := a % 2 ^ 32
    if a >>> 32 = 0xA65959A6 ∧ 8 * (n - 1) < len ∧ len ≤ 8 * n ∧ (p.drop len).all (· == 0) then some (p.take len) else none

def sha512K0 : List Nat :=
  [0x428A2F98D728AE22, 0x7137449123EF65CD, 0xB5C0FBCFEC4D3B2F, 0xE9B5DBA58189DBBC, 0x3956C25BF348B538,
   0x59F111F1B605D019, 0x923F82A4AF194F9B, 0xAB1C5ED5DA6D8118, 0xD807AA98A3030242, 0x12835B0145706FBE,
   0x243185BE4EE4B28C, 0x550C7DC3D5FFB4E2, 0x72BE5D74F27B896F, 0x80DEB1FE3B1696B1, 0x9BDC06A725C71235,
   0xC19BF174CF692694, 0xE49B69C19EF14AD2, 0xEFBE4786384F25E3, 0x0FC19DC68B8CD5B5, 0x240CA1CC77AC9C65]
def sha512K1 : List Nat :=
  [0x2DE92C6F592B0275, 0x4A7484AA6EA6E483, 0x5CB0A9DCBD41FBD4, 0x76F988DA831153B5, 0x983E5152EE66DFAB,
   0xA831C66D2DB43210, 0xB00327C898FB213F, 0xBF597FC7BEEF0EE4, 0xC6E00BF33DA88FC2, 0xD5A79147930AA725,
   0x06CA6351E003826F, 0x142929670A0E6E70, 0x27B70A8546D22FFC, 0x2E1B21385C26C926, 0x4D2C6DFC5AC42AED,
   0x53380D139D95B3DF, 0x650A73548BAF63DE, 0x766A0ABB3C77B2A8, 0x81C2C92E47EDAEE6, 0x92722C851482353B]
def sha512K2 : List Nat :=
  [0xA2BFE8A14CF10364, 0xA81A664BBC423001, 0xC24B8B70D0F89791, 0xC76C51A30654BE30, 0xD192E819D6EF5218,
   0xD69906245565A910, 0xF40E35855771202A, 0x106AA07032BBD1B8, 0x19A4C116B8D2D0C8, 0x1E376C085141AB53,
   0x2748774CDF8EEB99, 0x34B0BCB5E19B48A8, 0x391C0CB3C5C95A63, 0x4ED8AA4AE3418ACB, 0x5B9CCA4F7763E373,
   0x682E6FF3D6B2B8A3, 0x748F82EE5DEFB2FC, 0x78A5636F43172F60, 0x84C87814A1F0AB72, 0x8CC702081A6439EC]
def sha512K3 : List Nat :=
  [0x90BEFFFA23631E28, 0xA4506CEBDE82BDE9, 0xBEF9A3F7B2C67915, 0xC67178F2E372532B, 0xCA273ECEEA26619C,
   0xD186B8C721C0C207, 0xEADA7DD6CDE0EB1E, 0xF57D4F7FEE6ED178, 0x06F067AA72176FBA, 0x0A637DC5A2C898A6,
   0x113F9804BEF90DAE, 0x1B710B35131C471B, 0x28DB77F523047D84, 0x32CAAB7B40C72493, 0x3C9EBE0A15C9BEBC,
   0x431D67C49C100D4C, 0x4CC5D4BECB3E42B6, 0x597F299CFC657E2A, 0x5FCB6FAB3AD6FAEC, 0x6C44198C4A475817]

/-- The 80 round constants and the first hash value of SHA-384 (FIPS 180-4). -/
def sha512K : List Nat := sha512K0 ++ sha512K1 ++ sha512K2 ++ sha512K3
def sha384H : List Nat :=
  [0xCBBB9D5DC1059ED8, 0x629A292A367CD507, 0x9159015A3070DD17, 0x152FECD8F70E5939,
   0x67332667FFC00B31, 0x8EB44A8768581511, 0xDB0C2E0D64F98FA7, 0x47B5481DBEFA4FA4]

/-- Rotation of a 64-bit word to the right. -/
def rotr64 (n x : Nat) : Nat := x >>> n ||| (x <<< (64 - n)) % 2 ^ 64

/-- The message schedule, newest first. -/
def shaWords : Nat → List Nat → List Nat
  | 0, ws => ws
  | n + 1, ws =>
    let x := ws.getD 14 0
    let y := ws.getD 1 0
    shaWords n (((rotr64 1 x ^^^ rotr64 8 x ^^^ x >>> 7) + ws.getD 6 0 + (rotr64 19 y ^^^ rotr64 61 y ^^^ y >>> 6) + ws.getD 15 0) % 2 ^ 64 :: ws)

/-- One round on the eight working words. -/
def shaRound (st : List Nat) (kw : Nat) : List Nat :=
  match st with
  | [a, b, c, d, e, f, g, h] =>
    let t1 := h + (rotr64 14 e ^^^ rotr64 18 e ^^^ rotr64 41 e) + ((e &&& f) ^^^ ((2 ^ 64 - 1 - e) &&& g)) + kw
    let t2 := (rotr64 28 a ^^^ rotr64 34 a ^^^ rotr64 39 a) + ((a &&& b) ^^^ (a &&& c) ^^^ (b &&& c))
    [(t1 + t2) % 2 ^ 64, a, b, c, (d + t1) % 2 ^ 64, e, f, g]
  | _ => st

/-- One block of 128 bytes. -/
def shaBlock (h : List Nat) (b : List Byte) : List Nat :=
  let ws := (shaWords 64 ((List.range 16).map fun i => beAt b (8 * (15 - i)) 8)).reverse
  List.zipWith (fun x y => (x + y) % 2 ^ 64) h ((List.zipWith (· + ·) sha512K ws).foldl shaRound h)

/-- The blocks of a padded message, n of them. -/
def shaBlocks : Nat → List Byte → List Nat → List Nat
  | 0, _, h => h
  | n + 1, b, h => shaBlocks n (b.drop 128) (shaBlock h (b.take 128))

/-- SHA-384: 48 bytes (R27, R35). -/
def sha384 (m : List Byte) : List Byte :=
  let n := (m.length + 17 + 127) / 128
  ((shaBlocks n (m ++ [0x80] ++ List.replicate (128 * n - m.length - 17) 0 ++ be 16 (8 * m.length)) sha384H).take 6).flatMap (be 8)

/-- The prime, the order, the coefficient b and the base point of P-384 (FIPS 186). -/
def p384P : Nat := 2 ^ 384 - 2 ^ 128 - 2 ^ 96 + 2 ^ 32 - 1
def p384N : Nat := 0xFFFFFFFFFFFFFFFFFFFFFFFFFFFFFFFFFFFFFFFFFFFFFFFFC7634D81F4372DDF581A0DB248B0A77AECEC196ACCC52973
def p384B : Nat := 0xB3312FA7E23EE7E4988E056BE3F82D19181D9C6EFE8141120314088F5013875AC656398D8A2ED19D2A85C8EDD3EC2AEF
def p384G : Nat × Nat × Nat :=
  (0xAA87CA22BE8B05378EB1C71EF320AD746E1D3B628BA79B9859F741E082542A385502F25DBF55296C3A545E3872760AB7,
   0x3617DE4A96262C6F5D9E98BF9292DC29F8F41DBD289A147CE9DA3113B5F0B8C00A60B1CE1D7E819D7A431D7C90EA0E5F, 1)

/-- x − y modulo the prime. -/
def p384Sub (x y : Nat) : Nat := (x + p384P - y) % p384P

/-- Power modulo m by the low bits of an exponent, from bit i down. -/
def powMod (m b e : Nat) : Nat → Nat → Nat
  | 0, r => r
  | i + 1, r => powMod m b e i (if bit e i then r * r % m * b % m else r * r % m)

/-- Inverse modulo a prime of at most 384 bits. -/
def invMod (m x : Nat) : Nat := powMod m x (m - 2) 384 1

/-- Doubling and addition in Jacobian coordinates; Z = 0 is the point at infinity. -/
def p384Double : Nat × Nat × Nat → Nat × Nat × Nat
  | (x, y, z) =>
    let zz := z * z % p384P
    let yy := y * y % p384P
    let s := 4 * x * yy % p384P
    let m := 3 * p384Sub x zz * (x + zz) % p384P
    let x' := p384Sub (m * m % p384P) (2 * s % p384P)
    (x', p384Sub (m * p384Sub s x' % p384P) (8 * yy * yy % p384P), 2 * y * z % p384P)
def p384Add : Nat × Nat × Nat → Nat × Nat × Nat → Nat × Nat × Nat
  | (x1, y1, z1), (x2, y2, z2) =>
    if z1 = 0 then (x2, y2, z2) else if z2 = 0 then (x1, y1, z1) else
      let u1 := x1 * z2 * z2 % p384P
      let u2 := x2 * z1 * z1 % p384P
      let s1 := y1 * z2 * z2 * z2 % p384P
      let s2 := y2 * z1 * z1 * z1 % p384P
      if u1 = u2 then if s1 = s2 then p384Double (x1, y1, z1) else (1, 1, 0)
      else
        let h := p384Sub u2 u1
        let r := p384Sub s2 s1
        let hh := h * h % p384P
        let hhh := h * hh % p384P
        let v := u1 * hh % p384P
        let x' := p384Sub (r * r % p384P) ((hhh + 2 * v) % p384P)
        (x', p384Sub (r * p384Sub v x' % p384P) (s1 * hhh % p384P), z1 * z2 * h % p384P)

/-- u × P + v × Q, bit by bit from bit i down. -/
def p384Sum (u v : Nat) (P Q PQ : Nat × Nat × Nat) : Nat → Nat × Nat × Nat → Nat × Nat × Nat
  | 0, a => a
  | i + 1, a =>
    let d := p384Double a
    p384Sum u v P Q PQ i (match bit u i, bit v i with
      | false, false => d
      | true, false => p384Add d P
      | false, true => p384Add d Q
      | true, true => p384Add d PQ)

/-- ECDSA over P-384 with SHA-384: public key in the uncompressed form of SEC 1, message, r, s (R26, R27, R30). -/
def ecdsaVerify (pub m r s : List Byte) : Bool :=
  let x := beAt pub 1 48
  let y := beAt pub 49 48
  let r := ofBe r
  let s := ofBe s
  let w := invMod p384N s
  let Q := (x, y, 1)
  let (X, _, Z) := p384Sum (ofBe (sha384 m) * w % p384N) (r * w % p384N) p384G Q (p384Add p384G Q) 384 (1, 1, 0)
  let zi := invMod p384P Z
  pub.length == 97 && beAt pub 0 1 == 4 && decide (x < p384P) && decide (y < p384P) &&
    y * y % p384P == p384Sub ((x * x * x + p384B) % p384P) (3 * x % p384P) &&
    decide (0 < r) && decide (r < p384N) && decide (0 < s) && decide (s < p384N) &&
    Z != 0 && X * zi * zi % p384P % p384N == r

end Sys2Proof.Machine
end

