-- ==== Sys2Proof/Machine/Decl.lean ====
section
/-!
DEFINITION. Sys2Proof/Machine/Decl.lean: what the STRUCTURE, TABLE and KEYS sections of an image declare, as the chapters of
the owning pitches give it (02_kregar_image_and_pitches.md Table 2-1, R509). The byte layout of these sections is the Pelost
format, which the spec does not give: Config.structureOf and its neighbours read it.
-/
namespace Sys2Proof.Machine

/-- A selection entry of a parse unit (R215): class and three selectors, each value and mask, and a profile. -/
structure SelEntry where
  cls : Nat
  clsMask : Nat
  sel : List Nat
  selMask : List Nat
  profile : Nat
deriving DecidableEq, Repr, Inhabited

/-- An extraction: from the metadata block or the frame, offset and length (R216). -/
structure Extraction where
  fromMeta : Bool
  off : Nat
  len : Nat
deriving DecidableEq, Repr, Inhabited

/-- The right side of a check (R217): the frame length, another extraction, or 0. -/
inductive CheckB where
  | length | field (j : Nat) | zero
deriving DecidableEq, Repr, Inhabited

/-- The comparison of a check. -/
inductive CheckOp where
  | eq | le | ge
deriving DecidableEq, Repr, Inhabited

/-- A length-consistency check (R217). -/
structure Check where
  i : Nat
  mask : Nat
  mul : Nat
  add : Int
  op : CheckOp
  b : CheckB
deriving DecidableEq, Repr, Inhabited

/-- A parse profile: extractions F0–F15 in order, checks, and the key template it names. -/
structure Profile where
  number : Nat
  fields : List Extraction
  checks : List Check
  template : Nat
deriving DecidableEq, Repr, Inhabited

/-- A key piece: extraction, first byte within it, byte count (R220). -/
structure Piece where
  field : Nat
  first : Nat
  count : Nat
deriving DecidableEq, Repr, Inhabited

/-- The key pieces of a template; its other settings are the THK_TMPLn registers. -/
structure Template where
  number : Nat
  thicket : List Piece
  hedge : List Piece
deriving DecidableEq, Repr, Inhabited

/-- A preloaded Thicket entry (TABLE section of pitch 10). -/
structure TableEntry where
  template : Nat
  key : List Byte
  action : Nat
deriving DecidableEq, Repr, Inhabited

/-- A task the STRUCTURE of an engine pitch declares (R318). -/
structure TaskDecl where
  task : Nat
  /-- engine pitch: the pitch whose STRUCTURE declares it, or PITCH of the descriptor window -/
  pitchOf : Nat
  cmask : Nat
  prio : Nat
  preempt : Bool
  waitAll : Bool
  entry : Nat
  mask : Nat
  flags : Nat
  clear : Nat
  depInit : Nat
  /-- SUCC0 to SUCC3 with their valid bits -/
  succ : List (Bool × Nat)
  postLimit : Nat
deriving DecidableEq, Repr, Inhabited

/-- A key-encryption key that pitch 15 enables (R365): LABEL, kinds it may deliver (bit k: kind k), slot range. -/
structure KekDecl where
  index : Nat
  label : List Byte
  kinds : Nat
  first : Nat
  last : Nat
deriving DecidableEq, Repr, Inhabited

/-- A preloaded key (KEYS section): KEK, slot and wrapped blob. -/
structure KeyBlob where
  kek : Nat
  slot : Nat
  blob : List Byte
deriving DecidableEq, Repr, Inhabited

/-- The line source that pitch 13 names. -/
inductive LineSource where
  | line (p : Port) | relay | none
deriving DecidableEq, Repr, Inhabited

/-- What the STRUCTURE section of one pitch declares. -/
structure Decl where
  /-- an engine pitch is in use (R25) -/
  used : Bool
  /-- image values of the registers whose reset value is "image" -/
  regs : List (Nat × Word)
  /-- initial register settings, written when the pitch is enabled -/
  init : List (Nat × Word)
  selLine : List SelEntry
  selUser : List SelEntry
  profiles : List Profile
  templates : List Template
  /-- management queue of R74 (pitch 11) -/
  mgmtQueue : Nat
  /-- line ports enabled and the line source (pitch 13) -/
  lineA : Bool
  lineB : Bool
  source : LineSource
  /-- tributaries sent to the packet path (bit n), and those that carry no E1 circuit are 0 (pitch 13) -/
  packetTribs : Nat
  tasks : List TaskDecl
  keks : List KekDecl
deriving DecidableEq, Repr, Inhabited

end Sys2Proof.Machine
end

