-- ==== Sys2Proof/Config.lean ====
section
/-!
DEFINITION. Sys2Proof/Config.lean: what one module fixes (fuses, the Pelost image format, the map of its memories) and the
free values the spec leaves open. Every constant here is opaque: nothing can be proved of its value but what its type says or a
statement assumes.
-/
namespace Sys2Proof.Config
open Machine

/-- Fuse value of the register at a BAR0 address (reset "fuse value": serial, stepping, code, MAC address, epoch, keys). -/
opaque fuse : Nat → Word

/-- SHA-384 digest of the public key fused in a key slot (R30). -/
opaque fusedDigest : Nat → List Byte

/-- Root secret in fuses (R365). -/
opaque rootKey : List Byte

/-- What a STRUCTURE section of a pitch declares; none where its content is not of the Pelost format (R509). -/
opaque structureOf : Nat → List Byte → Option Decl

/-- The owning chapter's default structure of a pitch, which a STRUCTURE section of LENGTH 0 sets (R28); no chapter spells it out. -/
opaque defaultStructure : Nat → Decl

/-- The entries of a TABLE section (R509). -/
opaque tableOf : List Byte → Option (List TableEntry)

/-- The blobs of a KEYS section (R509). -/
opaque keysOf : List Byte → Option (List KeyBlob)

/-- FREE VALUE: whether the PCIe write of a ring entry meets an error, by the free-value counter (R64, HIF_ERR.D2H_WRITE). -/
opaque pcieWriteError : Nat → Bool

/-- FREE VALUE: one step of the laser bias in 0.01 mA (R114 gives no size). -/
opaque biasStep : Nat

/-- FREE VALUE: the direction in which the TIA gain code steps, by the free-value counter (05, Receiver: one step, no direction). -/
opaque tiaUp : Nat → Bool

/-- FREE VALUE: which LANE a marker says that is equally near the pattern of several, by its payload (R393). -/
opaque markerTie : Nat → Nat

/-- FREE VALUE: whether light outside a burst is still seen as a register write closes the rogue switch (R115). -/
opaque rogueLight : Nat → Bool

/-- FREE VALUE: which of two equal survivors the Viterbi decoder keeps (R176). -/
opaque viterbiTie : Nat → Bool

/-- FREE VALUE: from which of several best states it traces back, by their number (R176). -/
opaque viterbiBest : Nat → Nat

/-- FREE VALUE: the words of configuration space whose place or content Table 3-1 does not give, by register offset. -/
opaque cfgWord : Nat → Word

/-- FREE VALUE: how a PCIe link trains, by the free-value counter: one of three speeds at one of two widths (Table 3-1). -/
opaque linkTraining : Nat → Fin 6

/-- FREE VALUE: the uniform draw of a quiet-window answer, by the free-value counter (R168); taken modulo its range. -/
opaque quietDraw : Nat → Nat

/-- FREE VALUE: the first page tried for an allocation, by the free-value counter (R289: hardware chooses the address). -/
opaque pallocPage : Nat → Nat

/-- FREE VALUE: the way that pseudo-LRU replacement evicts, by the free-value counter (R223). -/
opaque cacheVictim : Nat → Nat

/-- FREE VALUE: the FLOW that the items of an upstream queue carry (R143; the spec names no source for it), by queue. -/
opaque upFlow : Nat → BitVec 16

/-- FREE VALUE: the content of a DMA beat whose destination reported an error late, by the free-value counter (R350). -/
opaque lateByte : Nat → BitVec 8

/-- FREE VALUE: what TWN_TIME_OFFSET takes from a HELLO stamp, by the free-value counter (R449: equal path delays are assumed,
and the spec gives neither the delay nor how it is measured). -/
opaque twinOffset : Nat → BitVec 32

/-- FREE VALUE: what a read of a measured register field returns, by register address and free-value counter (PLT_CORE_MV, PLT_TEMP,
the currents, TIA gain and eye heights of a line port; the data bits of a window word that cannot be corrected, R467). -/
opaque measured : Nat → Nat → BitVec 32

/-- FREE VALUE: a byte of host memory that the block fetches where the command that starts the fetch carries no data, by host address
and free-value counter (a register write that starts THK_BATCH or advances HIF_H2D_TAIL). -/
opaque hostByte : Nat → Nat → BitVec 8

/-- Factory delays in 2^-32 ns (R272, R275, R276, R278): the receive path of a line port, PPS_IN, and the receive and transmit
latencies of a port (E0 to E7 as 0 to 7, P0 to P7 as 8 to 15) in a mode of it. -/
opaque lineDelay : Nat → Nat
opaque ppsInDelay : Nat
opaque rxLatency : Nat → Nat → Nat
opaque txLatency : Nat → Nat → Nat

/-- The protected instances (21): how many words an instance has beyond its first (65,536 at most in all). -/
opaque instSize : Nat → Fin 65536
def instWords (i : Nat) : Nat := (instSize i).val + 1

/-- The slice that holds an instance (0xFFF AON), its power domain and its pitch. -/
opaque instSlice : Nat → Nat
opaque instDomain : Nat → Option (Fin 43)
opaque instPitch : Nat → Fin 16

/-- Whether an instance is restored from the section store (instruction RAM); domain, pitch and kind (BACKED) of a BIST slice that
is an SRAM group (Table 21-3). -/
opaque instImage : Nat → Bool
opaque sliceDomain : Nat → Option (Fin 43)
opaque slicePitch : Nat → Fin 16
opaque sliceBacked : Nat → Bool

/-- Which protected word (65,536 × instance + address) holds the 8 bytes from a byte address: of the instruction RAM of a
cluster; of its shared RAM or its page cache lines, by engine data address; of the local scratch of an engine. -/
opaque codeWord : Nat → Nat → Nat
opaque dataWord : Nat → Nat → Nat
opaque scratchWord : Nat → Nat → Nat

/-- Which protected words hold the front-buffer cells of a frame, by its queue and receive stamp, and which hold the cache line of a
Thicket bucket. -/
opaque cellWords : Nat → Tod → List Nat
opaque bucketWords : Nat → List Nat

end Sys2Proof.Config
end

