-- ==== Sys2Proof/Machine/Sparse.lean ====
section
/-!
DEFINITION. Sys2Proof/Machine/Sparse.lean: sparse tables in one canonical form, keys strictly rising and no entry equal
to what an unlisted key reads as. Registers, RAMs, staging, DRAM and the large tables of the device are such tables.
-/
namespace Sys2Proof.Machine

variable {α : Type}

/-- What key k holds: its entry, or the unlisted value d. -/
def sget (d : α) (k : Nat) : List (Nat × α) → α
  | [] => d
  | (j, v) :: t => if j = k then v else sget d k t

/-- Removes key k. -/
def serase (k : Nat) : List (Nat × α) → List (Nat × α)
  | [] => []
  | (j, v) :: t => if j = k then serase k t else (j, v) :: serase k t

/-- Inserts key k with value v before the first larger key, replacing an entry of the same key. -/
def sinsert (k : Nat) (v : α) : List (Nat × α) → List (Nat × α)
  | [] => [(k, v)]
  | (j, w) :: t => if k < j then (k, v) :: (j, w) :: t else if j = k then (k, v) :: t else (j, w) :: sinsert k v t

/-- Writes v at key k; writing the unlisted value d removes the entry. -/
def sset [DecidableEq α] (d : α) (k : Nat) (v : α) (m : List (Nat × α)) : List (Nat × α) :=
  if v = d then serase k m else sinsert k v m

/-- Whether every key of the table is above k and keys rise strictly, and no entry equals its unlisted value. -/
def swfFrom [DecidableEq α] (d : Nat → α) : Option Nat → List (Nat × α) → Bool
  | _, [] => true
  | lo, (j, v) :: t => (match lo with | none => true | some l => decide (l < j)) && decide (v ≠ d j) && swfFrom d (some j) t

/-- The canonical form: keys strictly rising, no entry equal to what its key reads as unlisted. -/
def swf [DecidableEq α] (d : Nat → α) (m : List (Nat × α)) : Bool := swfFrom d none m

/-- The keys in [lo, hi) set back to their unlisted value. -/
def sclear (lo hi : Nat) : List (Nat × α) → List (Nat × α)
  | [] => []
  | (j, v) :: t => if lo ≤ j ∧ j < hi then sclear lo hi t else (j, v) :: sclear lo hi t

/-- k consecutive bytes of a byte table from address a. -/
def sbytes (m : List (Nat × Byte)) (a : Nat) : Nat → List Byte
  | 0 => []
  | k + 1 => sget 0 a m :: sbytes m (a + 1) k

/-- Writes a byte string at address a of a byte table whose unlisted bytes read 0. -/
def swrite (a : Nat) : List Byte → List (Nat × Byte) → List (Nat × Byte)
  | [], m => m
  | b :: bs, m => swrite (a + 1) bs (sset 0 a b m)

/-- A byte string as a byte table from address a on (zero bytes unlisted). -/
def stable (a : Nat) : List Byte → List (Nat × Byte)
  | [] => []
  | b :: bs => if b = 0 then stable (a + 1) bs else (a, b) :: stable (a + 1) bs

end Sys2Proof.Machine
end

