-- ==== Sys2Proof/Machine/Regs.lean ====
section
/-!
DEFINITION. Sys2Proof/Machine/Regs.lean: the register descriptions of spec/02 to spec/23 as a table: BAR0 address, repetition,
reset scope (00_scope.md R9), the mark V (R11), reset value, access masks (Table 0-4), 64-bit pairs (R3), and the legal
encodings (R8); and the fields the model names, as ⟨address, low bit, width⟩ (bits as each register's table gives them).
-/
namespace Sys2Proof.Machine

/-- Reset scopes, narrowest first (R9). -/
inductive Scope where
  | pitch | soft | hard | por
deriving DecidableEq, Repr

/-- Part of a 64-bit pair (R3): none, the low word, or the high word, with the offset between the two. -/
inductive PairPart where
  | none | lo | hi
deriving DecidableEq, Repr

/-- One register description: address n1 × n2 times at strides s1 and s2, its scope and masks. -/
structure RegRow where
  addr : Nat
  s1 : Nat
  n1 : Nat
  s2 : Nat
  n2 : Nat
  scope : Scope
  vmark : Bool
  /-- reset value the spec states (0 for a value it calls measured or takes from the image) -/
  reset : Nat
  /-- bits whose reset value is a fuse value -/
  fuse : Nat
  rw : Nat
  w1c : Nat
  rc : Nat
  part : PairPart
  pairOff : Nat
  /-- fields with reserved or unlisted encodings: low bit, width, legal ranges (R8) -/
  legal : List (Nat × Nat × List (Nat × Nat))
deriving DecidableEq, Repr

/-- A register field. -/
structure Fld where
  reg : Nat
  lo : Nat
  w : Nat
deriving DecidableEq, Repr

/-- Registers of the PLT block. -/
def regsPlt : List RegRow := [
  ⟨0, 0, 1, 0, 1, .por, false, 0x5120, 0x1ff0000, 0, 0, 0, .none, 0, []⟩,  -- PLT_ID
  ⟨4, 0, 1, 0, 1, .por, false, 0, 0xffffffff, 0, 0, 0, .lo, 4, []⟩,  -- PLT_SERIAL_LO
  ⟨8, 0, 1, 0, 1, .por, false, 0, 0xffffffff, 0, 0, 0, .hi, 4, []⟩,  -- PLT_SERIAL_HI
  ⟨0xc, 0, 1, 0, 1, .soft, false, 0, 0, 0, 0, 0, .none, 0, []⟩,  -- PLT_RESET
  ⟨0x10, 0, 1, 0, 1, .por, false, 1, 0, 0, 0x7f, 0, .none, 0, []⟩,  -- PLT_RESET_CAUSE
  ⟨0x14, 0, 1, 0, 1, .hard, false, 0, 0, 0x3fff, 0, 0, .none, 0, [(0, 14, [(0, 0), (100, 10000)])]⟩,  -- PLT_WDOG_CFG
  ⟨0x18, 0, 1, 0, 1, .hard, false, 0, 0, 0, 0, 0, .none, 0, []⟩,  -- PLT_WDOG_KICK
  ⟨0x1c, 0, 1, 0, 1, .hard, false, 0, 0, 0, 0, 0xff0000, .none, 0, []⟩,  -- PLT_WDOG_STATUS
  ⟨0x20, 0, 1, 0, 1, .por, false, 0, 0, 0, 0, 0, .none, 0, []⟩,  -- PLT_SUPPLY
  ⟨0x24, 0, 1, 0, 1, .por, false, 0, 0, 0, 0, 0, .none, 0, []⟩,  -- PLT_CORE_MV
  ⟨0x28, 0, 1, 0, 1, .por, false, 0, 0, 0, 0, 0, .none, 0, []⟩,  -- PLT_TEMP
  ⟨0x2c, 0, 1, 0, 1, .soft, false, 0, 0, 0, 7, 0, .none, 0, []⟩,  -- PLT_IRQ
  ⟨0x30, 0, 1, 0, 1, .soft, false, 0, 0, 7, 0, 0, .none, 0, []⟩,  -- PLT_IRQ_EN
  ⟨0x40, 0, 1, 0, 1, .soft, false, 0, 0, 0xffff, 0, 0, .none, 0, []⟩,  -- PLT_GPIO_CTL
  ⟨0x44, 0, 1, 0, 1, .soft, false, 0, 0, 0, 0, 0, .none, 0, []⟩,  -- PLT_GPIO_IN
  ⟨0x48, 0, 1, 0, 1, .soft, false, 0, 0, 0xff, 0, 0, .none, 0, []⟩  -- PLT_LED
]

/-- Registers of the HIF block. -/
def regsHif : List RegRow := [
  ⟨0x100000, 0, 1, 0, 1, .soft, false, 0, 0, 0x3f, 0, 0, .none, 0, []⟩,  -- HIF_CTL
  ⟨0x100004, 0, 1, 0, 1, .soft, false, 0, 0, 0, 0, 0, .none, 0, []⟩,  -- HIF_STATUS
  ⟨0x100008, 0, 1, 0, 1, .soft, false, 0, 0, 0xffffffff, 0, 0, .lo, 4, []⟩,  -- HIF_H2D_BASE_LO
  ⟨0x10000c, 0, 1, 0, 1, .soft, false, 0, 0, 0xffffffff, 0, 0, .hi, 4, []⟩,  -- HIF_H2D_BASE_HI
  ⟨0x100028, 0, 1, 0, 1, .soft, false, 0, 0, 0xffffffff, 0, 0, .lo, 4, []⟩,  -- HIF_D2H_BASE_LO
  ⟨0x10002c, 0, 1, 0, 1, .soft, false, 0, 0, 0xffffffff, 0, 0, .hi, 4, []⟩,  -- HIF_D2H_BASE_HI
  ⟨0x10007c, 0, 1, 0, 1, .soft, false, 0, 0, 0xffffffff, 0, 0, .lo, 4, []⟩,  -- HIF_SNAP_BASE_LO
  ⟨0x100080, 0, 1, 0, 1, .soft, false, 0, 0, 0xffffffff, 0, 0, .hi, 4, []⟩,  -- HIF_SNAP_BASE_HI
  ⟨0x100010, 0, 1, 0, 1, .soft, false, 0xc, 0, 0xf, 0, 0, .none, 0, [(0, 4, [(4, 12)])]⟩,  -- HIF_H2D_SIZE
  ⟨0x100030, 0, 1, 0, 1, .soft, false, 0xc, 0, 0xf, 0, 0, .none, 0, [(0, 4, [(4, 12)])]⟩,  -- HIF_D2H_SIZE
  ⟨0x100014, 0, 1, 0, 1, .soft, false, 0, 0, 0xfff, 0, 0, .none, 0, []⟩,  -- HIF_H2D_TAIL
  ⟨0x100018, 0, 1, 0, 1, .soft, false, 0, 0, 0, 0, 0, .none, 0, []⟩,  -- HIF_H2D_HEAD
  ⟨0x100034, 0, 1, 0, 1, .soft, false, 0, 0, 0, 0, 0, .none, 0, []⟩,  -- HIF_D2H_TAIL
  ⟨0x100038, 0, 1, 0, 1, .soft, false, 0, 0, 0xfff, 0, 0, .none, 0, []⟩,  -- HIF_D2H_HEAD
  ⟨0x10001c, 0, 1, 0, 1, .soft, false, 0, 0, 0, 0, 0, .none, 0, []⟩,  -- HIF_H2D_LAST_SEQ
  ⟨0x100020, 0, 1, 0, 1, .soft, false, 0, 0, 0, 0, 0, .none, 0, []⟩,  -- HIF_H2D_LAST_SEQ_IB
  ⟨0x100024, 0, 1, 0, 1, .soft, false, 0, 0, 0, 0, 0, .none, 0, []⟩,  -- HIF_H2D_LAST_SEQ_RM
  ⟨0x10003c, 0, 1, 0, 1, .soft, false, 0, 0, 0, 0, 0, .none, 0, []⟩,  -- HIF_D2H_NEXT_SEQ
  ⟨0x100040, 0, 1, 0, 1, .soft, false, 0, 0, 0, 0, 0, .none, 0, []⟩,  -- HIF_JOURNAL_OLDEST
  ⟨0x100044, 0, 1, 0, 1, .soft, false, 0, 0, 0xffffff, 0, 0, .none, 0, []⟩,  -- HIF_D2H_COAL
  ⟨0x100048, 0, 1, 0, 1, .por, false, 0, 0, 0, 0, 0, .none, 0, []⟩,  -- HIF_BOOT_COUNT
  ⟨0x10004c, 0, 1, 0, 1, .soft, false, 0, 0, 0xfffff, 0, 0, .none, 0, []⟩,  -- HIF_IB_CFG
  ⟨0x100050, 0, 1, 0, 1, .por, false, 0, 0xffffffff, 0xffffffff, 0, 0, .lo, 4, []⟩,  -- HIF_IB_MAC_LO
  ⟨0x100054, 0, 1, 0, 1, .por, false, 0, 0xffff, 0xffff, 0, 0, .hi, 4, []⟩,  -- HIF_IB_MAC_HI
  ⟨0x100058, 0, 1, 0, 1, .soft, false, 0, 0, 0, 0, 0, .lo, 4, []⟩,  -- HIF_IB_PEER_LO
  ⟨0x10005c, 0, 1, 0, 1, .soft, false, 0, 0, 0, 0, 0, .hi, 4, []⟩,  -- HIF_IB_PEER_HI
  ⟨0x100060, 0, 1, 0, 1, .soft, false, 0, 0, 0, 0x7f, 0, .none, 0, []⟩,  -- HIF_ERR
  ⟨0x100064, 0, 1, 0, 1, .soft, false, 0, 0, 0x7f, 0, 0, .none, 0, []⟩,  -- HIF_ERR_EN
  ⟨0x100068, 0, 1, 0, 1, .soft, false, 0, 0, 0, 0, 0xffffffff, .none, 0, []⟩,  -- HIF_IB_AUTH_FAIL
  ⟨0x10006c, 0, 1, 0, 1, .soft, false, 0, 0, 0, 0, 0xffffffff, .none, 0, []⟩,  -- HIF_SKIP_RING
  ⟨0x100070, 0, 1, 0, 1, .soft, false, 0, 0, 0, 0, 0xffffffff, .none, 0, []⟩,  -- HIF_SKIP_PATHS
  ⟨0x100074, 0, 1, 0, 1, .soft, false, 0, 0, 0, 0, 0xffffffff, .none, 0, []⟩,  -- HIF_RM_DROPPED
  ⟨0x100078, 0, 1, 0, 1, .soft, false, 0, 0, 0xfff, 0, 0, .none, 0, []⟩  -- HIF_MGMT_KEY
]

/-- Registers of the IMG block. -/
def regsImg : List RegRow := [
  ⟨0x200000, 0, 1, 0, 1, .soft, false, 0, 0, 0, 0, 0, .none, 0, []⟩,  -- IMG_CMD
  ⟨0x200004, 0, 1, 0, 1, .soft, false, 0, 0, 0, 0, 0, .none, 0, []⟩,  -- IMG_STATUS
  ⟨0x200008, 0, 1, 0, 1, .soft, false, 0, 0, 0xffffffff, 0, 0, .lo, 4, []⟩,  -- IMG_SRC_LO
  ⟨0x20000c, 0, 1, 0, 1, .soft, false, 0, 0, 0xffffffff, 0, 0, .hi, 4, []⟩,  -- IMG_SRC_HI
  ⟨0x200010, 0, 1, 0, 1, .soft, false, 0, 0, 0xffffffff, 0, 0, .none, 0, []⟩,  -- IMG_LEN
  ⟨0x200014, 0, 1, 0, 1, .soft, false, 0x2710, 0, 0xffffff, 0, 0, .none, 0, []⟩,  -- IMG_DRAIN_LIMIT
  ⟨0x200018, 0, 1, 0, 1, .soft, false, 0x4000, 0, 0x1ffff, 0, 0, .none, 0, [(0, 17, [(0, 65536)])]⟩,  -- IMG_HOLD_CELLS
  ⟨0x20001c, 0, 1, 0, 1, .soft, false, 0, 0, 0, 0, 0, .none, 0, []⟩,  -- IMG_ACTIVE_SERIAL
  ⟨0x200020, 0, 1, 0, 1, .soft, false, 0, 0, 0, 0, 0, .none, 0, []⟩,  -- IMG_PITCH_STATE
  ⟨0x200024, 0, 1, 0, 1, .por, false, 0, 0x7fffff, 0, 0, 0, .none, 0, []⟩,  -- IMG_EPOCH
  ⟨0x200028, 0, 1, 0, 1, .soft, false, 0, 0, 0, 0, 0, .none, 0, []⟩,  -- IMG_RUN_EPOCH
  ⟨0x20002c, 0, 1, 0, 1, .por, false, 0, 0xff, 0, 0, 0, .none, 0, []⟩,  -- IMG_KEYS
  ⟨0x200040, 4, 16, 0, 1, .soft, false, 0, 0, 0, 0, 0, .none, 0, []⟩,  -- IMG_PITCH_STAMP
  ⟨0x200080, 0, 1, 0, 1, .soft, false, 0, 0, 0, 0, 0xffffffff, .none, 0, []⟩,  -- IMG_DRAIN_DROPS
  ⟨0x200084, 0, 1, 0, 1, .soft, false, 0, 0, 0, 0, 0xffffffff, .none, 0, []⟩,  -- IMG_FORCED_DROPS
  ⟨0x200088, 0, 1, 0, 1, .soft, false, 0, 0, 0, 0, 0xffffffff, .none, 0, []⟩,  -- IMG_TASKS_DISCARDED
  ⟨0x20008c, 0, 1, 0, 1, .soft, false, 0, 0, 0, 0, 0, .none, 0, []⟩,  -- IMG_LAST_DURATION
  ⟨0x200090, 0, 1, 0, 1, .soft, false, 0, 0, 0, 7, 0, .none, 0, []⟩,  -- IMG_IRQ
  ⟨0x200094, 0, 1, 0, 1, .soft, false, 0, 0, 7, 0, 0, .none, 0, []⟩  -- IMG_IRQ_EN
]

/-- Registers of the MOD block. -/
def regsMod : List RegRow := [
  ⟨0x300000, 0, 1, 0, 1, .soft, false, 0, 0, 0, 0, 0, .none, 0, []⟩,  -- MOD_STATUS
  ⟨0x300004, 0, 1, 0, 1, .soft, false, 0, 0, 0, 0, 0, .none, 0, []⟩,  -- MOD_REQ
  ⟨0x300008, 0, 1, 0, 1, .soft, false, 0, 0, 0, 0, 0, .none, 0, []⟩,  -- MOD_REQ_RESULT
  ⟨0x30000c, 0, 1, 0, 1, .soft, false, 0x7d0, 0, 0xffff, 0, 0, .none, 0, []⟩,  -- MOD_ACQ_LIMIT
  ⟨0x300010, 0, 1, 0, 1, .soft, false, 3, 0, 0x3ffff, 0, 0, .none, 0, []⟩,  -- MOD_WAKE_EN
  ⟨0x300014, 0, 1, 0, 1, .soft, false, 0, 0, 0, 0x3ff, 0, .none, 0, []⟩,  -- MOD_WAKE_CAUSE
  ⟨0x300018, 0, 1, 0, 1, .soft, false, 0x258, 0, 0xffff, 0, 0, .none, 0, []⟩,  -- MOD_PACE_TARGET
  ⟨0x30001c, 0, 1, 0, 1, .soft, false, 0x2ee0000, 0, 0, 0, 0, .none, 0, []⟩,  -- MOD_PACE_STATUS
  ⟨0x300020, 0, 1, 0, 1, .soft, false, 0, 0, 0, 0, 0, .none, 0, []⟩,  -- MOD_MODE_TIME
  ⟨0x300024, 0, 1, 0, 1, .soft, false, 0, 0, 0, 0, 0xffffffff, .none, 0, []⟩,  -- MOD_TRANSITIONS
  ⟨0x300028, 0, 1, 0, 1, .soft, false, 0, 0, 0, 0xf, 0, .none, 0, []⟩,  -- MOD_IRQ
  ⟨0x30002c, 0, 1, 0, 1, .soft, false, 0, 0, 0xf, 0, 0, .none, 0, []⟩  -- MOD_IRQ_EN
]

/-- Registers of the LFE block. -/
def regsLfe : List RegRow := [
  ⟨0x400000, 0, 1, 0, 1, .soft, false, 0x320000, 0, 0xfff0007, 0, 0, .none, 0, [(0, 2, [(0, 1)])]⟩,  -- LFE_SEL
  ⟨0x400004, 0, 1, 0, 1, .soft, false, 3, 0, 0, 0, 0, .none, 0, []⟩,  -- LFE_STATUS
  ⟨0x400008, 0, 1, 0, 1, .soft, false, 0, 0, 0, 0, 0xffffffff, .none, 0, []⟩,  -- LFE_SWITCHES
  ⟨0x40000c, 0, 1, 0, 1, .soft, false, 0, 0, 0, 0x7f7f03, 0, .none, 0, []⟩,  -- LFE_IRQ
  ⟨0x400010, 0, 1, 0, 1, .soft, false, 0, 0, 0x7f7f03, 0, 0, .none, 0, []⟩,  -- LFE_IRQ_EN
  ⟨0x400100, 0x100, 2, 0, 1, .soft, false, 4, 0, 7, 0, 0, .none, 0, []⟩,  -- LFE_x_CTL
  ⟨0x400104, 0x100, 2, 0, 1, .soft, false, 0x10, 0, 0, 0, 0, .none, 0, []⟩,  -- LFE_x_STATUS
  ⟨0x400108, 0x100, 2, 0, 1, .soft, false, 0, 0, 0, 0, 0, .none, 0, []⟩,  -- LFE_x_RX_POWER
  ⟨0x40010c, 0x100, 2, 0, 1, .soft, false, 0x8000003c, 0, 0xffff, 0, 0, .none, 0, [(0, 16, [(40, 80)])]⟩,  -- LFE_x_TX_POWER
  ⟨0x400110, 0x100, 2, 0, 1, .soft, true, 0, 0, 0, 0, 0, .none, 0, []⟩,  -- LFE_x_LASER
  ⟨0x400114, 0x100, 2, 0, 1, .soft, false, 0, 0, 0, 0, 0, .none, 0, []⟩,  -- LFE_x_TEC
  ⟨0x400118, 0x100, 2, 0, 1, .soft, false, 0xafed4, 0, 0xffffff, 0, 0, .none, 0, [(0, 16, [(65136, 65336)])]⟩,  -- LFE_x_LOS_CFG
  ⟨0x40011c, 0x100, 2, 0, 1, .soft, true, 0, 0, 0, 0, 0, .none, 0, []⟩,  -- LFE_x_EQ
  ⟨0x400120, 0x100, 2, 0, 1, .soft, true, 0, 0, 0, 0, 0, .none, 0, []⟩,  -- LFE_x_DFE
  ⟨0x400124, 0x100, 2, 0, 1, .soft, true, 0, 0, 0, 0, 0, .none, 0, []⟩,  -- LFE_x_EYE
  ⟨0x400128, 0x100, 2, 0, 1, .soft, false, 0, 0, 0, 0, 0xffffffff, .none, 0, []⟩,  -- LFE_x_COUNTS
  ⟨0x40012c, 0x100, 2, 0, 1, .soft, false, 0, 0, 0, 0, 0xffffffff, .none, 0, []⟩,  -- LFE_x_TX_COUNTS
  ⟨0x400130, 0x100, 2, 0, 1, .soft, false, 0, 0, 3, 0, 0, .none, 0, []⟩,  -- LFE_x_TEST
  ⟨0x400134, 0x100, 2, 0, 1, .soft, false, 0, 0, 0, 0, 0xffffffff, .none, 0, []⟩  -- LFE_x_PRBS_ERR
]

/-- Registers of the LFR block. -/
def regsLfr : List RegRow := [
  ⟨0x500000, 0, 1, 0, 1, .soft, false, 0xc04, 0, 0xf07, 0, 0, .none, 0, [(8, 4, [(1, 15)])]⟩,  -- LFR_CFG
  ⟨0x500004, 0, 1, 0, 1, .soft, false, 0x835, 0, 0xffffff, 0, 0, .none, 0, []⟩,  -- LFR_DS_CFG
  ⟨0x500008, 0, 1, 0, 1, .soft, false, 0, 0, 0, 0, 0, .none, 0, []⟩,  -- LFR_US_STATUS
  ⟨0x50000c, 0, 1, 0, 1, .soft, false, 0, 0, 0, 0, 0xffffffff, .none, 0, []⟩,  -- LFR_US_COUNTS
  ⟨0x500010, 0, 1, 0, 1, .soft, false, 0, 0, 0, 0, 0xffffffff, .none, 0, []⟩,  -- LFR_BURSTS
  ⟨0x500014, 0, 1, 0, 1, .soft, false, 0, 0, 0, 0xffff, 0, .none, 0, []⟩,  -- LFR_IRQ
  ⟨0x500018, 0, 1, 0, 1, .soft, false, 0, 0, 0xffff, 0, 0, .none, 0, []⟩,  -- LFR_IRQ_EN
  ⟨0x501000, 4, 2048, 0, 1, .soft, false, 0, 0, 0xffffffff, 0, 0, .none, 0, []⟩,  -- LFR_FLOW_MAP
  ⟨0x500100, 0x100, 2, 0, 1, .soft, true, 0, 0, 0, 0, 0, .none, 0, []⟩,  -- LFR_x_STATUS
  ⟨0x500104, 0x100, 2, 0, 1, .soft, true, 0, 0, 0, 0, 0, .lo, 4, []⟩,  -- LFR_x_SF_LO
  ⟨0x500108, 0x100, 2, 0, 1, .soft, true, 0, 0, 0, 0, 0, .hi, 4, []⟩,  -- LFR_x_SF_HI
  ⟨0x50010c, 0x100, 2, 0, 1, .soft, false, 0, 0, 0, 0, 0, .none, 0, []⟩,  -- LFR_x_WIN_CORR
  ⟨0x500110, 0x100, 2, 0, 1, .soft, false, 0, 0, 0, 0, 0, .none, 0, []⟩,  -- LFR_x_WIN_UNC
  ⟨0x500114, 0x100, 2, 0, 1, .soft, false, 0, 0, 0, 0, 0xffffffff, .none, 0, []⟩,  -- LFR_x_UNC_TOTAL
  ⟨0x500118, 0x100, 2, 0, 1, .soft, false, 0, 0, 0, 0, 0xffffffff, .none, 0, []⟩,  -- LFR_x_ALIGN_COUNTS
  ⟨0x50011c, 0x100, 2, 0, 1, .soft, false, 0, 0, 0, 0, 0xffffffff, .none, 0, []⟩,  -- LFR_x_HEAD_COUNTS
  ⟨0x500120, 0x100, 2, 0, 1, .soft, false, 0, 0, 0, 0, 0xffffffff, .none, 0, []⟩,  -- LFR_x_MF_COUNTS
  ⟨0x500124, 0x100, 2, 0, 1, .soft, false, 0, 0, 0, 0, 0xffffffff, .none, 0, []⟩  -- LFR_x_ENCAP_COUNTS
]

/-- Registers of the ACT block. -/
def regsAct : List RegRow := [
  ⟨0x600000, 0, 1, 0, 1, .soft, false, 0x3ff0, 0, 0, 0, 0, .none, 0, []⟩,  -- ACT_STATUS
  ⟨0x600004, 0, 1, 0, 1, .soft, false, 1, 0, 1, 0, 0, .none, 0, []⟩,  -- ACT_CTL
  ⟨0x600008, 0, 1, 0, 1, .soft, false, 0, 0, 0xfff, 0, 0, .none, 0, []⟩,  -- ACT_LMM_KEY
  ⟨0x60000c, 0, 1, 0, 1, .soft, false, 0, 0, 0, 0, 0, .none, 0, []⟩,  -- ACT_EQD
  ⟨0x600010, 0, 1, 0, 1, .soft, false, 0, 0, 0, 0, 0, .none, 0, []⟩,  -- ACT_EQD_PEND
  ⟨0x600014, 0, 1, 0, 1, .soft, false, 0, 0, 0, 0, 0, .lo, 4, []⟩,  -- ACT_EFFECT_SF_LO
  ⟨0x600018, 0, 1, 0, 1, .soft, false, 0, 0, 0, 0, 0, .hi, 4, []⟩,  -- ACT_EFFECT_SF_HI
  ⟨0x60001c, 0, 1, 0, 1, .soft, false, 0, 0, 0, 0, 0, .none, 0, []⟩,  -- ACT_PRE_EQD
  ⟨0x600020, 0, 1, 0, 1, .soft, false, 0, 0, 0, 0, 0, .none, 0, []⟩,  -- ACT_RAND
  ⟨0x600024, 0, 1, 0, 1, .soft, false, 0, 0, 0, 0, 0, .none, 0, []⟩,  -- ACT_TREE
  ⟨0x600028, 0, 1, 0, 1, .soft, false, 0xffff, 0, 0, 0, 0, .none, 0, []⟩,  -- ACT_TDM_BASE
  ⟨0x60002c, 0, 1, 0, 1, .soft, false, 0x1403e8, 0, 0xffffffff, 0, 0, .none, 0, []⟩,  -- ACT_TIMERS
  ⟨0x600030, 0, 1, 0, 1, .soft, false, 0, 0, 0, 0, 0, .none, 0, []⟩,  -- ACT_GRANT_COUNT
  ⟨0x600040, 4, 32, 0, 1, .soft, false, 0, 0, 0, 0, 0, .none, 0, []⟩,  -- ACT_GRANT_ID
  ⟨0x6000c0, 0, 1, 0, 1, .soft, false, 0, 0, 0, 0, 0xffffffff, .none, 0, []⟩,  -- ACT_LMM_RX
  ⟨0x6000c4, 0, 1, 0, 1, .soft, false, 0, 0, 0, 0, 0xffffffff, .none, 0, []⟩,  -- ACT_LMM_ERR
  ⟨0x6000c8, 0, 1, 0, 1, .soft, false, 0, 0, 0, 0, 0xffffffff, .none, 0, []⟩,  -- ACT_LMM_TX
  ⟨0x6000cc, 0, 1, 0, 1, .soft, false, 0, 0, 0, 0, 0xffffffff, .none, 0, []⟩,  -- ACT_LMM_DROP
  ⟨0x6000d0, 0, 1, 0, 1, .soft, false, 0, 0, 0, 0, 0xffffffff, .none, 0, []⟩,  -- ACT_ACT_COUNTS
  ⟨0x6000d4, 0, 1, 0, 1, .soft, false, 0, 0, 0, 0, 0xffffffff, .none, 0, []⟩,  -- ACT_RESUME_COUNTS
  ⟨0x6000d8, 0, 1, 0, 1, .soft, false, 0, 0, 0, 0, 0xffffffff, .none, 0, []⟩,  -- ACT_EQD_COUNTS
  ⟨0x6000dc, 0, 1, 0, 1, .soft, false, 0, 0, 0, 0x3f, 0, .none, 0, []⟩,  -- ACT_IRQ
  ⟨0x6000e0, 0, 1, 0, 1, .soft, false, 0, 0, 0x3f, 0, 0, .none, 0, []⟩,  -- ACT_IRQ_EN
  ⟨0x6000e4, 0, 1, 0, 1, .soft, false, 0, 0, 0, 0, 0, .none, 0, []⟩  -- ACT_DEREG
]

/-- Registers of the BEL block. -/
def regsBel : List RegRow := [
  ⟨0x700000, 0, 1, 0, 1, .soft, false, 3, 0, 3, 0, 0, .none, 0, []⟩,  -- BEL_CTL
  ⟨0x700004, 0, 1, 0, 1, .soft, false, 0x31018, 0, 0x73f3f, 0, 0, .none, 0, [(0, 6, [(12, 48)]), (8, 6, [(8, 40)])]⟩,  -- BEL_CFG
  ⟨0x700008, 0, 1, 0, 1, .soft, false, 0x3e8, 0, 0xffff, 0, 0, .none, 0, []⟩,  -- BEL_BEACON_LOSS
  ⟨0x70000c, 0, 1, 0, 1, .soft, false, 0, 0, 0, 0, 0, .none, 0, []⟩,  -- BEL_TX_STATUS
  ⟨0x700010, 0, 1, 0, 1, .soft, false, 0, 0, 0, 0, 0xffffffff, .none, 0, []⟩,  -- BEL_TX_COUNTS
  ⟨0x700014, 0, 1, 0, 1, .soft, false, 0, 0, 0, 0x13f3f, 0, .none, 0, []⟩,  -- BEL_IRQ
  ⟨0x700018, 0, 1, 0, 1, .soft, false, 0, 0, 0x13f3f, 0, 0, .none, 0, []⟩,  -- BEL_IRQ_EN
  ⟨0x700100, 0x100, 2, 0, 1, .soft, false, 0, 0, 0x7ff, 0, 0, .none, 0, [(0, 11, [(0, 1024)])]⟩,  -- BEL_x_DS_CODE
  ⟨0x700104, 0x100, 2, 0, 1, .soft, false, 0, 0, 0, 0, 0, .none, 0, []⟩,  -- BEL_x_STATUS
  ⟨0x700108, 0x100, 2, 0, 1, .soft, false, 0, 0, 0, 0, 0, .none, 0, []⟩,  -- BEL_x_STRENGTH
  ⟨0x70010c, 0x100, 2, 0, 1, .soft, false, 0, 0, 0, 0, 0xffffffff, .none, 0, []⟩,  -- BEL_x_RX_COUNTS
  ⟨0x700110, 0x100, 2, 0, 1, .soft, false, 0, 0, 0, 0, 0xffffffff, .none, 0, []⟩,  -- BEL_x_ACQ_COUNTS
  ⟨0x700114, 0x100, 2, 0, 1, .soft, false, 0, 0, 0, 0, 0xffffffff, .none, 0, []⟩,  -- BEL_x_AUTH_COUNTS
  ⟨0x700118, 0x100, 2, 0, 1, .soft, false, 0, 0, 0, 0, 0, .none, 0, []⟩,  -- BEL_x_BEACON
  ⟨0x70011c, 0x100, 2, 0, 1, .soft, false, 0xffff, 0, 0, 0, 0, .none, 0, []⟩,  -- BEL_x_BEACON_AGE
  ⟨0x700120, 0x100, 2, 0, 1, .soft, false, 0, 0, 0, 0, 0xffffffff, .none, 0, []⟩  -- BEL_x_TYPE_COUNTS
]

/-- Registers of the TRB block. -/
def regsTrb : List RegRow := [
  ⟨0x800000, 0, 1, 0, 1, .soft, false, 0, 0, 0xffff, 0, 0, .none, 0, []⟩,  -- TRB_ENABLE
  ⟨0x800004, 0, 1, 0, 1, .soft, false, 0x32, 0, 0xffff, 0, 0, .none, 0, []⟩,  -- TRB_HOLD_LIMIT
  ⟨0x800008, 0, 1, 0, 1, .soft, false, 0xa, 0, 0x3ff, 0, 0, .none, 0, [(0, 10, [(0, 1000)])]⟩,  -- TRB_DS_CFG
  ⟨0x80000c, 0, 1, 0, 1, .soft, false, 0, 0, 0, 0, 0, .none, 0, []⟩,  -- TRB_IRQ
  ⟨0x800010, 0, 1, 0, 1, .soft, false, 0, 0, 0x7f, 0, 0, .none, 0, []⟩,  -- TRB_IRQ_EN
  ⟨0x800014, 0, 1, 0, 1, .soft, false, 0, 0, 0, 0, 0, .none, 0, []⟩,  -- TRB_STATE
  ⟨0x800018, 0, 1, 0, 1, .soft, false, 0, 0, 0, 0, 0xffffffff, .none, 0, []⟩,  -- TRB_US_COUNTS
  ⟨0x800100, 0x40, 16, 0, 1, .soft, false, 0x106, 0, 0x7ff, 0, 0, .none, 0, [(0, 2, [(0, 2)]), (4, 5, [(0, 16)]), (9, 2, [(0, 2)])]⟩,  -- TRB_n_CFG
  ⟨0x800104, 0x40, 16, 0, 1, .soft, true, 0, 0, 0, 0, 0, .none, 0, []⟩,  -- TRB_n_STATUS
  ⟨0x800108, 0x40, 16, 0, 1, .soft, false, 0, 0, 0, 0x7f, 0, .none, 0, []⟩,  -- TRB_n_EVENTS
  ⟨0x80010c, 0x40, 16, 0, 1, .soft, false, 0, 0, 0, 0, 0xffffffff, .none, 0, []⟩,  -- TRB_n_SLIPS
  ⟨0x800110, 0x40, 16, 0, 1, .soft, false, 0, 0, 0, 0, 0xffffffff, .none, 0, []⟩,  -- TRB_n_CRC
  ⟨0x800114, 0x40, 16, 0, 1, .soft, false, 0, 0, 0, 0, 0, .none, 0, []⟩,  -- TRB_n_WIN
  ⟨0x800118, 0x40, 16, 0, 1, .soft, false, 0, 0, 0, 0, 0xffffffff, .none, 0, []⟩  -- TRB_n_DS_FRAMES
]

/-- Registers of the PRS block. -/
def regsPrs : List RegRow := [
  ⟨0x900000, 0, 1, 0, 1, .pitch, false, 0, 0, 0, 0, 0, .none, 0, []⟩,  -- PRS_STATUS
  ⟨0x900004, 0, 1, 0, 1, .pitch, false, 0, 0, 0, 0, 0xffffffff, .none, 0, []⟩,  -- PRS_FRAMES_LINE
  ⟨0x900008, 0, 1, 0, 1, .pitch, false, 0, 0, 0, 0, 0xffffffff, .none, 0, []⟩,  -- PRS_FRAMES_USER
  ⟨0x90000c, 0, 1, 0, 1, .pitch, false, 0, 0, 0, 0, 0xffffffff, .none, 0, []⟩,  -- PRS_RECIRC
  ⟨0x900010, 0, 1, 0, 1, .pitch, false, 0, 0, 0, 7, 0, .none, 0, []⟩,  -- PRS_IRQ
  ⟨0x900014, 0, 1, 0, 1, .pitch, false, 0, 0, 7, 0, 0, .none, 0, []⟩,  -- PRS_IRQ_EN
  ⟨0x900020, 4, 6, 0, 1, .pitch, false, 0, 0, 0, 0, 0, .none, 0, []⟩,  -- PRS_SEL_OFF
  ⟨0x900100, 0x20, 6, 4, 5, .pitch, false, 0, 0, 0, 0, 0, .none, 0, []⟩,  -- PRS_UNPARSED_ACTc_w
  ⟨0x900200, 0x20, 64, 4, 5, .pitch, false, 0, 0, 0, 0, 0, .none, 0, []⟩,  -- PRS_MALFORMED_ACTp_w
  ⟨0x900a00, 4, 64, 0, 1, .pitch, false, 0, 0, 0, 0, 0xffffffff, .none, 0, []⟩,  -- PRS_MALFORMED_CNTp
  ⟨0x900b00, 4, 6, 0, 1, .pitch, false, 0, 0, 0, 0, 0xffffffff, .none, 0, []⟩,  -- PRS_UNPARSED_CNTc
  ⟨0x900c00, 4, 64, 0, 1, .pitch, false, 0, 0, 0, 0, 0xffffffff, .none, 0, []⟩  -- PRS_PROFILE_HITSp
]

/-- Registers of the THK block. -/
def regsThk : List RegRow := [
  ⟨0xa00000, 0, 1, 0, 1, .soft, false, 0, 0, 0, 0, 0, .none, 0, []⟩,  -- THK_STATUS
  ⟨0xa00004, 0, 1, 0, 1, .soft, false, 0xffff0000, 0, 0, 0, 0, .none, 0, []⟩,  -- THK_VERSION
  ⟨0xa00008, 0, 1, 0, 1, .soft, false, 0, 0, 0, 0, 0, .none, 0, []⟩,  -- THK_HOLDERS
  ⟨0xa0000c, 0, 1, 0, 1, .soft, false, 0, 0, 0, 0, 0, .none, 0, []⟩,  -- THK_PENDING
  ⟨0xa00010, 0, 1, 0, 1, .soft, false, 0x2710, 0, 0xffffff, 0, 0, .none, 0, []⟩,  -- THK_AGE_LIMIT
  ⟨0xa00014, 0, 1, 0, 1, .soft, false, 0, 0, 0, 0, 0, .none, 0, []⟩,  -- THK_WALK
  ⟨0xa00018, 0, 1, 0, 1, .soft, false, 0, 0, 0, 0, 0, .none, 0, []⟩,  -- THK_OCCUPANCY
  ⟨0xa00020, 0, 1, 0, 1, .soft, false, 0, 0, 0, 0, 0, .none, 0, []⟩,  -- THK_OP
  ⟨0xa00024, 0, 1, 0, 1, .soft, false, 0, 0, 0, 0, 0, .none, 0, []⟩,  -- THK_OP_RESULT
  ⟨0xa00040, 0, 1, 0, 1, .soft, false, 0, 0, 0, 0, 0, .none, 0, []⟩,  -- THK_COMMIT
  ⟨0xa00044, 0, 1, 0, 1, .soft, false, 0, 0, 0, 0, 0, .none, 0, []⟩,  -- THK_COMMIT_STATUS
  ⟨0xa00080, 4, 10, 0, 1, .soft, false, 0, 0, 0xffffffff, 0, 0, .none, 0, []⟩,  -- THK_KEY
  ⟨0xa000c0, 4, 10, 0, 1, .soft, false, 0, 0, 0xffffffff, 0, 0, .none, 0, []⟩,  -- THK_MASK
  ⟨0xa00100, 4, 5, 0, 1, .soft, false, 0, 0, 0xffffffff, 0, 0, .none, 0, []⟩,  -- THK_ACT
  ⟨0xa00120, 0, 1, 0, 1, .soft, false, 0, 0, 0x3f3fffff, 0, 0, .none, 0, []⟩,  -- THK_HEDGE_CFG
  ⟨0xa00140, 0, 1, 0, 1, .soft, false, 0, 0, 0xffffffff, 0, 0, .lo, 4, []⟩,  -- THK_BATCH_LO
  ⟨0xa00144, 0, 1, 0, 1, .soft, false, 0, 0, 0xffffffff, 0, 0, .hi, 4, []⟩,  -- THK_BATCH_HI
  ⟨0xa00148, 0, 1, 0, 1, .soft, false, 0, 0, 0, 0, 0, .none, 0, []⟩,  -- THK_BATCH_CMD
  ⟨0xa0014c, 0, 1, 0, 1, .soft, false, 0, 0, 0, 0, 0, .none, 0, []⟩,  -- THK_BATCH_STATUS
  ⟨0xa00180, 0, 1, 0, 1, .soft, false, 0, 0, 0, 0, 0xffffffff, .none, 0, []⟩,  -- THK_LOOKUPS
  ⟨0xa00184, 0, 1, 0, 1, .soft, false, 0, 0, 0, 0, 0xffffffff, .none, 0, []⟩,  -- THK_HITS
  ⟨0xa00188, 0, 1, 0, 1, .soft, false, 0, 0, 0, 0, 0xffffffff, .none, 0, []⟩,  -- THK_HEDGE_HITS
  ⟨0xa0018c, 0, 1, 0, 1, .soft, false, 0, 0, 0, 0, 0xffffffff, .none, 0, []⟩,  -- THK_DEFAULTS
  ⟨0xa00190, 0, 1, 0, 1, .soft, false, 0, 0, 0, 0, 0xffffffff, .none, 0, []⟩,  -- THK_CACHE_MISSES
  ⟨0xa00194, 0, 1, 0, 1, .soft, false, 0, 0, 0, 0, 0xffffffff, .none, 0, []⟩,  -- THK_MISS_SPILL
  ⟨0xa00198, 0, 1, 0, 1, .soft, false, 0, 0, 0, 0, 0xffffffff, .none, 0, []⟩,  -- THK_DROPS
  ⟨0xa0019c, 0, 1, 0, 1, .soft, false, 0, 0, 0, 0, 0xffffffff, .none, 0, []⟩,  -- THK_INSERT_FAIL
  ⟨0xa001a0, 0, 1, 0, 1, .soft, false, 0, 0, 0, 0, 0xffffffff, .none, 0, []⟩,  -- THK_AGED
  ⟨0xa001a4, 0, 1, 0, 1, .soft, false, 0, 0, 0, 0, 0xffffffff, .none, 0, []⟩,  -- THK_COMMITS
  ⟨0xa001a8, 0, 1, 0, 1, .soft, false, 0, 0, 0, 0, 0x1fff0000, .none, 0, []⟩,  -- THK_MISSQ
  ⟨0xa001b0, 0, 1, 0, 1, .soft, false, 0, 0, 0, 0x3f, 0, .none, 0, []⟩,  -- THK_IRQ
  ⟨0xa001b4, 0, 1, 0, 1, .soft, false, 0, 0, 0x3f, 0, 0, .none, 0, []⟩,  -- THK_IRQ_EN
  ⟨0xa00400, 8, 64, 0, 1, .pitch, false, 0, 0, 0, 0, 0, .none, 0, []⟩,  -- THK_TMPLn_CFG
  ⟨0xa00404, 8, 64, 0, 1, .soft, false, 0, 0, 0, 0, 0, .none, 0, []⟩,  -- THK_TMPLn_OCC
  ⟨0xa00800, 0x40, 64, 4, 5, .pitch, false, 0, 0, 0, 0, 0, .none, 0, []⟩,  -- THK_TMPLn_DEFAULT_w
  ⟨0xa00820, 0x40, 64, 4, 5, .pitch, false, 0, 0, 0, 0, 0, .none, 0, []⟩  -- THK_TMPLn_SPILL_w
]

/-- Registers of the SCH block. -/
def regsSch1 : List RegRow := [
  ⟨0xb00000, 0, 1, 0, 1, .pitch, false, 0, 0, 0, 0, 0, .none, 0, []⟩,  -- SCH_STATUS
  ⟨0xb00004, 0, 1, 0, 1, .pitch, false, 0, 0, 0, 0, 0, .none, 0, []⟩,  -- SCH_FRONT_USED
  ⟨0xb00008, 0, 1, 0, 1, .pitch, false, 0, 0, 0, 0, 0, .none, 0, []⟩,  -- SCH_DEEP_USED
  ⟨0xb0000c, 0, 1, 0, 1, .pitch, false, 0, 0, 0, 0, 0, .none, 0, []⟩,  -- SCH_SHARED_FREE
  ⟨0xb00010, 0, 1, 0, 1, .pitch, false, 0, 0, 0, 0, 0, .none, 0, []⟩,  -- SCH_RESV_TOTAL
  ⟨0xb00014, 0, 1, 0, 1, .pitch, false, 0x400c000, 0, 0xff1ffff, 0, 0, .none, 0, [(0, 17, [(0, 65536)])]⟩,  -- SCH_SPILL_CFG
  ⟨0xb00018, 0, 1, 0, 1, .pitch, false, 0xa, 0, 0xfffff, 0, 0, .none, 0, [(0, 20, [(10, 1000000)])]⟩,  -- SCH_ADMIN_LEAD
  ⟨0xb0001c, 0, 1, 0, 1, .pitch, false, 0, 0, 0, 0, 0xffffffff, .none, 0, []⟩,  -- SCH_NO_EGRESS
  ⟨0xb00020, 0, 1, 0, 1, .pitch, false, 0, 0, 0, 0x7f, 0, .none, 0, []⟩,  -- SCH_IRQ
  ⟨0xb00024, 0, 1, 0, 1, .pitch, false, 0, 0, 0x7f, 0, 0, .none, 0, []⟩,  -- SCH_IRQ_EN
  ⟨0xb00040, 0, 1, 0, 1, .pitch, false, 0x7000, 0, 0xffffff, 0, 0, .none, 0, []⟩,  -- SCH_CLASS_GUARD
  ⟨0xb00044, 0, 1, 0, 1, .pitch, false, 0x6000, 0, 0xffffff, 0, 0, .none, 0, []⟩,  -- SCH_CLASS_GUARD
  ⟨0xb00048, 0, 1, 0, 1, .pitch, false, 0x5000, 0, 0xffffff, 0, 0, .none, 0, []⟩,  -- SCH_CLASS_GUARD
  ⟨0xb0004c, 0, 1, 0, 1, .pitch, false, 0x4000, 0, 0xffffff, 0, 0, .none, 0, []⟩,  -- SCH_CLASS_GUARD
  ⟨0xb00050, 0, 1, 0, 1, .pitch, false, 0x3000, 0, 0xffffff, 0, 0, .none, 0, []⟩,  -- SCH_CLASS_GUARD
  ⟨0xb00054, 0, 1, 0, 1, .pitch, false, 0x2000, 0, 0xffffff, 0, 0, .none, 0, []⟩,  -- SCH_CLASS_GUARD
  ⟨0xb00058, 0, 1, 0, 1, .pitch, false, 0x1000, 0, 0xffffff, 0, 0, .none, 0, []⟩,  -- SCH_CLASS_GUARD
  ⟨0xb0005c, 0, 1, 0, 1, .pitch, false, 0, 0, 0xffffff, 0, 0, .none, 0, []⟩,  -- SCH_CLASS_GUARD
  ⟨0xb00060, 4, 8, 0, 1, .pitch, false, 0, 0, 0, 0, 0xffffffff, .none, 0, []⟩,  -- SCH_CLASS_REFUSED
  ⟨0xb00080, 0, 1, 0, 1, .soft, false, 0, 0, 0xffff, 0, 0, .none, 0, []⟩,  -- SCH_POL_SEL
  ⟨0xb00084, 0, 1, 0, 1, .soft, false, 0, 0, 0xffffffff, 0, 0, .none, 0, []⟩,  -- SCH_POL_RATE
  ⟨0xb00088, 0, 1, 0, 1, .soft, false, 0x1000000, 0, 0x1ffffff, 0, 0, .none, 0, []⟩,  -- SCH_POL_CFG
  ⟨0xb0008c, 0, 1, 0, 1, .soft, false, 0, 0, 0, 0, 0, .none, 0, []⟩,  -- SCH_POL_TOKENS
  ⟨0xb00090, 0, 1, 0, 1, .soft, false, 0, 0, 0, 0, 0xffffffff, .none, 0, []⟩,  -- SCH_POL_OUT
  ⟨0xb10000, 0x10, 8192, 0, 1, .pitch, false, 0, 0, 0xffff0f00, 0, 0, .none, 0, [(8, 4, [(0, 12)])]⟩,  -- SCH_Qn_CFG
  ⟨0xb10004, 0x10, 8192, 0, 1, .pitch, false, 0, 0, 0xffffff, 0, 0, .none, 0, []⟩,  -- SCH_Qn_RESV
  ⟨0xb10008, 0x10, 8192, 0, 1, .pitch, false, 0, 0, 0, 0, 0, .none, 0, []⟩,  -- SCH_Qn_DEPTH
  ⟨0xb1000c, 0x10, 8192, 0, 1, .pitch, false, 0, 0, 0, 0, 0xffffffff, .none, 0, []⟩,  -- SCH_Qn_REFUSED
  ⟨0xb30000, 0x10, 8192, 0, 1, .pitch, false, 0, 0, 0xffffffff, 0, 0, .none, 0, []⟩,  -- SCH_SHn_RATE
  ⟨0xb50000, 0x10, 64, 0, 1, .pitch, false, 0, 0, 0xffffffff, 0, 0, .none, 0, []⟩,  -- SCH_PSp_RATE
  ⟨0xb30004, 0x10, 8192, 0, 1, .pitch, false, 0, 0, 0x80ffffff, 0, 0, .none, 0, []⟩,  -- SCH_SHn_CFG
  ⟨0xb50004, 0x10, 64, 0, 1, .pitch, false, 0, 0, 0x80ffffff, 0, 0, .none, 0, []⟩,  -- SCH_PSp_CFG
  ⟨0xb30008, 0x10, 8192, 0, 1, .pitch, false, 0, 0, 0, 0, 0, .none, 0, []⟩,  -- SCH_SHn_TOKENS
  ⟨0xb50008, 0x10, 64, 0, 1, .pitch, false, 0, 0, 0, 0, 0, .none, 0, []⟩,  -- SCH_PSp_TOKENS
  ⟨0xb5000c, 0x10, 64, 0, 1, .pitch, false, 0, 0, 0, 0, 0, .none, 0, []⟩,  -- SCH_PSp_ASSIGN
  ⟨0xb60000, 0x100, 18, 0, 1, .pitch, false, 0, 0, 0x3ff00, 0, 0, .none, 0, []⟩,  -- SCH_Ee_CFG
  ⟨0xb60004, 0, 1, 0, 1, .pitch, false, 0, 0, 0xfffff, 0, 0, .none, 0, [(0, 20, [(20000, 1000000)])]⟩,  -- SCH_Ee_LEAD
  ⟨0xb60104, 0x100, 16, 0, 1, .pitch, false, 0, 0, 0xfffff, 0, 0, .none, 0, [(0, 20, [(1000, 1000000)])]⟩,  -- SCH_Ee_LEAD
  ⟨0xb61104, 0, 1, 0, 1, .pitch, false, 0, 0, 0xfffff, 0, 0, .none, 0, []⟩,  -- SCH_Ee_LEAD
  ⟨0xb60008, 0x100, 18, 0, 1, .pitch, false, 1, 0, 0, 0, 0, .none, 0, []⟩,  -- SCH_Ee_STATUS
  ⟨0xb6000c, 0x100, 18, 0, 1, .pitch, false, 0xff, 0, 0, 0, 0, .none, 0, []⟩,  -- SCH_Ee_GATES
  ⟨0xb60010, 0x100, 18, 0, 1, .pitch, false, 0, 0, 0x7ff, 0, 0, .none, 0, [(0, 11, [(0, 1024)])]⟩,  -- SCH_Ee_GCL_CTL
  ⟨0xb60014, 0x100, 18, 0, 1, .pitch, false, 0, 0, 0xffffffff, 0, 0, .none, 0, []⟩,  -- SCH_Ee_GCL_CYCLE
  ⟨0xb60030, 0x100, 18, 0, 1, .pitch, false, 0, 0, 0, 0, 0, .none, 0, []⟩,  -- SCH_Ee_ACT_CYCLE
  ⟨0xb60018, 0x100, 18, 0, 1, .pitch, false, 0, 0, 0xffffffff, 0, 0, .none, 0, [(0, 32, [(0, 999999999)])]⟩,  -- SCH_Ee_BASE_NS
  ⟨0xb6001c, 0x100, 18, 0, 1, .pitch, false, 0, 0, 0xffffffff, 0, 0, .lo, 4, []⟩,  -- SCH_Ee_BASE_SEC_LO
  ⟨0xb60020, 0x100, 18, 0, 1, .pitch, false, 0, 0, 0xffff, 0, 0, .hi, 4, []⟩,  -- SCH_Ee_BASE_SEC_HI
  ⟨0xb60024, 0x100, 18, 0, 1, .pitch, false, 0, 0, 0, 0, 0, .none, 0, []⟩,  -- SCH_Ee_START_NS
  ⟨0xb60028, 0x100, 18, 0, 1, .pitch, false, 0, 0, 0, 0, 0, .lo, 4, []⟩  -- SCH_Ee_START_SEC_LO
]

/-- Registers of the SCH block. -/
def regsSch2 : List RegRow := [
  ⟨0xb6002c, 0x100, 18, 0, 1, .pitch, false, 0, 0, 0, 0, 0, .hi, 4, []⟩,  -- SCH_Ee_START_SEC_HI
  ⟨0xb60034, 0x100, 18, 0, 1, .pitch, false, 0, 0, 0, 0, 0xffffffff, .none, 0, []⟩,  -- SCH_Ee_FRAMES
  ⟨0xb60038, 0x100, 18, 0, 1, .pitch, false, 0, 0, 0, 0, 0xffffffff, .none, 0, []⟩,  -- SCH_Ee_LATE
  ⟨0xb6003c, 0x100, 18, 0, 1, .pitch, false, 0, 0, 0, 0, 0xffffffff, .none, 0, []⟩,  -- SCH_Ee_LATE2
  ⟨0xb60040, 0x100, 18, 0, 1, .pitch, false, 0, 0, 0, 0, 0xffffffff, .none, 0, []⟩,  -- SCH_Ee_TIMED_DROP
  ⟨0xb60044, 0x100, 18, 0, 1, .pitch, false, 0, 0, 0, 0, 0xffffffff, .none, 0, []⟩,  -- SCH_Ee_DOWN_DROPS
  ⟨0xb60048, 0x100, 18, 0, 1, .pitch, false, 0, 0, 0, 0, 0xffffffff, .none, 0, []⟩,  -- SCH_Ee_STUCK
  ⟨0xb6004c, 0x100, 18, 0, 1, .pitch, false, 0, 0, 0, 0, 0, .none, 0, []⟩,  -- SCH_Ee_BACKLOG
  ⟨0xb80000, 0x2000, 18, 4, 1024, .pitch, false, 0, 0, 0xffffffff, 0, 0, .none, 0, []⟩,  -- SCH_Ee_GCLi
  ⟨0xb81000, 0x2000, 18, 4, 1024, .pitch, false, 0, 0, 0, 0, 0, .none, 0, []⟩  -- SCH_Ee_ACTi
]

/-- Registers of the SCH block. -/
def regsSch : List RegRow := regsSch1 ++ regsSch2

/-- Registers of the TMB block. -/
def regsTmb : List RegRow := [
  ⟨0xc00000, 0, 1, 0, 1, .soft, false, 1, 0, 0, 0, 0, .none, 0, []⟩,  -- TMB_STATUS
  ⟨0xc00004, 0, 1, 0, 1, .hard, false, 0, 0, 0, 0, 0, .none, 0, []⟩,  -- TMB_TIME_FRAC
  ⟨0xc00008, 0, 1, 0, 1, .hard, false, 0, 0, 0, 0, 0, .none, 0, []⟩,  -- TMB_TIME_NS
  ⟨0xc0000c, 0, 1, 0, 1, .hard, false, 0, 0, 0, 0, 0, .lo, 4, []⟩,  -- TMB_TIME_SEC_LO
  ⟨0xc00010, 0, 1, 0, 1, .hard, false, 0, 0, 0, 0, 0, .hi, 4, []⟩,  -- TMB_TIME_SEC_HI
  ⟨0xc00014, 0, 1, 0, 1, .hard, false, 0x33b13b14, 0, 0xffffffff, 0, 0, .lo, 4, []⟩,  -- TMB_INCR_LO
  ⟨0xc00018, 0, 1, 0, 1, .hard, false, 1, 0, 3, 0, 0, .hi, 4, []⟩,  -- TMB_INCR_HI
  ⟨0xc0001c, 0, 1, 0, 1, .soft, false, 0, 0, 0xffffffff, 0, 0, .none, 0, []⟩,  -- TMB_ADJ_NS
  ⟨0xc00020, 0, 1, 0, 1, .soft, false, 0, 0, 0xffffffff, 0, 0, .lo, 4, []⟩,  -- TMB_ADJ_SEC_LO
  ⟨0xc00024, 0, 1, 0, 1, .soft, false, 0, 0, 0xffff, 0, 0, .hi, 4, []⟩,  -- TMB_ADJ_SEC_HI
  ⟨0xc00028, 0, 1, 0, 1, .soft, false, 0, 0, 0, 0, 0, .none, 0, []⟩,  -- TMB_ADJ_CTL
  ⟨0xc00030, 0, 1, 0, 1, .soft, false, 0x3e8, 0, 0xffff, 0, 0, .none, 0, []⟩,  -- TMB_LINE_CFG
  ⟨0xc00034, 0, 1, 0, 1, .soft, false, 0, 0, 0xffff, 0, 0, .none, 0, []⟩,  -- TMB_REF_CFG
  ⟨0xc00038, 0, 1, 0, 1, .soft, false, 0, 0, 0, 0, 0, .none, 0, []⟩,  -- TMB_LINE_DEV
  ⟨0xc0003c, 0, 1, 0, 1, .soft, false, 0, 0, 0, 0, 0, .none, 0, []⟩,  -- TMB_REF_DEV
  ⟨0xc00040, 0, 1, 0, 1, .soft, false, 0, 0, 0, 0, 0, .none, 0, []⟩,  -- TMB_LINE_STATUS
  ⟨0xc00044, 0, 1, 0, 1, .soft, false, 0, 0, 0, 0, 0, .none, 0, []⟩,  -- TMB_TOD_NS
  ⟨0xc00048, 0, 1, 0, 1, .soft, false, 0, 0, 0, 0, 0, .lo, 4, []⟩,  -- TMB_TOD_SEC_LO
  ⟨0xc0004c, 0, 1, 0, 1, .soft, false, 0, 0, 0, 0, 0, .hi, 4, []⟩,  -- TMB_TOD_SEC_HI
  ⟨0xc00050, 0, 1, 0, 1, .soft, false, 0, 0, 0, 0, 0, .none, 0, []⟩,  -- TMB_LOC_NS
  ⟨0xc00054, 0, 1, 0, 1, .soft, false, 0, 0, 0, 0, 0, .lo, 4, []⟩,  -- TMB_LOC_SEC_LO
  ⟨0xc00058, 0, 1, 0, 1, .soft, false, 0, 0, 0, 0, 0, .hi, 4, []⟩,  -- TMB_LOC_SEC_HI
  ⟨0xc0005c, 0, 1, 0, 1, .soft, false, 0, 0, 0, 0, 0xffffffff, .none, 0, []⟩,  -- TMB_MEAS_DISCARDS
  ⟨0xc00060, 0, 1, 0, 1, .soft, false, 0, 0, 0x1fffff, 0, 0, .none, 0, [(0, 20, [(0, 999999)])]⟩,  -- TMB_PPS_CFG
  ⟨0xc00064, 0, 1, 0, 1, .soft, false, 0, 0, 0x3fffffff, 0, 0, .none, 0, [(0, 30, [(0, 999999999)])]⟩,  -- TMB_PPS_OFFSET
  ⟨0xc00068, 0, 1, 0, 1, .soft, false, 0, 0, 0, 0, 0, .none, 0, []⟩,  -- TMB_PPS_IN_NS
  ⟨0xc0006c, 0, 1, 0, 1, .soft, false, 0, 0, 0, 0, 0, .lo, 4, []⟩,  -- TMB_PPS_IN_SEC_LO
  ⟨0xc00070, 0, 1, 0, 1, .soft, false, 0, 0, 0, 0, 0, .hi, 4, []⟩,  -- TMB_PPS_IN_SEC_HI
  ⟨0xc00080, 4, 8, 0, 1, .soft, false, 0, 0, 0xffffffff, 0, 0, .none, 0, []⟩,  -- TMB_En_DELAY
  ⟨0xc000a0, 0, 1, 0, 1, .soft, false, 0, 0, 0, 0, 0, .none, 0, []⟩,  -- TMB_TXS_LEVEL
  ⟨0xc000a4, 0, 1, 0, 1, .soft, false, 0, 0, 0, 0, 0, .none, 0, []⟩,  -- TMB_TXS_POP
  ⟨0xc000a8, 0, 1, 0, 1, .soft, false, 0, 0, 0, 0, 0, .none, 0, []⟩,  -- TMB_TXS_ID
  ⟨0xc000ac, 0, 1, 0, 1, .soft, false, 0, 0, 0, 0, 0, .none, 0, []⟩,  -- TMB_TXS_NS
  ⟨0xc000b0, 0, 1, 0, 1, .soft, false, 0, 0, 0, 0, 0, .lo, 4, []⟩,  -- TMB_TXS_SEC_LO
  ⟨0xc000b4, 0, 1, 0, 1, .soft, false, 0, 0, 0, 0, 0, .hi, 4, []⟩,  -- TMB_TXS_SEC_HI
  ⟨0xc000b8, 0, 1, 0, 1, .soft, false, 0, 0, 0, 0, 0, .none, 0, []⟩,  -- TMB_TXS_USER
  ⟨0xc000bc, 0, 1, 0, 1, .soft, false, 0, 0, 0, 0, 0xffffffff, .none, 0, []⟩,  -- TMB_TXS_COUNTS
  ⟨0xc000c0, 0, 1, 0, 1, .soft, false, 0, 0, 0, 0xff, 0, .none, 0, []⟩,  -- TMB_IRQ
  ⟨0xc000c4, 0, 1, 0, 1, .soft, false, 0, 0, 0xff, 0, 0, .none, 0, []⟩  -- TMB_IRQ_EN
]

/-- Registers of the ENG block. -/
def regsEng : List RegRow := [
  ⟨0xd00000, 0, 1, 0, 1, .soft, false, 0, 0, 0, 0, 0, .none, 0, []⟩,  -- ENG_STATUS
  ⟨0xd00004, 0, 1, 0, 1, .soft, false, 0, 0, 0, 0, 0, .none, 0, []⟩,  -- ENG_TRAP_PEND
  ⟨0xd00008, 0, 1, 0, 1, .soft, false, 0, 0, 0, 7, 0, .none, 0, []⟩,  -- ENG_IRQ
  ⟨0xd0000c, 0, 1, 0, 1, .soft, false, 0, 0, 7, 0, 0, .none, 0, []⟩,  -- ENG_IRQ_EN
  ⟨0xd00010, 0, 1, 0, 1, .soft, false, 0x10000, 0, 0, 0, 0, .none, 0, []⟩,  -- ENG_MSG_POOL
  ⟨0xd00014, 0, 1, 0, 1, .soft, false, 0, 0, 0, 0, 0xffffffff, .none, 0, []⟩,  -- ENG_MSG_DROPS
  ⟨0xd00018, 0, 1, 0, 1, .soft, false, 0, 0, 0, 0, 0xffffffff, .none, 0, []⟩,  -- ENG_WIN_WRITES
  ⟨0xd01000, 0x100, 32, 0, 1, .pitch, false, 0, 0, 0, 0, 0, .none, 0, []⟩,  -- ENG_c_STATUS
  ⟨0xd01004, 0x100, 32, 0, 1, .pitch, false, 0, 0, 0, 0, 0, .none, 0, []⟩,  -- ENG_c_QUOTA
  ⟨0xd01008, 0x100, 32, 0, 1, .pitch, false, 0, 0, 0, 0, 0, .none, 0, []⟩,  -- ENG_c_PAGES
  ⟨0xd0100c, 0x100, 32, 0, 1, .pitch, false, 0, 0, 0, 0, 0, .none, 0, []⟩,  -- ENG_c_ALLOCS
  ⟨0xd01010, 0x100, 32, 0, 1, .pitch, false, 0, 0, 0, 0, 0xffffffff, .none, 0, []⟩,  -- ENG_c_ALLOC_FAIL
  ⟨0xd01014, 0x100, 32, 0, 1, .pitch, false, 0, 0, 0, 0, 0xffffffff, .none, 0, []⟩,  -- ENG_c_PCACHE
  ⟨0xd01018, 0x100, 32, 0, 1, .pitch, false, 0, 0, 0, 0, 0xffffffff, .none, 0, []⟩,  -- ENG_c_RETIRED
  ⟨0xd0101c, 0x100, 32, 0, 1, .pitch, false, 0, 0, 0, 0, 0xffffffff, .none, 0, []⟩,  -- ENG_c_PKT_SENT
  ⟨0xd01020, 0x100, 32, 0, 1, .pitch, false, 0, 0, 0, 0, 0xffffffff, .none, 0, []⟩,  -- ENG_c_PKT_LOST
  ⟨0xd01024, 0x100, 32, 0, 1, .pitch, false, 0, 0, 0, 0, 0xffffffff, .none, 0, []⟩,  -- ENG_c_MSG_COUNTS
  ⟨0xd01028, 0x100, 32, 0, 1, .pitch, false, 0, 0, 0, 0x80000000, 0, .none, 0, []⟩,  -- ENG_c_TRAP
  ⟨0xd0102c, 0x100, 32, 0, 1, .pitch, false, 0, 0, 0, 0, 0, .none, 0, []⟩,  -- ENG_c_TRAP_PC
  ⟨0xd01030, 0x100, 32, 0, 1, .pitch, false, 0, 0, 0, 0, 0, .none, 0, []⟩,  -- ENG_c_TRAP_TASK
  ⟨0xd01034, 0x100, 32, 0, 1, .pitch, false, 0, 0, 0, 0, 0, .none, 0, []⟩,  -- ENG_c_TRAP_ADDR
  ⟨0xd01038, 0x100, 32, 0, 1, .pitch, false, 0, 0, 0, 0, 0, .none, 0, []⟩,  -- ENG_c_TRAP_WORD
  ⟨0xd0103c, 0x100, 32, 0, 1, .pitch, false, 0, 0, 0, 0, 0xffffffff, .none, 0, []⟩,  -- ENG_c_TRAP_COUNTS
  ⟨0xd01040, 0x100, 32, 4, 16, .pitch, false, 0, 0, 0, 0, 0, .none, 0, []⟩  -- ENG_c_ENG
]

/-- Registers of the TSK block. -/
def regsTsk : List RegRow := [
  ⟨0xe00000, 0, 1, 0, 1, .soft, false, 0, 0, 0, 0, 0, .none, 0, []⟩,  -- TSK_STATUS
  ⟨0xe00008, 0, 1, 0, 1, .soft, false, 0, 0, 0xffff, 0, 0, .none, 0, []⟩,  -- TSK_SEL
  ⟨0xe0000c, 0, 1, 0, 1, .soft, false, 0, 0, 0, 0, 0, .none, 0, []⟩,  -- TSK_CMD
  ⟨0xe00010, 0, 1, 0, 1, .soft, false, 0, 0, 0, 0, 0, .none, 0, []⟩,  -- TSK_CMD_RESULT
  ⟨0xe00020, 0, 1, 0, 1, .soft, false, 0, 0, 0xf03fff, 0, 0, .none, 0, []⟩,  -- TSK_D_CTL
  ⟨0xe00024, 0, 1, 0, 1, .soft, false, 0, 0, 0x1ffff, 0, 0, .none, 0, []⟩,  -- TSK_D_ENTRY
  ⟨0xe00028, 0, 1, 0, 1, .soft, false, 0, 0, 0xffffffff, 0, 0, .none, 0, []⟩,  -- TSK_D_MASK
  ⟨0xe0002c, 0, 1, 0, 1, .soft, false, 0, 0, 0xffffffff, 0, 0, .none, 0, []⟩,  -- TSK_D_FLAGS
  ⟨0xe00030, 0, 1, 0, 1, .soft, false, 0, 0, 0xffffffff, 0, 0, .none, 0, []⟩,  -- TSK_D_CLEAR
  ⟨0xe00034, 0, 1, 0, 1, .soft, false, 0, 0, 0xffff, 0, 0, .none, 0, []⟩,  -- TSK_D_DEP
  ⟨0xe00038, 0, 1, 0, 1, .soft, false, 0, 0, 0xffffffff, 0, 0, .none, 0, []⟩,  -- TSK_D_SUCC01
  ⟨0xe0003c, 0, 1, 0, 1, .soft, false, 0, 0, 0xffffffff, 0, 0, .none, 0, []⟩,  -- TSK_D_SUCC23
  ⟨0xe00040, 0, 1, 0, 1, .soft, false, 0, 0, 0xfff, 0, 0, .none, 0, []⟩,  -- TSK_D_POST
  ⟨0xe00044, 0, 1, 0, 1, .soft, false, 0, 0, 0, 0, 0, .none, 0, []⟩,  -- TSK_D_RUNS
  ⟨0xe00080, 0, 1, 0, 1, .soft, false, 0xff7f00, 0, 0xff7f03, 0, 0, .none, 0, []⟩,  -- TSK_TRACE_CFG
  ⟨0xe00084, 0, 1, 0, 1, .soft, false, 0, 0, 0, 0, 0, .none, 0, []⟩,  -- TSK_TRACE_NEXT
  ⟨0xe000c0, 0, 1, 0, 1, .soft, false, 0, 0, 0, 0, 0xffffffff, .none, 0, []⟩,  -- TSK_DISPATCHES
  ⟨0xe000c8, 0, 1, 0, 1, .soft, false, 0, 0, 0, 0, 0xffffffff, .none, 0, []⟩,  -- TSK_COMPLETES
  ⟨0xe000cc, 0, 1, 0, 1, .soft, false, 0, 0, 0, 0, 0xffffffff, .none, 0, []⟩,  -- TSK_FAULTS
  ⟨0xe000c4, 0, 1, 0, 1, .soft, false, 0, 0, 0, 0, 0xffffffff, .none, 0, []⟩,  -- TSK_SWITCHES
  ⟨0xe000d0, 0, 1, 0, 1, .soft, false, 0, 0, 0, 0, 0xffffffff, .none, 0, []⟩,  -- TSK_POST_DROPS
  ⟨0xe000d4, 0, 1, 0, 1, .soft, false, 0, 0, 0, 0, 0xffffffff, .none, 0, []⟩,  -- TSK_EV_LOST
  ⟨0xe000d8, 0, 1, 0, 1, .soft, false, 0, 0, 0, 0, 0xffffffff, .none, 0, []⟩,  -- TSK_DEP_SAT
  ⟨0xe000dc, 0, 1, 0, 1, .soft, false, 0, 0, 0, 0, 0, .none, 0, []⟩,  -- TSK_CTX
  ⟨0xe000e0, 0, 1, 0, 1, .soft, false, 0, 0, 0, 0xf, 0, .none, 0, []⟩,  -- TSK_IRQ
  ⟨0xe000e4, 0, 1, 0, 1, .soft, false, 0, 0, 0xf, 0, 0, .none, 0, []⟩,  -- TSK_IRQ_EN
  ⟨0xe00100, 4, 8, 0, 1, .soft, false, 0, 0, 0, 0, 0, .none, 0, []⟩,  -- TSK_PITCH
  ⟨0xe40000, 0x10, 16384, 4, 4, .soft, false, 0, 0, 0, 0, 0, .none, 0, []⟩  -- TSK_TRACEi
]

/-- Registers of the DMA block. -/
def regsDma : List RegRow := [
  ⟨0xf00000, 0, 1, 0, 1, .soft, false, 0, 0, 3, 0, 0, .none, 0, []⟩,  -- DMA_HPATH_CTL
  ⟨0xf00008, 0, 1, 0, 1, .soft, false, 0, 0, 0, 7, 0, .none, 0, []⟩,  -- DMA_HPATH_IRQ
  ⟨0xf0000c, 0, 1, 0, 1, .soft, false, 0, 0, 7, 0, 0, .none, 0, []⟩,  -- DMA_HPATH_IRQ_EN
  ⟨0xf00010, 0, 1, 0, 1, .soft, false, 0, 0, 0xffffffff, 0, 0, .lo, 4, []⟩,  -- DMA_HRX_BASE_LO
  ⟨0xf00014, 0, 1, 0, 1, .soft, false, 0, 0, 0xffffffff, 0, 0, .hi, 4, []⟩,  -- DMA_HRX_BASE_HI
  ⟨0xf00030, 0, 1, 0, 1, .soft, false, 0, 0, 0xffffffff, 0, 0, .lo, 4, []⟩,  -- DMA_HTX_BASE_LO
  ⟨0xf00034, 0, 1, 0, 1, .soft, false, 0, 0, 0xffffffff, 0, 0, .hi, 4, []⟩,  -- DMA_HTX_BASE_HI
  ⟨0xf00018, 0, 1, 0, 1, .soft, false, 0xc, 0, 0xf, 0, 0, .none, 0, [(0, 4, [(4, 12)])]⟩,  -- DMA_HRX_SIZE
  ⟨0xf00038, 0, 1, 0, 1, .soft, false, 0xc, 0, 0xf, 0, 0, .none, 0, [(0, 4, [(4, 12)])]⟩,  -- DMA_HTX_SIZE
  ⟨0xf0001c, 0, 1, 0, 1, .soft, false, 0, 0, 0xfff, 0, 0, .none, 0, []⟩,  -- DMA_HRX_TAIL
  ⟨0xf00020, 0, 1, 0, 1, .soft, false, 0, 0, 0, 0, 0, .none, 0, []⟩,  -- DMA_HRX_HEAD
  ⟨0xf0003c, 0, 1, 0, 1, .soft, false, 0, 0, 0xfff, 0, 0, .none, 0, []⟩,  -- DMA_HTX_TAIL
  ⟨0xf00040, 0, 1, 0, 1, .soft, false, 0, 0, 0, 0, 0, .none, 0, []⟩,  -- DMA_HTX_HEAD
  ⟨0xf00050, 0, 1, 0, 1, .soft, false, 0, 0, 0, 0, 0xffffffff, .none, 0, []⟩,  -- DMA_HPATH_COUNTS
  ⟨0xf00054, 0, 1, 0, 1, .soft, false, 0, 0, 0, 0, 0xffffffff, .none, 0, []⟩,  -- DMA_HRX_FRAMES
  ⟨0xf00058, 0, 1, 0, 1, .soft, false, 0, 0, 0, 0, 0xffffffff, .none, 0, []⟩,  -- DMA_HTX_FRAMES
  ⟨0xf0005c, 0, 1, 0, 1, .soft, false, 0, 0, 0, 0, 0xffff, .none, 0, []⟩,  -- DMA_TAP_OVERRUN
  ⟨0xf01000, 0x1000, 8, 0, 1, .pitch, false, 0, 0, 0, 0, 0, .none, 0, []⟩,  -- DMA_u_STATUS
  ⟨0xf01004, 0x1000, 8, 0, 1, .pitch, false, 0, 0, 0, 0xffffffff, 0, .none, 0, []⟩,  -- DMA_u_IRQ
  ⟨0xf01008, 0x1000, 8, 0, 1, .pitch, false, 0, 0, 0xffffffff, 0, 0, .none, 0, []⟩,  -- DMA_u_IRQ_EN
  ⟨0xf0100c, 0x1000, 8, 0, 1, .pitch, false, 0, 0, 0, 0, 0xffffffff, .none, 0, []⟩,  -- DMA_u_REFUSED
  ⟨0xf01010, 0x1000, 8, 0, 1, .pitch, false, 0, 0, 0, 0, 0xffffffff, .none, 0, []⟩,  -- DMA_u_KIB
  ⟨0xf01100, 0x1000, 8, 0x40, 16, .pitch, false, 0, 0, 0xffffffff, 0, 0, .none, 0, []⟩,  -- DMA_u_CHk_SRC
  ⟨0xf01104, 0x1000, 8, 0x40, 16, .pitch, false, 0, 0, 0xffffffff, 0, 0, .none, 0, []⟩,  -- DMA_u_CHk_DST
  ⟨0xf01108, 0x1000, 8, 0x40, 16, .pitch, false, 0, 0, 0xffffff, 0, 0, .none, 0, []⟩,  -- DMA_u_CHk_CNT
  ⟨0xf0110c, 0x1000, 8, 0x40, 16, .pitch, false, 0, 0, 0x3fe, 0, 0, .none, 0, []⟩,  -- DMA_u_CHk_CTL
  ⟨0xf01110, 0x1000, 8, 0x40, 16, .pitch, false, 0, 0, 0xffff, 0, 0, .none, 0, []⟩,  -- DMA_u_CHk_SRC_HI
  ⟨0xf01114, 0x1000, 8, 0x40, 16, .pitch, false, 0, 0, 0xffff, 0, 0, .none, 0, []⟩,  -- DMA_u_CHk_DST_HI
  ⟨0xf01118, 0x1000, 8, 0x40, 16, .pitch, false, 0, 0, 7, 0, 0, .none, 0, []⟩,  -- DMA_u_CHk_CFG
  ⟨0xf0111c, 0x1000, 8, 0x40, 16, .pitch, false, 0, 0, 0xffffffff, 0, 0, .lo, 4, []⟩,  -- DMA_u_CHk_PROG_LO
  ⟨0xf01120, 0x1000, 8, 0x40, 16, .pitch, false, 0, 0, 0x3ffff, 0, 0, .hi, 4, []⟩,  -- DMA_u_CHk_PROG_HI
  ⟨0xf01124, 0x1000, 8, 0x40, 16, .pitch, false, 0, 0, 0, 0, 0, .none, 0, []⟩,  -- DMA_u_CHk_STATE
  ⟨0xf01128, 0x1000, 8, 0x40, 16, .pitch, false, 0, 0, 0, 0, 0, .none, 0, []⟩,  -- DMA_u_CHk_REMAIN
  ⟨0xf0112c, 0x1000, 8, 0x40, 16, .pitch, false, 0, 0, 0, 0, 0, .lo, 4, []⟩,  -- DMA_u_CHk_ERR_LO
  ⟨0xf01130, 0x1000, 8, 0x40, 16, .pitch, false, 0, 0, 0, 0, 0, .hi, 4, []⟩,  -- DMA_u_CHk_ERR_HI
  ⟨0xf01134, 0x1000, 8, 0x40, 16, .pitch, false, 0, 0, 0, 0, 0xffffffff, .none, 0, []⟩  -- DMA_u_CHk_RUNS
]

/-- Registers of the CPH block. -/
def regsCph : List RegRow := [
  ⟨0x1000000, 0, 1, 0, 1, .soft, false, 0, 0, 0, 0, 0, .none, 0, []⟩,  -- CPH_STATUS
  ⟨0x1000004, 0, 1, 0, 1, .soft, false, 0, 0, 0, 0, 0, .none, 0, []⟩,  -- CPH_CMD
  ⟨0x1000008, 0, 1, 0, 1, .soft, false, 0, 0, 0, 0, 0, .none, 0, []⟩,  -- CPH_CMD_RESULT
  ⟨0x100000c, 0, 1, 0, 1, .soft, false, 0, 0, 0x7f, 0, 0, .none, 0, []⟩,  -- CPH_BLOB_LEN
  ⟨0x1000040, 4, 18, 0, 1, .soft, false, 0, 0, 0, 0, 0, .none, 0, []⟩,  -- CPH_BLOB
  ⟨0x1000010, 0, 1, 0, 1, .soft, false, 0, 0, 0xffff, 0, 0, .none, 0, []⟩,  -- CPH_SLOT_SEL
  ⟨0x1000028, 0, 1, 0, 1, .soft, false, 0, 0, 0xffff, 0, 0, .none, 0, []⟩,  -- CPH_FLOW_SEL
  ⟨0x1000014, 0, 1, 0, 1, .soft, false, 0, 0, 0, 0, 0, .none, 0, []⟩,  -- CPH_SLOT_INFO
  ⟨0x1000018, 0, 1, 0, 1, .soft, false, 0, 0, 0, 0, 0, .none, 0, []⟩,  -- CPH_SLOT_HOLDERS
  ⟨0x100001c, 0, 1, 0, 1, .soft, false, 0, 0, 0, 0, 0, .lo, 4, []⟩,  -- CPH_SLOT_PN_LO
  ⟨0x1000020, 0, 1, 0, 1, .soft, false, 0, 0, 0, 0, 0, .hi, 4, []⟩,  -- CPH_SLOT_PN_HI
  ⟨0x1000034, 0, 1, 0, 1, .soft, false, 0, 0, 0, 0, 0, .lo, 4, []⟩,  -- CPH_SLOT_RPN_LO
  ⟨0x1000038, 0, 1, 0, 1, .soft, false, 0, 0, 0, 0, 0, .hi, 4, []⟩,  -- CPH_SLOT_RPN_HI
  ⟨0x1000024, 0, 1, 0, 1, .soft, false, 0, 0, 0xffffffff, 0, 0, .none, 0, []⟩,  -- CPH_SLOT_REPLAY
  ⟨0x100002c, 0, 1, 0, 1, .soft, false, 0, 0, 0x8fff, 0, 0, .none, 0, []⟩,  -- CPH_FLOW_SLOT
  ⟨0x1000030, 0, 1, 0, 1, .soft, false, 0x100000, 0, 0xffffffff, 0, 0, .none, 0, []⟩,  -- CPH_PN_WARN
  ⟨0x1000080, 0, 1, 0, 1, .soft, false, 0, 0, 0, 0, 0xffffffff, .none, 0, []⟩,  -- CPH_D_COUNTS
  ⟨0x1000084, 0, 1, 0, 1, .soft, false, 0, 0, 0, 0, 0xffffffff, .none, 0, []⟩,  -- CPH_U_COUNTS
  ⟨0x1000088, 0, 1, 0, 1, .soft, false, 0, 0, 0, 0, 0xffffffff, .none, 0, []⟩,  -- CPH_U_DROPS
  ⟨0x100008c, 0, 1, 0, 1, .soft, false, 0, 0, 0, 0, 0, .none, 0, []⟩,  -- CPH_LAST_FAIL
  ⟨0x1000090, 0, 1, 0, 1, .soft, false, 0, 0, 0, 0, 0, .none, 0, []⟩,  -- CPH_SLOTS_USED
  ⟨0x10000a0, 0, 1, 0, 1, .soft, false, 0, 0, 0, 0x1f, 0, .none, 0, []⟩,  -- CPH_IRQ
  ⟨0x10000a4, 0, 1, 0, 1, .soft, false, 0, 0, 0x1f, 0, 0, .none, 0, []⟩  -- CPH_IRQ_EN
]

/-- Registers of the MAC block. -/
def regsMac : List RegRow := [
  ⟨0x1100000, 0, 1, 0, 1, .soft, true, 0, 0, 0, 0, 0, .none, 0, []⟩,  -- MAC_STATUS
  ⟨0x1100004, 0, 1, 0, 1, .soft, false, 0, 0, 0, 0xffffff, 0, .none, 0, []⟩,  -- MAC_IRQ
  ⟨0x1100008, 0, 1, 0, 1, .soft, false, 0, 0, 0xffffff, 0, 0, .none, 0, []⟩,  -- MAC_IRQ_EN
  ⟨0x1100100, 0x100, 8, 0, 1, .pitch, false, 0, 0, 0x3fff78, 0, 0, .none, 0, [(4, 3, [(0, 5)]), (8, 14, [(64, 9728)])]⟩,  -- MAC_En_CFG
  ⟨0x1100104, 0x100, 8, 0, 1, .pitch, false, 0, 0, 0xffffffff, 0, 0, .lo, 4, []⟩,  -- MAC_En_ADDR_LO
  ⟨0x1100108, 0x100, 8, 0, 1, .pitch, false, 0, 0, 0xffff, 0, 0, .hi, 4, []⟩,  -- MAC_En_ADDR_HI
  ⟨0x110010c, 0x100, 8, 0, 1, .soft, true, 0, 0, 0, 0, 0, .none, 0, []⟩,  -- MAC_En_STATUS
  ⟨0x1100110, 0x100, 8, 0, 1, .soft, false, 0, 0, 0, 0, 0, .none, 0, []⟩,  -- MAC_En_PAUSE_TX
  ⟨0x1100114, 0x100, 8, 0, 1, .soft, true, 0, 0, 0, 0, 0, .none, 0, []⟩,  -- MAC_En_PAUSE_RX
  ⟨0x1100118, 0x100, 8, 0, 1, .soft, false, 0xa000000, 0, 0xffff0001, 0, 0, .none, 0, []⟩,  -- MAC_En_EEE
  ⟨0x1100120, 0x100, 8, 0, 1, .soft, false, 0, 0, 0, 0, 0xffffffff, .none, 0, []⟩,  -- MAC_En_RX_FRAMES
  ⟨0x1100124, 0x100, 8, 0, 1, .soft, false, 0, 0, 0, 0, 0xffffffff, .none, 0, []⟩,  -- MAC_En_RX_KIB
  ⟨0x1100128, 0x100, 8, 0, 1, .soft, false, 0, 0, 0, 0, 0xffffffff, .none, 0, []⟩,  -- MAC_En_TX_FRAMES
  ⟨0x110012c, 0x100, 8, 0, 1, .soft, false, 0, 0, 0, 0, 0xffffffff, .none, 0, []⟩,  -- MAC_En_TX_KIB
  ⟨0x1100130, 0x100, 8, 0, 1, .soft, false, 0, 0, 0, 0, 0xffffffff, .none, 0, []⟩,  -- MAC_En_RX_ERR
  ⟨0x1100134, 0x100, 8, 0, 1, .soft, false, 0, 0, 0, 0, 0xffffffff, .none, 0, []⟩,  -- MAC_En_RX_ERR2
  ⟨0x1100138, 0x100, 8, 0, 1, .soft, false, 0, 0, 0, 0, 0x3ffffff, .none, 0, []⟩,  -- MAC_En_CTRL
  ⟨0x110013c, 0x100, 8, 0, 1, .soft, false, 0, 0, 0, 0, 0xffffffff, .none, 0, []⟩,  -- MAC_En_TX_ERR
  ⟨0x1100140, 0x100, 8, 0, 1, .soft, false, 0, 0, 0, 0, 0xffffffff, .none, 0, []⟩,  -- MAC_En_LPI_COUNTS
  ⟨0x1100144, 0x100, 8, 0, 1, .soft, false, 0, 0, 0, 0, 0xffffffff, .none, 0, []⟩  -- MAC_En_FEC
]

/-- Registers of the LAN block. -/
def regsLan : List RegRow := [
  ⟨0x1200000, 0, 1, 0, 1, .soft, true, 0, 0, 0, 0, 0, .none, 0, []⟩,  -- LAN_STATUS
  ⟨0x1200004, 0, 1, 0, 1, .soft, false, 0, 0, 0, 0x1fffff, 0, .none, 0, []⟩,  -- LAN_IRQ
  ⟨0x1200008, 0, 1, 0, 1, .soft, false, 0, 0, 0x1fffff, 0, 0, .none, 0, []⟩,  -- LAN_IRQ_EN
  ⟨0x1200040, 0x10, 5, 0, 1, .pitch, false, 0, 0, 0, 0, 0, .none, 0, []⟩,  -- LAN_Gg_CFG
  ⟨0x1200044, 0x10, 5, 0, 1, .soft, false, 0, 0, 3, 0, 0, .none, 0, []⟩,  -- LAN_Gg_CTL
  ⟨0x1200048, 0x10, 5, 0, 1, .soft, true, 0, 0, 0, 0, 0, .none, 0, []⟩,  -- LAN_Gg_STATUS
  ⟨0x1200100, 0x80, 18, 0, 1, .pitch, false, 0, 0, 0, 0, 0, .none, 0, []⟩,  -- LAN_x_CFG
  ⟨0x1200104, 0x80, 18, 0, 1, .soft, false, 0x10, 0, 0x3f, 0, 0, .none, 0, []⟩,  -- LAN_x_CTL
  ⟨0x1200108, 0x80, 18, 0, 1, .soft, true, 8, 0, 0, 0, 0, .none, 0, []⟩,  -- LAN_x_STATUS
  ⟨0x120010c, 0x80, 18, 0, 1, .soft, true, 0, 0, 0, 0, 0, .none, 0, []⟩,  -- LAN_x_EQ
  ⟨0x1200110, 0x80, 18, 4, 3, .soft, true, 0, 0, 0, 0, 0, .none, 0, []⟩,  -- LAN_x_DFE
  ⟨0x1200120, 0x80, 18, 0, 1, .soft, false, 0, 0, 0, 0, 0xffffffff, .none, 0, []⟩,  -- LAN_x_ALIGN_COUNTS
  ⟨0x1200124, 0x80, 18, 0, 1, .soft, false, 0, 0, 0, 0, 0xffffff, .none, 0, []⟩,  -- LAN_x_SIGNAL_COUNTS
  ⟨0x1200128, 0x80, 18, 0, 1, .soft, false, 0, 0, 0, 0, 0xffffffff, .none, 0, []⟩,  -- LAN_x_INVALID
  ⟨0x120012c, 0x80, 18, 0, 1, .soft, false, 0, 0, 0, 0, 0xffffffff, .none, 0, []⟩,  -- LAN_x_FILL
  ⟨0x1200130, 0x80, 18, 0, 1, .soft, false, 0x40, 0, 0xf7f, 0, 0, .none, 0, [(4, 3, [(0, 4)]), (8, 4, [(0, 12)])]⟩,  -- LAN_x_TEST
  ⟨0x1200134, 0x80, 18, 0, 1, .soft, false, 0, 0, 0, 0, 0xffffffff, .none, 0, []⟩  -- LAN_x_PRBS_ERR
]

/-- Registers of the ROP block. -/
def regsRop : List RegRow := [
  ⟨0x1300000, 0, 1, 0, 1, .pitch, false, 0, 0, 0, 0, 0, .none, 0, []⟩,  -- ROP_STATUS
  ⟨0x1300004, 0, 1, 0, 1, .pitch, false, 0, 0, 0, 0, 0, .none, 0, []⟩,  -- ROP_CFG
  ⟨0x1300008, 0, 1, 0, 1, .pitch, false, 0x40, 0, 0x3f3fff, 0, 0, .none, 0, [(0, 8, [(1, 255)])]⟩,  -- ROP_FAB_CFG
  ⟨0x130000c, 0, 1, 0, 1, .pitch, false, 0, 0, 0x3f1fff, 0, 0, .none, 0, []⟩,  -- ROP_RELAY_CFG
  ⟨0x1300010, 0, 1, 0, 1, .pitch, false, 0, 0, 0, 0, 0, .none, 0, []⟩,  -- ROP_RELAY_STATUS
  ⟨0x1300014, 0, 1, 0, 1, .pitch, false, 0, 0, 0, 0, 0, .none, 0, []⟩,  -- ROP_CTL
  ⟨0x1300018, 0, 1, 0, 1, .pitch, false, 0, 0, 0, 0, 0xffffffff, .none, 0, []⟩,  -- ROP_COUNTS
  ⟨0x130001c, 0, 1, 0, 1, .pitch, false, 0, 0, 0, 0, 0xfffffff, .none, 0, []⟩,  -- ROP_DROPS
  ⟨0x1300020, 0, 1, 0, 1, .pitch, false, 0, 0, 0, 0, 0xffffffff, .none, 0, []⟩,  -- ROP_NO_ROUTE
  ⟨0x1300024, 0, 1, 0, 1, .pitch, false, 0, 0, 0, 0, 0xffffffff, .none, 0, []⟩,  -- ROP_ROUTING
  ⟨0x1300028, 0, 1, 0, 1, .pitch, false, 0, 0, 0, 0x1fff, 0, .none, 0, []⟩,  -- ROP_IRQ
  ⟨0x130002c, 0, 1, 0, 1, .pitch, false, 0, 0, 0x1fff, 0, 0, .none, 0, []⟩,  -- ROP_IRQ_EN
  ⟨0x1300040, 0, 1, 0, 1, .pitch, false, 0, 0, 0x3ff, 0, 0, .none, 0, []⟩,  -- ROP_ROUTE_SEL
  ⟨0x1300044, 0, 1, 0, 1, .pitch, false, 0, 0, 0, 0, 0, .none, 0, []⟩,  -- ROP_ROUTE
  ⟨0x1300048, 0, 1, 0, 1, .pitch, false, 0, 0, 0, 0, 0, .lo, 4, []⟩,  -- ROP_ROUTE_SERIAL_LO
  ⟨0x130004c, 0, 1, 0, 1, .pitch, false, 0, 0, 0, 0, 0, .hi, 4, []⟩,  -- ROP_ROUTE_SERIAL_HI
  ⟨0x1300100, 0x40, 8, 0, 1, .pitch, false, 0, 0, 0xff, 0, 0, .none, 0, [(0, 8, [(1, 255)])]⟩,  -- ROP_Pn_CFG
  ⟨0x1300104, 0x40, 8, 0, 1, .pitch, false, 0, 0, 0, 0, 0, .none, 0, []⟩,  -- ROP_Pn_STATUS
  ⟨0x1300108, 0x40, 8, 0, 1, .pitch, false, 0, 0, 0, 0, 0, .lo, 4, []⟩,  -- ROP_Pn_NBR_SERIAL_LO
  ⟨0x130010c, 0x40, 8, 0, 1, .pitch, false, 0, 0, 0, 0, 0, .hi, 4, []⟩,  -- ROP_Pn_NBR_SERIAL_HI
  ⟨0x1300110, 0x40, 8, 0, 1, .pitch, false, 0, 0, 0, 0, 0xffffffff, .none, 0, []⟩,  -- ROP_Pn_HAILS
  ⟨0x1300114, 0x40, 8, 0, 1, .pitch, false, 0, 0, 0, 0, 0xffffffff, .none, 0, []⟩  -- ROP_Pn_LSR
]

/-- Registers of the TWN block. -/
def regsTwn : List RegRow := [
  ⟨0x1400000, 0, 1, 0, 1, .soft, false, 0x10, 0, 0x3f, 0, 0, .none, 0, [(2, 2, [(0, 2)])]⟩,  -- TWN_CFG
  ⟨0x1400004, 0, 1, 0, 1, .soft, false, 0, 0, 1, 0, 0, .none, 0, []⟩,  -- TWN_CTL
  ⟨0x1400008, 0, 1, 0, 1, .soft, false, 0, 0, 0, 0, 0, .none, 0, []⟩,  -- TWN_STATUS
  ⟨0x140000c, 0, 1, 0, 1, .soft, false, 0, 0, 0xffffffff, 0, 0, .lo, 4, []⟩,  -- TWN_PARTNER_SERIAL_LO
  ⟨0x1400010, 0, 1, 0, 1, .soft, false, 0, 0, 0xffffffff, 0, 0, .hi, 4, []⟩,  -- TWN_PARTNER_SERIAL_HI
  ⟨0x1400014, 0, 1, 0, 1, .soft, false, 0, 0, 0xffffffff, 0, 0, .lo, 4, []⟩,  -- TWN_REF_SERIAL_LO
  ⟨0x1400018, 0, 1, 0, 1, .soft, false, 0, 0, 0xffffffff, 0, 0, .hi, 4, []⟩,  -- TWN_REF_SERIAL_HI
  ⟨0x140001c, 0, 1, 0, 1, .soft, false, 0, 0, 0, 0, 0, .none, 0, []⟩,  -- TWN_VERDICT
  ⟨0x1400020, 0, 1, 0, 1, .soft, false, 0, 0, 0, 0, 0, .none, 0, []⟩,  -- TWN_MIRROR_TX
  ⟨0x1400024, 0, 1, 0, 1, .soft, false, 0, 0, 0, 0, 0, .none, 0, []⟩,  -- TWN_MIRROR_ACK
  ⟨0x1400028, 0, 1, 0, 1, .soft, false, 0x64, 0, 0xffff, 0, 0, .none, 0, []⟩,  -- TWN_GAP_LIMIT
  ⟨0x140002c, 0, 1, 0, 1, .soft, false, 0, 0, 0, 0, 0, .none, 0, []⟩,  -- TWN_LAST_GAP
  ⟨0x1400030, 0, 1, 0, 1, .soft, false, 0x100000, 0, 0xffffffff, 0, 0, .none, 0, []⟩,  -- TWN_PN_SKIP
  ⟨0x1400034, 0, 1, 0, 1, .soft, true, 0x80000000, 0, 0, 0, 0, .none, 0, []⟩,  -- TWN_TIME_OFFSET
  ⟨0x1400038, 0, 1, 0, 1, .soft, false, 0, 0, 0, 0, 0xffffffff, .none, 0, []⟩,  -- TWN_COUNTS
  ⟨0x140003c, 0, 1, 0, 1, .soft, false, 0, 0, 0, 0, 0xffffffff, .none, 0, []⟩,  -- TWN_MIRROR_COUNTS
  ⟨0x1400040, 0, 1, 0, 1, .soft, false, 3, 0, 0xff, 0, 0, .none, 0, [(0, 8, [(1, 255)])]⟩,  -- TWN_REF_CFG
  ⟨0x1400044, 0, 1, 0, 1, .soft, false, 0, 0, 0, 0, 0xff0000, .none, 0, []⟩,  -- TWN_REF_STATUS
  ⟨0x1400048, 0, 1, 0, 1, .soft, false, 0, 0, 0, 0x3f, 0, .none, 0, []⟩,  -- TWN_IRQ
  ⟨0x140004c, 0, 1, 0, 1, .soft, false, 0, 0, 0x3f, 0, 0, .none, 0, []⟩  -- TWN_IRQ_EN
]

/-- Registers of the MEM block. -/
def regsMem : List RegRow := [
  ⟨0x1500000, 0, 1, 0, 1, .soft, false, 7, 0, 7, 0, 0, .none, 0, []⟩,  -- MEM_CTL
  ⟨0x1500004, 0, 1, 0, 1, .soft, false, 0, 0, 0, 0, 0, .none, 0, []⟩,  -- MEM_STATUS
  ⟨0x1500008, 0, 1, 0, 1, .soft, false, 0x7d0, 0, 0xffff, 0, 0, .none, 0, [(0, 16, [(100, 60000)])]⟩,  -- MEM_SCRUB_CFG
  ⟨0x150000c, 0, 1, 0, 1, .soft, false, 0x3200fa, 0, 0xffffff, 0, 0, .none, 0, [(0, 16, [(10, 60000)])]⟩,  -- MEM_BIST_CFG
  ⟨0x1500010, 0, 1, 0, 1, .soft, false, 3, 0, 0xf, 0, 0, .none, 0, []⟩,  -- MEM_PITON_CFG
  ⟨0x1500014, 0, 1, 0, 1, .soft, false, 0, 0, 0, 0, 0xffffffff, .none, 0, []⟩,  -- MEM_CE_COUNT
  ⟨0x1500018, 0, 1, 0, 1, .soft, false, 0, 0, 0, 0, 0xffffffff, .none, 0, []⟩,  -- MEM_CHECKBIT
  ⟨0x150001c, 0, 1, 0, 1, .soft, false, 0, 0, 0, 0, 0xffffffff, .none, 0, []⟩,  -- MEM_UE_COUNT
  ⟨0x1500020, 0, 1, 0, 1, .soft, false, 0, 0, 0, 0, 0xffffffff, .none, 0, []⟩,  -- MEM_HEALED
  ⟨0x1500024, 0, 1, 0, 1, .soft, false, 0, 0, 0, 0, 0xffffffff, .none, 0, []⟩,  -- MEM_UE_FRAMES
  ⟨0x1500028, 0, 1, 0, 1, .soft, false, 0, 0, 0, 0, 0xffffffff, .none, 0, []⟩,  -- MEM_DRAM_ERR
  ⟨0x150002c, 0, 1, 0, 1, .soft, false, 0, 0, 0, 0, 0xffffffff, .none, 0, []⟩,  -- MEM_MERGE
  ⟨0x1500030, 0, 1, 0, 1, .soft, false, 0, 0, 0, 0, 0, .none, 0, []⟩,  -- MEM_SCRUB_STATUS
  ⟨0x1500034, 0, 1, 0, 1, .soft, false, 0, 0, 0, 0, 0xffffffff, .none, 0, []⟩,  -- MEM_BIST_COUNTS
  ⟨0x1500038, 0, 1, 0, 1, .soft, false, 0, 0, 0, 0, 0, .none, 0, []⟩,  -- MEM_BIST_CYCLES
  ⟨0x150003c, 0, 1, 0, 1, .soft, false, 0, 0, 0, 0, 0, .none, 0, []⟩,  -- MEM_BIST_RUN
  ⟨0x1500040, 0, 1, 0, 1, .hard, false, 0, 0, 0, 0, 0, .none, 0, []⟩,  -- MEM_PITON_STATUS
  ⟨0x1500044, 0, 1, 0, 1, .hard, false, 0, 0, 0, 0, 0xffffffff, .none, 0, []⟩,  -- MEM_PITON_COUNTS
  ⟨0x1500048, 0, 1, 0, 1, .hard, false, 0, 0, 0, 0, 0, .none, 0, []⟩,  -- MEM_PITON_ADD
  ⟨0x1500050, 0, 1, 0, 1, .soft, false, 0, 0, 0x7fff, 0, 0, .none, 0, [(0, 12, [(0, 2303)])]⟩,  -- MEM_INST_SEL
  ⟨0x1500054, 0, 1, 0, 1, .hard, false, 0, 0, 0, 0, 0, .none, 0, []⟩,  -- MEM_INST_STATUS
  ⟨0x1500058, 0, 1, 0, 1, .hard, false, 0, 0, 0, 0, 0, .none, 0, []⟩,  -- MEM_INST_PITON
  ⟨0x1500060, 0, 1, 0, 1, .soft, false, 0, 0, 0, 0, 0xffe00000, .none, 0, []⟩,  -- MEM_LOG_POP
  ⟨0x1500064, 0, 1, 0, 1, .soft, false, 0, 0, 0, 0, 0, .none, 0, []⟩,  -- MEM_LOG0
  ⟨0x1500068, 0, 1, 0, 1, .soft, false, 0, 0, 0, 0, 0, .none, 0, []⟩,  -- MEM_LOG1
  ⟨0x150006c, 0, 1, 0, 1, .soft, false, 0, 0, 0, 0, 0, .none, 0, []⟩,  -- MEM_LOG2
  ⟨0x1500080, 0, 1, 0, 1, .soft, false, 0, 0, 0, 0x7f, 0, .none, 0, []⟩,  -- MEM_IRQ
  ⟨0x1500084, 0, 1, 0, 1, .soft, false, 0, 0, 0x7f, 0, 0, .none, 0, []⟩  -- MEM_IRQ_EN
]

/-- Registers of the PWR block. -/
def regsPwr : List RegRow := [
  ⟨0x1600000, 0, 1, 0, 1, .soft, false, 0, 0, 0, 0, 0, .none, 0, []⟩,  -- PWR_STATUS
  ⟨0x1600004, 0, 1, 0, 1, .soft, false, 0, 0, 0, 0, 0, .lo, 4, []⟩,  -- PWR_UP_LO
  ⟨0x1600008, 0, 1, 0, 1, .soft, false, 0, 0, 0, 0, 0, .hi, 4, []⟩,  -- PWR_UP_HI
  ⟨0x160000c, 0, 1, 0, 1, .soft, false, 0, 0, 0, 0, 0, .lo, 4, []⟩,  -- PWR_HOLD_LO
  ⟨0x1600010, 0, 1, 0, 1, .soft, false, 0, 0, 0, 0, 0, .hi, 4, []⟩,  -- PWR_HOLD_HI
  ⟨0x1600014, 0, 1, 0, 1, .soft, false, 0x64, 0, 0xffff, 0, 0, .none, 0, []⟩,  -- PWR_LINGER
  ⟨0x1600018, 0, 1, 0, 1, .soft, false, 0x64, 0, 0xffff, 0, 0, .none, 0, []⟩,  -- PWR_ENTRY_LIMIT
  ⟨0x160001c, 0, 1, 0, 1, .soft, false, 0x3f00, 0, 0, 0, 0, .none, 0, []⟩,  -- PWR_REQ_RESULT
  ⟨0x1600020, 0, 1, 0, 1, .soft, false, 0, 0, 0xffffffff, 0, 0, .lo, 4, []⟩,  -- PWR_VOTE_HOST_LO
  ⟨0x1600024, 0, 1, 0, 1, .soft, false, 0, 0, 0x7ff, 0, 0, .hi, 4, []⟩,  -- PWR_VOTE_HOST_HI
  ⟨0x1600040, 8, 6, 0, 1, .soft, false, 0, 0, 0, 0, 0, .lo, 4, []⟩,  -- PWR_VOTE_LO_c
  ⟨0x1600044, 8, 6, 0, 1, .soft, false, 0, 0, 0, 0, 0, .hi, 4, []⟩,  -- PWR_VOTE_HI_c
  ⟨0x1600070, 0, 1, 0, 1, .soft, false, 0, 0, 0, 0, 0xffffffff, .none, 0, []⟩,  -- PWR_DOM_REFUSE
  ⟨0x1600074, 0, 1, 0, 1, .soft, false, 0, 0, 0, 0, 0xffffffff, .none, 0, []⟩,  -- PWR_WAKES
  ⟨0x1600078, 0, 1, 0, 1, .soft, false, 0, 0, 0, 0, 0xffffffff, .none, 0, []⟩,  -- PWR_HOST_TIMEOUTS
  ⟨0x160007c, 0, 1, 0, 1, .soft, false, 0, 0, 0, 0, 0xffffffff, .none, 0, []⟩,  -- PWR_ENTRY_DROPS
  ⟨0x1600080, 0, 1, 0, 1, .soft, false, 0x3f, 0, 0, 0, 0, .none, 0, []⟩,  -- PWR_LAST_WAKE
  ⟨0x1600084, 0, 1, 0, 1, .soft, false, 0, 0, 0, 0x1f, 0, .none, 0, []⟩,  -- PWR_IRQ
  ⟨0x1600088, 0, 1, 0, 1, .soft, false, 0, 0, 0x1f, 0, 0, .none, 0, []⟩  -- PWR_IRQ_EN
]

/-- The register descriptions of a block, by block number (Table 3-2). -/
def regTable : Nat → List RegRow
  | 0 => regsPlt
  | 1 => regsHif
  | 2 => regsImg
  | 3 => regsMod
  | 4 => regsLfe
  | 5 => regsLfr
  | 6 => regsAct
  | 7 => regsBel
  | 8 => regsTrb
  | 9 => regsPrs
  | 10 => regsThk
  | 11 => regsSch
  | 12 => regsTmb
  | 13 => regsEng
  | 14 => regsTsk
  | 15 => regsDma
  | 16 => regsCph
  | 17 => regsMac
  | 18 => regsLan
  | 19 => regsRop
  | 20 => regsTwn
  | 21 => regsMem
  | 22 => regsPwr
  | _ => []

/-- Whether a description covers a BAR0 address. -/
def RegRow.hit (r : RegRow) (a : Nat) : Bool :=
  if a < r.addr then false
  else
    let d := a - r.addr
    let i := if r.s1 = 0 then 0 else d / r.s1
    let e := if r.s1 = 0 then d else d % r.s1
    let j := if r.s2 = 0 then 0 else e / r.s2
    let f := if r.s2 = 0 then e else e % r.s2
    f == 0 && decide (i < r.n1) && decide (j < r.n2)

/-- The description of the register at a BAR0 address, none where no register stands (R55). -/
def regRow (a : Nat) : Option RegRow := (regTable (a / 2 ^ 20)).find? (·.hit a)

/-- Reset value of the register at a BAR0 address. -/
def regReset (a : Nat) : Word :=
  match regRow a with
  | some r => if r.fuse = 0 then BitVec.ofNat 32 r.reset
    else BitVec.ofNat 32 r.reset ||| (Config.fuse a &&& BitVec.ofNat 32 r.fuse)
  | none => 0

namespace R

def IMG_CMD : Nat := 0x200000
def IMG_STATUS : Nat := 0x200004
def IMG_STATUS_STATE : Fld := ⟨0x200004, 0, 4⟩
def IMG_STATUS_RESULT : Fld := ⟨0x200004, 8, 8⟩
def IMG_STATUS_PITCHES : Fld := ⟨0x200004, 16, 16⟩
def IMG_SRC_LO : Nat := 0x200008
def IMG_LEN : Nat := 0x200010
def IMG_DRAIN_LIMIT_LIMIT : Fld := ⟨0x200014, 0, 24⟩
def IMG_HOLD_CELLS_CELLS : Fld := ⟨0x200018, 0, 17⟩
def IMG_ACTIVE_SERIAL : Nat := 0x20001c
def IMG_PITCH_STATE : Nat := 0x200020
def IMG_EPOCH : Nat := 0x200024
def IMG_RUN_EPOCH : Nat := 0x200028
def IMG_RUN_EPOCH_EPOCH : Fld := ⟨0x200028, 0, 16⟩
def IMG_KEYS : Nat := 0x20002c
def IMG_KEYS_SIGNER : Fld := ⟨0x20002c, 8, 2⟩
def IMG_PITCH_STAMP (n : Nat) : Nat := 0x200040 + 4 * n
def IMG_DRAIN_DROPS : Nat := 0x200080
def IMG_FORCED_DROPS_PACKETS : Fld := ⟨0x200084, 0, 16⟩
def IMG_FORCED_DROPS_TASKS : Fld := ⟨0x200084, 16, 16⟩
def IMG_TASKS_DISCARDED : Nat := 0x200088
def IMG_LAST_DURATION : Nat := 0x20008c
def IMG_IRQ : Nat := 0x200090
def IMG_IRQ_DONE : Fld := ⟨0x200090, 0, 1⟩
def IMG_IRQ_FAIL : Fld := ⟨0x200090, 1, 1⟩
def IMG_IRQ_FAULT : Fld := ⟨0x200090, 2, 1⟩
def IMG_IRQ_EN : Nat := 0x200094
def HIF_CTL : Nat := 0x100000
def HIF_CTL_H2D_EN : Fld := ⟨0x100000, 0, 1⟩
def HIF_CTL_D2H_EN : Fld := ⟨0x100000, 1, 1⟩
def HIF_CTL_IB_EN : Fld := ⟨0x100000, 2, 1⟩
def HIF_CTL_RM_EN : Fld := ⟨0x100000, 3, 1⟩
def HIF_CTL_IB_WRITE : Fld := ⟨0x100000, 4, 1⟩
def HIF_CTL_RM_WRITE : Fld := ⟨0x100000, 5, 1⟩
def HIF_STATUS : Nat := 0x100004
def HIF_H2D_BASE_LO : Nat := 0x100008
def HIF_H2D_BASE_HI : Nat := 0x10000c
def HIF_D2H_BASE_LO : Nat := 0x100028
def HIF_D2H_BASE_HI : Nat := 0x10002c
def HIF_SNAP_BASE_LO : Nat := 0x10007c
def HIF_H2D_SIZE : Nat := 0x100010
def HIF_H2D_SIZE_LOG2 : Fld := ⟨0x100010, 0, 4⟩
def HIF_D2H_SIZE : Nat := 0x100030
def HIF_D2H_SIZE_LOG2 : Fld := ⟨0x100030, 0, 4⟩
def HIF_H2D_TAIL : Nat := 0x100014
def HIF_H2D_TAIL_INDEX : Fld := ⟨0x100014, 0, 12⟩
def HIF_H2D_HEAD_INDEX : Fld := ⟨0x100018, 0, 12⟩
def HIF_D2H_TAIL : Nat := 0x100034
def HIF_D2H_TAIL_INDEX : Fld := ⟨0x100034, 0, 12⟩
def HIF_D2H_HEAD : Nat := 0x100038
def HIF_D2H_HEAD_INDEX : Fld := ⟨0x100038, 0, 12⟩
def HIF_H2D_LAST_SEQ : Nat := 0x10001c
def HIF_H2D_LAST_SEQ_IB : Nat := 0x100020
def HIF_H2D_LAST_SEQ_RM : Nat := 0x100024
def HIF_D2H_NEXT_SEQ : Nat := 0x10003c
def HIF_JOURNAL_OLDEST : Nat := 0x100040
def HIF_D2H_COAL_COUNT : Fld := ⟨0x100044, 0, 8⟩
def HIF_D2H_COAL_TIME : Fld := ⟨0x100044, 8, 16⟩
def HIF_BOOT_COUNT : Nat := 0x100048
def HIF_IB_CFG_PORTS : Fld := ⟨0x10004c, 0, 8⟩
def HIF_IB_CFG_VLAN : Fld := ⟨0x10004c, 8, 12⟩
def HIF_IB_MAC_LO : Nat := 0x100050
def HIF_IB_PEER_LO : Nat := 0x100058
def HIF_IB_PEER_HI_MAC : Fld := ⟨0x10005c, 0, 16⟩
def HIF_IB_PEER_HI_PORT : Fld := ⟨0x10005c, 16, 3⟩
def HIF_IB_PEER_HI_VLAN : Fld := ⟨0x10005c, 19, 12⟩
def HIF_IB_PEER_HI_VALID : Fld := ⟨0x10005c, 31, 1⟩
def HIF_ERR : Nat := 0x100060
def HIF_ERR_HEAD_RANGE : Fld := ⟨0x100060, 0, 1⟩
def HIF_ERR_TAIL_RANGE : Fld := ⟨0x100060, 1, 1⟩
def HIF_ERR_H2D_FETCH : Fld := ⟨0x100060, 2, 1⟩
def HIF_ERR_D2H_WRITE : Fld := ⟨0x100060, 3, 1⟩
def HIF_ERR_UNMAPPED : Fld := ⟨0x100060, 4, 1⟩
def HIF_ERR_WIDTH : Fld := ⟨0x100060, 5, 1⟩
def HIF_ERR_SNAP_WRITE : Fld := ⟨0x100060, 6, 1⟩
def HIF_ERR_EN : Nat := 0x100064
def HIF_IB_AUTH_FAIL : Nat := 0x100068
def HIF_SKIP_RING : Nat := 0x10006c
def HIF_SKIP_PATHS_IB : Fld := ⟨0x100070, 0, 16⟩
def HIF_SKIP_PATHS_RM : Fld := ⟨0x100070, 16, 16⟩
def HIF_RM_DROPPED : Nat := 0x100074
def HIF_MGMT_KEY_SLOT : Fld := ⟨0x100078, 0, 12⟩
def MOD_STATUS : Nat := 0x300000
def MOD_REQ : Nat := 0x300004
def MOD_REQ_RESULT_REQ : Fld := ⟨0x300008, 0, 4⟩
def MOD_REQ_RESULT_RESULT : Fld := ⟨0x300008, 4, 4⟩
def MOD_ACQ_LIMIT : Nat := 0x30000c
def MOD_ACQ_LIMIT_MS : Fld := ⟨0x30000c, 0, 16⟩
def MOD_WAKE_EN_BELAY : Fld := ⟨0x300010, 0, 1⟩
def MOD_WAKE_EN_HOST : Fld := ⟨0x300010, 1, 1⟩
def MOD_WAKE_EN_GPIO : Fld := ⟨0x300010, 2, 8⟩
def MOD_WAKE_EN_EDGE : Fld := ⟨0x300010, 10, 8⟩
def MOD_WAKE_CAUSE_BELAY : Fld := ⟨0x300014, 0, 1⟩
def MOD_WAKE_CAUSE_HOST : Fld := ⟨0x300014, 1, 1⟩
def MOD_WAKE_CAUSE_GPIO : Fld := ⟨0x300014, 2, 8⟩
def MOD_PACE_TARGET_TARGET : Fld := ⟨0x300018, 0, 16⟩
def MOD_PACE_STATUS_MEASURED : Fld := ⟨0x30001c, 0, 16⟩
def MOD_PACE_STATUS_SETTING : Fld := ⟨0x30001c, 16, 10⟩
def MOD_PACE_STATUS_SAT_HIGH : Fld := ⟨0x30001c, 26, 1⟩
def MOD_PACE_STATUS_SAT_LOW : Fld := ⟨0x30001c, 27, 1⟩
def MOD_MODE_TIME : Nat := 0x300020
def MOD_TRANSITIONS : Nat := 0x300024
def MOD_IRQ : Nat := 0x300028
def MOD_IRQ_MODE_CHANGE : Fld := ⟨0x300028, 0, 1⟩
def MOD_IRQ_REQ_DONE : Fld := ⟨0x300028, 1, 1⟩
def MOD_IRQ_PACE_SAT : Fld := ⟨0x300028, 2, 1⟩
def MOD_IRQ_WAKE : Fld := ⟨0x300028, 3, 1⟩
def MOD_IRQ_EN : Nat := 0x30002c
def PLT_ID_STEPPING : Fld := ⟨0, 16, 8⟩
def PLT_ID_CODE : Fld := ⟨0, 24, 1⟩
def PLT_SERIAL_LO : Nat := 4
def PLT_RESET : Nat := 0xc
def PLT_RESET_CAUSE : Nat := 0x10
def PLT_RESET_CAUSE_RAIL : Fld := ⟨0x10, 8, 3⟩
def PLT_WDOG_CFG : Nat := 0x14
def PLT_WDOG_CFG_HOST_TIMEOUT : Fld := ⟨0x14, 0, 14⟩
def PLT_WDOG_KICK : Nat := 0x18
def PLT_WDOG_STATUS : Nat := 0x1c
def PLT_WDOG_STATUS_EXPECT : Fld := ⟨0x1c, 14, 1⟩
def PLT_WDOG_STATUS_BAD : Fld := ⟨0x1c, 16, 8⟩
def PLT_SUPPLY : Nat := 0x20
def PLT_SUPPLY_AC_OK : Fld := ⟨0x20, 0, 1⟩
def PLT_SUPPLY_RAIL_OK : Fld := ⟨0x20, 1, 5⟩
def PLT_CORE_MV : Nat := 0x24
def PLT_TEMP : Nat := 0x28
def PLT_IRQ : Nat := 0x2c
def PLT_IRQ_AC_FAIL : Fld := ⟨0x2c, 0, 1⟩
def PLT_IRQ_AC_RESTORED : Fld := ⟨0x2c, 1, 1⟩
def PLT_IRQ_WDOG_WARN : Fld := ⟨0x2c, 2, 1⟩
def PLT_IRQ_EN : Nat := 0x30
def LFE_SEL : Nat := 0x400000
def LFE_SEL_POLICY : Fld := ⟨0x400000, 0, 2⟩
def LFE_SEL_HOLDOFF : Fld := ⟨0x400000, 16, 12⟩
def LFE_STATUS : Nat := 0x400004
def LFE_STATUS_SOURCE : Fld := ⟨0x400004, 0, 2⟩
def LFE_STATUS_SWITCHING : Fld := ⟨0x400004, 2, 1⟩
def LFE_STATUS_HOLD : Fld := ⟨0x400004, 3, 1⟩
def LFE_STATUS_ENABLED : Fld := ⟨0x400004, 4, 2⟩
def LFE_SWITCHES_AUTO : Fld := ⟨0x400008, 0, 16⟩
def LFE_SWITCHES_HOST : Fld := ⟨0x400008, 16, 16⟩
def LFE_IRQ : Nat := 0x40000c
def LFE_IRQ_SWITCHED : Fld := ⟨0x40000c, 0, 1⟩
def LFE_IRQ_SEL_REFUSED : Fld := ⟨0x40000c, 1, 1⟩
def LFE_IRQ_PORT_A : Fld := ⟨0x40000c, 8, 7⟩
def LFE_IRQ_PORT_B : Fld := ⟨0x40000c, 16, 7⟩
def LFE_IRQ_EN : Nat := 0x400010
def LFE_x_CTL (n : Nat) : Nat := 0x400100 + 0x100 * n
def LFE_x_CTL_FREEZE (n : Nat) : Fld := ⟨0x400100 + 0x100 * n, 0, 1⟩
def LFE_x_CTL_TX_INHIBIT (n : Nat) : Fld := ⟨0x400100 + 0x100 * n, 1, 1⟩
def LFE_x_CTL_WARM_TEC (n : Nat) : Fld := ⟨0x400100 + 0x100 * n, 2, 1⟩
def LFE_x_CTL_ROGUE_CLR (n : Nat) : Fld := ⟨0x400100 + 0x100 * n, 3, 1⟩
def LFE_x_CTL_CAL_START (n : Nat) : Fld := ⟨0x400100 + 0x100 * n, 4, 1⟩
def LFE_x_STATUS (n : Nat) : Nat := 0x400104 + 0x100 * n
def LFE_x_STATUS_ROLE (n : Nat) : Fld := ⟨0x400104 + 0x100 * n, 0, 2⟩
def LFE_x_STATUS_READY (n : Nat) : Fld := ⟨0x400104 + 0x100 * n, 2, 1⟩
def LFE_x_STATUS_LOS (n : Nat) : Fld := ⟨0x400104 + 0x100 * n, 3, 1⟩
def LFE_x_STATUS_LOL (n : Nat) : Fld := ⟨0x400104 + 0x100 * n, 4, 1⟩
def LFE_x_STATUS_ADAPTED (n : Nat) : Fld := ⟨0x400104 + 0x100 * n, 5, 1⟩
def LFE_x_STATUS_OVERLOAD (n : Nat) : Fld := ⟨0x400104 + 0x100 * n, 6, 1⟩
def LFE_x_STATUS_TEC_LOCK (n : Nat) : Fld := ⟨0x400104 + 0x100 * n, 7, 1⟩
def LFE_x_STATUS_TEC_FAULT (n : Nat) : Fld := ⟨0x400104 + 0x100 * n, 8, 1⟩
def LFE_x_STATUS_ROGUE (n : Nat) : Fld := ⟨0x400104 + 0x100 * n, 9, 1⟩
def LFE_x_STATUS_TX_FAIL (n : Nat) : Fld := ⟨0x400104 + 0x100 * n, 10, 1⟩
def LFE_x_STATUS_CAL_BUSY (n : Nat) : Fld := ⟨0x400104 + 0x100 * n, 11, 1⟩
def LFE_x_STATUS_PRBS_LOCK (n : Nat) : Fld := ⟨0x400104 + 0x100 * n, 12, 1⟩
def LFE_x_RX_POWER_DBM (n : Nat) : Fld := ⟨0x400108 + 0x100 * n, 0, 16⟩
def LFE_x_TX_POWER_TARGET (n : Nat) : Fld := ⟨0x40010c + 0x100 * n, 0, 16⟩
def LFE_x_TX_POWER_MEASURED (n : Nat) : Fld := ⟨0x40010c + 0x100 * n, 16, 16⟩
def LFE_x_LASER (n : Nat) : Nat := 0x400110 + 0x100 * n
def LFE_x_LASER_BIAS (n : Nat) : Fld := ⟨0x400110 + 0x100 * n, 0, 16⟩
def LFE_x_TEC (n : Nat) : Nat := 0x400114 + 0x100 * n
def LFE_x_TEC_TEMP (n : Nat) : Fld := ⟨0x400114 + 0x100 * n, 0, 16⟩
def LFE_x_LOS_CFG_LEVEL (n : Nat) : Fld := ⟨0x400118 + 0x100 * n, 0, 16⟩
def LFE_x_LOS_CFG_HYST (n : Nat) : Fld := ⟨0x400118 + 0x100 * n, 16, 8⟩
def LFE_x_EQ_CTLE (n : Nat) : Fld := ⟨0x40011c + 0x100 * n, 0, 4⟩
def LFE_x_EQ_TIA_GAIN (n : Nat) : Fld := ⟨0x40011c + 0x100 * n, 4, 2⟩
def LFE_x_DFE_TAPS (n : Nat) : Fld := ⟨0x400120 + 0x100 * n, 0, 30⟩
def LFE_x_EYE (n : Nat) : Nat := 0x400124 + 0x100 * n
def LFE_x_COUNTS_LOS (n : Nat) : Fld := ⟨0x400128 + 0x100 * n, 0, 16⟩
def LFE_x_COUNTS_LOL (n : Nat) : Fld := ⟨0x400128 + 0x100 * n, 16, 16⟩
def LFE_x_TX_COUNTS_INHIBITED (n : Nat) : Fld := ⟨0x40012c + 0x100 * n, 0, 16⟩
def LFE_x_TX_COUNTS_ROGUE (n : Nat) : Fld := ⟨0x40012c + 0x100 * n, 16, 16⟩
def LFE_x_TEST (n : Nat) : Nat := 0x400130 + 0x100 * n
def LFE_x_TEST_LOOP (n : Nat) : Fld := ⟨0x400130 + 0x100 * n, 0, 1⟩
def LFE_x_TEST_PRBS_CHK (n : Nat) : Fld := ⟨0x400130 + 0x100 * n, 1, 1⟩
def LFE_x_PRBS_ERR (n : Nat) : Nat := 0x400134 + 0x100 * n
def LFR_CFG_PSYNC_TOL : Fld := ⟨0x500000, 0, 3⟩
def LFR_CFG_MAX_ITER : Fld := ⟨0x500000, 8, 4⟩
def LFR_DS_CFG : Nat := 0x500004
def LFR_DS_CFG_BER_M : Fld := ⟨0x500004, 0, 4⟩
def LFR_DS_CFG_BER_E : Fld := ⟨0x500004, 4, 4⟩
def LFR_DS_CFG_UNC_TH : Fld := ⟨0x500004, 8, 16⟩
def LFR_US_STATUS_PRE_LEN : Fld := ⟨0x500008, 0, 8⟩
def LFR_US_STATUS_PRE_PAT : Fld := ⟨0x500008, 8, 2⟩
def LFR_US_STATUS_GRANTS : Fld := ⟨0x500008, 10, 7⟩
def LFR_US_COUNTS_GRANT_BAD : Fld := ⟨0x50000c, 0, 16⟩
def LFR_US_COUNTS_GRANT_EXCESS : Fld := ⟨0x50000c, 16, 8⟩
def LFR_US_COUNTS_UNUSED : Fld := ⟨0x50000c, 24, 8⟩
def LFR_BURSTS : Nat := 0x500010
def LFR_IRQ : Nat := 0x500014
def LFR_IRQ_PORT_A : Fld := ⟨0x500014, 0, 8⟩
def LFR_IRQ_PORT_B : Fld := ⟨0x500014, 8, 8⟩
def LFR_IRQ_EN : Nat := 0x500018
def LFR_FLOW_MAP (n : Nat) : Nat := 0x501000 + 4 * n
def LFR_x_STATUS (n : Nat) : Nat := 0x500100 + 0x100 * n
def LFR_x_STATUS_FA (n : Nat) : Fld := ⟨0x500100 + 0x100 * n, 0, 2⟩
def LFR_x_STATUS_CANDS (n : Nat) : Fld := ⟨0x500100 + 0x100 * n, 2, 3⟩
def LFR_x_STATUS_MF_SYNC (n : Nat) : Fld := ⟨0x500100 + 0x100 * n, 5, 1⟩
def LFR_x_STATUS_MF_INDEX (n : Nat) : Fld := ⟨0x500100 + 0x100 * n, 6, 4⟩
def LFR_x_STATUS_DS (n : Nat) : Fld := ⟨0x500100 + 0x100 * n, 10, 1⟩
def LFR_x_STATUS_UNC (n : Nat) : Fld := ⟨0x500100 + 0x100 * n, 11, 1⟩
def LFR_x_STATUS_MISSES (n : Nat) : Fld := ⟨0x500100 + 0x100 * n, 12, 2⟩
def LFR_x_SF_LO (n : Nat) : Nat := 0x500104 + 0x100 * n
def LFR_x_WIN_CORR (n : Nat) : Nat := 0x50010c + 0x100 * n
def LFR_x_WIN_UNC_CODEWORDS (n : Nat) : Fld := ⟨0x500110 + 0x100 * n, 0, 23⟩
def LFR_x_UNC_TOTAL (n : Nat) : Nat := 0x500114 + 0x100 * n
def LFR_x_ALIGN_COUNTS_PSYNC_MISS (n : Nat) : Fld := ⟨0x500118 + 0x100 * n, 0, 16⟩
def LFR_x_ALIGN_COUNTS_SYNC_LOSS (n : Nat) : Fld := ⟨0x500118 + 0x100 * n, 16, 8⟩
def LFR_x_ALIGN_COUNTS_LOOKALIKE (n : Nat) : Fld := ⟨0x500118 + 0x100 * n, 24, 8⟩
def LFR_x_HEAD_COUNTS_CORRECTED (n : Nat) : Fld := ⟨0x50011c + 0x100 * n, 0, 16⟩
def LFR_x_HEAD_COUNTS_UNCORRECTABLE (n : Nat) : Fld := ⟨0x50011c + 0x100 * n, 16, 8⟩
def LFR_x_HEAD_COUNTS_INVALID (n : Nat) : Fld := ⟨0x50011c + 0x100 * n, 24, 8⟩
def LFR_x_MF_COUNTS_MF_LOSS (n : Nat) : Fld := ⟨0x500120 + 0x100 * n, 0, 16⟩
def LFR_x_MF_COUNTS_SF_JUMP (n : Nat) : Fld := ⟨0x500120 + 0x100 * n, 16, 16⟩
def LFR_x_ENCAP_COUNTS_HEC_FAIL (n : Nat) : Fld := ⟨0x500124 + 0x100 * n, 0, 12⟩
def LFR_x_ENCAP_COUNTS_FRAG_LOST (n : Nat) : Fld := ⟨0x500124 + 0x100 * n, 12, 10⟩
def LFR_x_ENCAP_COUNTS_DISCARDED (n : Nat) : Fld := ⟨0x500124 + 0x100 * n, 22, 10⟩
def ACT_STATUS : Nat := 0x600000
def ACT_STATUS_HINT : Fld := ⟨0x600000, 3, 1⟩
def ACT_STATUS_TID : Fld := ⟨0x600000, 4, 10⟩
def ACT_STATUS_PENDING : Fld := ⟨0x600000, 14, 1⟩
def ACT_CTL : Nat := 0x600004
def ACT_CTL_SN_EN : Fld := ⟨0x600004, 0, 1⟩
def ACT_LMM_KEY_SLOT : Fld := ⟨0x600008, 0, 12⟩
def ACT_EQD : Nat := 0x60000c
def ACT_EQD_EQD : Fld := ⟨0x60000c, 0, 25⟩
def ACT_EQD_PEND_EQD : Fld := ⟨0x600010, 0, 25⟩
def ACT_EFFECT_SF_LO : Nat := 0x600014
def ACT_PRE_EQD_PRE_EQD : Fld := ⟨0x60001c, 0, 25⟩
def ACT_RAND_RAND_UNITS : Fld := ⟨0x600020, 0, 16⟩
def ACT_RAND_LAST_DRAW : Fld := ⟨0x600020, 16, 16⟩
def ACT_TREE : Nat := 0x600024
def ACT_TREE_TREE_ID : Fld := ⟨0x600024, 0, 16⟩
def ACT_TREE_BELAY_CODE : Fld := ⟨0x600024, 16, 16⟩
def ACT_TDM_BASE : Nat := 0x600028
def ACT_TDM_BASE_BASE : Fld := ⟨0x600028, 0, 16⟩
def ACT_TIMERS_RANGE_TIMEOUT : Fld := ⟨0x60002c, 0, 16⟩
def ACT_TIMERS_RESUME_WAIT : Fld := ⟨0x60002c, 16, 16⟩
def ACT_GRANT_COUNT_COUNT : Fld := ⟨0x600030, 0, 6⟩
def ACT_GRANT_ID_ID (n : Nat) : Fld := ⟨0x600040 + 4 * n, 0, 12⟩
def ACT_GRANT_ID_VALID (n : Nat) : Fld := ⟨0x600040 + 4 * n, 31, 1⟩
def ACT_LMM_RX : Nat := 0x6000c0
def ACT_LMM_ERR_MIC_FAIL : Fld := ⟨0x6000c4, 0, 8⟩
def ACT_LMM_ERR_KEY_ABSENT : Fld := ⟨0x6000c4, 8, 8⟩
def ACT_LMM_ERR_UNKNOWN : Fld := ⟨0x6000c4, 16, 8⟩
def ACT_LMM_ERR_DUPLICATE : Fld := ⟨0x6000c4, 24, 8⟩
def ACT_LMM_TX : Nat := 0x6000c8
def ACT_LMM_DROP_ACK_DROP : Fld := ⟨0x6000cc, 0, 16⟩
def ACT_LMM_DROP_UNC : Fld := ⟨0x6000cc, 16, 16⟩
def ACT_ACT_COUNTS_SN_SENT : Fld := ⟨0x6000d0, 0, 8⟩
def ACT_ACT_COUNTS_QW_SHORT : Fld := ⟨0x6000d0, 8, 8⟩
def ACT_ACT_COUNTS_RANGE_TIMEOUTS : Fld := ⟨0x6000d0, 16, 8⟩
def ACT_ACT_COUNTS_TREE_CHANGE : Fld := ⟨0x6000d0, 24, 8⟩
def ACT_RESUME_COUNTS_RESUMED : Fld := ⟨0x6000d4, 0, 16⟩
def ACT_RESUME_COUNTS_REACQUIRED : Fld := ⟨0x6000d4, 16, 16⟩
def ACT_EQD_COUNTS_UPDATES : Fld := ⟨0x6000d8, 0, 16⟩
def ACT_EQD_COUNTS_REFUSED : Fld := ⟨0x6000d8, 16, 8⟩
def ACT_EQD_COUNTS_REPLACED : Fld := ⟨0x6000d8, 24, 8⟩
def ACT_IRQ : Nat := 0x6000dc
def ACT_IRQ_REGISTERED : Fld := ⟨0x6000dc, 0, 1⟩
def ACT_IRQ_DEREGISTERED : Fld := ⟨0x6000dc, 1, 1⟩
def ACT_IRQ_RESUMED : Fld := ⟨0x6000dc, 2, 1⟩
def ACT_IRQ_REACQUIRED : Fld := ⟨0x6000dc, 3, 1⟩
def ACT_IRQ_EQD_APPLIED : Fld := ⟨0x6000dc, 4, 1⟩
def ACT_IRQ_MIC_FAIL : Fld := ⟨0x6000dc, 5, 1⟩
def ACT_IRQ_EN : Nat := 0x6000e0
def ACT_DEREG_REASON : Fld := ⟨0x6000e4, 0, 8⟩
def ACT_DEREG_CAUSE : Fld := ⟨0x6000e4, 8, 3⟩
def BEL_CTL : Nat := 0x700000
def BEL_CTL_TX_EN : Fld := ⟨0x700000, 0, 1⟩
def BEL_CTL_KA_EN : Fld := ⟨0x700000, 1, 1⟩
def BEL_CFG_CAPTURE_TH : Fld := ⟨0x700004, 0, 6⟩
def BEL_CFG_ACQ_TH : Fld := ⟨0x700004, 8, 6⟩
def BEL_CFG_SYNC_TOL : Fld := ⟨0x700004, 16, 3⟩
def BEL_BEACON_LOSS_MS : Fld := ⟨0x700008, 0, 16⟩
def BEL_TX_STATUS : Nat := 0x70000c
def BEL_TX_COUNTS_SENT : Fld := ⟨0x700010, 0, 12⟩
def BEL_TX_COUNTS_WIN_SKIPPED : Fld := ⟨0x700010, 12, 5⟩
def BEL_TX_COUNTS_WIN_SHORT : Fld := ⟨0x700010, 17, 5⟩
def BEL_TX_COUNTS_REPLACED : Fld := ⟨0x700010, 22, 5⟩
def BEL_TX_COUNTS_CODE_BAD : Fld := ⟨0x700010, 27, 5⟩
def BEL_IRQ : Nat := 0x700014
def BEL_IRQ_PORT_A : Fld := ⟨0x700014, 0, 6⟩
def BEL_IRQ_PORT_B : Fld := ⟨0x700014, 8, 6⟩
def BEL_IRQ_STATUS_SENT : Fld := ⟨0x700014, 16, 1⟩
def BEL_IRQ_EN : Nat := 0x700018
def BEL_x_DS_CODE (n : Nat) : Nat := 0x700100 + 0x100 * n
def BEL_x_DS_CODE_CODE (n : Nat) : Fld := ⟨0x700100 + 0x100 * n, 0, 11⟩
def BEL_x_STATUS (n : Nat) : Nat := 0x700104 + 0x100 * n
def BEL_x_STATUS_RX (n : Nat) : Fld := ⟨0x700104 + 0x100 * n, 0, 2⟩
def BEL_x_STATUS_CAND (n : Nat) : Fld := ⟨0x700104 + 0x100 * n, 2, 1⟩
def BEL_x_STATUS_BEACON_LOST (n : Nat) : Fld := ⟨0x700104 + 0x100 * n, 3, 1⟩
def BEL_x_STATUS_MERGE_PEND (n : Nat) : Fld := ⟨0x700104 + 0x100 * n, 4, 1⟩
def BEL_x_STATUS_PHASE (n : Nat) : Fld := ⟨0x700104 + 0x100 * n, 16, 10⟩
def BEL_x_STRENGTH_LAST (n : Nat) : Fld := ⟨0x700108 + 0x100 * n, 0, 8⟩
def BEL_x_STRENGTH_TRACK (n : Nat) : Fld := ⟨0x700108 + 0x100 * n, 8, 8⟩
def BEL_x_STRENGTH_CAND (n : Nat) : Fld := ⟨0x700108 + 0x100 * n, 16, 8⟩
def BEL_x_RX_COUNTS_PACKETS (n : Nat) : Fld := ⟨0x70010c + 0x100 * n, 0, 16⟩
def BEL_x_RX_COUNTS_CRC_FAIL (n : Nat) : Fld := ⟨0x70010c + 0x100 * n, 16, 8⟩
def BEL_x_RX_COUNTS_BAD_HDR (n : Nat) : Fld := ⟨0x70010c + 0x100 * n, 24, 4⟩
def BEL_x_RX_COUNTS_BAD_TYPE (n : Nat) : Fld := ⟨0x70010c + 0x100 * n, 28, 4⟩
def BEL_x_ACQ_COUNTS_FALSE_ACQ (n : Nat) : Fld := ⟨0x700110 + 0x100 * n, 0, 16⟩
def BEL_x_ACQ_COUNTS_REACQ_SWITCH (n : Nat) : Fld := ⟨0x700110 + 0x100 * n, 16, 8⟩
def BEL_x_ACQ_COUNTS_CAPTURED (n : Nat) : Fld := ⟨0x700110 + 0x100 * n, 24, 4⟩
def BEL_x_ACQ_COUNTS_NOT_CAPTURED (n : Nat) : Fld := ⟨0x700110 + 0x100 * n, 28, 4⟩
def BEL_x_AUTH_COUNTS_MIC_FAIL (n : Nat) : Fld := ⟨0x700114 + 0x100 * n, 0, 16⟩
def BEL_x_AUTH_COUNTS_KEY_ABSENT (n : Nat) : Fld := ⟨0x700114 + 0x100 * n, 16, 16⟩
def BEL_x_BEACON (n : Nat) : Nat := 0x700118 + 0x100 * n
def BEL_x_BEACON_TREE_ID (n : Nat) : Fld := ⟨0x700118 + 0x100 * n, 0, 16⟩
def BEL_x_BEACON_SEQ (n : Nat) : Fld := ⟨0x700118 + 0x100 * n, 16, 16⟩
def BEL_x_BEACON_AGE (n : Nat) : Nat := 0x70011c + 0x100 * n
def BEL_x_BEACON_AGE_MAIN_ON (n : Nat) : Fld := ⟨0x70011c + 0x100 * n, 16, 1⟩
def BEL_x_BEACON_AGE_VALID (n : Nat) : Fld := ⟨0x70011c + 0x100 * n, 17, 1⟩
def BEL_x_TYPE_COUNTS_WAKE (n : Nat) : Fld := ⟨0x700120 + 0x100 * n, 0, 8⟩
def BEL_x_TYPE_COUNTS_RESCUE (n : Nat) : Fld := ⟨0x700120 + 0x100 * n, 8, 8⟩
def BEL_x_TYPE_COUNTS_MERGE (n : Nat) : Fld := ⟨0x700120 + 0x100 * n, 16, 8⟩
def BEL_x_TYPE_COUNTS_VERDICT (n : Nat) : Fld := ⟨0x700120 + 0x100 * n, 24, 8⟩
def TRB_ENABLE : Nat := 0x800000
def TRB_ENABLE_EN : Fld := ⟨0x800000, 0, 16⟩
def TRB_HOLD_LIMIT_MS : Fld := ⟨0x800004, 0, 16⟩
def TRB_DS_CFG_TH : Fld := ⟨0x800008, 0, 10⟩
def TRB_IRQ : Nat := 0x80000c
def TRB_IRQ_EN : Nat := 0x800010
def TRB_STATE_HOLD : Fld := ⟨0x800014, 0, 1⟩
def TRB_STATE_XCON : Fld := ⟨0x800014, 1, 1⟩
def TRB_US_COUNTS_MISSED : Fld := ⟨0x800018, 0, 16⟩
def TRB_US_COUNTS_DUP : Fld := ⟨0x800018, 16, 16⟩
def TRB_n_CFG (n : Nat) : Nat := 0x800100 + 0x40 * n
def TRB_n_CFG_FRAMING (n : Nat) : Fld := ⟨0x800100 + 0x40 * n, 0, 2⟩
def TRB_n_CFG_RAI_AUTO (n : Nat) : Fld := ⟨0x800100 + 0x40 * n, 2, 1⟩
def TRB_n_CFG_ERR_AIS (n : Nat) : Fld := ⟨0x800100 + 0x40 * n, 3, 1⟩
def TRB_n_CFG_XSRC (n : Nat) : Fld := ⟨0x800100 + 0x40 * n, 4, 5⟩
def TRB_n_CFG_LOOP (n : Nat) : Fld := ⟨0x800100 + 0x40 * n, 9, 2⟩
def TRB_n_STATUS (n : Nat) : Nat := 0x800104 + 0x40 * n
def TRB_n_STATUS_LOS (n : Nat) : Fld := ⟨0x800104 + 0x40 * n, 0, 1⟩
def TRB_n_STATUS_RAI_TX (n : Nat) : Fld := ⟨0x800104 + 0x40 * n, 6, 1⟩
def TRB_n_STATUS_OUT (n : Nat) : Fld := ⟨0x800104 + 0x40 * n, 8, 3⟩
def TRB_n_EVENTS (n : Nat) : Nat := 0x800108 + 0x40 * n
def TRB_n_EVENTS_CHANGE (n : Nat) : Fld := ⟨0x800108 + 0x40 * n, 0, 7⟩
def TRB_n_SLIPS_RX (n : Nat) : Fld := ⟨0x80010c + 0x40 * n, 0, 16⟩
def TRB_n_SLIPS_TX (n : Nat) : Fld := ⟨0x80010c + 0x40 * n, 16, 16⟩
def TRB_n_CRC_ERRORED (n : Nat) : Fld := ⟨0x800110 + 0x40 * n, 0, 16⟩
def TRB_n_CRC_EBIT (n : Nat) : Fld := ⟨0x800110 + 0x40 * n, 16, 16⟩
def TRB_n_WIN_COUNT (n : Nat) : Fld := ⟨0x800114 + 0x40 * n, 0, 10⟩
def TRB_n_DS_FRAMES_MISSING (n : Nat) : Fld := ⟨0x800118 + 0x40 * n, 0, 16⟩
def TRB_n_DS_FRAMES_ERRORED (n : Nat) : Fld := ⟨0x800118 + 0x40 * n, 16, 16⟩
def PRS_STATUS : Nat := 0x900000
def PRS_FRAMES_LINE : Nat := 0x900004
def PRS_FRAMES_USER : Nat := 0x900008
def PRS_RECIRC_SECOND : Fld := ⟨0x90000c, 0, 16⟩
def PRS_RECIRC_DROPPED : Fld := ⟨0x90000c, 16, 16⟩
def PRS_IRQ : Nat := 0x900010
def PRS_IRQ_MALFORMED : Fld := ⟨0x900010, 0, 1⟩
def PRS_IRQ_UNPARSED : Fld := ⟨0x900010, 1, 1⟩
def PRS_IRQ_RECIRC_DROP : Fld := ⟨0x900010, 2, 1⟩
def PRS_IRQ_EN : Nat := 0x900014
def PRS_SEL_OFF_SEL1 (n : Nat) : Fld := ⟨0x900020 + 4 * n, 0, 8⟩
def PRS_SEL_OFF_SEL1_ON (n : Nat) : Fld := ⟨0x900020 + 4 * n, 8, 1⟩
def PRS_SEL_OFF_SEL2 (n : Nat) : Fld := ⟨0x900020 + 4 * n, 16, 8⟩
def PRS_SEL_OFF_SEL2_ON (n : Nat) : Fld := ⟨0x900020 + 4 * n, 24, 1⟩
def PRS_UNPARSED_ACTc_w (n m : Nat) : Nat := 0x900100 + 0x20 * n + 4 * m
def PRS_MALFORMED_ACTp_w (n m : Nat) : Nat := 0x900200 + 0x20 * n + 4 * m
def PRS_MALFORMED_CNTp (n : Nat) : Nat := 0x900a00 + 4 * n
def PRS_UNPARSED_CNTc (n : Nat) : Nat := 0x900b00 + 4 * n
def PRS_PROFILE_HITSp (n : Nat) : Nat := 0x900c00 + 4 * n
def THK_STATUS_WALK_PASS : Fld := ⟨0xa00000, 2, 1⟩
def THK_VERSION : Nat := 0xa00004
def THK_VERSION_LIVE : Fld := ⟨0xa00004, 0, 16⟩
def THK_VERSION_PREV : Fld := ⟨0xa00004, 16, 16⟩
def THK_HOLDERS : Nat := 0xa00008
def THK_PENDING : Nat := 0xa0000c
def THK_AGE_LIMIT_US : Fld := ⟨0xa00010, 0, 24⟩
def THK_WALK_W : Fld := ⟨0xa00014, 0, 16⟩
def THK_WALK_PASSES : Fld := ⟨0xa00014, 16, 16⟩
def THK_OCCUPANCY : Nat := 0xa00018
def THK_OP : Nat := 0xa00020
def THK_OP_RESULT_RESULT : Fld := ⟨0xa00024, 0, 4⟩
def THK_OP_RESULT_DONE : Fld := ⟨0xa00024, 4, 1⟩
def THK_OP_RESULT_MOVES : Fld := ⟨0xa00024, 16, 16⟩
def THK_COMMIT : Nat := 0xa00040
def THK_COMMIT_STATUS_HELD : Fld := ⟨0xa00044, 0, 1⟩
def THK_COMMIT_STATUS_REASON : Fld := ⟨0xa00044, 1, 3⟩
def THK_KEY (n : Nat) : Nat := 0xa00080 + 4 * n
def THK_MASK (n : Nat) : Nat := 0xa000c0 + 4 * n
def THK_ACT (n : Nat) : Nat := 0xa00100 + 4 * n
def THK_HEDGE_CFG : Nat := 0xa00120
def THK_BATCH_LO : Nat := 0xa00140
def THK_BATCH_CMD : Nat := 0xa00148
def THK_BATCH_STATUS_DONE : Fld := ⟨0xa0014c, 0, 20⟩
def THK_BATCH_STATUS_RESULT : Fld := ⟨0xa0014c, 20, 4⟩
def THK_LOOKUPS : Nat := 0xa00180
def THK_HITS : Nat := 0xa00184
def THK_HEDGE_HITS : Nat := 0xa00188
def THK_DEFAULTS : Nat := 0xa0018c
def THK_CACHE_MISSES : Nat := 0xa00190
def THK_MISS_SPILL : Nat := 0xa00194
def THK_DROPS : Nat := 0xa00198
def THK_INSERT_FAIL : Nat := 0xa0019c
def THK_AGED_AGED : Fld := ⟨0xa001a0, 0, 16⟩
def THK_AGED_REEVAL : Fld := ⟨0xa001a0, 16, 16⟩
def THK_COMMITS_COMMITS : Fld := ⟨0xa001a4, 0, 16⟩
def THK_COMMITS_BUSY : Fld := ⟨0xa001a4, 16, 16⟩
def THK_MISSQ : Nat := 0xa001a8
def THK_MISSQ_PEAK : Fld := ⟨0xa001a8, 16, 13⟩
def THK_IRQ : Nat := 0xa001b0
def THK_IRQ_COMMITTED : Fld := ⟨0xa001b0, 0, 1⟩
def THK_IRQ_MISS_SPILL : Fld := ⟨0xa001b0, 4, 1⟩
def THK_IRQ_EN : Nat := 0xa001b4
def THK_TMPLn_CFG (n : Nat) : Nat := 0xa00400 + 8 * n
def THK_TMPLn_CFG_KLEN (n : Nat) : Fld := ⟨0xa00400 + 8 * n, 0, 6⟩
def THK_TMPLn_CFG_HEDGE_EN (n : Nat) : Fld := ⟨0xa00400 + 8 * n, 6, 1⟩
def THK_TMPLn_CFG_DEFINED (n : Nat) : Fld := ⟨0xa00400 + 8 * n, 7, 1⟩
def THK_TMPLn_CFG_BASE (n : Nat) : Fld := ⟨0xa00400 + 8 * n, 8, 8⟩
def THK_TMPLn_CFG_SIZE (n : Nat) : Fld := ⟨0xa00400 + 8 * n, 16, 9⟩
def THK_TMPLn_OCC (n : Nat) : Nat := 0xa00404 + 8 * n
def THK_TMPLn_DEFAULT_w (n m : Nat) : Nat := 0xa00800 + 0x40 * n + 4 * m
def THK_TMPLn_SPILL_w (n m : Nat) : Nat := 0xa00820 + 0x40 * n + 4 * m
def SCH_STATUS : Nat := 0xb00000
def SCH_STATUS_SPILLING : Fld := ⟨0xb00000, 0, 1⟩
def SCH_FRONT_USED : Nat := 0xb00004
def SCH_DEEP_USED : Nat := 0xb00008
def SCH_SHARED_FREE : Nat := 0xb0000c
def SCH_RESV_TOTAL_CELLS : Fld := ⟨0xb00010, 0, 24⟩
def SCH_SPILL_CFG_HI : Fld := ⟨0xb00014, 0, 17⟩
def SCH_SPILL_CFG_HEAD : Fld := ⟨0xb00014, 20, 8⟩
def SCH_ADMIN_LEAD_US : Fld := ⟨0xb00018, 0, 20⟩
def SCH_NO_EGRESS : Nat := 0xb0001c
def SCH_IRQ : Nat := 0xb00020
def SCH_IRQ_GCL_STARTED : Fld := ⟨0xb00020, 0, 1⟩
def SCH_IRQ_GCL_REFUSED : Fld := ⟨0xb00020, 1, 1⟩
def SCH_IRQ_LATE : Fld := ⟨0xb00020, 2, 1⟩
def SCH_IRQ_REFUSED : Fld := ⟨0xb00020, 3, 1⟩
def SCH_IRQ_RESV_REFUSED : Fld := ⟨0xb00020, 4, 1⟩
def SCH_IRQ_STUCK : Fld := ⟨0xb00020, 5, 1⟩
def SCH_IRQ_TIMED_DROP : Fld := ⟨0xb00020, 6, 1⟩
def SCH_IRQ_EN : Nat := 0xb00024
def SCH_CLASS_GUARD_CELLS (n : Nat) : Fld := ⟨0xb00040 + 4 * n, 0, 24⟩
def SCH_CLASS_REFUSED (n : Nat) : Nat := 0xb00060 + 4 * n
def SCH_POL_SEL_INDEX : Fld := ⟨0xb00080, 0, 16⟩
def SCH_POL_RATE : Nat := 0xb00084
def SCH_POL_CFG : Nat := 0xb00088
def SCH_POL_TOKENS : Nat := 0xb0008c
def SCH_POL_OUT : Nat := 0xb00090
def SCH_Qn_CFG (n : Nat) : Nat := 0xb10000 + 0x10 * n
def SCH_Qn_CFG_EGRESS (n : Nat) : Fld := ⟨0xb10000 + 0x10 * n, 0, 5⟩
def SCH_Qn_CFG_CLASS (n : Nat) : Fld := ⟨0xb10000 + 0x10 * n, 5, 3⟩
def SCH_Qn_CFG_ALPHA (n : Nat) : Fld := ⟨0xb10000 + 0x10 * n, 8, 4⟩
def SCH_Qn_CFG_WEIGHT (n : Nat) : Fld := ⟨0xb10000 + 0x10 * n, 16, 16⟩
def SCH_Qn_RESV (n : Nat) : Nat := 0xb10004 + 0x10 * n
def SCH_Qn_RESV_CELLS (n : Nat) : Fld := ⟨0xb10004 + 0x10 * n, 0, 24⟩
def SCH_Qn_DEPTH (n : Nat) : Nat := 0xb10008 + 0x10 * n
def SCH_Qn_REFUSED (n : Nat) : Nat := 0xb1000c + 0x10 * n
def SCH_SHn_RATE (n : Nat) : Nat := 0xb30000 + 0x10 * n
def SCH_PSp_RATE (n : Nat) : Nat := 0xb50000 + 0x10 * n
def SCH_SHn_CFG (n : Nat) : Nat := 0xb30004 + 0x10 * n
def SCH_SHn_CFG_BURST (n : Nat) : Fld := ⟨0xb30004 + 0x10 * n, 0, 24⟩
def SCH_SHn_CFG_EN (n : Nat) : Fld := ⟨0xb30004 + 0x10 * n, 31, 1⟩
def SCH_PSp_CFG (n : Nat) : Nat := 0xb50004 + 0x10 * n
def SCH_PSp_CFG_BURST (n : Nat) : Fld := ⟨0xb50004 + 0x10 * n, 0, 24⟩
def SCH_PSp_CFG_EN (n : Nat) : Fld := ⟨0xb50004 + 0x10 * n, 31, 1⟩
def SCH_SHn_TOKENS (n : Nat) : Nat := 0xb30008 + 0x10 * n
def SCH_PSp_TOKENS (n : Nat) : Nat := 0xb50008 + 0x10 * n
def SCH_PSp_ASSIGN_EGRESS (n : Nat) : Fld := ⟨0xb5000c + 0x10 * n, 0, 5⟩
def SCH_PSp_ASSIGN_CLASSES (n : Nat) : Fld := ⟨0xb5000c + 0x10 * n, 8, 8⟩
def SCH_Ee_CFG (n : Nat) : Nat := 0xb60000 + 0x100 * n
def SCH_Ee_CFG_GATED (n : Nat) : Fld := ⟨0xb60000 + 0x100 * n, 0, 8⟩
def SCH_Ee_CFG_OVERHEAD (n : Nat) : Fld := ⟨0xb60000 + 0x100 * n, 8, 8⟩
def SCH_Ee_CFG_LATE_MODE (n : Nat) : Fld := ⟨0xb60000 + 0x100 * n, 16, 1⟩
def SCH_Ee_CFG_DOWN_DROP (n : Nat) : Fld := ⟨0xb60000 + 0x100 * n, 17, 1⟩
def SCH_Ee_LEAD_NS (n : Nat) : Fld := ⟨0xb60004 + 0x100 * n, 0, 20⟩
def SCH_Ee_STATUS (n : Nat) : Nat := 0xb60008 + 0x100 * n
def SCH_Ee_STATUS_BANK (n : Nat) : Fld := ⟨0xb60008 + 0x100 * n, 1, 1⟩
def SCH_Ee_STATUS_PEND_COMMITTED (n : Nat) : Fld := ⟨0xb60008 + 0x100 * n, 2, 1⟩
def SCH_Ee_GATES_STATE (n : Nat) : Fld := ⟨0xb6000c + 0x100 * n, 0, 8⟩
def SCH_Ee_GATES_ENTRY (n : Nat) : Fld := ⟨0xb6000c + 0x100 * n, 8, 10⟩
def SCH_Ee_GCL_CTL (n : Nat) : Nat := 0xb60010 + 0x100 * n
def SCH_Ee_GCL_CTL_LEN (n : Nat) : Fld := ⟨0xb60010 + 0x100 * n, 0, 11⟩
def SCH_Ee_GCL_CYCLE (n : Nat) : Nat := 0xb60014 + 0x100 * n
def SCH_Ee_ACT_CYCLE (n : Nat) : Nat := 0xb60030 + 0x100 * n
def SCH_Ee_BASE_NS (n : Nat) : Nat := 0xb60018 + 0x100 * n
def SCH_Ee_BASE_SEC_LO (n : Nat) : Nat := 0xb6001c + 0x100 * n
def SCH_Ee_START_NS (n : Nat) : Nat := 0xb60024 + 0x100 * n
def SCH_Ee_START_SEC_LO (n : Nat) : Nat := 0xb60028 + 0x100 * n
def SCH_Ee_FRAMES (n : Nat) : Nat := 0xb60034 + 0x100 * n
def SCH_Ee_LATE_ARRIVAL (n : Nat) : Fld := ⟨0xb60038 + 0x100 * n, 0, 16⟩
def SCH_Ee_LATE_GATE (n : Nat) : Fld := ⟨0xb60038 + 0x100 * n, 16, 16⟩
def SCH_Ee_LATE2_OVERLAP (n : Nat) : Fld := ⟨0xb6003c + 0x100 * n, 0, 16⟩
def SCH_Ee_LATE2_DROPPED (n : Nat) : Fld := ⟨0xb6003c + 0x100 * n, 16, 16⟩
def SCH_Ee_TIMED_DROP_FULL (n : Nat) : Fld := ⟨0xb60040 + 0x100 * n, 0, 16⟩
def SCH_Ee_TIMED_DROP_RANGE (n : Nat) : Fld := ⟨0xb60040 + 0x100 * n, 16, 16⟩
def SCH_Ee_DOWN_DROPS (n : Nat) : Nat := 0xb60044 + 0x100 * n
def SCH_Ee_STUCK (n : Nat) : Nat := 0xb60048 + 0x100 * n
def SCH_Ee_BACKLOG (n : Nat) : Nat := 0xb6004c + 0x100 * n
def SCH_Ee_GCLi (n m : Nat) : Nat := 0xb80000 + 0x2000 * n + 4 * m
def SCH_Ee_ACTi (n m : Nat) : Nat := 0xb81000 + 0x2000 * n + 4 * m
def SCH_Ee_ACTi_INTERVAL (n m : Nat) : Fld := ⟨0xb81000 + 0x2000 * n + 4 * m, 0, 24⟩
def SCH_Ee_ACTi_GATES (n m : Nat) : Fld := ⟨0xb81000 + 0x2000 * n + 4 * m, 24, 8⟩
def TMB_STATUS : Nat := 0xc00000
def TMB_STATUS_HOLDOVER : Fld := ⟨0xc00000, 0, 1⟩
def TMB_STATUS_REF_PRESENT : Fld := ⟨0xc00000, 1, 1⟩
def TMB_TIME_FRAC : Nat := 0xc00004
def TMB_TIME_NS : Nat := 0xc00008
def TMB_TIME_SEC_LO : Nat := 0xc0000c
def TMB_TIME_SEC_HI : Nat := 0xc00010
def TMB_INCR_LO : Nat := 0xc00014
def TMB_INCR_HI : Nat := 0xc00018
def TMB_ADJ_NS : Nat := 0xc0001c
def TMB_ADJ_SEC_LO : Nat := 0xc00020
def TMB_ADJ_CTL : Nat := 0xc00028
def TMB_LINE_CFG : Nat := 0xc00030
def TMB_LINE_CFG_WIN : Fld := ⟨0xc00030, 0, 16⟩
def TMB_REF_CFG : Nat := 0xc00034
def TMB_REF_CFG_WIN : Fld := ⟨0xc00034, 0, 16⟩
def TMB_LINE_DEV : Nat := 0xc00038
def TMB_REF_DEV : Nat := 0xc0003c
def TMB_LINE_STATUS_TOD_VALID : Fld := ⟨0xc00040, 0, 1⟩
def TMB_LINE_STATUS_LINE_VALID : Fld := ⟨0xc00040, 1, 1⟩
def TMB_TOD_NS : Nat := 0xc00044
def TMB_LOC_NS : Nat := 0xc00050
def TMB_MEAS_DISCARDS_LINE : Fld := ⟨0xc0005c, 0, 12⟩
def TMB_MEAS_DISCARDS_REF : Fld := ⟨0xc0005c, 12, 12⟩
def TMB_MEAS_DISCARDS_PPS_OVERRUN : Fld := ⟨0xc0005c, 24, 8⟩
def TMB_PPS_CFG : Nat := 0xc00060
def TMB_PPS_CFG_WIDTH : Fld := ⟨0xc00060, 0, 20⟩
def TMB_PPS_CFG_IN_EN : Fld := ⟨0xc00060, 20, 1⟩
def TMB_PPS_OFFSET_NS : Fld := ⟨0xc00064, 0, 30⟩
def TMB_PPS_IN_NS : Nat := 0xc00068
def TMB_PPS_IN_SEC_LO : Nat := 0xc0006c
def TMB_PPS_IN_SEC_HI_TIME : Fld := ⟨0xc00070, 0, 16⟩
def TMB_PPS_IN_SEC_HI_NEW : Fld := ⟨0xc00070, 31, 1⟩
def TMB_En_DELAY_RX (n : Nat) : Fld := ⟨0xc00080 + 4 * n, 0, 16⟩
def TMB_En_DELAY_TX (n : Nat) : Fld := ⟨0xc00080 + 4 * n, 16, 16⟩
def TMB_TXS_LEVEL : Nat := 0xc000a0
def TMB_TXS_POP : Nat := 0xc000a4
def TMB_TXS_ID_ID : Fld := ⟨0xc000a8, 0, 16⟩
def TMB_TXS_ID_PORT : Fld := ⟨0xc000a8, 16, 3⟩
def TMB_TXS_ID_ONE_STEP : Fld := ⟨0xc000a8, 19, 1⟩
def TMB_TXS_ID_VALID : Fld := ⟨0xc000a8, 31, 1⟩
def TMB_TXS_NS : Nat := 0xc000ac
def TMB_TXS_SEC_LO : Nat := 0xc000b0
def TMB_TXS_USER : Nat := 0xc000b8
def TMB_TXS_COUNTS_OVERFLOW : Fld := ⟨0xc000bc, 0, 16⟩
def TMB_TXS_COUNTS_ONESTEP_BAD : Fld := ⟨0xc000bc, 16, 16⟩
def TMB_IRQ : Nat := 0xc000c0
def TMB_IRQ_STEPPED : Fld := ⟨0xc000c0, 0, 1⟩
def TMB_IRQ_HOLDOVER_CHG : Fld := ⟨0xc000c0, 1, 1⟩
def TMB_IRQ_LINE_MEAS : Fld := ⟨0xc000c0, 2, 1⟩
def TMB_IRQ_REF_MEAS : Fld := ⟨0xc000c0, 3, 1⟩
def TMB_IRQ_OVERFLOW : Fld := ⟨0xc000c0, 4, 1⟩
def TMB_IRQ_INCR_REFUSED : Fld := ⟨0xc000c0, 5, 1⟩
def TMB_IRQ_STEP_REFUSED : Fld := ⟨0xc000c0, 6, 1⟩
def TMB_IRQ_PPS_IN : Fld := ⟨0xc000c0, 7, 1⟩
def TMB_IRQ_EN : Nat := 0xc000c4
def ENG_STATUS : Nat := 0xd00000
def ENG_TRAP_PEND : Nat := 0xd00004
def ENG_IRQ : Nat := 0xd00008
def ENG_IRQ_TRAP : Fld := ⟨0xd00008, 0, 1⟩
def ENG_IRQ_MSG_DROP : Fld := ⟨0xd00008, 1, 1⟩
def ENG_IRQ_WIN_WRITE : Fld := ⟨0xd00008, 2, 1⟩
def ENG_IRQ_EN : Nat := 0xd0000c
def ENG_MSG_POOL : Nat := 0xd00010
def ENG_MSG_DROPS : Nat := 0xd00014
def ENG_WIN_WRITES : Nat := 0xd00018
def ENG_c_STATUS (n : Nat) : Nat := 0xd01000 + 0x100 * n
def ENG_c_QUOTA (n : Nat) : Nat := 0xd01004 + 0x100 * n
def ENG_c_QUOTA_VALUE (n : Nat) : Fld := ⟨0xd01004 + 0x100 * n, 0, 21⟩
def ENG_c_ALLOC_FAIL_QUOTA (n : Nat) : Fld := ⟨0xd01010 + 0x100 * n, 0, 16⟩
def ENG_c_ALLOC_FAIL_SPACE (n : Nat) : Fld := ⟨0xd01010 + 0x100 * n, 16, 8⟩
def ENG_c_ALLOC_FAIL_TABLE (n : Nat) : Fld := ⟨0xd01010 + 0x100 * n, 24, 8⟩
def ENG_c_PCACHE_FILLS (n : Nat) : Fld := ⟨0xd01014 + 0x100 * n, 0, 16⟩
def ENG_c_PCACHE_WRITEBACKS (n : Nat) : Fld := ⟨0xd01014 + 0x100 * n, 16, 16⟩
def ENG_c_RETIRED (n : Nat) : Nat := 0xd01018 + 0x100 * n
def ENG_c_PKT_SENT (n : Nat) : Nat := 0xd0101c + 0x100 * n
def ENG_c_PKT_LOST_DROPPED (n : Nat) : Fld := ⟨0xd01020 + 0x100 * n, 0, 16⟩
def ENG_c_PKT_LOST_ORPHAN (n : Nat) : Fld := ⟨0xd01020 + 0x100 * n, 16, 8⟩
def ENG_c_PKT_LOST_ARG (n : Nat) : Fld := ⟨0xd01020 + 0x100 * n, 24, 8⟩
def ENG_c_MSG_COUNTS_SENT (n : Nat) : Fld := ⟨0xd01024 + 0x100 * n, 0, 16⟩
def ENG_c_MSG_COUNTS_FULL (n : Nat) : Fld := ⟨0xd01024 + 0x100 * n, 16, 8⟩
def ENG_c_MSG_COUNTS_UNREACHABLE (n : Nat) : Fld := ⟨0xd01024 + 0x100 * n, 24, 8⟩
def ENG_c_TRAP_CAUSE (n : Nat) : Fld := ⟨0xd01028 + 0x100 * n, 0, 4⟩
def ENG_c_TRAP_SUB (n : Nat) : Fld := ⟨0xd01028 + 0x100 * n, 4, 4⟩
def ENG_c_TRAP_ENGINE (n : Nat) : Fld := ⟨0xd01028 + 0x100 * n, 8, 4⟩
def ENG_c_TRAP_VALID (n : Nat) : Fld := ⟨0xd01028 + 0x100 * n, 31, 1⟩
def ENG_c_TRAP_PC_PC (n : Nat) : Fld := ⟨0xd0102c + 0x100 * n, 0, 17⟩
def ENG_c_TRAP_TASK_TASK (n : Nat) : Fld := ⟨0xd01030 + 0x100 * n, 0, 16⟩
def ENG_c_TRAP_ADDR (n : Nat) : Nat := 0xd01034 + 0x100 * n
def ENG_c_TRAP_WORD (n : Nat) : Nat := 0xd01038 + 0x100 * n
def ENG_c_TRAP_COUNTS_TRAPS (n : Nat) : Fld := ⟨0xd0103c + 0x100 * n, 0, 16⟩
def ENG_c_TRAP_COUNTS_LOST (n : Nat) : Fld := ⟨0xd0103c + 0x100 * n, 16, 16⟩
def TSK_STATUS : Nat := 0xe00000
def TSK_SEL_TASK : Fld := ⟨0xe00008, 0, 16⟩
def TSK_CMD : Nat := 0xe0000c
def TSK_CMD_RESULT_RESULT : Fld := ⟨0xe00010, 0, 4⟩
def TSK_CMD_RESULT_DONE : Fld := ⟨0xe00010, 4, 1⟩
def TSK_D_CTL_PITCH : Fld := ⟨0xe00020, 0, 4⟩
def TSK_D_CTL_PRIO : Fld := ⟨0xe00020, 4, 4⟩
def TSK_D_CTL_KIND : Fld := ⟨0xe00020, 8, 1⟩
def TSK_D_CTL_COND : Fld := ⟨0xe00020, 9, 1⟩
def TSK_D_CTL_CMASK : Fld := ⟨0xe00020, 10, 4⟩
def TSK_D_CTL_STATE : Fld := ⟨0xe00020, 16, 3⟩
def TSK_D_CTL_CTX : Fld := ⟨0xe00020, 19, 1⟩
def TSK_D_CTL_SVALID : Fld := ⟨0xe00020, 20, 4⟩
def TSK_D_ENTRY_PC : Fld := ⟨0xe00024, 0, 17⟩
def TSK_D_MASK : Nat := 0xe00028
def TSK_D_FLAGS : Nat := 0xe0002c
def TSK_D_CLEAR : Nat := 0xe00030
def TSK_D_DEP_INIT : Fld := ⟨0xe00034, 0, 16⟩
def TSK_D_DEP_COUNT : Fld := ⟨0xe00034, 16, 16⟩
def TSK_D_SUCC01_SUCC_LOW : Fld := ⟨0xe00038, 0, 16⟩
def TSK_D_SUCC01_SUCC_HIGH : Fld := ⟨0xe00038, 16, 16⟩
def TSK_D_SUCC23_SUCC_LOW : Fld := ⟨0xe0003c, 0, 16⟩
def TSK_D_SUCC23_SUCC_HIGH : Fld := ⟨0xe0003c, 16, 16⟩
def TSK_D_POST_LIMIT : Fld := ⟨0xe00040, 0, 12⟩
def TSK_D_POST_POSTED : Fld := ⟨0xe00040, 16, 12⟩
def TSK_D_RUNS : Nat := 0xe00044
def TSK_TRACE_CFG : Nat := 0xe00080
def TSK_TRACE_CFG_EN : Fld := ⟨0xe00080, 0, 1⟩
def TSK_TRACE_CFG_FREEZE : Fld := ⟨0xe00080, 1, 1⟩
def TSK_TRACE_CFG_FROZEN : Fld := ⟨0xe00080, 2, 1⟩
def TSK_TRACE_CFG_KINDS : Fld := ⟨0xe00080, 8, 7⟩
def TSK_TRACE_CFG_PITCHES : Fld := ⟨0xe00080, 16, 8⟩
def TSK_TRACE_NEXT : Nat := 0xe00084
def TSK_DISPATCHES : Nat := 0xe000c0
def TSK_COMPLETES : Nat := 0xe000c8
def TSK_FAULTS : Nat := 0xe000cc
def TSK_SWITCHES_PREEMPTS : Fld := ⟨0xe000c4, 0, 16⟩
def TSK_SWITCHES_YIELDS : Fld := ⟨0xe000c4, 16, 16⟩
def TSK_POST_DROPS_FULL : Fld := ⟨0xe000d0, 0, 16⟩
def TSK_POST_DROPS_NO_TASK : Fld := ⟨0xe000d0, 16, 8⟩
def TSK_POST_DROPS_BUFFER : Fld := ⟨0xe000d0, 24, 8⟩
def TSK_EV_LOST_FLAGS : Fld := ⟨0xe000d4, 0, 16⟩
def TSK_EV_LOST_DEP : Fld := ⟨0xe000d4, 16, 16⟩
def TSK_DEP_SAT : Nat := 0xe000d8
def TSK_CTX : Nat := 0xe000dc
def TSK_IRQ : Nat := 0xe000e0
def TSK_IRQ_FAULT : Fld := ⟨0xe000e0, 0, 1⟩
def TSK_IRQ_POST_DROP : Fld := ⟨0xe000e0, 1, 1⟩
def TSK_IRQ_TRACE_FROZEN : Fld := ⟨0xe000e0, 2, 1⟩
def TSK_IRQ_EV_LOST : Fld := ⟨0xe000e0, 3, 1⟩
def TSK_IRQ_EN : Nat := 0xe000e4
def TSK_PITCH (n : Nat) : Nat := 0xe00100 + 4 * n
def DMA_HPATH_CTL : Nat := 0xf00000
def DMA_HPATH_CTL_HRX_EN : Fld := ⟨0xf00000, 0, 1⟩
def DMA_HPATH_CTL_HTX_EN : Fld := ⟨0xf00000, 1, 1⟩
def DMA_HPATH_IRQ : Nat := 0xf00008
def DMA_HPATH_IRQ_RX_DONE : Fld := ⟨0xf00008, 0, 1⟩
def DMA_HPATH_IRQ_TX_DONE : Fld := ⟨0xf00008, 1, 1⟩
def DMA_HPATH_IRQ_PCIE_ERR : Fld := ⟨0xf00008, 2, 1⟩
def DMA_HPATH_IRQ_EN : Nat := 0xf0000c
def DMA_HRX_BASE_LO : Nat := 0xf00010
def DMA_HRX_BASE_HI : Nat := 0xf00014
def DMA_HTX_BASE_LO : Nat := 0xf00030
def DMA_HTX_BASE_HI : Nat := 0xf00034
def DMA_HRX_SIZE : Nat := 0xf00018
def DMA_HRX_SIZE_LOG2 : Fld := ⟨0xf00018, 0, 4⟩
def DMA_HTX_SIZE : Nat := 0xf00038
def DMA_HTX_SIZE_LOG2 : Fld := ⟨0xf00038, 0, 4⟩
def DMA_HRX_TAIL : Nat := 0xf0001c
def DMA_HRX_TAIL_INDEX : Fld := ⟨0xf0001c, 0, 12⟩
def DMA_HRX_HEAD_INDEX : Fld := ⟨0xf00020, 0, 12⟩
def DMA_HTX_TAIL : Nat := 0xf0003c
def DMA_HTX_TAIL_INDEX : Fld := ⟨0xf0003c, 0, 12⟩
def DMA_HTX_HEAD_INDEX : Fld := ⟨0xf00040, 0, 12⟩
def DMA_HPATH_COUNTS_TOOBIG : Fld := ⟨0xf00050, 0, 16⟩
def DMA_HPATH_COUNTS_TX_ARG : Fld := ⟨0xf00050, 16, 16⟩
def DMA_HRX_FRAMES : Nat := 0xf00054
def DMA_HTX_FRAMES : Nat := 0xf00058
def DMA_TAP_OVERRUN_COUNT : Fld := ⟨0xf0005c, 0, 16⟩
def DMA_TAP_OVERRUN_TRB : Fld := ⟨0xf0005c, 16, 4⟩
def DMA_u_STATUS (n : Nat) : Nat := 0xf01000 + 0x1000 * n
def DMA_u_IRQ (n : Nat) : Nat := 0xf01004 + 0x1000 * n
def DMA_u_IRQ_EVENT (n : Nat) : Fld := ⟨0xf01004 + 0x1000 * n, 0, 16⟩
def DMA_u_IRQ_HALT (n : Nat) : Fld := ⟨0xf01004 + 0x1000 * n, 16, 16⟩
def DMA_u_IRQ_EN (n : Nat) : Nat := 0xf01008 + 0x1000 * n
def DMA_u_REFUSED (n : Nat) : Nat := 0xf0100c + 0x1000 * n
def DMA_u_KIB (n : Nat) : Nat := 0xf01010 + 0x1000 * n
def DMA_u_CHk_SRC (n m : Nat) : Nat := 0xf01100 + 0x1000 * n + 0x40 * m
def DMA_u_CHk_DST (n m : Nat) : Nat := 0xf01104 + 0x1000 * n + 0x40 * m
def DMA_u_CHk_CNT_BYTES (n m : Nat) : Fld := ⟨0xf01108 + 0x1000 * n + 0x40 * m, 0, 24⟩
def DMA_u_CHk_CTL (n m : Nat) : Nat := 0xf0110c + 0x1000 * n + 0x40 * m
def DMA_u_CHk_CTL_SRC_SPACE (n m : Nat) : Fld := ⟨0xf0110c + 0x1000 * n + 0x40 * m, 1, 2⟩
def DMA_u_CHk_CTL_DST_SPACE (n m : Nat) : Fld := ⟨0xf0110c + 0x1000 * n + 0x40 * m, 3, 2⟩
def DMA_u_CHk_CTL_SWAP (n m : Nat) : Fld := ⟨0xf0110c + 0x1000 * n + 0x40 * m, 5, 3⟩
def DMA_u_CHk_CTL_PACED (n m : Nat) : Fld := ⟨0xf0110c + 0x1000 * n + 0x40 * m, 8, 1⟩
def DMA_u_CHk_CTL_IRQ (n m : Nat) : Fld := ⟨0xf0110c + 0x1000 * n + 0x40 * m, 9, 1⟩
def DMA_u_CHk_SRC_HI_ADDR (n m : Nat) : Fld := ⟨0xf01110 + 0x1000 * n + 0x40 * m, 0, 16⟩
def DMA_u_CHk_DST_HI_ADDR (n m : Nat) : Fld := ⟨0xf01114 + 0x1000 * n + 0x40 * m, 0, 16⟩
def DMA_u_CHk_CFG_MODE (n m : Nat) : Fld := ⟨0xf01118 + 0x1000 * n + 0x40 * m, 0, 1⟩
def DMA_u_CHk_CFG_REPEAT (n m : Nat) : Fld := ⟨0xf01118 + 0x1000 * n + 0x40 * m, 1, 1⟩
def DMA_u_CHk_CFG_DONE_IRQ (n m : Nat) : Fld := ⟨0xf01118 + 0x1000 * n + 0x40 * m, 2, 1⟩
def DMA_u_CHk_PROG_LO (n m : Nat) : Nat := 0xf0111c + 0x1000 * n + 0x40 * m
def DMA_u_CHk_PROG_HI_ADDR (n m : Nat) : Fld := ⟨0xf01120 + 0x1000 * n + 0x40 * m, 0, 16⟩
def DMA_u_CHk_PROG_HI_SPACE (n m : Nat) : Fld := ⟨0xf01120 + 0x1000 * n + 0x40 * m, 16, 2⟩
def DMA_u_CHk_STATE (n m : Nat) : Nat := 0xf01124 + 0x1000 * n + 0x40 * m
def DMA_u_CHk_STATE_STATE (n m : Nat) : Fld := ⟨0xf01124 + 0x1000 * n + 0x40 * m, 0, 3⟩
def DMA_u_CHk_STATE_CAUSE (n m : Nat) : Fld := ⟨0xf01124 + 0x1000 * n + 0x40 * m, 4, 3⟩
def DMA_u_CHk_STATE_ZERO (n m : Nat) : Fld := ⟨0xf01124 + 0x1000 * n + 0x40 * m, 7, 1⟩
def DMA_u_CHk_STATE_STOPPED (n m : Nat) : Fld := ⟨0xf01124 + 0x1000 * n + 0x40 * m, 8, 1⟩
def DMA_u_CHk_STATE_PC (n m : Nat) : Fld := ⟨0xf01124 + 0x1000 * n + 0x40 * m, 16, 16⟩
def DMA_u_CHk_REMAIN_BYTES (n m : Nat) : Fld := ⟨0xf01128 + 0x1000 * n + 0x40 * m, 0, 24⟩
def DMA_u_CHk_ERR_LO (n m : Nat) : Nat := 0xf0112c + 0x1000 * n + 0x40 * m
def DMA_u_CHk_ERR_HI_ADDR (n m : Nat) : Fld := ⟨0xf01130 + 0x1000 * n + 0x40 * m, 0, 16⟩
def DMA_u_CHk_ERR_HI_SPACE (n m : Nat) : Fld := ⟨0xf01130 + 0x1000 * n + 0x40 * m, 16, 2⟩
def DMA_u_CHk_ERR_HI_VALID (n m : Nat) : Fld := ⟨0xf01130 + 0x1000 * n + 0x40 * m, 31, 1⟩
def DMA_u_CHk_RUNS_DONE (n m : Nat) : Fld := ⟨0xf01134 + 0x1000 * n + 0x40 * m, 0, 16⟩
def DMA_u_CHk_RUNS_HALTS (n m : Nat) : Fld := ⟨0xf01134 + 0x1000 * n + 0x40 * m, 16, 16⟩
def CPH_STATUS : Nat := 0x1000000
def CPH_CMD : Nat := 0x1000004
def CPH_CMD_RESULT_RESULT : Fld := ⟨0x1000008, 0, 4⟩
def CPH_CMD_RESULT_DONE : Fld := ⟨0x1000008, 4, 1⟩
def CPH_CMD_RESULT_GEN : Fld := ⟨0x1000008, 16, 16⟩
def CPH_BLOB_LEN_BYTES : Fld := ⟨0x100000c, 0, 7⟩
def CPH_BLOB (n : Nat) : Nat := 0x1000040 + 4 * n
def CPH_SLOT_SEL_INDEX : Fld := ⟨0x1000010, 0, 16⟩
def CPH_FLOW_SEL_INDEX : Fld := ⟨0x1000028, 0, 16⟩
def CPH_SLOT_INFO : Nat := 0x1000014
def CPH_SLOT_HOLDERS : Nat := 0x1000018
def CPH_SLOT_PN_LO : Nat := 0x100001c
def CPH_SLOT_PN_HI : Nat := 0x1000020
def CPH_SLOT_RPN_LO : Nat := 0x1000034
def CPH_SLOT_RPN_HI : Nat := 0x1000038
def CPH_SLOT_REPLAY : Nat := 0x1000024
def CPH_FLOW_SLOT : Nat := 0x100002c
def CPH_PN_WARN : Nat := 0x1000030
def CPH_D_COUNTS_AUTH_FAIL : Fld := ⟨0x1000080, 0, 16⟩
def CPH_D_COUNTS_KEY_ABSENT : Fld := ⟨0x1000080, 16, 8⟩
def CPH_D_COUNTS_REPLAY : Fld := ⟨0x1000080, 24, 8⟩
def CPH_U_COUNTS_AUTH_FAIL : Fld := ⟨0x1000084, 0, 16⟩
def CPH_U_COUNTS_KEY_ABSENT : Fld := ⟨0x1000084, 16, 8⟩
def CPH_U_COUNTS_REPLAY : Fld := ⟨0x1000084, 24, 8⟩
def CPH_U_DROPS_MISMATCH : Fld := ⟨0x1000088, 0, 8⟩
def CPH_U_DROPS_OVERSIZE : Fld := ⟨0x1000088, 8, 8⟩
def CPH_U_DROPS_PN_EXHAUSTED : Fld := ⟨0x1000088, 16, 8⟩
def CPH_U_DROPS_STALE : Fld := ⟨0x1000088, 24, 8⟩
def CPH_LAST_FAIL_SLOT : Fld := ⟨0x100008c, 0, 12⟩
def CPH_LAST_FAIL_PIPE : Fld := ⟨0x100008c, 12, 1⟩
def CPH_SLOTS_USED : Nat := 0x1000090
def CPH_IRQ : Nat := 0x10000a0
def CPH_IRQ_AUTH_FAIL : Fld := ⟨0x10000a0, 2, 1⟩
def CPH_IRQ_EN : Nat := 0x10000a4
def MAC_STATUS : Nat := 0x1100000
def MAC_IRQ : Nat := 0x1100004
def MAC_IRQ_LINK_CHG : Fld := ⟨0x1100004, 0, 8⟩
def MAC_IRQ_UNDERRUN : Fld := ⟨0x1100004, 8, 8⟩
def MAC_IRQ_STORE_FWD : Fld := ⟨0x1100004, 16, 8⟩
def MAC_IRQ_EN : Nat := 0x1100008
def MAC_En_CFG (n : Nat) : Nat := 0x1100100 + 0x100 * n
def MAC_En_CFG_TYPE (n : Nat) : Fld := ⟨0x1100100 + 0x100 * n, 0, 3⟩
def MAC_En_CFG_RX_PAUSE_EN (n : Nat) : Fld := ⟨0x1100100 + 0x100 * n, 3, 1⟩
def MAC_En_CFG_CT_STEP (n : Nat) : Fld := ⟨0x1100100 + 0x100 * n, 4, 3⟩
def MAC_En_CFG_MAX_FRAME (n : Nat) : Fld := ⟨0x1100100 + 0x100 * n, 8, 14⟩
def MAC_En_ADDR_LO (n : Nat) : Nat := 0x1100104 + 0x100 * n
def MAC_En_STATUS_LINK (n : Nat) : Fld := ⟨0x110010c + 0x100 * n, 0, 1⟩
def MAC_En_STATUS_BLOCK_LOCK (n : Nat) : Fld := ⟨0x110010c + 0x100 * n, 1, 1⟩
def MAC_En_STATUS_FEC_ALIGN (n : Nat) : Fld := ⟨0x110010c + 0x100 * n, 2, 1⟩
def MAC_En_STATUS_LOCAL_FAULT (n : Nat) : Fld := ⟨0x110010c + 0x100 * n, 3, 1⟩
def MAC_En_STATUS_REMOTE_FAULT (n : Nat) : Fld := ⟨0x110010c + 0x100 * n, 4, 1⟩
def MAC_En_STATUS_PAUSED (n : Nat) : Fld := ⟨0x110010c + 0x100 * n, 5, 1⟩
def MAC_En_STATUS_TX_LPI (n : Nat) : Fld := ⟨0x110010c + 0x100 * n, 6, 1⟩
def MAC_En_STATUS_RX_LPI (n : Nat) : Fld := ⟨0x110010c + 0x100 * n, 7, 1⟩
def MAC_En_PAUSE_TX (n : Nat) : Nat := 0x1100110 + 0x100 * n
def MAC_En_PAUSE_RX (n : Nat) : Nat := 0x1100114 + 0x100 * n
def MAC_En_EEE_LPI_EN (n : Nat) : Fld := ⟨0x1100118 + 0x100 * n, 0, 1⟩
def MAC_En_EEE_TW (n : Nat) : Fld := ⟨0x1100118 + 0x100 * n, 16, 8⟩
def MAC_En_EEE_IDLE (n : Nat) : Fld := ⟨0x1100118 + 0x100 * n, 24, 8⟩
def MAC_En_RX_FRAMES (n : Nat) : Nat := 0x1100120 + 0x100 * n
def MAC_En_RX_KIB (n : Nat) : Nat := 0x1100124 + 0x100 * n
def MAC_En_TX_FRAMES (n : Nat) : Nat := 0x1100128 + 0x100 * n
def MAC_En_TX_KIB (n : Nat) : Nat := 0x110012c + 0x100 * n
def MAC_En_RX_ERR_FCS (n : Nat) : Fld := ⟨0x1100130 + 0x100 * n, 0, 16⟩
def MAC_En_RX_ERR_RUNT (n : Nat) : Fld := ⟨0x1100130 + 0x100 * n, 16, 8⟩
def MAC_En_RX_ERR_OVERSIZE (n : Nat) : Fld := ⟨0x1100130 + 0x100 * n, 24, 8⟩
def MAC_En_RX_ERR2_CODE (n : Nat) : Fld := ⟨0x1100134 + 0x100 * n, 0, 16⟩
def MAC_En_RX_ERR2_OVERRUN (n : Nat) : Fld := ⟨0x1100134 + 0x100 * n, 16, 16⟩
def MAC_En_CTRL_PAUSE_RX (n : Nat) : Fld := ⟨0x1100138 + 0x100 * n, 0, 12⟩
def MAC_En_CTRL_PAUSE_IGNORED (n : Nat) : Fld := ⟨0x1100138 + 0x100 * n, 12, 8⟩
def MAC_En_CTRL_CTRL_UNKNOWN (n : Nat) : Fld := ⟨0x1100138 + 0x100 * n, 20, 6⟩
def MAC_En_TX_ERR_UNDERRUN (n : Nat) : Fld := ⟨0x110013c + 0x100 * n, 0, 16⟩
def MAC_En_TX_ERR_OVERSIZE (n : Nat) : Fld := ⟨0x110013c + 0x100 * n, 16, 8⟩
def MAC_En_TX_ERR_PAUSE_TX (n : Nat) : Fld := ⟨0x110013c + 0x100 * n, 24, 8⟩
def MAC_En_LPI_COUNTS_TX_ENTRIES (n : Nat) : Fld := ⟨0x1100140 + 0x100 * n, 0, 16⟩
def MAC_En_LPI_COUNTS_RX_ENTRIES (n : Nat) : Fld := ⟨0x1100140 + 0x100 * n, 16, 16⟩
def MAC_En_FEC_CORRECTED (n : Nat) : Fld := ⟨0x1100144 + 0x100 * n, 0, 24⟩
def MAC_En_FEC_UNCORRECTABLE (n : Nat) : Fld := ⟨0x1100144 + 0x100 * n, 24, 8⟩
def LAN_STATUS : Nat := 0x1200000
def LAN_IRQ : Nat := 0x1200004
def LAN_IRQ_CHANGE : Fld := ⟨0x1200004, 0, 18⟩
def LAN_IRQ_FAIL : Fld := ⟨0x1200004, 18, 1⟩
def LAN_IRQ_POL_FLIP : Fld := ⟨0x1200004, 19, 1⟩
def LAN_IRQ_REVERSED : Fld := ⟨0x1200004, 20, 1⟩
def LAN_IRQ_EN : Nat := 0x1200008
def LAN_Gg_CFG (n : Nat) : Nat := 0x1200040 + 0x10 * n
def LAN_Gg_CFG_CLOCK (n : Nat) : Fld := ⟨0x1200040 + 0x10 * n, 0, 1⟩
def LAN_Gg_CFG_BONDED (n : Nat) : Fld := ⟨0x1200040 + 0x10 * n, 1, 1⟩
def LAN_Gg_CTL (n : Nat) : Nat := 0x1200044 + 0x10 * n
def LAN_Gg_CTL_TIMING (n : Nat) : Fld := ⟨0x1200044 + 0x10 * n, 0, 2⟩
def LAN_Gg_STATUS (n : Nat) : Nat := 0x1200048 + 0x10 * n
def LAN_Gg_STATUS_UP (n : Nat) : Fld := ⟨0x1200048 + 0x10 * n, 0, 1⟩
def LAN_Gg_STATUS_REVERSED (n : Nat) : Fld := ⟨0x1200048 + 0x10 * n, 1, 1⟩
def LAN_Gg_STATUS_TRACKING (n : Nat) : Fld := ⟨0x1200048 + 0x10 * n, 2, 1⟩
def LAN_Gg_STATUS_HOLDOVER (n : Nat) : Fld := ⟨0x1200048 + 0x10 * n, 3, 1⟩
def LAN_Gg_STATUS_SKEW (n : Nat) : Fld := ⟨0x1200048 + 0x10 * n, 8, 5⟩
def LAN_x_CFG (n : Nat) : Nat := 0x1200100 + 0x80 * n
def LAN_x_CFG_USE (n : Nat) : Fld := ⟨0x1200100 + 0x80 * n, 0, 2⟩
def LAN_x_CFG_RATE (n : Nat) : Fld := ⟨0x1200100 + 0x80 * n, 2, 2⟩
def LAN_x_CTL (n : Nat) : Nat := 0x1200104 + 0x80 * n
def LAN_x_CTL_TX_SLEEP (n : Nat) : Fld := ⟨0x1200104 + 0x80 * n, 0, 1⟩
def LAN_x_CTL_RX_SLEEP (n : Nat) : Fld := ⟨0x1200104 + 0x80 * n, 1, 1⟩
def LAN_x_CTL_LPI_SLEEP (n : Nat) : Fld := ⟨0x1200104 + 0x80 * n, 2, 1⟩
def LAN_x_CTL_FREEZE (n : Nat) : Fld := ⟨0x1200104 + 0x80 * n, 3, 1⟩
def LAN_x_CTL_POL_AUTO (n : Nat) : Fld := ⟨0x1200104 + 0x80 * n, 4, 1⟩
def LAN_x_CTL_TX_INVERT (n : Nat) : Fld := ⟨0x1200104 + 0x80 * n, 5, 1⟩
def LAN_x_STATUS_STATE (n : Nat) : Fld := ⟨0x1200108 + 0x80 * n, 0, 3⟩
def LAN_x_STATUS_LOS (n : Nat) : Fld := ⟨0x1200108 + 0x80 * n, 3, 1⟩
def LAN_x_STATUS_CDR_LOCK (n : Nat) : Fld := ⟨0x1200108 + 0x80 * n, 4, 1⟩
def LAN_x_STATUS_ADAPTED (n : Nat) : Fld := ⟨0x1200108 + 0x80 * n, 5, 1⟩
def LAN_x_STATUS_RX_INVERTED (n : Nat) : Fld := ⟨0x1200108 + 0x80 * n, 6, 1⟩
def LAN_x_STATUS_TX_AWAKE (n : Nat) : Fld := ⟨0x1200108 + 0x80 * n, 7, 1⟩
def LAN_x_STATUS_RX_AWAKE (n : Nat) : Fld := ⟨0x1200108 + 0x80 * n, 8, 1⟩
def LAN_x_STATUS_PRBS_LOCK (n : Nat) : Fld := ⟨0x1200108 + 0x80 * n, 9, 1⟩
def LAN_x_STATUS_FAIL_REASON (n : Nat) : Fld := ⟨0x1200108 + 0x80 * n, 10, 2⟩
def LAN_x_EQ_CTLE (n : Nat) : Fld := ⟨0x120010c + 0x80 * n, 0, 4⟩
def LAN_x_DFE (n m : Nat) : Nat := 0x1200110 + 0x80 * n + 4 * m
def LAN_x_ALIGN_COUNTS_LOCK_LOSS (n : Nat) : Fld := ⟨0x1200120 + 0x80 * n, 0, 16⟩
def LAN_x_ALIGN_COUNTS_POL_FLIPS (n : Nat) : Fld := ⟨0x1200120 + 0x80 * n, 16, 8⟩
def LAN_x_ALIGN_COUNTS_CHECK_TO (n : Nat) : Fld := ⟨0x1200120 + 0x80 * n, 24, 8⟩
def LAN_x_SIGNAL_COUNTS_LOS (n : Nat) : Fld := ⟨0x1200124 + 0x80 * n, 0, 16⟩
def LAN_x_SIGNAL_COUNTS_FAIL (n : Nat) : Fld := ⟨0x1200124 + 0x80 * n, 16, 8⟩
def LAN_x_INVALID (n : Nat) : Nat := 0x1200128 + 0x80 * n
def LAN_x_FILL_INSERTED (n : Nat) : Fld := ⟨0x120012c + 0x80 * n, 0, 16⟩
def LAN_x_FILL_DELETED (n : Nat) : Fld := ⟨0x120012c + 0x80 * n, 16, 16⟩
def LAN_x_TEST (n : Nat) : Nat := 0x1200130 + 0x80 * n
def LAN_x_TEST_LOOP (n : Nat) : Fld := ⟨0x1200130 + 0x80 * n, 0, 2⟩
def LAN_x_TEST_GEN (n : Nat) : Fld := ⟨0x1200130 + 0x80 * n, 2, 1⟩
def LAN_x_TEST_CHK (n : Nat) : Fld := ⟨0x1200130 + 0x80 * n, 3, 1⟩
def LAN_x_TEST_PATTERN (n : Nat) : Fld := ⟨0x1200130 + 0x80 * n, 4, 3⟩
def LAN_x_TEST_RATE (n : Nat) : Fld := ⟨0x1200130 + 0x80 * n, 8, 4⟩
def LAN_x_PRBS_ERR (n : Nat) : Nat := 0x1200134 + 0x80 * n
def ROP_STATUS : Nat := 0x1300000
def ROP_STATUS_NODE_ID : Fld := ⟨0x1300000, 0, 10⟩
def ROP_STATUS_CLAIMED : Fld := ⟨0x1300000, 10, 1⟩
def ROP_STATUS_NO_ID : Fld := ⟨0x1300000, 11, 1⟩
def ROP_STATUS_ATTEMPT : Fld := ⟨0x1300000, 12, 8⟩
def ROP_STATUS_RECORDS : Fld := ⟨0x1300000, 20, 12⟩
def ROP_CFG_EN : Fld := ⟨0x1300004, 0, 1⟩
def ROP_CFG_RELAY_SERVER : Fld := ⟨0x1300004, 1, 1⟩
def ROP_CFG_REFEREE : Fld := ⟨0x1300004, 2, 1⟩
def ROP_CFG_SETTLE : Fld := ⟨0x1300004, 16, 8⟩
def ROP_FAB_CFG : Nat := 0x1300008
def ROP_FAB_CFG_TTL : Fld := ⟨0x1300008, 0, 8⟩
def ROP_FAB_CFG_MSG_QIDX : Fld := ⟨0x1300008, 8, 6⟩
def ROP_FAB_CFG_TWIN_QIDX : Fld := ⟨0x1300008, 16, 6⟩
def ROP_RELAY_CFG : Nat := 0x130000c
def ROP_RELAY_CFG_UPQ : Fld := ⟨0x130000c, 0, 13⟩
def ROP_RELAY_CFG_QIDX : Fld := ⟨0x130000c, 16, 6⟩
def ROP_RELAY_STATUS : Nat := 0x1300010
def ROP_RELAY_STATUS_STATE : Fld := ⟨0x1300010, 0, 2⟩
def ROP_RELAY_STATUS_SERVER : Fld := ⟨0x1300010, 16, 10⟩
def ROP_CTL : Nat := 0x1300014
def ROP_COUNTS_ID_CHANGES : Fld := ⟨0x1300018, 0, 8⟩
def ROP_COUNTS_COLLISIONS : Fld := ⟨0x1300018, 8, 8⟩
def ROP_COUNTS_DB_FULL : Fld := ⟨0x1300018, 16, 8⟩
def ROP_COUNTS_DB_RESYNC : Fld := ⟨0x1300018, 24, 8⟩
def ROP_DROPS_HDR : Fld := ⟨0x130001c, 0, 8⟩
def ROP_DROPS_FCS : Fld := ⟨0x130001c, 8, 8⟩
def ROP_DROPS_TTL : Fld := ⟨0x130001c, 16, 4⟩
def ROP_DROPS_QUEUE : Fld := ⟨0x130001c, 20, 4⟩
def ROP_DROPS_RELAY : Fld := ⟨0x130001c, 24, 4⟩
def ROP_NO_ROUTE : Nat := 0x1300020
def ROP_ROUTING_COMPUTES : Fld := ⟨0x1300024, 0, 16⟩
def ROP_ROUTING_FAILOVERS : Fld := ⟨0x1300024, 16, 16⟩
def ROP_IRQ : Nat := 0x1300028
def ROP_IRQ_ADJ : Fld := ⟨0x1300028, 0, 8⟩
def ROP_IRQ_ID_CHANGED : Fld := ⟨0x1300028, 8, 1⟩
def ROP_IRQ_COLLISION : Fld := ⟨0x1300028, 9, 1⟩
def ROP_IRQ_RELAY : Fld := ⟨0x1300028, 10, 1⟩
def ROP_IRQ_DB_FULL : Fld := ⟨0x1300028, 11, 1⟩
def ROP_IRQ_NO_ID : Fld := ⟨0x1300028, 12, 1⟩
def ROP_IRQ_EN : Nat := 0x130002c
def ROP_ROUTE_SEL_ID : Fld := ⟨0x1300040, 0, 10⟩
def ROP_ROUTE : Nat := 0x1300044
def ROP_ROUTE_SERIAL_LO : Nat := 0x1300048
def ROP_ROUTE_SERIAL_HI : Nat := 0x130004c
def ROP_Pn_CFG (n : Nat) : Nat := 0x1300100 + 0x40 * n
def ROP_Pn_CFG_COST (n : Nat) : Fld := ⟨0x1300100 + 0x40 * n, 0, 8⟩
def ROP_Pn_STATUS (n : Nat) : Nat := 0x1300104 + 0x40 * n
def ROP_Pn_STATUS_ADJ_UP (n : Nat) : Fld := ⟨0x1300104 + 0x40 * n, 0, 1⟩
def ROP_Pn_STATUS_HEARD (n : Nat) : Fld := ⟨0x1300104 + 0x40 * n, 1, 1⟩
def ROP_Pn_STATUS_TWO_WAY (n : Nat) : Fld := ⟨0x1300104 + 0x40 * n, 2, 1⟩
def ROP_Pn_STATUS_NEIGHBOR (n : Nat) : Fld := ⟨0x1300104 + 0x40 * n, 16, 10⟩
def ROP_Pn_NBR_SERIAL_LO (n : Nat) : Nat := 0x1300108 + 0x40 * n
def ROP_Pn_HAILS_RX (n : Nat) : Fld := ⟨0x1300110 + 0x40 * n, 0, 16⟩
def ROP_Pn_HAILS_TX (n : Nat) : Fld := ⟨0x1300110 + 0x40 * n, 16, 16⟩
def ROP_Pn_LSR_ACCEPTED (n : Nat) : Fld := ⟨0x1300114 + 0x40 * n, 0, 16⟩
def ROP_Pn_LSR_DISCARDED (n : Nat) : Fld := ⟨0x1300114 + 0x40 * n, 16, 16⟩
def TWN_CFG : Nat := 0x1400000
def TWN_CFG_EN : Fld := ⟨0x1400000, 0, 1⟩
def TWN_CFG_PATH : Fld := ⟨0x1400000, 1, 1⟩
def TWN_CFG_ARBITER : Fld := ⟨0x1400000, 2, 2⟩
def TWN_CFG_SYNC_COMMIT : Fld := ⟨0x1400000, 4, 1⟩
def TWN_CFG_STBY_LINK : Fld := ⟨0x1400000, 5, 1⟩
def TWN_CTL : Nat := 0x1400004
def TWN_CTL_UNHEALTHY : Fld := ⟨0x1400004, 0, 1⟩
def TWN_STATUS : Nat := 0x1400008
def TWN_STATUS_ROLE : Fld := ⟨0x1400008, 0, 2⟩
def TWN_STATUS_MIRROR : Fld := ⟨0x1400008, 2, 2⟩
def TWN_STATUS_HEALTH : Fld := ⟨0x1400008, 4, 1⟩
def TWN_STATUS_GAP : Fld := ⟨0x1400008, 5, 1⟩
def TWN_STATUS_PAIRED : Fld := ⟨0x1400008, 6, 1⟩
def TWN_STATUS_ARB_IN : Fld := ⟨0x1400008, 7, 1⟩
def TWN_STATUS_REF_REACH : Fld := ⟨0x1400008, 8, 1⟩
def TWN_PARTNER_SERIAL_LO : Nat := 0x140000c
def TWN_PARTNER_SERIAL_HI : Nat := 0x1400010
def TWN_REF_SERIAL_LO : Nat := 0x1400014
def TWN_REF_SERIAL_HI : Nat := 0x1400018
def TWN_VERDICT : Nat := 0x140001c
def TWN_VERDICT_SEQ : Fld := ⟨0x140001c, 0, 16⟩
def TWN_VERDICT_SOURCE : Fld := ⟨0x140001c, 16, 2⟩
def TWN_VERDICT_ACTIVE : Fld := ⟨0x140001c, 18, 1⟩
def TWN_MIRROR_TX : Nat := 0x1400020
def TWN_MIRROR_ACK : Nat := 0x1400024
def TWN_GAP_LIMIT_MS : Fld := ⟨0x1400028, 0, 16⟩
def TWN_LAST_GAP : Nat := 0x140002c
def TWN_PN_SKIP : Nat := 0x1400030
def TWN_TIME_OFFSET : Nat := 0x1400034
def TWN_COUNTS_SWITCHOVERS : Fld := ⟨0x1400038, 0, 8⟩
def TWN_COUNTS_DEMOTIONS : Fld := ⟨0x1400038, 8, 8⟩
def TWN_COUNTS_IGNORED : Fld := ⟨0x1400038, 16, 8⟩
def TWN_COUNTS_REFUSED : Fld := ⟨0x1400038, 24, 8⟩
def TWN_MIRROR_COUNTS_LOSSES : Fld := ⟨0x140003c, 0, 8⟩
def TWN_MIRROR_COUNTS_RESENDS : Fld := ⟨0x140003c, 8, 8⟩
def TWN_MIRROR_COUNTS_RESYNCS : Fld := ⟨0x140003c, 16, 8⟩
def TWN_MIRROR_COUNTS_MISMATCH : Fld := ⟨0x140003c, 24, 8⟩
def TWN_REF_CFG_TIMEOUT : Fld := ⟨0x1400040, 0, 8⟩
def TWN_REF_STATUS_PAIRS : Fld := ⟨0x1400044, 0, 5⟩
def TWN_REF_STATUS_OVERFLOW : Fld := ⟨0x1400044, 16, 8⟩
def TWN_IRQ : Nat := 0x1400048
def TWN_IRQ_VERDICT_IGNORED : Fld := ⟨0x1400048, 4, 1⟩
def TWN_IRQ_EN : Nat := 0x140004c
def MEM_CTL : Nat := 0x1500000
def MEM_CTL_SCRUB_EN : Fld := ⟨0x1500000, 0, 1⟩
def MEM_CTL_BIST_EN : Fld := ⟨0x1500000, 1, 1⟩
def MEM_CTL_FENCE : Fld := ⟨0x1500000, 2, 1⟩
def MEM_STATUS : Nat := 0x1500004
def MEM_STATUS_SLICE : Fld := ⟨0x1500004, 0, 12⟩
def MEM_STATUS_BIST : Fld := ⟨0x1500004, 12, 2⟩
def MEM_STATUS_DEGRADED : Fld := ⟨0x1500004, 14, 1⟩
def MEM_STATUS_FENCED : Fld := ⟨0x1500004, 15, 1⟩
def MEM_BIST_CFG_INTERVAL : Fld := ⟨0x150000c, 0, 16⟩
def MEM_BIST_CFG_ISOLATE_LIMIT : Fld := ⟨0x150000c, 16, 8⟩
def MEM_PITON_CFG_CE_TH : Fld := ⟨0x1500010, 0, 4⟩
def MEM_CE_COUNT : Nat := 0x1500014
def MEM_CHECKBIT : Nat := 0x1500018
def MEM_UE_COUNT : Nat := 0x150001c
def MEM_HEALED : Nat := 0x1500020
def MEM_UE_FRAMES : Nat := 0x1500024
def MEM_DRAM_ERR : Nat := 0x1500028
def MEM_MERGE_CLEANED : Fld := ⟨0x150002c, 0, 16⟩
def MEM_MERGE_REFUSED : Fld := ⟨0x150002c, 16, 16⟩
def MEM_SCRUB_STATUS_INSTANCE : Fld := ⟨0x1500030, 0, 12⟩
def MEM_SCRUB_STATUS_PASSES : Fld := ⟨0x1500030, 16, 16⟩
def MEM_BIST_COUNTS_DONE : Fld := ⟨0x1500034, 0, 12⟩
def MEM_BIST_COUNTS_SKIPPED : Fld := ⟨0x1500034, 12, 6⟩
def MEM_BIST_COUNTS_ASLEEP : Fld := ⟨0x1500034, 18, 6⟩
def MEM_BIST_COUNTS_ABANDONED : Fld := ⟨0x1500034, 24, 4⟩
def MEM_BIST_COUNTS_FAILED : Fld := ⟨0x1500034, 28, 4⟩
def MEM_BIST_CYCLES : Nat := 0x1500038
def MEM_BIST_RUN : Nat := 0x150003c
def MEM_BIST_RUN_DONE : Fld := ⟨0x150003c, 1, 1⟩
def MEM_BIST_RUN_PASS : Fld := ⟨0x150003c, 2, 1⟩
def MEM_PITON_STATUS : Nat := 0x1500040
def MEM_PITON_COUNTS_PITONS : Fld := ⟨0x1500044, 0, 16⟩
def MEM_PITON_COUNTS_FULL : Fld := ⟨0x1500044, 16, 16⟩
def MEM_PITON_ADD : Nat := 0x1500048
def MEM_INST_SEL_INSTANCE : Fld := ⟨0x1500050, 0, 12⟩
def MEM_INST_SEL_PITON : Fld := ⟨0x1500050, 12, 3⟩
def MEM_INST_STATUS : Nat := 0x1500054
def MEM_INST_PITON : Nat := 0x1500058
def MEM_LOG_POP : Nat := 0x1500060
def MEM_LOG_POP_LOST : Fld := ⟨0x1500060, 21, 11⟩
def MEM_LOG0 : Nat := 0x1500064
def MEM_LOG0_VALID : Fld := ⟨0x1500064, 31, 1⟩
def MEM_LOG1 : Nat := 0x1500068
def MEM_LOG2 : Nat := 0x150006c
def MEM_IRQ : Nat := 0x1500080
def MEM_IRQ_UE : Fld := ⟨0x1500080, 0, 1⟩
def MEM_IRQ_MERGE_REFUSED : Fld := ⟨0x1500080, 1, 1⟩
def MEM_IRQ_PITON : Fld := ⟨0x1500080, 2, 1⟩
def MEM_IRQ_PITON_FULL : Fld := ⟨0x1500080, 3, 1⟩
def MEM_IRQ_BIST_FAIL : Fld := ⟨0x1500080, 4, 1⟩
def MEM_IRQ_SLICE_SKIPPED : Fld := ⟨0x1500080, 5, 1⟩
def MEM_IRQ_FENCED : Fld := ⟨0x1500080, 6, 1⟩
def MEM_IRQ_EN : Nat := 0x1500084
def PWR_STATUS : Nat := 0x1600000
def PWR_UP_LO : Nat := 0x1600004
def PWR_UP_HI : Nat := 0x1600008
def PWR_HOLD_LO : Nat := 0x160000c
def PWR_HOLD_HI : Nat := 0x1600010
def PWR_LINGER_US : Fld := ⟨0x1600014, 0, 16⟩
def PWR_ENTRY_LIMIT_MS : Fld := ⟨0x1600018, 0, 16⟩
def PWR_REQ_RESULT : Nat := 0x160001c
def PWR_VOTE_HOST_LO : Nat := 0x1600020
def PWR_VOTE_HOST_HI : Nat := 0x1600024
def PWR_VOTE_LO_c (n : Nat) : Nat := 0x1600040 + 8 * n
def PWR_DOM_REFUSE : Nat := 0x1600070
def PWR_WAKES : Nat := 0x1600074
def PWR_HOST_TIMEOUTS : Nat := 0x1600078
def PWR_ENTRY_DROPS : Nat := 0x160007c
def PWR_LAST_WAKE_DOMAIN : Fld := ⟨0x1600080, 0, 6⟩
def PWR_LAST_WAKE_US : Fld := ⟨0x1600080, 8, 24⟩
def PWR_IRQ : Nat := 0x1600084
def PWR_IRQ_HOST_TIMEOUT : Fld := ⟨0x1600084, 4, 1⟩
def PWR_IRQ_EN : Nat := 0x1600088
def PLT_GPIO_CTL_DIR : Fld := ⟨0x40, 0, 8⟩
def PLT_GPIO_CTL_OUT : Fld := ⟨0x40, 8, 8⟩
def PLT_GPIO_IN : Nat := 0x44
def PLT_LED : Nat := 0x48

end R

end Sys2Proof.Machine
end

