-- ==== Sys2Proof/Machine/State.lean ====
section
/-!
DEFINITION. Sys2Proof/Machine/State.lean: everything the spec gives the machine, as plain data; the outcomes that are not a
next state; and the machine right after reset.

Registers of BAR0 stand in one sparse table (regs); a register whose value other state decides is computed on a read
(Machine/HostAccess.lean). What no register shows stands in the structures below, one per block.
-/
namespace Sys2Proof.Machine

/-- Why the machine stops with a fault. -/
inductive Fault where
  /-- Raised by no meaning of this model: a block has no fault that stops it (R65, R474: no access is lost, no block waits
  for ever on the host). Kept so that the type is inhabited; safe. -/
  | unreachable
deriving DecidableEq, Repr

/-- Why a command has no meaning. -/
inductive Refusal where
  /-- Raised by an arm of exec that has no meaning yet; safe. -/
  | notModelled (mnemonic : String)
deriving DecidableEq, Repr

/-- What the device sends out: the model's own log of its emissions, newest first. -/
inductive Out where
  /-- bytes written to host memory (rings, snapshot, host frame path, DMA, trace) -/
  | hostWrite (addr : Nat) (bytes : List Byte)
  /-- an MSI-X vector signalled: the host write its table entry names (R56) -/
  | msix (vec addr data : Nat)
  /-- SNAP_PART and tunnelled messages leave as these -/
  | snapPart (p : Path) (point part total : Nat) (bytes : List Byte)
  /-- PPS_OUT changes level (R281) -/
  | ppsOut (level : Bool)
  /-- a host register or window read completed on PCIe with this value (R54, R476) -/
  | readData (addr : Nat) (v : Word)
  /-- one frame time of an E1 output: OUT code of Table 9-2 and the frame sent, empty where none is (R205) -/
  | e1 (trib : Nat) (out : Nat) (bytes : List Byte)
  /-- a control frame leaves a rope port: header, payload and FCS (R406, R408) -/
  | rope (port : Nat) (bytes : List Byte)
  /-- an Ethernet frame leaves a port, padding and FCS included (R379, R381, R384) -/
  | eth (port : Nat) (bytes : List Byte)
  /-- an upstream burst of a line port (Table 6-9, R110): upstream frame, the bit time at which laser enable rises, the first
  preamble bit, the length in bit times (enable falls after the last bit), and the bits on the line, the first one most
  significant -/
  | burst (port frame : Nat) (enable : Int) (start len bits : Nat)
  /-- the transmission in progress on a line port ends here, cut short: by the rogue switch (R115) or a HARD reset (R92) -/
  | txCut (port : Nat)
  /-- the electrical loop of a line port in TEST: while it is on the driver sends PRBS31 NRZ to the receiver input and the laser
  is disabled (R120) -/
  | lineLoop (port : Nat) (on : Bool)
  /-- a frame of the twin link: mirror record and FCS (R434) -/
  | twin (bytes : List Byte)
  /-- what the transmitter of a lane sends on J4 from here on, and its polarity (R398, R401, R404) -/
  | lane (i : Nat) (tx : LaneTx) (inverted : Bool)
  /-- one generated bit of a lane is inverted (R404) -/
  | laneInject (i : Nat)
  /-- an Ethernet port starts or stops sending remote fault (R376) -/
  | ethFault (port : Nat) (on : Bool)
  /-- a belay packet on a line port: code index, mean power in 0.1 dBm (R194), and its symbols (Table 8-1); symbolChips gives
  the chips of a symbol -/
  | belay (port code : Nat) (level : Int) (symbols : List Bool)
deriving DecidableEq, Repr

/-- A mode transition in progress (R84): its row, the mode it leads to and its trigger. -/
structure Transit where
  row : Nat
  dest : Mode
  trig : Trigger
deriving DecidableEq, Repr

/-- A host request with its key and source (R87). -/
structure HeldReq where
  req : Req
  key : Nat
  src : ReqSrc
deriving DecidableEq, Repr

/-- Mode controller and module supervisor (spec/04). Instants are elapsed ticks. -/
structure Sup where
  mode : Mode
  prevMode : Mode
  lastTrigger : Nat
  /-- instant of the last transition (MOD_MODE_TIME) -/
  modeSince : Nat
  /-- instant ACQUIRE was entered (R78) -/
  acqSince : Nat
  transit : Option Transit
  /-- the host request that started the timed transition, reported by REQ_DONE at its end (R101) -/
  transitReq : Option HeldReq
  heldReq : Option HeldReq
  /-- triggers held during a timed transition (R507), in order of arrival -/
  heldTrig : List Trigger
  /-- a terminal ID and an equalisation delay were held at BIVOUAC entry (M17, M18) -/
  regAtBivouac : Bool
  /-- GPIO pins that raised a wake (MOD_WAKE_CAUSE) -/
  wakePins : Nat
  /-- a SOFT reset waits for the wake from BIVOUAC (R88); true: by EXIT_TEST -/
  softPending : Option Bool
  /-- the device is held in reset, of this kind -/
  inReset : Option ResetKind
  /-- the supervisor has released the device from a HARD or power-on reset (R89, R97) -/
  released : Bool
  /-- the boot structure has run (R89) -/
  booted : Bool
  /-- causes of the reset in progress, as bits of PLT_RESET_CAUSE (R90) -/
  causes : Nat
  /-- the supervisor runs (R98) -/
  running : Bool
  /-- end of the host watchdog period, when armed and not suspended (R94, R96) -/
  hostWdog : Option Nat
  /-- the period, by its end, whose half has been reported (R95) -/
  wdogWarned : Option Nat
  /-- levels that the outside drives on GPIO0–GPIO7 (PLT_GPIO_IN) -/
  gpioExt : Nat
  /-- instant of the last platform heartbeat (R94) -/
  heartbeat : Nat
deriving DecidableEq, Repr

/-- One section of an image as its descriptor gives it (Table 2-3), with its content. -/
structure Section where
  pitch : Nat
  kind : Nat
  unit : Nat
  stamp : Nat
  depends : Nat
  expect : List Nat
  content : List Byte
deriving DecidableEq, Repr

/-- An image operation in progress (R36, R43). -/
structure ImgOp where
  cmd : ImgCmd
  source : Bool
  force : Bool
  /-- IMG_LEN at the command -/
  len : Nat
  /-- PITCH_MASK and serial once the header was read -/
  pitches : Nat
  serial : Nat
  epoch : Nat
  signer : Nat
  start : Nat
  drainStart : Nat
  sections : List Section
deriving DecidableEq, Repr

/-- Image loading (spec/02). -/
structure Img where
  state : ImgState
  op : Option ImgOp
  /-- staging area content (R33), 256 MiB, unlisted bytes 0 -/
  staging : List (Nat × Byte)
  /-- section store: every section applied, with its digest held in always-on memory (R35) -/
  store : List (Section × List Byte)
  storeValid : Bool
  /-- EPOCH, serial and signer of the full image in the store -/
  storeEpoch : Nat
  storeSerial : Nat
  /-- pitches in FAULT -/
  fault : Nat
  /-- sections the running pitches were applied from -/
  running : List Section
  /-- a verdict held until ENABLE (R49): whether it names this module active -/
  heldVerdict : Option Bool
deriving DecidableEq, Repr

/-- One host path (spec/03). -/
structure PathSt where
  /-- commands taken from the path and not yet decided, oldest first -/
  inbox : List HMsg
  /-- SEQ of the next live message the path takes -/
  next : Nat
  /-- a replay in progress: next SEQ, how many remain, and the live SEQ it runs before (R69) -/
  replay : Option (Nat × Nat × Nat)
  /-- a snapshot being sent in parts: point S, parts in all, and the parts that remain (R71) -/
  snap : Option (Nat × Nat × List (List Byte))
deriving DecidableEq, Repr

/-- A host access that waits for its domain (R476, R477). -/
inductive HostAcc where
  | read (addr : Nat) (deadline : Nat) | write (addr : Nat) (v : Word)
deriving DecidableEq, Repr

/-- What the host sets in configuration space, of the features that Table 3-1 lists: BAR0, memory space and bus master enables,
payload and read request sizes in bytes, MSI-X enable and function mask, ASPM L1, and the AER status bits (R52, R53). -/
structure PcieCfg where
  bar0 : Nat
  memEnable : Bool
  busMaster : Bool
  maxPayload : Nat
  maxRead : Nat
  msixEnable : Bool
  msixMask : Bool
  aspmL1 : Bool
  aer : Nat
deriving DecidableEq, Repr

/-- Host link (spec/03). -/
structure Hif where
  /-- the cairn journal, oldest first, at most 4,096 (R67) -/
  journal : List DMsg
  pcie : PathSt
  inBand : PathSt
  remote : PathSt
  /-- FLAGS.PHASE of the next D2H ring entry (R64) -/
  phase : Bool
  /-- messages written since vector 0 was last raised, and the instant of the first of them (R66) -/
  unsignalled : Nat
  firstUnsignalled : Nat
  /-- first half of a downstream TUNNEL pair: low SEQ byte and its 32 bytes (R76) -/
  tunnelHalf : Option (Nat × List Byte)
  /-- MSI-X table words and pending bits (Table 3-2) -/
  msix : List (Nat × Word)
  pba : Nat
  /-- host accesses that wait for a domain, in arrival order (R476, R477) -/
  waiting : List HostAcc
  /-- the PCIe link as trained, none while it is down (R53, HIF_STATUS.SPEED and WIDTH) -/
  link : Option LinkState
  /-- what the host wrote into the endpoint's configuration space (Table 3-1, R53) -/
  cfg : PcieCfg
  /-- tag control word of the peer's command frames, 0 where they carry no tag (R74) -/
  peerTci : Nat
deriving DecidableEq, Repr

/-- An access hold (R473): domain, client, and the instant it ends. -/
structure Hold where
  dom : Nat
  client : Nat
  until_ : Nat
deriving DecidableEq, Repr

/-- Power coordinator (spec/22). -/
structure Pwr where
  /-- state of domains 0–42 (Table 22-1) -/
  doms : List DomSt
  holds : List Hold
  /-- domains whose present drop was already counted in PWR_DOM_REFUSE (P3) -/
  refusedOnce : Nat
  /-- instant each waking domain's wake was asked for -/
  wakeStart : List (Nat × Nat)
  /-- clusters whose RAM lost its power and is not restored yet (R475) -/
  blank : Nat
  /-- domains whose wake a timed-out host read started (R476) -/
  readWakes : Nat
  coord : CoordSt
  held : Option CoordReq
  /-- standing votes other than HOST are withdrawn (R480 step 2) -/
  withdrawn : Bool
  /-- ingress closed (R480 step 1) -/
  closed : Bool
  /-- ALL_ON in progress (R484) -/
  allOn : Bool
  reqStart : Nat
  /-- instant of the last journalled HOST_TIMEOUT, none before the first (R485) -/
  lastTimeout : Option Nat
deriving DecidableEq, Repr

/-- What no register shows of one line port's front end (spec/05). -/
structure LfePort where
  /-- a burst or belay transmission is in progress (R111) -/
  sending : Bool
  /-- instants since which the port has had LOS or LOL, and has been READY and free of both (R118) -/
  faultySince : Option Nat
  clearSince : Option Nat
  /-- instant since which TEC_LOCK is 0 with the TEC running (R113) -/
  tecOpenSince : Option Nat
  /-- the tick at which the last burst ends (R110) -/
  burstEnd : Nat
  /-- consecutive measurements below +4.0 dBm (R114) -/
  weak : Nat
  /-- how the taps moved (R105) -/
  adapt : Adapt
  /-- received power at the last calibration, in 0.1 dBm (05, Receiver) -/
  calPower : Int
deriving DecidableEq, Repr

/-- Line front end (spec/05). -/
structure Lfe where
  a : LfePort
  b : LfePort
  /-- a switch in progress: new port, and whether the policy started it (R119) -/
  switching : Option (Port × Bool)
  holdUntil : Nat
deriving DecidableEq, Repr

/-- A packet being delineated (R135): flow, ENC, bytes, and whether a byte was uncorrectable or ENC changed. -/
structure OpenPkt where
  flow : Nat
  enc : Bool
  bytes : List Byte
  bad : Bool
deriving DecidableEq, Repr

/-- Framer of one line port (spec/06). -/
structure LfrPort where
  /-- candidates in PRESYNC: position in the frame and hits (Table 6-6), oldest first -/
  cands : List (Nat × Nat)
  /-- position of the held alignment -/
  pos : Nat
  /-- consecutive wrong MFAS values in MF_SYNC, and the index of the frame before in MF_HUNT (Table 6-8) -/
  wrong : Nat
  lastIndex : Option Nat
  /-- a correct header was recorded since alignment (R140) -/
  sfKnown : Bool
  /-- open packet (R135) -/
  pkt : Option OpenPkt
  /-- present window: frames, corrected bits, uncorrectable codewords (R146) -/
  winFrames : Nat
  winCorr : Nat
  winUnc : Nat
  /-- consecutive clear windows of DS and UNC -/
  dsRun : Nat
  uncRun : Nat
  /-- header TREE_ID of the last correct header -/
  tree : Nat
deriving DecidableEq, Repr

/-- An upstream frame whose map was evaluated (R144): k, preamble, EQD in force for it, grants not yet sent. -/
structure UpFrame where
  k : Nat
  /-- instant in ticks of the downstream frame's first PSync bit -/
  ds : Nat
  preLen : Nat
  prePat : Nat
  eqd : Nat
  started : Bool
  grants : List Grant
  /-- a granted burst was sent in it (R260) -/
  sent : Bool
  /-- the sixteen tributary frames read at its start (R202), whether a grant has carried them, and whether their loss was
  counted -/
  tdm : List (List Byte)
  tdmSent : Bool
  missed : Bool
deriving DecidableEq, Repr

/-- Line framing (spec/06). -/
structure Lfr where
  a : LfrPort
  b : LfrPort
  /-- upstream frames evaluated and not finished, oldest first -/
  up : List UpFrame
  /-- the last evaluated upstream frame and the end of its last accepted grant, none where it accepted none -/
  prevEnd : Option (Nat × Nat)
deriving DecidableEq, Repr

/-- Activation (spec/07). -/
structure Act where
  st : ActSt
  /-- an EQD update is pending (R153): ACT_EQD_PEND and ACT_EFFECT_SF hold it -/
  pend : Bool
  /-- last accepted broadcast SEQ and the ACK status it was given (R158) -/
  lastBcast : Option (Nat × Option Nat)
  /-- last accepted unicast SEQ and the ACK status it was given (R158) -/
  lastUcast : Option (Nat × Option Nat)
  /-- next upstream SEQ (R159) -/
  upSeq : Nat
  /-- waiting upstream LMMs: ACKs (TYPE, SEQ, STATUS), RESUME, TWIN_PEER content, TUNNEL fragments -/
  acks : List (Nat × Nat × Nat)
  resumeQ : Bool
  twinPeer : Option (List Byte)
  tunnel : List (List Byte)
  /-- kept rescue hints of LINE A and LINE B (R170) -/
  hintA : Option Hint
  hintB : Option Hint
  /-- instants RANGING and RESUMING were entered -/
  since : Nat
  /-- the ranging grant ID of the last ID_ASSIGN (R161, Table 7-4) -/
  rangeId : Nat
deriving DecidableEq, Repr

/-- A key record in a slot (Table 16-3), with the generation it was written as. -/
structure Key where
  kind : Nat
  an : Nat
  sciFlag : Bool
  key : List Byte
  sci : List Byte
  ssci : List Byte
  salt : List Byte
  gen : Nat
deriving DecidableEq, Repr

/-- A key slot (R367): current and previous key, GEN, transmit PN, highest accepted PN, replay window (R368). -/
structure KeySlot where
  cur : Option Key
  prev : Option Key
  gen : Nat
  pn : Nat
  rpn : Nat
  window : Nat
  warned : Bool
  /-- generations that a write with FORCE displaced while frames held them (R367) -/
  stale : List Nat
deriving DecidableEq, Repr

/-- Cipher and keys (spec/16). -/
structure Cph where
  slots : List (Nat × KeySlot)
  /-- decrypt slot of each FLOW, with VALID in bit 15 (CPH_FLOW_SLOT) -/
  flowMap : List (Nat × Nat)
  /-- derived KEKs: index, key, kinds, slot range (R365) -/
  keks : List (KekDecl × List Byte)
  /-- blob words (CPH_BLOBn read 0) -/
  blob : List (Nat × Word)
deriving DecidableEq, Repr

/-- A frame between its ingress and its fate (R213, R214, R230). -/
structure Frame where
  bytes : List Byte
  cls : Nat
  port : Nat
  first : Nat
  flow : Nat
  enc : Bool
  second : Bool
  srcNode : Nat
  rx : Tod
  version : Option Nat
  /-- instant from which its version age counts (R234) -/
  since : Nat
  aged : Bool
deriving DecidableEq, Repr, Inhabited

/-- A frame or a notice posted to a task (R325): the frame, or the key of the lookup; the action, the captured GEN. -/
structure PostItem where
  frame : Option Frame
  key : List Byte
  info : List Byte
  action : Nat
  gen : Nat
  /-- cells the frame occupies in shared space -/
  cells : Nat
deriving DecidableEq, Repr, Inhabited

/-- A packet context (R294): the item it holds, the send descriptor, and the net bytes prepended. -/
structure PktCtx where
  item : Option PostItem
  desc : List Byte
  prepended : Int
deriving DecidableEq, Repr, Inhabited

/-- Cells of a queued frame: front or deep, reserved or shared (R241, R242). -/
structure Cells where
  front : Nat
  deep : Nat
  resv : Nat
  shared : Nat
deriving DecidableEq, Repr, Inhabited

/-- A frame in a queue, a launch FIFO or a timed list (R239). -/
structure QFrame where
  bytes : List Byte
  queue : Nat
  user : Nat
  cipher : Nat
  slot : Nat
  gen : Nat
  destKind : Nat
  dest : Nat
  launch : Option Tod
  tsMode : Nat
  tsOff : Nat
  csumOff : Nat
  late : Bool
  rx : Tod
  cells : Cells
  /-- its metadata block as at admission (Table 10-2), empty where it had none -/
  info : List Byte
  /-- the rope header fields of a frame in transit, when it is one (spec/19) -/
  rope : Option (List Byte)
deriving DecidableEq, Repr, Inhabited

/-- A token bucket (R245): its count in units in which a rate of 1 kbit/s refills 1 per 2^-32 ns, so that refill is exact
(one byte is 8,000,000 × 2^32 of them), and the elapsed timebase time at which it was last computed. -/
structure Bucket where
  tokens : Int
  last : Nat
deriving DecidableEq, Repr, Inhabited

/-- A policer (R246). -/
structure Policer where
  rate : Nat
  burst : Nat
  monitor : Bool
  bucket : Bucket
  out : Nat
deriving DecidableEq, Repr

/-- Buffers, queues and launch stages (spec/11). Tables are keyed by queue, by 8 × egress + class, or by egress. -/
structure Sch where
  queues : List (Nat × List QFrame)
  fifos : List (Nat × List QFrame)
  timed : List (Nat × List QFrame)
  /-- the frame being launched per egress, and the cut-through step it started under (R251, R381) -/
  launching : List (Nat × Option (QFrame × Nat))
  /-- virtual time per class, finish tag per queue and finish tag of a queue's head (R249), modulo 2^64 -/
  vtime : List (Nat × Nat)
  tag : List (Nat × Nat)
  headTag : List (Nat × Option Nat)
  pols : List (Nat × Policer)
  shapers : List (Nat × Bucket)
  portShapers : List (Nat × Bucket)
  /-- a switchover gap is in progress: E0 to E7 start no frame (R446) -/
  gap : Bool
  /-- start and base of the active list per egress (R253, R254) -/
  actStart : List (Nat × Tod)
  actBase : List (Nat × Tod)
  /-- pending and active list lengths; the pending length is SCH_Ee_GCL_CTL.LEN -/
  actLen : List (Nat × Nat)
  /-- upstream frames in which the head of a class of U found no room (R260) -/
  stuck : List (Nat × Nat)
  /-- frames on their way to a queue that a drain of pitch 11 holds (Table 2-8) -/
  heldIn : List QFrame
  /-- until when a control or PAUSE frame that started occupies an egress, in 2^-32 ns of elapsed time (R384, R408) -/
  ctlUntil : List (Nat × Nat)
  /-- control frames of a rope port's egress that wait for the frame in progress to end, with their FCS (R408) -/
  ctlWait : List (Nat × List (List Byte))
deriving DecidableEq, Repr

/-- A Thicket entry (R220). -/
structure TEntry where
  template : Nat
  key : List Byte
  action : Nat
  birth : Nat
  death : Nat
deriving DecidableEq, Repr, Inhabited

/-- A Hedge row (R228). -/
structure HRow where
  index : Nat
  tmpl : Nat
  tmplMask : Nat
  key : List Byte
  mask : List Byte
  prio : Nat
  action : Nat
  birth : Nat
  death : Nat
deriving DecidableEq, Repr, Inhabited

/-- A TLKP (R302): template, VIEW, key, address for the action, version, and how far it is: 0 not started, 1 started, 2 spilled. -/
structure EngLookup where
  template : Nat
  view : Bool
  key : List Byte
  dest : Nat
  version : Nat
  stage : Nat
deriving DecidableEq, Repr

/-- Who waits for a lookup in the miss queue: a frame at the parse unit, or an engine's TLKP by its result register (R223,
R302). -/
inductive Waiter where
  | frame (f : Frame) (user : Bool) (template : Nat) (key hkey : List Byte)
  | engine (engine : Nat) (rd : Nat)
  /-- a lookup of an engine that trapped: it completes and its result is discarded (R313) -/
  | gone (l : EngLookup)
deriving DecidableEq, Repr

/-- A lookup in the miss queue: buckets still to be fetched, and who waits. -/
structure Miss where
  buckets : List Nat
  who : Waiter
deriving DecidableEq, Repr

/-- Parsing and the Thicket (spec/10). -/
structure Thk where
  /-- Thicket slots, 4 per bucket; an unlisted slot is empty -/
  slots : List (Nat × Option TEntry)
  rows : List (Nat × Option HRow)
  /-- buckets held in the on-die cache -/
  cached : List Nat
  missQ : List Miss
  /-- walker: next position, and LIVE at the start of the pass (R235) -/
  walkPos : Nat
  walkLive : Nat
  /-- flow counters: packets and bytes (Table 10-4 COUNTER) -/
  counters : List (Nat × (Nat × Nat))
  /-- a commit request is held (R232) -/
  commitHeld : Bool
  /-- cache banks that BIST holds (R223) -/
  heldBanks : List Nat
deriving DecidableEq, Repr

/-- A message waiting for a task (R305, R306): KIND, FLAG, sending task and node, payload. -/
structure TMsg where
  kind : Nat
  flag : Nat
  src : Nat
  node : Nat
  payload : List Byte
deriving DecidableEq, Repr, Inhabited

/-- Task states (Table 14-2). -/
inductive TaskSt where
  | free | idle | ready | running | waiting | faulted
deriving DecidableEq, Repr, Inhabited

/-- Codes of Table 14-2. -/
def TaskSt.code : TaskSt → Nat
  | .free => 0
  | .idle => 1
  | .ready => 2
  | .running => 3
  | .waiting => 4
  | .faulted => 5

/-- A saved context (R327): registers, PC, packet context, the cluster it left in, the latched seconds of TSR. -/
structure Ctx where
  regs : List (Nat × Word)
  pc : Nat
  pkt : PktCtx
  cluster : Nat
  latch : Nat
deriving DecidableEq, Repr, Inhabited

/-- A task (Table 14-1) with what waits for it. -/
structure Task where
  st : TaskSt
  pitch : Nat
  cmask : Nat
  prio : Nat
  preempt : Bool
  waitAll : Bool
  entry : Nat
  mask : Nat
  flags : Nat
  clear : Nat
  depInit : Nat
  dep : Nat
  /-- SUCC0 to SUCC3 with their valid bits -/
  succ : List (Bool × Nat)
  postLimit : Nat
  runs : Nat
  /-- ready instant (R323) -/
  readyAt : Nat
  ctx : Option Ctx
  /-- mask and condition of its EVWAIT (R330): mask, wait-all -/
  wait : Option (Nat × Bool)
  posts : List PostItem
  msgs : List TMsg
deriving DecidableEq, Repr, Inhabited

/-- Task scheduler (spec/14). -/
structure Tsk where
  tasks : List (Nat × Task)
  /-- clusters a task is about to be dispatched to, whose domain is not up yet (R324, R472) -/
  wake : List Nat
  /-- requests outstanding: engine that serves, task served, and whether it is a YIELD interrupt (R326, R328) -/
  requests : List (Nat × Nat × Bool)
  /-- tasks whose context lies on die, in order of saving (R332) -/
  onDie : List Nat
  /-- trace array (Table 14-5) -/
  trace : List (Nat × BitVec 128)
  /-- order in which tasks entered READY -/
  readySeq : Nat
  /-- clusters that BIST holds (R463) -/
  fenced : List Nat
deriving DecidableEq, Repr

/-- A store that the merge buffer holds until the engine's next instruction (R455): address, value, and its PC and word. -/
structure HeldStore where
  addr : Nat
  val : Nat
  pc : Nat
  word : Nat
deriving DecidableEq, Repr

/-- An asynchronous operation of an engine (R301): destination pair, operation, its PC and word. -/
inductive AsyncOp where
  | lookup (l : EngLookup)
  | op (record : List Byte)
  | commit
  /-- a commit applied whose completion is withheld (R439): the SEQ of its record and its LIVE -/
  | commitWait (seq live : Nat)
deriving DecidableEq, Repr

structure Async where
  rd : Nat
  op : AsyncOp
  pc : Nat
  word : Nat
  addr : Nat
deriving DecidableEq, Repr

/-- Engine states (ENG_c_ENGe.STATE). -/
inductive EngSt where
  | idle | running | stalled | leaving
deriving DecidableEq, Repr, Inhabited

/-- Codes of ENG_c_ENGe.STATE. -/
def EngSt.code : EngSt → Nat
  | .idle => 0
  | .running => 1
  | .stalled => 2
  | .leaving => 3

/-- An engine (R285): the task it holds, PC, g1–g31 (unlisted 0), local scratch, outstanding operations, packet context. -/
structure Eng where
  st : EngSt
  task : Nat
  pc : Nat
  regs : List (Nat × Word)
  scratch : List (Nat × Byte)
  ops : List Async
  pkt : PktCtx
  latch : Nat
  held : Option HeldStore
  /-- the virtual page whose fill the stalled engine waits for (R291) -/
  page : Option Nat
deriving DecidableEq, Repr

/-- An allocation of virtual pages: first page and page count (R289). -/
structure Alloc where
  page : Nat
  pages : Nat
deriving DecidableEq, Repr

/-- A cluster (Table 13-1). -/
structure Cluster where
  iram : List (Nat × Byte)
  shared : List (Nat × Byte)
  virt : List (Nat × Byte)
  allocs : List Alloc
  /-- cached pages, most recently used first, with their dirty mark (R291) -/
  pcache : List (Nat × Bool)
  /-- instructions retired modulo 1,024 -/
  retired : Nat
deriving DecidableEq, Repr

/-- A transmit stamp entry (R279). -/
structure TxStamp where
  id : Nat
  port : Nat
  oneStep : Bool
  at_ : Tod
  user : Nat
deriving DecidableEq, Repr

/-- A line measurement window (R272): the time at its first captured frame and the frames counted since. -/
structure LineWin where
  start : Nat
  frames : Nat
deriving DecidableEq, Repr

/-- A line window that has ended and is still to be reported: its times, its length in frames, the head-end time of its
last frame and whether that time is valid (R273). -/
structure LineDue where
  start : Nat
  stop : Nat
  frames : Nat
  tod : Tod
  valid : Bool
deriving DecidableEq, Repr

/-- Timebase (spec/12). Times are counts of 2^-32 ns. -/
structure Tmb where
  /-- seconds, nanoseconds and fraction in one count, modulo 2^48 s (R266) -/
  time : Nat
  /-- shadows that a read of TMB_TIME_FRAC or of TMB_PPS_IN_NS latched: ns and seconds (R269, R275) -/
  timeLatch : Option (Nat × Nat)
  ppsLatch : Option Nat
  /-- captures that a read of TMB_LINE_DEV latches (R273): head-end and local seconds and nanoseconds -/
  tod : Tod
  loc : Tod
  lineWin : Option LineWin
  lineDue : Option LineDue
  /-- the REF window in progress contains a step (R271) -/
  refBad : Bool
  /-- captured PPS_IN seconds (TMB_PPS_IN_NS holds the nanoseconds) -/
  ppsSec : Nat
  /-- increments counted since reset, in 2^-32 ns: elapsed timebase time, whatever the steps (R281) -/
  run : Nat
  /-- PPS_OUT level, the count of run at which it falls, and the second that has had its pulse -/
  ppsOut : Bool
  ppsEnd : Nat
  ppsDone : Option Nat
  txs : List TxStamp
  nextId : Nat
deriving DecidableEq, Repr

/-- A tributary's receiver and transmitter (spec/09). -/
structure TrbPort where
  /-- received bits not yet cut into frames, oldest first (R199) -/
  stream : List Bool
  /-- frame alignment holds; the next frame carries FAS; consecutive wrong FAS -/
  aligned : Bool
  fas : Bool
  badFas : Nat
  /-- runs of NFAS frames with A = 1 and with A = 0 (RAI_RX) -/
  aOnes : Nat
  aZeros : Nat
  /-- first bits of the last 32 frames, newest first (multiframe search), and the index of the next frame in its multiframe -/
  hist : List Bool
  mf : Option Nat
  /-- alignment signal bits of the multiframe in progress, newest first, and consecutive wrong signals -/
  mfSig : List Bool
  badMf : Nat
  /-- CRC-4 of the submultiframe in progress and of the one before it, received C bits, newest first -/
  crc : Nat
  crcPrev : Option Nat
  cBits : List Bool
  /-- results of the last 1,000 submultiframes, newest first; true: failed -/
  crcHist : List Bool
  /-- E-bits still to be sent, oldest first (R203) -/
  eOut : List Bool
  /-- zeros in the 512-bit span in progress, its blocks, and consecutive spans with few and with enough zeros (AIS_RX) -/
  zeros : Nat
  blocks : Nat
  few : Nat
  enough : Nat
  /-- receive elastic store, oldest first, the frame last read, whether frames have been written since alignment (R201) -/
  store : List (List Byte)
  lastRead : List Byte
  running : Bool
  /-- cross-connect store of this output, and the frame last read from it (R206) -/
  xstore : List (List Byte)
  xlast : List Byte
  xrunning : Bool
  /-- downstream frames still to be sent: bytes, missing, errored (R204) -/
  down : List (List Byte × Bool × Bool)
  /-- last frame sent from priority 5, 6 or 7, or mirrored (R208) -/
  last : List Byte
  /-- index of the next output frame in its multiframe, CRC-4 in progress and of the submultiframe before -/
  outIx : Nat
  txCrc : Nat
  txPrev : Nat
  /-- degraded-signal window: submultiframes, errored ones, consecutive clear windows (R209) -/
  winSmf : Nat
  winErr : Nat
  dsRun : Nat
deriving DecidableEq, Repr, Inhabited

/-- Tributaries (spec/09). -/
structure Trb where
  ports : List (Nat × TrbPort)
  /-- pitch 13 has been applied since the last HARD or power-on reset (Table 9-2) -/
  applied : Bool
  /-- the present switchover gap has exceeded TRB_HOLD_LIMIT (R208) -/
  isOver : Bool
deriving DecidableEq, Repr

/-- Frames that wait at the two parse units (R212), oldest first; during a drain of pitches 9 to 11 they are the held ones. -/
structure Prs where
  line : List Frame
  user : List Frame
deriving DecidableEq, Repr

/-- A link that a link-state record lists (Table 19-4). -/
structure RopLink where
  port : Nat
  cost : Nat
  id : Nat
  serial : Nat
deriving DecidableEq, Repr, Inhabited

/-- A link-state record (Table 19-4): age in units of 10 ms at an instant in ticks. -/
structure Lsr where
  id : Nat
  serial : Nat
  seq : Nat
  age : Nat
  since : Nat
  flags : Nat
  links : List RopLink
deriving DecidableEq, Repr, Inhabited

/-- A route (R420). -/
structure Route where
  primary : Nat
  alt : Option Nat
  cost : Nat
  serial : Nat
deriving DecidableEq, Repr, Inhabited

/-- A rope port's adjacency (R411): serial last heard (0 none), instant of the last HAIL, and what it said. -/
structure RopPort where
  serial : Nat
  heardAt : Option Nat
  seen : Nat
  claimed : Bool
  node : Nat
  /-- consecutive HAILs whose DIGEST differed (R412) -/
  differ : Nat
  /-- instant of the next HAIL while the link is up -/
  hailAt : Option Nat
deriving DecidableEq, Repr, Inhabited

/-- The rope fabric (spec/19). -/
structure Rop where
  ports : List (Nat × RopPort)
  /-- records of other modules, and the own one -/
  db : List Lsr
  own : Option Lsr
  routes : List (Nat × Route)
  /-- instant of the last change of the database not yet computed (R420) -/
  changed : Option Nat
  /-- instant from which SETTLE counts while unclaimed (R414) -/
  settleFrom : Nat
  /-- the fabric runs -/
  running : Bool
  /-- SEQ for the next origination (R418) -/
  nextSeq : Nat
deriving DecidableEq, Repr

/-- What no register shows of an Ethernet port (spec/17). Instants are in elapsed timebase time (2^-32 ns) or ticks. -/
structure MacPort where
  /-- a pause value that waits for the frame in progress, and the end of the running pause timer (R382) -/
  pauseWait : Option Nat
  pauseEnd : Option Nat
  /-- a PAUSE to be sent (R384) -/
  pauseTx : Option Nat
  /-- bytes counted beyond the last whole KiB -/
  rxRem : Nat
  txRem : Nat
  /-- instant in ticks at which the transmitter last had work, and until which it sends idle after low-power idle (R385) -/
  idleSince : Nat
  wakeUntil : Nat
deriving DecidableEq, Repr, Inhabited
/-- A mirror record (Table 20-1). -/
structure MirrorRec where
  seq : Nat
  kind : Nat
  payload : List Byte
deriving DecidableEq, Repr, Inhabited

/-- What the partner's last HELLO said (Table 20-2). -/
structure Hello where
  serial : Nat
  partner : Nat
  role : Nat
  health : Nat
  path : Nat
  arbiter : Nat
  mirror : Nat
  ack : Nat
  live : Nat
  digest : Nat
  act : Nat
  tid : Nat
  port : Nat
deriving DecidableEq, Repr, Inhabited

/-- A report as the referee keeps it: instant, ROLE, HEALTH, SEQ (Table 20-4). -/
structure RefReport where
  at_ : Nat
  role : Nat
  health : Nat
  seq : Nat
deriving DecidableEq, Repr, Inhabited

/-- A pair that this module referees (R443); active: none, A (0) or B (1). -/
structure RefPair where
  serialA : Nat
  serialB : Nat
  active : Option Nat
  seq : Nat
  a : Option RefReport
  b : Option RefReport
deriving DecidableEq, Repr, Inhabited

/-- A commit whose completion is withheld (R439): its THK_COMMIT record, the end of the 10 ms, LIVE and PREV, its requesters. -/
structure Withheld where
  seq : Nat
  until_ : Nat
  live : Nat
  prev : Nat
  engines : List Nat
deriving DecidableEq, Repr, Inhabited

/-- Twin pair (spec/20). -/
structure Twn where
  /-- records sent, oldest first, at most 16,384 -/
  sent : List MirrorRec
  /-- accepted blob of each slot in wrapped form, with its CPH_CMD value -/
  blobs : List (Nat × (Nat × List Byte))
  /-- highest partner SEQ applied in order, 0 none -/
  ack : Nat
  /-- the last HELLO received, and the last one from the partner since EN (R433, R441) -/
  hello : Option Hello
  shown : Option Hello
  /-- instant of the partner's last record -/
  heardAt : Option Nat
  /-- a bulk being received: records that remain of it, and the ordinary records held until its end -/
  bulk : Option (Nat × List MirrorRec)
  /-- PN floors: transmit PN and highest accepted PN by slot -/
  floors : List (Nat × (Nat × Nat))
  /-- PN counters as the last PN record of each slot gave them -/
  pnSent : List (Nat × (Nat × Nat))
  /-- gate list entries of GCL records that run on, by egress -/
  gcl : List (Nat × List Byte)
  /-- mirrored GPIO output levels -/
  gpio : Nat
  withheld : List Withheld
  /-- no verdict has been accepted since EN -/
  first : Bool
  /-- level of ARB_IN -/
  arbIn : Bool
  /-- the gap is to begin at the next frame boundary, the instant at which it began, and whether a granted burst was sent in it -/
  gapDue : Bool
  gapAt : Option Nat
  gapBurst : Bool
  pairs : List RefPair
  /-- instant of the next TWIN_PEER -/
  peerAt : Option Nat
  /-- the partner's registration record (R435) -/
  reg : List Byte
deriving DecidableEq, Repr
/-- What no register shows of a serial lane (spec/18). -/
structure LanLane where
  /-- block alignment of a rope or twin lane (R395) -/
  align : Align
  /-- the PRBS checker of TEST (R404) -/
  prbs : PrbsChk
  /-- instant at which CHECK or FAIL was entered -/
  since : Nat
  /-- LANE of the last marker taken in CHECK, and the block time at which it arrived relative to its send time -/
  far : Option Nat
  arrival : Nat
  /-- polarity is confirmed -/
  polOk : Bool
  /-- how the taps moved (R105, R400) -/
  adapt : Adapt
deriving DecidableEq, Repr, Inhabited
/-- A piton word (R458): VALID, POISON, BAD, the address it anchors, and the bit errors of its spare word. -/
structure Piton where
  valid : Bool
  poison : Bool
  bad : Bool
  addr : Nat
  errs : Nat
deriving DecidableEq, Repr, Inhabited

/-- A suspect of the tracker (R460): instance, address, bit, count. -/
structure Suspect where
  inst : Nat
  addr : Nat
  bit : Nat
  count : Nat
deriving DecidableEq, Repr, Inhabited

/-- An entry of the error log (MEM_LOG0 to MEM_LOG2). -/
structure MemLog where
  inst : Nat
  kind : Nat
  source : Nat
  bit : Nat
  addr : Nat
  row : Nat
  col : Nat
  ns : Nat
deriving DecidableEq, Repr, Inhabited

/-- Memory integrity (spec/21). Words are named by 65,536 × instance + address. -/
structure Mem where
  /-- bits of a protected word (0–63 data, 64–79 check) that differ from what was written -/
  errs : List (Nat × Nat)
  /-- the eight piton words of an instance, by 8 × instance + number -/
  pitons : List (Nat × Piton)
  degraded : List Nat
  /-- suspects, the one changed longest ago first -/
  suspects : List Suspect
  /-- error log, oldest first -/
  log : List MemLog
  /-- uncorrectable words logged in the present scrub pass -/
  logged : List Nat
  /-- instants at which the last slice was started and at which isolation began -/
  lastSlice : Nat
  isolSince : Nat
  /-- slices that stay isolated (R464) -/
  fenced : List Nat
  /-- the full BIST of TEST is running (R466) -/
  full : Bool
deriving DecidableEq, Repr
/-- A MOVE under way (R340, R343): spaces, SWAP, PACED, first addresses, length, and bytes issued to the destination. -/
structure Move where
  srcSpace : Nat
  dstSpace : Nat
  swap : Nat
  paced : Bool
  src : Nat
  dst : Nat
  len : Nat
  done : Nat
deriving DecidableEq, Repr, Inhabited

/-- What a WAITING channel waits for: a task flag and CLEAR, or a peripheral request (R346). -/
inductive ChWait where
  | flag (task flag : Nat) (clear : Bool) | request (n : Nat)
deriving DecidableEq, Repr, Inhabited

/-- What no register shows of a DMA channel: its MOVE, open loops, innermost first (PC after the LOOP, COUNT, iterations
completed), and its WAIT. -/
structure Chan where
  move : Option Move
  loops : List (Nat × Nat × Nat)
  wait : Option ChWait
deriving DecidableEq, Repr, Inhabited

/-- A receive tap: the frame latched, and its request (R339). -/
structure Tap where
  bytes : List Byte
  req : Bool
deriving DecidableEq, Repr, Inhabited

/-- DMA units (spec/15): channels by 16 × unit + number, taps, bytes written by a unit beyond the last whole KiB. -/
structure Dma where
  chans : List (Nat × Chan)
  taps : List (Nat × Tap)
  kib : List (Nat × Nat)
deriving DecidableEq, Repr

/-- What no register shows of a belay receiver (spec/08). Instants are ticks. -/
structure BelPort where
  /-- instant of the tracked detection, from which its age counts (R184) -/
  since : Nat
  /-- the candidate's phase and the instant of its detection -/
  candPhase : Nat
  candSince : Nat
  /-- instant of the last accepted beacon, from which loss counts; the start of the receiver before the first (R186) -/
  beaconAt : Nat
  /-- a TREE_MERGE effect: its instant and the new code (R189) -/
  merge : Option (Nat × Nat)
deriving DecidableEq, Repr, Inhabited

/-- A pending belay window (R191): start, length in symbols, code range, port, and whether the port was ACTIVE at its beacon. -/
structure BelWin where
  start : Nat
  len : Nat
  first : Nat
  last : Nat
  port : Port
  active : Bool
deriving DecidableEq, Repr, Inhabited

/-- The belay channel (spec/08). -/
structure Bel where
  a : BelPort
  b : BelPort
  win : Option BelWin
  /-- a STATUS is queued (R193) -/
  queued : Bool
  /-- a transmission in progress: its port, its end, and whether it is a STATUS (R194) -/
  tx : Option (Port × Nat × Bool)
deriving DecidableEq, Repr

/-- The block: everything but the queue of waiting commands and the fuses. -/
structure Dev where
  /-- BAR0 registers that differ from their reset value -/
  regs : List (Nat × Word)
  /-- elapsed ticks of the 832 MHz timebase clock -/
  ticks : Nat
  /-- the MODEL's own counter of free values -/
  free : Nat
  /-- value the last host read returned (R54) -/
  lastRead : Word
  /-- unused high-word shadows and held high-word writes by address of the high word (R3) -/
  shadows : List (Nat × Word)
  heldHigh : List (Nat × Word)
  out : List Out
  sup : Sup
  img : Img
  hif : Hif
  pwr : Pwr
  lfe : Lfe
  lfr : Lfr
  act : Act
  cph : Cph
  sch : Sch
  thk : Thk
  tsk : Tsk
  engs : List (Nat × Eng)
  clusters : List (Nat × Cluster)
  /-- events counted over a second, by block type, code and unit: when last journalled, and when each of the last second came -/
  rate : List (Nat × Nat × List Nat)
  /-- what the running STRUCTURE of each pitch declares -/
  decls : List (Nat × Decl)
  tmb : Tmb
  trb : Trb
  prs : Prs
  rop : Rop
  mac : List (Nat × MacPort)
  twn : Twn
  lan : List (Nat × LanLane)
  mem : Mem
  dma : Dma
  bel : Bel
deriving DecidableEq, Repr

/-- Fuses that a command can burn (R31, R32): the epoch, the advances made, and the revocation bits of the key slots. -/
structure Fuses where
  epoch : Nat
  advances : Nat
  revoked : Nat
deriving DecidableEq, Repr

/-- The machine: the commands waiting, first in first out; the fuses; the block. -/
structure State where
  pending : List Instr
  fuses : Fuses
  dev : Dev
deriving DecidableEq, Repr

/-- The supervisor and the mode controller when CONFIG has just been entered after a power-on reset (R90). -/
def Sup.init : Sup :=
  { mode := .config, prevMode := .config, lastTrigger := 0, modeSince := 0, acqSince := 0, transit := none, transitReq := none,
    heldReq := none, heldTrig := [], regAtBivouac := false, wakePins := 0, softPending := none, inReset := none, released := true,
    booted := true, causes := 0, running := true, hostWdog := none, wdogWarned := none, gpioExt := 0, heartbeat := 0 }

/-- No image (R90). -/
def Img.init : Img :=
  { state := .empty, op := none, staging := [], store := [], storeValid := false, storeEpoch := 0, storeSerial := 0, fault := 0,
    running := [], heldVerdict := none }

/-- A path after reset: the next live message is message 0. -/
def PathSt.init : PathSt := { inbox := [], next := 0, replay := none, snap := none }

/-- RESET_NOTICE: message 0, with HIF_BOOT_COUNT and the reset kind (R68, Table 3-6). -/
def resetNotice (boot : Nat) (k : ResetKind) : DMsg :=
  { seq := 0, typ := 0x0182, ans := none, payload := le 4 boot ++ le 1 k.code }

/-- The MODE_CHANGE of row M1 (R101). -/
def resetChange : DMsg := { seq := 1, typ := 0x0380, ans := none, payload := [0, 0, 0, 0, 1] }

/-- A link that has trained: 2.5, 5 or 8 GT/s, ×1 or ×2; which of them is a free value (Table 3-1). -/
def LinkState.trained (k : Nat) : LinkState :=
  { speed := (Config.linkTraining k).val % 3 + 1, width := (Config.linkTraining k).val / 3 + 1 }

/-- Configuration space once the host has enumerated the endpoint: accesses and MSI-X enabled, the least sizes of Table 3-1 (DESIGN
CHOICE: the table has no row for a configuration request, and the spec gives none of these values). -/
def PcieCfg.init : PcieCfg :=
  { bar0 := 0, memEnable := true, busMaster := true, maxPayload := 128, maxRead := 128, msixEnable := true, msixMask := false,
    aspmL1 := false, aer := 0 }

/-- The host link: RESET_NOTICE and the MODE_CHANGE of M1 are journalled, no path is open. -/
def Hif.init : Hif :=
  { journal := [resetNotice 1 .powerOn, resetChange], pcie := { PathSt.init with next := 2 },
    inBand := { PathSt.init with next := 2 }, remote := { PathSt.init with next := 2 }, phase := false, unsignalled := 0, firstUnsignalled := 0, tunnelHalf := none,
    msix := [], pba := 0, waiting := [], link := some (LinkState.trained 0), cfg := .init, peerTci := 0 }

/-- Domains after reset: DRAM is UP under MODE's vote, the others are in RETAIN (R472). -/
def Pwr.init : Pwr :=
  { doms := List.replicate 42 .retain ++ [.up], holds := [], refusedOnce := 0, wakeStart := [], blank := 0, readWakes := 0, coord := .run,
    held := none, withdrawn := false, closed := false, allOn := false, reqStart := 0, lastTimeout := none }

/-- A front end and a framer of which nothing was learnt. -/
def LfePort.init : LfePort :=
  { sending := false, faultySince := none, clearSince := none, tecOpenSince := none, burstEnd := 0, weak := 0,
    adapt := .new, calPower := 0 }
def LfrPort.init : LfrPort :=
  { cands := [], pos := 0, wrong := 0, lastIndex := none, sfKnown := false, pkt := none, winFrames := 0, winCorr := 0,
    winUnc := 0, dsRun := 0, uncRun := 0, tree := 0 }
def BelPort.init : BelPort := { since := 0, candPhase := 0, candSince := 0, beaconAt := 0, merge := none }

/-- Activation without a record. -/
def Act.init : Act :=
  { st := .idle, pend := false, lastBcast := none, lastUcast := none, upSeq := 0, acks := [], resumeQ := false, twinPeer := none,
    tunnel := [], hintA := none, hintB := none, since := 0, rangeId := 0xFFF }

/-- Empty queues, lists and launch stages. -/
def Sch.init : Sch :=
  { queues := [], fifos := [], timed := [], launching := [], vtime := [], tag := [], headTag := [], pols := [], shapers := [],
    portShapers := [], gap := false, actStart := [], actBase := [], actLen := [], stuck := [], heldIn := [], ctlUntil := [], ctlWait := [] }

/-- An empty Thicket. -/
def Thk.init : Thk :=
  { slots := [], rows := [], cached := [], missQ := [], walkPos := 0, walkLive := 0, counters := [], commitHeld := false,
    heldBanks := [] }

/-- Every task FREE. -/
def Tsk.init : Tsk :=
  { tasks := [], wake := [], requests := [], onDie := [], trace := [], readySeq := 0, fenced := [] }

/-- The time of day is 0 (R266). -/
def Tmb.init : Tmb :=
  { time := 0, timeLatch := none, ppsLatch := none, tod := { sec := 0, ns := 0 }, loc := { sec := 0, ns := 0 }, lineWin := none,
    lineDue := none, refBad := false, ppsSec := 0, run := 0, ppsOut := false, ppsEnd := 0, ppsDone := none, txs := [], nextId := 0 }

/-- A twin block with EN at 0. -/
def Twn.init : Twn :=
  { sent := [], blobs := [], ack := 0, hello := none, shown := none, heardAt := none, bulk := none, floors := [], pnSent := [], gcl := [],
    gpio := 0, withheld := [], first := true, arbIn := false, gapDue := false, gapAt := none, gapBurst := false, pairs := [],
    peerAt := none, reg := [] }

/-- No error, no piton. -/
def Mem.init : Mem :=
  { errs := [], pitons := [], degraded := [], suspects := [], log := [], logged := [], lastSlice := 0, isolSince := 0,
    fenced := [], full := false }

/-- Registers that differ from their reset value once CONFIG is entered after a power-on reset: PLT_SUPPLY (mains and rails
good), HIF_D2H_NEXT_SEQ and HIF_BOOT_COUNT (R68), MOD_TRANSITIONS and MOD_IRQ after row M1 (R79, R101). -/
def regsInit : List (Nat × Word) := [(0x20, 0x3F), (0x10003C, 2), (0x100048, 1), (0x300024, 1), (0x300028, 1)]

/-- The block when CONFIG has just been entered after a power-on reset (R90). -/
def Dev.init : Dev :=
  { regs := regsInit, ticks := 0, free := 0, lastRead := 0, shadows := [], heldHigh := [], out := [], sup := .init, img := .init,
    hif := .init, pwr := .init, lfe := { a := .init, b := .init, switching := none, holdUntil := 0 },
    lfr := { a := .init, b := .init, up := [], prevEnd := none }, act := .init,
    cph := { slots := [], flowMap := [], keks := [], blob := [] }, sch := .init, thk := .init, tsk := .init, engs := [],
    clusters := [], rate := [], decls := [], tmb := .init, trb := { ports := [], applied := false, isOver := false },
    prs := { line := [], user := [] },
    rop := { ports := [], db := [], own := none, routes := [], changed := none, settleFrom := 0, running := false, nextSeq := 1 },
    mac := [], twn := .init, lan := [], mem := .init, dma := { chans := [], taps := [], kib := [] },
    bel := { a := .init, b := .init, win := none, queued := false, tx := none } }

/-- Fuses as Gaotte programmed them (R30 to R32, R504). -/
def Fuses.init : Fuses :=
  { epoch := bits (Config.fuse 0x200024).toNat 0 16, advances := bits (Config.fuse 0x200024).toNat 16 7,
    revoked := bits (Config.fuse 0x20002C).toNat 4 4 }

/-- The machine right after reset: no command waits, and the block has entered CONFIG after a power-on reset (R90). -/
def State.reset : State := { pending := [], fuses := .init, dev := .init }

end Sys2Proof.Machine
end

