-- ==== Sys2Proof/Machine/Ops.lean ====
section
/-!
DEFINITION. Sys2Proof/Machine/Ops.lean: the named operations every block shares: registers and their fields (00_scope.md
R2 to R8), timebase time, what the device sends out, and interrupts with MSI-X (03_host_link_and_recovery.md R56).
-/
namespace Sys2Proof.Machine

/-- The word a register holds. -/
def Dev.rd (s : Dev) (a : Nat) : Word := sget (regReset a) a s.regs

/-- A register set to a word. -/
def Dev.wr (s : Dev) (a : Nat) (v : Word) : Dev := { s with regs := sset (regReset a) a v s.regs }

/-- The value of a register field. -/
def Dev.get (s : Dev) (f : Fld) : Nat := bits (s.rd f.reg).toNat f.lo f.w

/-- A register field set to a value (modulo its width). -/
def Dev.set (s : Dev) (f : Fld) (v : Nat) : Dev :=
  s.wr f.reg (BitVec.ofNat 32 (putBits (s.rd f.reg).toNat f.lo f.w v))

/-- Whether a one-bit field is 1. -/
def Dev.is (s : Dev) (f : Fld) : Bool := s.get f == 1

/-- A field set from a truth value. -/
def Dev.setB (s : Dev) (f : Fld) (b : Bool) : Dev := s.set f (b2n b)

/-- A counter field raised by n, saturating at all ones (R6). -/
def Dev.count (s : Dev) (f : Fld) (n : Nat) : Dev := s.set f (sat f.w (s.get f + n))

/-- A whole register as a counter raised by n, saturating at all ones (R6). -/
def Dev.countR (s : Dev) (a n : Nat) : Dev := s.wr a (BitVec.ofNat 32 (sat 32 ((s.rd a).toNat + n)))

/-- The number a 64-bit pair at address a holds (R3). -/
def Dev.rd64 (s : Dev) (a : Nat) : Nat := (s.rd a).toNat + 2 ^ 32 * (s.rd (a + 4)).toNat

/-- A 64-bit pair at address a set to a number. -/
def Dev.wr64 (s : Dev) (a n : Nat) : Dev := (s.wr a (BitVec.ofNat 32 n)).wr (a + 4) (BitVec.ofNat 32 (n / 2 ^ 32))

/-- Bit i of the single-bit cause or status bits that start at a field. -/
def Fld.at (f : Fld) (i : Nat) : Fld := ⟨f.reg, f.lo + i, 1⟩

/-- Ticks of the 832 MHz timebase clock in one microsecond and in one millisecond (Timebase, R266). -/
def usTicks : Nat := 832
def msTicks : Nat := 832000
/-- Ticks in one second. -/
def secTicks : Nat := 832000000

/-- An emission recorded. -/
def Dev.emit (s : Dev) (o : Out) : Dev := { s with out := o :: s.out }

/-- The next free value's index, and the counter advanced. -/
def Dev.draw (s : Dev) : Nat × Dev := (s.free, { s with free := s.free + 1 })

/-- f applied for each element of a list in order. -/
def forEach {α β : Type} (l : List α) (s : β) (f : α → β → β) : β := l.foldl (fun t x => f x t) s

/-- f applied where a condition holds. -/
def Dev.when (s : Dev) (c : Bool) (f : Dev → Dev) : Dev := if c then f s else s

/-- f applied n times at most, as long as it answers a further state. -/
def iter {β : Type} (f : β → Option β) : Nat → β → β
  | 0, s => s
  | n + 1, s => match f s with
    | some t => iter f n t
    | none => s

/-- Cause and enable registers of an MSI-X vector (Table 3-3). -/
def vecRegs : Nat → List (Nat × Nat)
  | 1 => [(R.HIF_ERR, R.HIF_ERR_EN)]
  | 2 => [(R.IMG_IRQ, R.IMG_IRQ_EN)]
  | 3 => [(R.MOD_IRQ, R.MOD_IRQ_EN), (R.PLT_IRQ, R.PLT_IRQ_EN)]
  | 4 => [(R.LFE_IRQ, R.LFE_IRQ_EN)]
  | 5 => [(R.LFR_IRQ, R.LFR_IRQ_EN)]
  | 6 => [(R.ACT_IRQ, R.ACT_IRQ_EN)]
  | 7 => [(R.BEL_IRQ, R.BEL_IRQ_EN)]
  | 8 => (List.range 16).map fun n => (R.TRB_n_EVENTS n, R.TRB_IRQ_EN)
  | 9 => [(R.PRS_IRQ, R.PRS_IRQ_EN)]
  | 10 => [(R.THK_IRQ, R.THK_IRQ_EN)]
  | 11 => [(R.SCH_IRQ, R.SCH_IRQ_EN)]
  | 12 => [(R.TMB_IRQ, R.TMB_IRQ_EN)]
  | 13 => [(R.ENG_IRQ, R.ENG_IRQ_EN)]
  | 14 => [(R.TSK_IRQ, R.TSK_IRQ_EN)]
  | 15 => [(R.DMA_u_IRQ 0, R.DMA_u_IRQ_EN 0), (R.DMA_HPATH_IRQ, R.DMA_HPATH_IRQ_EN)]
  | 16 => [(R.DMA_u_IRQ 1, R.DMA_u_IRQ_EN 1)]
  | 17 => [(R.DMA_u_IRQ 2, R.DMA_u_IRQ_EN 2)]
  | 18 => [(R.DMA_u_IRQ 3, R.DMA_u_IRQ_EN 3)]
  | 19 => [(R.DMA_u_IRQ 4, R.DMA_u_IRQ_EN 4)]
  | 20 => [(R.DMA_u_IRQ 5, R.DMA_u_IRQ_EN 5)]
  | 21 => [(R.DMA_u_IRQ 6, R.DMA_u_IRQ_EN 6)]
  | 22 => [(R.DMA_u_IRQ 7, R.DMA_u_IRQ_EN 7)]
  | 23 => [(R.CPH_IRQ, R.CPH_IRQ_EN)]
  | 24 => [(R.MAC_IRQ, R.MAC_IRQ_EN)]
  | 25 => [(R.LAN_IRQ, R.LAN_IRQ_EN)]
  | 26 => [(R.ROP_IRQ, R.ROP_IRQ_EN)]
  | 27 => [(R.TWN_IRQ, R.TWN_IRQ_EN)]
  | 28 => [(R.MEM_IRQ, R.MEM_IRQ_EN)]
  | 29 => [(R.PWR_IRQ, R.PWR_IRQ_EN)]
  | _ => []

/-- The vector whose condition a register takes part in: cause and enable registers lie in the block that raises it. -/
def vecOf (a : Nat) : Nat :=
  let b := a / 2 ^ 20
  if b = 0 then 3
  else if b < 15 then b
  else if b = 15 then (if a < 0xF01000 then 15 else 15 + (a - 0xF01000) / 0x1000)
  else b + 7

/-- The pending condition of a vector (R56): a cause bit is set whose enable bit is set. -/
def Dev.vecCond (s : Dev) (v : Nat) : Bool := (vecRegs v).any fun p => s.rd p.1 &&& s.rd p.2 != 0

/-- A word of the MSI-X table: four words an entry; the vector control words read 1 (masked) until they are written
(PRESUMED, PCI Express Base 3.0). -/
def Dev.msixWord (s : Dev) (i : Nat) : Word := sget (if i % 4 = 3 then 1 else 0) i s.hif.msix

/-- An MSI-X table word written. -/
def Dev.setMsixWord (s : Dev) (i : Nat) (v : Word) : Dev :=
  { s with hif := { s.hif with msix := sset (if i % 4 = 3 then 1 else 0) i v s.hif.msix } }

/-- A vector signalled: nothing while MSI-X is disabled, the write its table entry names, or its pending bit where the function or the
entry is masked (R56). -/
def Dev.signal (s : Dev) (v : Nat) : Dev :=
  if !s.hif.cfg.msixEnable then s
  else if s.hif.cfg.msixMask || bit (s.msixWord (4 * v + 3)).toNat 0 then { s with hif := { s.hif with pba := setBit s.hif.pba v } }
  else s.emit (.msix v ((s.msixWord (4 * v)).toNat + 2 ^ 32 * (s.msixWord (4 * v + 1)).toNat) (s.msixWord (4 * v + 2)).toNat)

/-- f applied, and vector v signalled where its condition becomes true (R56). -/
def Dev.irq (s : Dev) (v : Nat) (f : Dev → Dev) : Dev :=
  let t := f s
  if !s.vecCond v && t.vecCond v then t.signal v else t

/-- Hardware sets a cause bit (R56). -/
def Dev.raise (s : Dev) (f : Fld) : Dev := s.irq (vecOf f.reg) fun t => t.set f (2 ^ f.w - 1)

/-- Bit i of a cause field set by hardware. -/
def Dev.raiseAt (s : Dev) (f : Fld) (i : Nat) : Dev := s.raise (f.at i)

/-- The pending bit of a masked vector goes with its condition (R56, PCI Express Base 3.0). -/
def Dev.unpend (s : Dev) (v : Nat) : Dev :=
  if s.vecCond v then s else { s with hif := { s.hif with pba := clrBit s.hif.pba v } }

/-- A W1C write that clears cause bits and leaves the condition true signals the vector again; one that ends it ends a pending bit
(R56). -/
def Dev.clearCause (s : Dev) (a : Nat) (v : Word) : Dev :=
  let t := s.wr a (s.rd a &&& ~~~v)
  if s.rd a &&& v != 0 && t.vecCond (vecOf a) then t.signal (vecOf a) else t.unpend (vecOf a)

/-- The output pins are held by their pull-downs and the LED drives are off: a HARD or power-on reset that has not ended, or no
supply (R498). -/
def Dev.pinsOff (s : Dev) : Bool := s.sup.inReset == some .hard || s.sup.inReset == some .powerOn || !s.sup.running

/-- Whether an event journalled at most once per second may be journalled now: block type and code name it. -/
def Dev.rateOk (s : Dev) (k : Nat) : Bool :=
  match s.rate.find? (·.1 == k) with
  | some (_, t, _) => decide (t + secTicks ≤ s.ticks)
  | none => true

/-- Its instants within the last second. -/
def Dev.rateSeen (s : Dev) (k : Nat) : List Nat :=
  match s.rate.find? (·.1 == k) with
  | some (_, _, l) => l.filter fun x => decide (s.ticks < x + secTicks)
  | none => []

/-- Its events in the last second, this one included. -/
def Dev.rateCount (s : Dev) (k : Nat) : Nat := (s.rateSeen k).length + 1

/-- The event seen, and journalled now where one second has passed since the last one that was. -/
def Dev.rateMark (s : Dev) (k : Nat) : Dev :=
  let t := match s.rate.find? (·.1 == k) with
    | some (_, t, _) => if s.rateOk k then s.ticks else t
    | none => s.ticks
  { s with rate := (k, t, s.ticks :: s.rateSeen k) :: s.rate.filter (·.1 != k) }

/-- A read completed: the value, and the bus sees it. -/
def Dev.answerRead (s : Dev) (a : Nat) (v : Word) : Dev := { s with lastRead := v }.emit (.readData a v)

/-- The high word of a 64-bit pair that a low write takes: the held one, else the present one (R3). -/
def Dev.highFor (s : Dev) (hi : Nat) : Word :=
  match s.heldHigh.find? (·.1 == hi) with
  | some (_, v) => v
  | none => s.rd hi

/-- A held high word used up. -/
def Dev.dropHeld (s : Dev) (hi : Nat) : Dev := { s with heldHigh := s.heldHigh.filter (·.1 != hi) }

/-- A command's effect on the block, outside a reset (R92: a reset ends every operation, and none starts in it). -/
def State.run (s : State) (f : Dev → Dev) : Host.Outcome State Fault Refusal :=
  .next { s with dev := if s.dev.sup.inReset.isNone then f s.dev else s.dev }

/-- A command that acts on the supervisor whether or not the device is in reset. -/
def State.always (s : State) (f : Dev → Dev) : Host.Outcome State Fault Refusal := .next { s with dev := f s.dev }

end Sys2Proof.Machine
end

