-- ==== Sys2Proof/Machine/Pcie.lean ====
section
/-!
DEFINITION. Sys2Proof/Machine/Pcie.lean: the endpoint's identity and its configuration space (03_host_link_and_recovery.md R52,
R53; 04 R89). The table of commands has no row for a configuration request: these operations say how one is answered.
-/
namespace Sys2Proof.Machine

/-- Identity of the endpoint (Table 3-1). -/
def pcieVendor : Nat := 0x1F3A
def pcieDevice : Nat := 0x5120
def pcieClass : Nat := 0x028000

/-- Size of BAR0, and the interrupt vectors (Table 3-1). -/
def bar0Bytes : Nat := 0x4000000
def msixVectors : Nat := 32

/-- Rates and widths that the link trains to: codes 1 to 3 for 2.5, 5 and 8 GT/s, 1 and 2 for ×1 and ×2 (Table 3-1). -/
def LinkState.wf (l : LinkState) : Bool := decide (1 ≤ l.speed) && decide (l.speed ≤ 3) && decide (1 ≤ l.width) && decide (l.width ≤ 2)

/-- What the host may set in configuration space (Table 3-1): payload sizes of 128 or 256 bytes, read requests up to 512. -/
def PcieCfg.wf (c : PcieCfg) : Bool :=
  [128, 256].contains c.maxPayload && [128, 256, 512].contains c.maxRead && c.bar0 % bar0Bytes == 0

/-- How a configuration request ends. -/
inductive CfgAnswer where
  | noLink | retry | done (v : Word)
deriving DecidableEq, Repr

/-- A configuration read of the word at an offset: Retry Status until the boot structure has run and CONFIG is entered (R89). -/
def Dev.cfgRead (s : Dev) (off : Nat) : CfgAnswer :=
  if s.hif.link.isNone && s.sup.booted then .noLink
  else if !s.sup.booted then .retry
  else .done (match off with
    | 0x00 => BitVec.ofNat 32 (pcieDevice * 2 ^ 16 + pcieVendor)
    | 0x08 => BitVec.ofNat 32 (pcieClass * 2 ^ 8) ||| (Config.cfgWord 0x08 &&& 0xFF)
    | 0x10 => BitVec.ofNat 32 (s.hif.cfg.bar0 % 2 ^ 32 + 4)
    | 0x14 => BitVec.ofNat 32 (s.hif.cfg.bar0 / 2 ^ 32)
    | _ => Config.cfgWord off)

/-- BAR0 set by the host: 64-bit, its low bits fixed by its size (Table 3-1). -/
def Dev.setBar0 (s : Dev) (base : Nat) : Dev :=
  if s.sup.booted then { s with hif := { s.hif with cfg := { s.hif.cfg with bar0 := base % 2 ^ 64 / bar0Bytes * bar0Bytes } } } else s

end Sys2Proof.Machine
end

