-- ==== Sys2Proof/Machine/Time.lean ====
section
/-!
DEFINITION. Sys2Proof/Machine/Time.lean: elapsed time and time of day (12_timebase_and_stamps.md R266).
-/
namespace Sys2Proof.Machine

/-- 2^-32 ns in one second, and the whole range of the time (seconds wrap at 2^48). -/
def secUnits : Nat := 1000000000 * 2 ^ 32
def timeWrap : Nat := 2 ^ 48 * secUnits

/-- INCR: 2^-32 ns added at every tick. -/
def Dev.incr (s : Dev) : Nat := (s.rd64 R.TMB_INCR_LO) % 2 ^ 34

/-- n ticks pass. -/
def Dev.elapse (s : Dev) (n : Nat) : Dev :=
  { s with ticks := s.ticks + n, tmb := { s.tmb with
    time := (s.tmb.time + n * s.incr) % timeWrap, run := s.tmb.run + n * s.incr } }

/-- Elapsed time brought forward to an instant in ticks, when it lies ahead. -/
def Dev.until_ (s : Dev) (t : Nat) : Dev := s.elapse (t - s.ticks)

/-- The count of an instant of the time of day. -/
def Tod.units (t : Tod) : Nat := (t.sec * 1000000000 + t.ns) * 2 ^ 32

/-- Nanoseconds since the epoch of an instant. -/
def Tod.toNs (t : Tod) : Nat := t.sec * 1000000000 + t.ns

/-- The instant a number of nanoseconds names. -/
def Tod.ofNs (n : Nat) : Tod := { sec := n / 1000000000 % 2 ^ 48, ns := n % 1000000000 }

/-- The time of day now (R266). -/
def Dev.now (s : Dev) : Tod := Tod.ofNs (s.tmb.time / 2 ^ 32)

/-- The time of day in nanoseconds. -/
def Dev.nowNs (s : Dev) : Nat := s.tmb.time / 2 ^ 32

/-- Ticks until the time of day reaches an instant in nanoseconds (0 when it has). -/
def Dev.ticksTo (s : Dev) (ns : Nat) : Nat :=
  if ns * 2 ^ 32 ≤ s.tmb.time then 0 else (ns * 2 ^ 32 - s.tmb.time + s.incr - 1) / max 1 s.incr

/-- Time brought forward to the first tick at or after an instant of the time of day (R251). -/
def Dev.untilNs (s : Dev) (ns : Nat) : Dev := s.elapse (s.ticksTo ns)

/-- Seconds and nanoseconds as 6 and 4 bytes in network byte order (R278). -/
def Tod.beBytes (t : Tod) : List Byte := be 6 t.sec ++ be 4 t.ns

end Sys2Proof.Machine
end

