-- ==== Sys2Proof/Machine/MemWord.lean ====
section
/-!
DEFINITION. Sys2Proof/Machine/MemWord.lean: the protected word, its syndrome, the piton that stands for it, the error log and
full-word writes (21_memory_integrity.md R450, R451, R453, R458, R465).
-/
namespace Sys2Proof.Machine

/-- Sources of the error log. -/
def srcScrub : Nat := 0
def srcEngine : Nat := 1
def srcDma : Nat := 2
def srcHost : Nat := 3
def srcBlock : Nat := 4
def srcBist : Nat := 5
def srcTracker : Nat := 6

/-- Parity of the low w bits of a number. -/
def parity (w n : Nat) : Bool := popcount w n % 2 == 1

/-- The row and the column syndrome of a word whose stored bits differ from a codeword in e (R450). -/
def rowSyn (e : Nat) : Nat := ((List.range 8).map fun j => b2n (parity 8 (bits e (8 * j) 8) != bit e (64 + j)) * 2 ^ j).sum
def colSyn (e : Nat) : Nat :=
  ((List.range 8).map fun k => b2n ((((List.range 8).map fun j => b2n (bit e (8 * j + k))).sum % 2 == 1) != bit e (72 + k)) * 2 ^ k).sum

/-- Classes of Table 21-1: the data bit in error, or the check bit by its number 64 to 79. -/
inductive SynClass where
  | clean | data (bit : Nat) | check (bit : Nat) | uncorrectable
deriving DecidableEq, Repr

/-- Table 21-1. -/
def synClass (r c : Nat) : SynClass :=
  let one (n : Nat) : Option Nat := if popcount 8 n = 1 then lowestBit 8 n else none
  if r = 0 ∧ c = 0 then .clean
  else match one r, one c with
    | some j, some k => .data (8 * j + k)
    | some j, none => if c = 0 then .check (64 + j) else .uncorrectable
    | none, some k => if r = 0 then .check (72 + k) else .uncorrectable
    | none, none => .uncorrectable

/-- The errors left in a word whose check bits are made anew from data that differ in d: its syndrome is 0. -/
def recode (d : Nat) : Nat := let x := d % 2 ^ 64; x + 2 ^ 64 * (rowSyn x + 2 ^ 8 * colSyn x)

/-- The error pattern that marks a word as uncorrectable (two bits of row 0). -/
def markUe : Nat := 3

/-- Piton word p of an instance. -/
def Dev.piton (s : Dev) (i p : Nat) : Piton := sget default (8 * i + p) s.mem.pitons
def Dev.setPiton (s : Dev) (i p : Nat) (x : Piton) : Dev :=
  { s with mem := { s.mem with pitons := sset default (8 * i + p) x s.mem.pitons } }

/-- The piton that anchors a word (R458). -/
def Dev.anchor (s : Dev) (k : Nat) : Option Nat :=
  (List.range 8).find? fun p => (s.piton (k / 65536) p).valid && (s.piton (k / 65536) p).addr == k % 65536

/-- Errors of the word that an access to k reaches, and those errors replaced; POISON reads as uncorrectable (R459). -/
def Dev.errsOf (s : Dev) (k : Nat) : Nat :=
  match s.anchor k with
  | some p => let x := s.piton (k / 65536) p; if x.poison then markUe else x.errs
  | none => sget 0 k s.mem.errs
def Dev.setErrs (s : Dev) (k e : Nat) : Dev :=
  match s.anchor k with
  | some p => s.setPiton (k / 65536) p { s.piton (k / 65536) p with errs := e, poison := false }
  | none => { s with mem := { s.mem with errs := sset 0 k e s.mem.errs } }

/-- An entry of the error log: the 16 newest are kept (MEM_LOG_POP). -/
def Dev.memLog (s : Dev) (kind source bit k r c : Nat) : Dev :=
  let l := s.mem.log ++ [{ inst := k / 65536, kind := kind, source := source, bit := bit, addr := k % 65536, row := r, col := c, ns := s.now.ns }]
  let t : Dev := { s with mem := { s.mem with log := l.drop (l.length - 16) } }
  t.count R.MEM_LOG_POP_LOST (l.length - 16)

/-- A full-word write: new check bits, and an uncorrectable word is healed (R453). -/
def Dev.memFull (s : Dev) (source k : Nat) : Dev :=
  let e := s.errsOf k
  if e = 0 then s
  else
    let t := match synClass (rowSyn e) (colSyn e) with
      | .uncorrectable => (s.countR R.MEM_HEALED 1).memLog 8 source 0x7F k (rowSyn e) (colSyn e)
      | _ => s
    t.setErrs k 0

/-- Words that a block writes one after another (R453). -/
def Dev.memFulls (s : Dev) (source : Nat) (l : List Nat) : Dev := l.foldl (fun x k => x.memFull source k) s

/-- A read of the word would find it uncorrectable. -/
def Dev.wordBad (s : Dev) (k : Nat) : Bool := decide (synClass (rowSyn (s.errsOf k)) (colSyn (s.errsOf k)) = .uncorrectable)

/-- The protected words that hold the front-buffer cells of a queued frame (R241, R453). -/
def QFrame.words (f : QFrame) : List Nat := if f.cells.front = 0 then [] else Config.cellWords f.queue f.rx

end Sys2Proof.Machine
end

