-- ==== Sys2Proof/Machine/Buffer.lean ====
section
/-!
DEFINITION. Sys2Proof/Machine/Buffer.lean: what every block needs of the twin role, the line source and the links, buffer
admission and enqueue (11_queues_shapers_gates.md R239 to R244, R249, R256, R262).
-/
namespace Sys2Proof.Machine

/-- The twin role (R85; TWN_STATUS.ROLE holds it). -/
def Dev.role (s : Dev) : Role :=
  match s.get R.TWN_STATUS_ROLE with
  | 1 => .active
  | 2 => .standby
  | _ => .none

/-- The block holds the standby role. -/
def Dev.standby (s : Dev) : Bool := s.role == .standby

/-- The declaration in force for a pitch, if any. -/
def Dev.decl (s : Dev) (p : Nat) : Option Decl := sget none p (s.decls.map fun x => (x.1, some x.2))

/-- The source that pitch 13 names is the rope relay (R103). -/
def Dev.relay (s : Dev) : Bool := s.get R.LFE_STATUS_SOURCE == 2

/-- The port that is line source: the ACTIVE port (R103). -/
def Dev.activePort (s : Dev) : Option Port :=
  if s.get (R.LFE_x_STATUS_ROLE 0) = 2 then some .a else if s.get (R.LFE_x_STATUS_ROLE 1) = 2 then some .b else none

/-- The rate mode of the module: one of the modes in which traffic runs (R263, R472). -/
def Mode.traffic : Mode → Bool
  | .acquire | .range | .service | .standby | .island => true
  | _ => false

/-- The transmitter of a port may start a burst or a window: TEC locked, not inhibited, no rogue latched (R112, R115). -/
def Dev.txReady (s : Dev) (p : Port) : Bool :=
  s.is (R.LFE_x_STATUS_TEC_LOCK p.ix) && !s.is (R.LFE_x_CTL_TX_INHIBIT p.ix) && !s.is (R.LFE_x_STATUS_ROGUE p.ix)

/-- The activation states that use some grant (Table 7-4). -/
def ActSt.grants : ActSt → Bool
  | .serial | .ranging | .registered | .resuming => true
  | _ => false

/-- A rope port's link is up (R390, R399). -/
def Dev.ropeLink (s : Dev) (p : Nat) : Bool :=
  let g := 2 + p / 4
  if s.is (R.LAN_Gg_CFG_BONDED g) then p % 4 == 0 && s.is (R.LAN_Gg_STATUS_UP g)
  else s.get (R.LAN_x_CFG_USE (8 + p)) == 2 && s.get (R.LAN_x_STATUS_STATE (8 + p)) == 5

/-- BIVOUAC entry, or TEST is being entered: no burst or belay window starts (R83, R480). -/
def Dev.lineSilent (s : Dev) : Bool := s.pwr.coord == .entering || s.pwr.allOn

/-- Pitch p is in a reload that has begun to drain and has not been enabled (R43). -/
def Dev.draining (s : Dev) (p : Nat) : Bool :=
  (match s.img.op with | some o => bit o.pitches p | none => false) &&
    (s.img.state == .drain || s.img.state == .load || s.img.state == .reset)

/-- What keeps every granted burst from being sent, whatever the port and the grant (R145): standby, a switch, a drain of pitch 13, the
mode, a silent line. -/
def Dev.upBlocked (s : Dev) : Bool :=
  s.standby || s.lfe.switching.isSome || s.draining 13 || !s.sup.mode.traffic || s.sup.mode == .island || s.lineSilent

/-- Egress e cannot launch (R262). DEDUCED: P of a standby twin is down with its link only, since R429 has the standby forward transit,
MSG and TWIN frames as any node does. -/
def Dev.egressDown (s : Dev) (e : Nat) : Bool :=
  (s.standby && !(9 ≤ e && e ≤ 16)) ||
  (if e = 0 then
    (match s.activePort with
      | some p => s.upBlocked || !(s.txReady p)
      | none => !(s.relay && s.get R.ROP_RELAY_STATUS_STATE == 2)) || !(s.relay || s.act.st.grants)
   else if e ≤ 8 then !(s.is (R.MAC_En_STATUS_LINK (e - 1)))
   else if e ≤ 16 then !(s.ropeLink (e - 9))
   else !(s.is R.DMA_HPATH_CTL_HRX_EN) || s.get R.DMA_HRX_HEAD_INDEX == s.get R.DMA_HRX_TAIL_INDEX)

/-- Cells of the front buffer, and of both buffers (R241). -/
def frontCells : Nat := 65536
def poolCells : Nat := 8454144

/-- Every frame that holds cells of a queue. -/
def Dev.allFrames (s : Dev) : List QFrame :=
  s.sch.queues.flatMap (·.2) ++ s.sch.fifos.flatMap (·.2) ++ s.sch.timed.flatMap (·.2) ++
    s.sch.launching.filterMap fun x => x.2.map (·.1)

/-- Sum of a measure over the frames that hold cells. -/
def cellSum (f : QFrame → Nat) (l : List QFrame) : Nat := (l.map f).sum

/-- Front and deep cells in use (SCH_FRONT_USED, SCH_DEEP_USED). -/
def Dev.frontUsed (s : Dev) : Nat := cellSum (·.cells.front) s.allFrames
def Dev.deepUsed (s : Dev) : Nat := cellSum (·.cells.deep) s.allFrames

/-- Frames that hold cells of queue q. -/
def Dev.framesOf (s : Dev) (q : Nat) : List QFrame := s.allFrames.filter (·.queue == q)

/-- Cells queue q holds in both buffers (SCH_Qn_DEPTH), and of them shared and reserved ones. -/
def Dev.usedQ (s : Dev) (q : Nat) : Nat := cellSum (fun f => f.cells.front + f.cells.deep) (s.framesOf q)
def Dev.sharedQ (s : Dev) (q : Nat) : Nat := cellSum (·.cells.shared) (s.framesOf q)

/-- Cells that frames posted to tasks, or held in packet contexts, occupy in shared space (R325). -/
def PktCtx.cells (x : PktCtx) : Nat := match x.item with | some i => i.cells | none => 0
def Dev.postCells (s : Dev) : Nat :=
  (s.tsk.tasks.map fun t => (t.2.posts.map (·.cells)).sum + (match t.2.ctx with | some c => c.pkt.cells | none => 0)).sum +
    (s.engs.map fun e => e.2.pkt.cells).sum

/-- Cells a frame of n bytes takes. -/
def cellsFor (n : Nat) : Nat := (n + 255) / 256

/-- Cells held under IMG_HOLD_CELLS during a drain: frames before the parse units, and frames before the queues. -/
def Dev.heldCells (s : Dev) : Nat :=
  (if s.draining 9 || s.draining 10 || s.draining 11 then
    (((s.prs.line ++ s.prs.user).filter (!·.second)).map fun f => cellsFor f.bytes.length).sum else 0) +
  (s.sch.heldIn.map fun f => cellsFor f.bytes.length).sum

/-- Free shared space (R242). -/
def Dev.sharedFree (s : Dev) : Int :=
  (poolCells : Int) - s.get R.SCH_RESV_TOTAL_CELLS - cellSum (·.cells.shared) s.allFrames - s.postCells - s.heldCells

/-- Running counts of an admission. -/
structure AdmitAcc where
  cells : Cells
  usedQ : Nat
  sharedQ : Nat
  free : Int
  front : Nat
  frontQ : Nat
  spilling : Bool
deriving DecidableEq, Repr

/-- Admission of n cells for a queue one by one (R241, R242): none when any is refused. -/
def admitCells (resv guard alpha hi head : Nat) : Nat → AdmitAcc → Option AdmitAcc
  | 0, a => some a
  | n + 1, a =>
    let toFront := (decide (a.front < hi) || decide (a.frontQ < head)) && decide (a.front < frontCells)
    let place (c : Cells) : Cells := if toFront then { c with front := c.front + 1 } else { c with deep := c.deep + 1 }
    let b := { a with usedQ := a.usedQ + 1, front := a.front + b2n toFront, frontQ := a.frontQ + b2n toFront, spilling := !toFront }
    if a.usedQ < resv then
      admitCells resv guard alpha hi head n { b with cells := place { a.cells with resv := a.cells.resv + 1 } }
    else if a.free - 1 < guard ∨ alpha = 0 ∨ (a.sharedQ : Int) * 128 ≥ 2 ^ alpha * a.free then none
    else admitCells resv guard alpha hi head n
      { b with cells := place { a.cells with shared := a.cells.shared + 1 }, sharedQ := a.sharedQ + 1, free := a.free - 1 }

/-- Admission of a frame of len bytes to queue q (R242): its cells and whether the last new cell spilled. -/
def Dev.admission (s : Dev) (q len : Nat) : Option AdmitAcc :=
  admitCells (s.get (R.SCH_Qn_RESV_CELLS q)) (s.get (R.SCH_CLASS_GUARD_CELLS (s.get (R.SCH_Qn_CFG_CLASS q))))
    (s.get (R.SCH_Qn_CFG_ALPHA q)) (s.get R.SCH_SPILL_CFG_HI) (s.get R.SCH_SPILL_CFG_HEAD) (cellsFor len)
    { cells := default, usedQ := s.usedQ q, sharedQ := s.sharedQ q, free := s.sharedFree, front := s.frontUsed,
      frontQ := cellSum (·.cells.front) (s.framesOf q), spilling := false }

/-- A queue names no egress (R239). -/
def Dev.noEgress (s : Dev) (q : Nat) : Bool := decide (17 < s.get (R.SCH_Qn_CFG_EGRESS q))

/-- OVERHEAD of an egress as a signed byte count (R248). -/
def Dev.overhead (s : Dev) (e : Nat) : Int := signed 8 (s.get (R.SCH_Ee_CFG_OVERHEAD e))

/-- A slot that nothing was ever written to. -/
def KeySlot.empty : KeySlot :=
  { cur := none, prev := none, gen := 0, pn := 1, rpn := 0, window := 0, warned := false, stale := [] }

/-- A key slot (R367). -/
def Dev.slot (s : Dev) (n : Nat) : KeySlot := sget .empty n s.cph.slots
def Dev.setSlot (s : Dev) (n : Nat) (x : KeySlot) : Dev := { s with cph := { s.cph with slots := sset .empty n x s.cph.slots } }

/-- The key of a slot that a captured generation names (R367). -/
def KeySlot.keyOf (x : KeySlot) (gen : Nat) : Option Key :=
  match x.cur, x.prev with
  | some k, p => if k.gen = gen then some k else (match p with | some j => if j.gen = gen then some j else none | none => none)
  | none, some j => if j.gen = gen then some j else none
  | none, none => none

/-- Bytes that encryption under a key adds (R360). -/
def Key.expansion (k : Key) : Nat := if (k.kind = 3 ∨ k.kind = 4) ∧ k.sciFlag then 32 else 24

/-- Bytes that the cipher will add to a frame. -/
def Dev.expansion (s : Dev) (f : QFrame) : Nat :=
  if f.cipher = 1 then (match (s.slot f.slot).keyOf f.gen with | some k => k.expansion | none => 0) else 0

/-- L of a frame at its egress: its length after encryption plus OVERHEAD (R247, R360). -/
def Dev.lenL (s : Dev) (e : Nat) (f : QFrame) : Int := (f.bytes.length + s.expansion f : Nat) + s.overhead e

/-- Frames of a queue, a class launch FIFO, a timed list (empty where unlisted). -/
def Dev.queue (s : Dev) (q : Nat) : List QFrame := sget [] q s.sch.queues
def Dev.fifo (s : Dev) (e c : Nat) : List QFrame := sget [] (8 * e + c) s.sch.fifos
def Dev.timedOf (s : Dev) (e : Nat) : List QFrame := sget [] e s.sch.timed
def Dev.setQueue (s : Dev) (q : Nat) (l : List QFrame) : Dev := { s with sch := { s.sch with queues := sset [] q l s.sch.queues } }
def Dev.setFifo (s : Dev) (e c : Nat) (l : List QFrame) : Dev :=
  { s with sch := { s.sch with fifos := sset [] (8 * e + c) l s.sch.fifos } }
def Dev.setTimed (s : Dev) (e : Nat) (l : List QFrame) : Dev := { s with sch := { s.sch with timed := sset [] e l s.sch.timed } }

/-- The later of two 64-bit tags by the sign of their difference (R249). -/
def tagMax (a b : Nat) : Nat := if signed 64 (unsigned 64 ((a : Int) - b)) < 0 then b else a

/-- Whether tag a lies below tag b. -/
def tagLt (a b : Nat) : Bool := decide (signed 64 (unsigned 64 ((a : Int) - b)) < 0)

/-- The finish tag of a queue's new head frame (R249); no tag for weight 0. -/
def Dev.tagHead (s : Dev) (q : Nat) (wasEmpty : Bool) : Dev :=
  match s.queue q with
  | [] => { s with sch := { s.sch with headTag := sset none q none s.sch.headTag } }
  | f :: _ =>
    let e := s.get (R.SCH_Qn_CFG_EGRESS q)
    let w := s.get (R.SCH_Qn_CFG_WEIGHT q)
    let fq := sget 0 q s.sch.tag
    let st := if wasEmpty then tagMax (sget 0 (8 * e + s.get (R.SCH_Qn_CFG_CLASS q)) s.sch.vtime) fq else fq
    let t := if w = 0 then none else some (unsigned 64 (st + s.lenL e f * 65536 / w))
    { s with sch := { s.sch with headTag := sset none q t s.sch.headTag } }

/-- A frame joins its queue's end. -/
def Dev.pushQueue (s : Dev) (f : QFrame) : Dev :=
  let l := s.queue f.queue
  let t := s.setQueue f.queue (l ++ [f])
  if l.isEmpty then t.tagHead f.queue true else t

/-- A frame inserted into a list ordered by launch time, behind equal ones. -/
def insertTimed (f : QFrame) : List QFrame → List QFrame
  | [] => [f]
  | g :: t => if ((f.launch.map Tod.toNs).getD 0) < ((g.launch.map Tod.toNs).getD 0) then f :: g :: t else g :: insertTimed f t

/-- SCH events an enqueue gives rise to: code of Table 11-5 and egress. -/
abbrev SchEvents := List (Nat × Nat)

/-- A timed frame whose last cell is admitted enters the timed list of egress e (R256, R258, R262). -/
def Dev.enterTimed (s : Dev) (e : Nat) (f : QFrame) (t : Tod) : Dev × SchEvents :=
  if s.egressDown e && s.is (R.SCH_Ee_CFG_DOWN_DROP e) then (s.countR (R.SCH_Ee_DOWN_DROPS e) 1, [])
  else if t.toNs > s.nowNs + 1000000000 then
    ((s.count (R.SCH_Ee_TIMED_DROP_RANGE e) 1).raise R.SCH_IRQ_TIMED_DROP, [(7, e)])
  else if (s.timedOf e).length ≥ 4096 then
    ((s.count (R.SCH_Ee_TIMED_DROP_FULL e) 1).raise R.SCH_IRQ_TIMED_DROP, [(7, e)])
  else if s.nowNs + s.get (R.SCH_Ee_LEAD_NS e) ≤ t.toNs then (s.setTimed e (insertTimed f (s.timedOf e)), [])
  else
    let s1 := (s.count (R.SCH_Ee_LATE_ARRIVAL e) 1).raise R.SCH_IRQ_LATE
    if s.is (R.SCH_Ee_CFG_LATE_MODE e) then (s1.count (R.SCH_Ee_LATE2_DROPPED e) 1, [(3, e)])
    else (s1.setTimed e (insertTimed { f with late := true } (s.timedOf e)), [(3, e)])

/-- Steps 2 and 3 of R239 for a frame of a FORWARD: admission to its queue and enqueue; its front cells are full-word writes (R453). -/
def Dev.enqueueNow (s : Dev) (f : QFrame) : Dev × SchEvents :=
  let q := f.queue
  let e := s.get (R.SCH_Qn_CFG_EGRESS q)
  if e > 17 then (s.countR R.SCH_NO_EGRESS 1, [])
  else match s.admission q f.bytes.length with
    | none =>
      ((((s.countR (R.SCH_Qn_REFUSED q) 1).countR (R.SCH_CLASS_REFUSED (s.get (R.SCH_Qn_CFG_CLASS q))) 1)).raise R.SCH_IRQ_REFUSED,
        [(4, e)])
    | some a =>
      let g := { f with cells := a.cells }
      let s1 := (s.setB R.SCH_STATUS_SPILLING a.spilling).memFulls srcBlock g.words
      match f.launch with
      | some t => if e = 17 ∨ (e = 0 ∧ s.relay) then (s1.pushQueue { g with launch := none }, []) else s1.enterTimed e g t
      | none => (s1.pushQueue g, [])

/-- A frame held before its queue as far as IMG_HOLD_CELLS lasts, dropped and counted beyond it (Table 2-8). -/
def Dev.holdFrame (s : Dev) (f : QFrame) : Dev :=
  if s.heldCells + cellsFor f.bytes.length > s.get R.IMG_HOLD_CELLS_CELLS then s.countR R.IMG_DRAIN_DROPS 1
  else { s with sch := { s.sch with heldIn := s.sch.heldIn ++ [f] } }

/-- A frame on its way to its queue, which a drain of pitch 11 holds (Table 2-8). -/
def Dev.enqueue (s : Dev) (f : QFrame) : Dev × SchEvents := if s.draining 11 then (s.holdFrame f, []) else s.enqueueNow f

end Sys2Proof.Machine
end

