-- ==== Sys2Proof/Machine/Journal.lean ====
section
/-!
DEFINITION. Sys2Proof/Machine/Journal.lean: the cairn journal and the three device-to-host paths
(03_host_link_and_recovery.md R57, R64 to R71, R74 to R76).
-/
namespace Sys2Proof.Machine

/-- The state of a host path. -/
def Dev.path (s : Dev) : Path → PathSt
  | .pcie => s.hif.pcie
  | .inBand => s.hif.inBand
  | .remote => s.hif.remote

/-- The state of a host path replaced. -/
def Dev.setPath (s : Dev) (p : Path) (x : PathSt) : Dev :=
  match p with
  | .pcie => { s with hif := { s.hif with pcie := x } }
  | .inBand => { s with hif := { s.hif with inBand := x } }
  | .remote => { s with hif := { s.hif with remote := x } }

/-- The number the next journalled message takes. -/
def Dev.nextSeq (s : Dev) : Nat := (s.rd R.HIF_D2H_NEXT_SEQ).toNat

/-- The lowest number in the journal. -/
def Dev.oldest (s : Dev) : Nat := (s.rd R.HIF_JOURNAL_OLDEST).toNat

/-- Difference of two sequence numbers modulo 2^32. -/
def seqSub (a b : Nat) : Nat := (a + 2 ^ 32 - b) % 2 ^ 32

/-- The journalled message of a number, none where the journal does not hold it. -/
def Dev.journalAt (s : Dev) (n : Nat) : Option DMsg := s.hif.journal[seqSub n s.oldest]?

/-- A message takes the next number and enters the journal, which keeps the last 4,096 (R67). -/
def Dev.append (s : Dev) (typ : Nat) (ans : Option (Path × Nat)) (payload : List Byte) : Dev :=
  let n := s.nextSeq
  let l := s.hif.journal ++ [{ seq := n, typ := typ, ans := ans, payload := payload }]
  let l := l.drop (l.length - 4096)
  let t := { s with hif := { s.hif with journal := l } }
  (t.wr R.HIF_D2H_NEXT_SEQ (BitVec.ofNat 32 (n + 1))).wr R.HIF_JOURNAL_OLDEST
    (BitVec.ofNat 32 (match l with | m :: _ => m.seq | [] => 0))

/-- Vector 0 raised (R66). -/
def Dev.raiseRing (s : Dev) : Dev := { s with hif := { s.hif with unsignalled := 0 } }.signal 0

/-- A message written to the D2H ring counts towards vector 0 (R66). -/
def Dev.coalesce (s : Dev) : Dev :=
  let n := s.hif.unsignalled + 1
  let t := { s with hif := { s.hif with
    unsignalled := n, firstUnsignalled := if n = 1 then s.ticks else s.hif.firstUnsignalled } }
  let c := s.get R.HIF_D2H_COAL_COUNT
  if (c = 0 ∧ s.get R.HIF_D2H_COAL_TIME = 0) ∨ (c ≠ 0 ∧ c ≤ n) then t.raiseRing else t

/-- Entries of the D2H and of the H2D ring (R62). -/
def Dev.d2hSize (s : Dev) : Nat := 2 ^ s.get R.HIF_D2H_SIZE_LOG2
def Dev.h2dSize (s : Dev) : Nat := 2 ^ s.get R.HIF_H2D_SIZE_LOG2

/-- The D2H ring is full: size − 1 entries are written and not consumed (R64). -/
def Dev.ringFull (s : Dev) : Bool :=
  (s.get R.HIF_D2H_TAIL_INDEX + s.d2hSize - s.get R.HIF_D2H_HEAD_INDEX) % s.d2hSize == s.d2hSize - 1

/-- One entry written at TAIL (R64). Whether the PCIe write meets an error is a free value; such a message is skipped. -/
def Dev.ringWrite (s : Dev) (m : DMsg) (replay : Bool) : Dev :=
  let (k, s) := s.draw
  if Config.pcieWriteError k then (s.raise R.HIF_ERR_D2H_WRITE).countR R.HIF_SKIP_RING 1
  else
    let tail := s.get R.HIF_D2H_TAIL_INDEX
    let s1 := s.emit (.hostWrite (s.rd64 R.HIF_D2H_BASE_LO + 64 * tail) (m.bytes s.hif.phase replay))
    let next := (tail + 1) % s.d2hSize
    let s2 := s1.set R.HIF_D2H_TAIL_INDEX next
    let s3 := if next = 0 then { s2 with hif := { s2.hif with phase := !s2.hif.phase } } else s2
    s3.coalesce

/-- The AES-CMAC key of a slot, none where the slot holds no current CMAC key (R370). -/
def Dev.cmacKey (s : Dev) (slot : Nat) : Option (List Byte) :=
  match (sget none slot (s.cph.slots.map fun x => (x.1, some x.2))).bind (·.cur) with
  | some k => if k.kind = 5 ∨ k.kind = 6 then some k.key else none
  | none => none

/-- A 48-bit MAC address as its six bytes. -/
def macBytes (n : Nat) : List Byte := be 6 n

/-- A queued frame with nothing but its bytes and its queue. -/
def QFrame.plain (bytes : List Byte) (queue : Nat) : QFrame := { (default : QFrame) with bytes := bytes, queue := queue }

/-- The in-band D2H frame that carries messages to the peer, given the key (Table 3-8, R74). -/
def Dev.ibFrame (s : Dev) (key : List Byte) (msgs : List (List Byte)) : List Byte :=
  let vlan := s.get R.HIF_IB_PEER_HI_VLAN
  let body := [0x01, 0x02, BitVec.ofNat 8 msgs.length, 0x00] ++ msgs.flatten
  macBytes (s.rd64 R.HIF_IB_PEER_LO % 2 ^ 48) ++ macBytes (s.rd64 R.HIF_IB_MAC_LO % 2 ^ 48) ++
    (if vlan = 0 then [] else [0x81, 0x00] ++ be 2 s.hif.peerTci) ++ [0x88, 0xB5] ++ body ++ padTo 16 (aesCmac key body)

/-- The in-band path sends: enabled, with a peer and a CMAC key (R74, R370). -/
def Dev.ibKey (s : Dev) : Option (List Byte) :=
  if s.is R.HIF_CTL_IB_EN && s.is R.HIF_IB_PEER_HI_VALID then s.cmacKey (s.get R.HIF_MGMT_KEY_SLOT) else none

/-- One message sent in band: its frame enters the management queue and leaves by that queue's egress. Each frame carries one message.
A message that the enabled path cannot take is skipped and counted (R67, R74): for want of a peer, of a CMAC key or of a management
queue (DEDUCED from R67), or because admission refuses its frame. -/
def Dev.ibSend (s : Dev) (bytes : List Byte) : Dev × SchEvents :=
  match s.ibKey, s.decl 11 with
  | some k, some d =>
    let r := s.enqueue (QFrame.plain (s.ibFrame k [bytes]) (d.mgmtQueue % 8192))
    if r.2.any (·.1 == 4) || s.noEgress (d.mgmtQueue % 8192) then (r.1.count R.HIF_SKIP_PATHS_IB 1, r.2) else r
  | _, _ => (if s.is R.HIF_CTL_IB_EN then s.count R.HIF_SKIP_PATHS_IB 1 else s, [])

/-- The D2H tunnel can send: remote path enabled, mode RANGE or SERVICE (R76). -/
def Dev.rmUp (s : Dev) : Bool := s.is R.HIF_CTL_RM_EN && (s.sup.mode == .range || s.sup.mode == .service)

/-- D2H messages that wait for upstream capacity. -/
def Dev.rmWaiting (s : Dev) : Nat := (s.act.tunnel.length + 1) / 2

/-- The two 34-byte TUNNEL contents of a message (R75). -/
def tunnelFragments (m : List Byte) : List (List Byte) :=
  let low := slice m 0 1
  [[0x00] ++ low ++ slice m 0 32, [0x80] ++ low ++ slice m 32 32]

/-- A message joins the D2H tunnel queue. -/
def Dev.rmPush (s : Dev) (m : List Byte) : Dev :=
  { s with act := { s.act with tunnel := s.act.tunnel ++ tunnelFragments m } }

/-- A replay on a path stands before the live message the path takes next. -/
def PathSt.replaying (x : PathSt) : Bool :=
  match x.replay with
  | some (_, _, b) => decide (seqSub x.next b < 2 ^ 31)
  | none => false

/-- BAR0 addresses that a REG_READ or REG_WRITE message names (R60). -/
def HMsg.addrs (m : HMsg) : List Nat :=
  let n := if m.typ = 0x0104 then leAt m.payload 4 1 else if m.typ = 0x0105 then (m.len - 4) / 4 else 0
  if n > 12 then [] else (List.range n).map fun i => leAt m.payload 0 4 + 4 * i

/-- One action of the D2H ring: a snapshot part never (R71); the next replayed message; or the next live one (R64, R65, R69). -/
def Dev.ringStep (s : Dev) : Option Dev :=
  let x := s.hif.pcie
  if !s.is R.HIF_CTL_D2H_EN then none
  else if x.replaying then
    match x.replay with
    | some (_, 0, _) => some (s.setPath .pcie { x with replay := none })
    | some (n, k + 1, b) =>
      let s1 := s.setPath .pcie { x with replay := some ((n + 1) % 2 ^ 32, k, b) }
      match s.journalAt n with
      | none => some s1
      | some m => if s.ringFull then none else some (s1.ringWrite m true)
    | none => none
  else if x.next = s.nextSeq then none
  else match s.journalAt x.next with
    | none => some ((s.setPath .pcie { x with next := s.oldest }).countR R.HIF_SKIP_RING (seqSub s.oldest x.next))
    | some m => if s.ringFull then none
      else some ((s.setPath .pcie { x with next := (x.next + 1) % 2 ^ 32 }).ringWrite m false)

/-- The ring is written as far as it can be. -/
def Dev.pumpRing (s : Dev) : Dev := iter Dev.ringStep 8448 s

/-- One action of the in-band path (R69, R71, R74). -/
def Dev.ibStep (x : Dev × SchEvents) : Option (Dev × SchEvents) :=
  let s := x.1
  let p := s.hif.inBand
  let send (t : Dev) (b : List Byte) : Option (Dev × SchEvents) := let r := t.ibSend b; some (r.1, x.2 ++ r.2)
  if p.replaying then
    match p.replay with
    | some (_, 0, _) => some (s.setPath .inBand { p with replay := none }, x.2)
    | some (n, k + 1, b) =>
      let s1 := s.setPath .inBand { p with replay := some ((n + 1) % 2 ^ 32, k, b) }
      match s.journalAt n with
      | none => some (s1, x.2)
      | some m => send s1 (m.bytes false true)
    | none => none
  else match p.snap with
    | some (_, _, []) => some (s.setPath .inBand { p with snap := none }, x.2)
    | some (pt, tot, b :: rest) =>
      if seqSub p.next pt = 0 ∨ seqSub p.next pt ≥ 2 ^ 31 then
        match s.journalAt p.next with
        | some m => send (s.setPath .inBand { p with next := (p.next + 1) % 2 ^ 32 }) (m.bytes false false)
        | none => some (s.setPath .inBand { p with snap := none }, x.2)
      else send (s.setPath .inBand { p with snap := some (pt, tot, rest) }) b
    | none =>
      if p.next = s.nextSeq then none
      else match s.journalAt p.next with
        | none => some ((s.setPath .inBand { p with next := s.oldest }).count R.HIF_SKIP_PATHS_IB (seqSub s.oldest p.next), x.2)
        | some m => send (s.setPath .inBand { p with next := (p.next + 1) % 2 ^ 32 }) (m.bytes false false)

/-- The in-band path sends all that waits. -/
def Dev.pumpIb (s : Dev) : Dev × SchEvents := iter Dev.ibStep 10240 (s, [])

/-- One action of the remote path: replayed messages and snapshot parts wait for room, a live message that finds none is
skipped and counted (R69, R71, R76). -/
def Dev.rmStep (s : Dev) : Option Dev :=
  let p := s.hif.remote
  let room := s.rmUp && decide (s.rmWaiting ≤ 64)
  if p.replaying then
    match p.replay with
    | some (_, 0, _) => some (s.setPath .remote { p with replay := none })
    | some (n, k + 1, b) =>
      let s1 := s.setPath .remote { p with replay := some ((n + 1) % 2 ^ 32, k, b) }
      match s.journalAt n with
      | none => some s1
      | some m => if room then some (s1.rmPush (m.bytes false true)) else none
    | none => none
  else
    let live : Option Dev :=
      if p.next = s.nextSeq then none
      else
        let s1 := s.setPath .remote { p with next := (p.next + 1) % 2 ^ 32 }
        match s.journalAt p.next with
        | none => some ((s.setPath .remote { p with next := s.oldest }).count R.HIF_SKIP_PATHS_RM (seqSub s.oldest p.next))
        | some m =>
          if room then some (s1.rmPush (m.bytes false false))
          else if s.is R.HIF_CTL_RM_EN then some (s1.count R.HIF_SKIP_PATHS_RM 1) else some s1
    match p.snap with
    | some (_, _, []) => some (s.setPath .remote { p with snap := none })
    | some (pt, tot, b :: rest) =>
      if seqSub p.next pt = 0 ∨ seqSub p.next pt ≥ 2 ^ 31 then live
      else if room then some ((s.setPath .remote { p with snap := some (pt, tot, rest) }).rmPush b) else none
    | none => live

/-- The remote path takes all it can. -/
def Dev.pumpRm (s : Dev) : Dev := iter Dev.rmStep 8448 s

/-- Every path takes what it can. -/
def Dev.pumpAll (s : Dev) : Dev × SchEvents := let r := s.pumpIb; (r.1.pumpRing.pumpRm, r.2)

/-- A message journalled and sent, before the events its own in-band copy may cause. -/
def Dev.journalOnce (s : Dev) (typ : Nat) (ans : Option (Path × Nat)) (payload : List Byte) : Dev × SchEvents :=
  (s.append typ ans payload).pumpAll

/-- The key of an event journalled at most once per second: message type, code and unit. -/
def rateKey (typ code unit : Nat) : Nat := (typ * 256 + code) * 65536 + unit

/-- SCH_EVENTs of an enqueue, at most once per second per egress (R265), with those that their own in-band copies cause: a copy can
only be REFUSED on the management queue's egress, whose second event in a row is not journalled, so three rounds are all. -/
def Dev.schEventsOnce : Nat → Dev → SchEvents → Dev
  | 0, s, _ => s
  | fuel + 1, s, ev => forEach ev s fun x t =>
    let k := rateKey 0x0B80 x.1 x.2
    let u := t.rateMark k
    if t.rateOk k then
      let r := u.journalOnce 0x0B80 none (le 1 x.1 ++ le 1 x.2 ++ le 4 (t.rateCount k) ++ le 4 0)
      schEventsOnce fuel r.1 r.2
    else u

/-- A D2H message: numbered, journalled, sent on every enabled path (R67). -/
def Dev.journalMsg (s : Dev) (typ : Nat) (ans : Option (Path × Nat)) (payload : List Byte) : Dev :=
  let r := s.journalOnce typ ans payload
  r.1.schEventsOnce 3 r.2

/-- An event message. -/
def Dev.event (s : Dev) (typ : Nat) (payload : List Byte) : Dev := s.journalMsg typ none payload

/-- An event journalled each time, its payload made from the count in the last second. -/
def Dev.eventCounted (s : Dev) (typ code unit : Nat) (payload : Nat → List Byte) : Dev :=
  let k := rateKey typ code unit
  (s.rateMark k).event typ (payload (s.rateCount k))

/-- An event journalled at most once per second, its payload made from the count in the last second. -/
def Dev.eventRated (s : Dev) (typ code unit : Nat) (payload : Nat → List Byte) : Dev :=
  let k := rateKey typ code unit
  let n := s.rateCount k
  let ok := s.rateOk k
  let t := s.rateMark k
  if ok then t.event typ (payload n) else t

/-- SCH_EVENTs of an enqueue (R265). -/
def Dev.schEvents (s : Dev) (ev : SchEvents) : Dev := s.schEventsOnce 3 ev

/-- Paths that can take messages again take them. -/
def Dev.pump (s : Dev) : Dev := let r := s.pumpAll; r.1.schEvents r.2

/-- Statuses of an ACK (R59). -/
inductive AckStatus where
  | ok | duplicate | type | length | mode | argument | busy | partial_ | path
deriving DecidableEq, Repr

/-- STATUS codes. -/
def AckStatus.code : AckStatus → Nat
  | .ok => 0
  | .duplicate => 1
  | .type => 2
  | .length => 3
  | .mode => 4
  | .argument => 5
  | .busy => 6
  | .partial_ => 7
  | .path => 8

/-- ACK of the command with sequence number ref on a path (Table 3-5). -/
def Dev.ack (s : Dev) (p : Path) (ref : Nat) (st : AckStatus) (result : List Byte) : Dev :=
  s.journalMsg 0x0180 (some (p, ref)) (le 4 st.code ++ result)

/-- NACK with the sequence number expected (Table 3-5). -/
def Dev.nack (s : Dev) (p : Path) (ref expected : Nat) : Dev :=
  s.journalMsg 0x0181 (some (p, ref)) (le 4 expected)

end Sys2Proof.Machine
end

