-- ==== Sys2Proof/Machine/Gates.lean ====
section
/-!
DEFINITION. Sys2Proof/Machine/Gates.lean: data rates, gate lists in force, launch instants, and timed frames that become late
(11_queues_shapers_gates.md R252, R253, R256, R258, R263; 12_timebase_and_stamps.md R271, R276, R280).
-/
namespace Sys2Proof.Machine

/-- The data rate of an egress in bits per ns, as numerator and denominator (R252; Tables 17-1, 18-1, R390). -/
def Dev.egressRate (s : Dev) (e : Nat) : Nat × Nat :=
  if 1 ≤ e ∧ e ≤ 8 then
    match s.get (R.MAC_En_CFG_TYPE (e - 1)) with
    | 1 => (10, 1)
    | 4 => (100, 1)
    | _ => (25, 1)
  else if 9 ≤ e ∧ e ≤ 16 then
    let k := if s.is (R.LAN_Gg_CFG_BONDED (2 + (e - 9) / 4)) then 4 else 1
    match s.get (R.LAN_x_CFG_RATE (e - 1)) with
    | 1 => (10 * k, 1)
    | 2 => (25 * k, 1)
    | _ => (850 * k, 33)
  else (1, 1)

/-- An Ethernet lane of a standby twin holds electrical idle with STBY_LINK = 0, once the frame in progress of its port is over (R444). -/
def Dev.lanesDark (s : Dev) (i : Nat) : Bool :=
  decide (i < 8) && s.standby && !s.is R.TWN_CFG_STBY_LINK &&
    (sget none (if s.is (R.LAN_Gg_CFG_BONDED (i / 4)) then 4 * (i / 4) + 1 else i + 1) s.sch.launching).isNone

/-- What the transmitter of a lane sends on J4: electrical idle while it sleeps, in a near-end loop and dark (R398, R401, R404, R444). -/
def Dev.laneTx (s : Dev) (i : Nat) : LaneTx :=
  if !s.is (R.LAN_x_STATUS_TX_AWAKE i) || s.lanesDark i then .idle
  else if s.sup.mode ≠ .test then .pcs
  else match s.get (R.LAN_x_TEST_LOOP i) with
    | 0 => if s.is (R.LAN_x_TEST_GEN i) then .prbs (s.get (R.LAN_x_TEST_PATTERN i)) (s.get (R.LAN_x_TEST_RATE i)) else .pcs
    | 3 => .far
    | _ => .idle

/-- A change of what a lane sends since s0 is seen on J4. -/
def Dev.laneOut (s s0 : Dev) (i : Nat) : Dev :=
  let inv := s.is (R.LAN_x_CTL_TX_INVERT i)
  if s0.laneTx i = s.laneTx i ∧ s0.is (R.LAN_x_CTL_TX_INVERT i) = inv then s else s.emit (.lane i (s.laneTx i) inv)

/-- What changed on the Ethernet lanes since s0 (R444). -/
def Dev.userLanesOut (s s0 : Dev) : Dev := forEach (List.range 8) s fun i t => t.laneOut s0 i

/-- Egress e starts a control or PAUSE frame of n bytes on the wire, after any that occupies it (R384, R408). -/
def Dev.occupy (s : Dev) (e n : Nat) : Dev :=
  let r := s.egressRate e
  { s with sch := { s.sch with
    ctlUntil := sset 0 e (max s.tmb.run (sget 0 e s.sch.ctlUntil) + 8 * n * r.2 * 2 ^ 32 / r.1) s.sch.ctlUntil } }

/-- A control or PAUSE frame is leaving egress e, and the time at which it has left. -/
def Dev.ctlBusy (s : Dev) (e : Nat) : Bool := decide (s.tmb.run < sget 0 e s.sch.ctlUntil)
def Dev.freeCtl (s : Dev) (e : Nat) : Dev :=
  if s.ctlBusy e then s.elapse ((sget 0 e s.sch.ctlUntil - s.tmb.run + s.incr - 1) / max 1 s.incr) else s

/-- A control frame with its FCS enters the launch stage of a rope port's egress, ahead of every class at the next frame boundary (R408). -/
def Dev.ctlOut (s : Dev) (port : Nat) (b : List Byte) : Dev :=
  let e := 9 + port
  if (sget none e s.sch.launching).isSome then
    { s with sch := { s.sch with ctlWait := sset [] e (sget [] e s.sch.ctlWait ++ [b]) s.sch.ctlWait } }
  else (s.emit (.rope port b)).occupy e b.length

/-- The frame in progress of a rope port's egress has ended, and the control frames that waited for it leave. -/
def Dev.ctlFlush (s : Dev) (port : Nat) : Dev :=
  forEach (sget [] (9 + port) s.sch.ctlWait) { s with sch := { s.sch with ctlWait := serase (9 + port) s.sch.ctlWait } } fun b t => t.ctlOut port b

/-- Entries of the active list of egress e with a non-zero interval: offset in the cycle and gates, cut at the cycle (R253). -/
def Dev.gclSegs (s : Dev) (e : Nat) : List (Nat × Nat) :=
  let cycle := (s.rd (R.SCH_Ee_ACT_CYCLE e)).toNat
  let r := (List.range (sget 0 e s.sch.actLen)).foldl (fun (x : Nat × List (Nat × Nat)) i =>
    let n := s.get (R.SCH_Ee_ACTi_INTERVAL e i)
    if n = 0 ∨ x.1 ≥ cycle then x else (x.1 + n, x.2 ++ [(x.1, s.get (R.SCH_Ee_ACTi_GATES e i))])) (0, [])
  r.2

/-- Offset of an instant in ns within the cycle of the active list, none before its start (R253). -/
def Dev.gclPos (s : Dev) (e t : Nat) : Option Nat :=
  let st := (sget default e s.sch.actStart).toNs
  let cycle := (s.rd (R.SCH_Ee_ACT_CYCLE e)).toNat
  if cycle = 0 ∨ t < st then none else some ((t - st) % cycle)

/-- Gate state of egress e at an instant in ns: every gate open without a list (R253). -/
def Dev.gates (s : Dev) (e t : Nat) : Nat :=
  match s.gclPos e t with
  | none => 0xFF
  | some p => match (s.gclSegs e).reverse.find? (fun x => decide (x.1 ≤ p)) with
    | some x => x.2
    | none => 0xFF

/-- The next instant in ns after t at which a class gate closes, looked ahead at most one cycle (R252). -/
def Dev.gateCloses (s : Dev) (e c t : Nat) : Option Nat :=
  match s.gclPos e t with
  | none => none
  | some p =>
    let cycle := (s.rd (R.SCH_Ee_ACT_CYCLE e)).toNat
    let l := s.gclSegs e
    let ahead := (l.filter fun x => decide (p < x.1)) ++ (l.filter fun x => decide (x.1 ≤ p)).map fun x => (x.1 + cycle, x.2)
    (ahead.find? fun x => !bit x.2 c).map fun x => t + (x.1 - p)

/-- The mode of a port that its factory latencies belong to (R276, R282): TYPE of E0 to E7, and rate and bonding of P0 to P7. -/
def Dev.portMode (s : Dev) (n : Nat) : Nat :=
  if n < 8 then s.get (R.MAC_En_CFG_TYPE n)
  else s.get (R.LAN_x_CFG_RATE n) + 4 * s.get (R.LAN_Gg_CFG_BONDED (n / 4))

/-- The latency between launch tick and J4 reference plane, in 2^-32 ns (R278, R280). -/
def Dev.txLat (s : Dev) (e : Nat) : Int :=
  if 1 ≤ e ∧ e ≤ 8 then (Config.txLatency (e - 1) (s.portMode (e - 1)) : Int) + signed 16 (s.get (R.TMB_En_DELAY_TX (e - 1))) * 2 ^ 30
  else if 9 ≤ e ∧ e ≤ 16 then Config.txLatency (e - 1) (s.portMode (e - 1)) else 0

/-- The timebase count at which a timed frame is to start (R280). -/
def Dev.startOf (s : Dev) (e : Nat) (t : Tod) : Nat := ((t.units : Int) - s.txLat e).toNat

/-- SCH_EVENTs (Table 11-5) of LATE and TIMED_DROP kinds at most once per second. -/
def Dev.schEvent (s : Dev) (code e : Nat) : Dev := s.schEvents [(code, e)]

/-- A timed frame is late for a cause: counted, and dropped with LATE_MODE = 1 (R256, R258). -/
def Dev.makeLate (s : Dev) (e : Nat) (f : QFrame) (cause : Fld) : Dev :=
  let s1 := ((s.count cause 1).raise R.SCH_IRQ_LATE).schEvent 3 e
  let l := s1.timedOf e
  match l.findIdx? (· == f) with
  | none => s1
  | some i =>
    if s1.is (R.SCH_Ee_CFG_LATE_MODE e) then (s1.setTimed e (l.eraseIdx i)).count (R.SCH_Ee_LATE2_DROPPED e) 1
    else s1.setTimed e (l.set i { f with late := true })

/-- On-time frames of an egress that satisfy p are late by gate (R256). -/
def Dev.lateWhere (s : Dev) (e : Nat) (p : QFrame → Bool) : Dev :=
  forEach ((s.timedOf e).filter fun f => !f.late && p f) s fun f t => t.makeLate e f (R.SCH_Ee_LATE_GATE e)

/-- The first tick at or after the start of a timed frame has gone by. -/
def Dev.passed (s : Dev) (e : Nat) (f : QFrame) : Bool :=
  match f.launch with | some t => decide (s.startOf e t + s.incr ≤ s.tmb.time) | none => false

/-- On-time frames of every egress whose start has passed are late by gate (R263, R271). -/
def Dev.latePassed (s : Dev) : Dev := forEach (List.range 18) s fun e t => t.lateWhere e (t.passed e)

/-- SCH_Ee_GATES at the present instant: the entry in force and its state (R253, R255). -/
def Dev.gateNow (s : Dev) (e : Nat) : Dev :=
  let k := match s.gclPos e s.nowNs with
    | some p => ((s.gclSegs e).filter fun x => decide (x.1 ≤ p)).length
    | none => 0
  let ix := (List.range (sget 0 e s.sch.actLen)).filter fun i => s.get (R.SCH_Ee_ACTi_INTERVAL e i) != 0
  (s.set (R.SCH_Ee_GATES_STATE e) (s.gates e s.nowNs)).set (R.SCH_Ee_GATES_ENTRY e) (if k = 0 then 0 else ix.getD (k - 1) 0)

/-- The gates of every egress follow a new time, and frames whose start it puts in the past are late (R255, R271). -/
def Dev.gatesFollow (s : Dev) : Dev := (forEach (List.range 18) s fun e t => t.gateNow e).latePassed

end Sys2Proof.Machine
end

