-- ==== Sys2Proof/Machine/Power.lean ====
section
/-!
DEFINITION. Sys2Proof/Machine/Power.lean: power domains, standing votes, access holds and the transitions that votes drive
(22_power_domains.md R470 to R477, Tables 22-1 to 22-3).
-/
namespace Sys2Proof.Machine

/-- Codes of the domains beside the clusters (Table 22-1). -/
def domLfe (p : Port) : Nat := 32 + p.ix
def domUsr : Nat := 34
def domRope : Nat := 35
def domTwin : Nat := 36
def domThk : Nat := 37
def domCphD : Nat := 38
def domCphU : Nat := 39
def domTrb : Nat := 40
def domDma : Nat := 41
def domDram : Nat := 42
/-- Number of domains that can sleep. -/
def domCount : Nat := 43

/-- Clients (Table 22-2). -/
def cliHost : Nat := 0
def cliMode : Nat := 1
def cliTsk : Nat := 2
def cliLine : Nat := 3
def cliFab : Nat := 4
def cliTwn : Nat := 5

/-- The state of a domain. -/
def Dev.dom (s : Dev) (d : Nat) : DomSt := s.pwr.doms.getD d .up

/-- A domain is UP. -/
def Dev.isUp (s : Dev) (d : Nat) : Bool := s.dom d == .up

/-- A domain's state replaced. -/
def Dev.setDom (s : Dev) (d : Nat) (x : DomSt) : Dev := { s with pwr := { s.pwr with doms := s.pwr.doms.set d x } }

/-- The mode that votes follow: the To mode while BIVOUAC is being left (R482), else the mode. -/
def Dev.voteMode (s : Dev) : Mode :=
  match s.pwr.coord, s.sup.transit with
  | .exiting, some t => t.dest
  | _, _ => s.sup.mode

/-- An engine of cluster c holds a task. -/
def Dev.clusterHolds (s : Dev) (c : Nat) : Bool := s.engs.any fun e => e.1 / 16 == c && e.2.st != .idle

/-- A channel of any DMA unit is READY, RUNNING or WAITING. -/
def Dev.dmaActive (s : Dev) : Bool :=
  (List.range 128).any fun i => let st := s.get (R.DMA_u_CHk_STATE_STATE (i / 16) (i % 16)); st == 1 || st == 2 || st == 3

/-- The standing vote of client c for domain d (Table 22-2, R480, R483). -/
def Dev.vote (s : Dev) (c d : Nat) : Bool :=
  if c = 0 then
    s.pwr.coord != .bivouac && s.pwr.coord != .exiting && !(s.pwr.coord == .entering && s.pwr.withdrawn) &&
      bit (s.rd64 R.PWR_VOTE_HOST_LO) d
  else if s.pwr.withdrawn then false
  else
    let m := s.voteMode
    match c with
    | 1 => (m != .bivouac && d == domDram) || (m.traffic && (d == domUsr || d == domThk || d == domTrb)) ||
        m == .test || s.pwr.allOn || (d == domDma && (s.is R.DMA_HPATH_CTL_HRX_EN || s.is R.DMA_HPATH_CTL_HTX_EN))
    | 2 => (decide (d < 32) && (s.clusterHolds d || s.tsk.wake.contains d)) || (d == domDma && s.dmaActive)
    | 3 => (d == 32 && s.get (R.LFE_x_STATUS_ROLE 0) != 0) || (d == 33 && s.get (R.LFE_x_STATUS_ROLE 1) != 0)
    | 4 => d == domRope && s.is R.ROP_CFG_EN && m.traffic
    | 5 => d == domTwin && s.is R.TWN_CFG_EN && !s.is R.TWN_CFG_PATH
    | _ => false

/-- Votes of a client as a mask (PWR_VOTE_LO_c and PWR_VOTE_HI_c). -/
def Dev.voteMask (s : Dev) (c : Nat) : Nat := ((List.range domCount).map fun d => b2n (s.vote c d) * 2 ^ d).sum

/-- An access hold names the domain. -/
def Dev.held (s : Dev) (d : Nat) : Bool := s.pwr.holds.any (·.dom == d)

/-- The domains that need DRAM (R471). -/
def needsDram (d : Nat) : Bool := decide (d < 32) || d == domThk || d == domDma

/-- A vote or a hold names the domain, or for DRAM a domain that needs it is awake (R471, R474). -/
def Dev.needed (s : Dev) (d : Nat) : Bool :=
  (List.range 6).any (fun c => s.vote c d) || s.held d ||
    (d == domDram && (List.range 42).any fun x => needsDram x && (s.dom x == .up || s.dom x == .waking || s.dom x == .draining || s.held x))

/-- The order in which BIVOUAC entry stops domains (R480 step 3). -/
def stopOrder : List Nat := List.range 32 ++ [domDma, domCphU, domCphD, domThk, domTrb, domTwin, domRope, domUsr, 33, 32]

/-- Every domain before d in the order of R480 has stopped. -/
def Dev.stopTurn (s : Dev) (d : Nat) : Bool :=
  (stopOrder.takeWhile (· != d)).all fun x => s.dom x == .retain || s.dom x == .off

/-- The next state of domain d as votes and holds stand (Table 22-3 P1, P2, P5, P7; R471, R480, R484). -/
def Dev.domNext (s : Dev) (d : Nat) : DomSt :=
  match s.dom d with
  | .up =>
    if s.needed d || s.sup.mode == .test then .up
    else if d = domDram then (if s.pwr.coord == .bivouac then .retain else .up)
    else if s.pwr.coord == .entering && (!s.pwr.withdrawn || !s.stopTurn d) then .up
    else .draining
  | .draining => if s.needed d then .up else .draining
  | .stopping => if s.needed d then .waking else .stopping
  | .retain => if s.needed d then .waking else .retain
  | .off => if s.needed d then .waking else .off
  | .waking => .waking

/-- One domain follows its votes and holds; a wake that starts notes its instant. -/
def Dev.domStep (s : Dev) (d : Nat) : Dev :=
  let n := s.domNext d
  if n = s.dom d then s
  else
    let t := s.setDom d n
    let t := { t with pwr := { t.pwr with refusedOnce := if n = .draining then clrBit t.pwr.refusedOnce d else t.pwr.refusedOnce } }
    if n = .waking then { t with pwr := { t.pwr with wakeStart := sset 0 d s.ticks (serase d t.pwr.wakeStart) } } else t

/-- Every domain follows its votes and holds (R474). -/
def Dev.revote (s : Dev) : Dev := forEach (List.range domCount ++ List.range domCount) s fun d t => t.domStep d

/-- A client's access to a domain (R473): its hold, and a wake where the domain sleeps. -/
def Dev.access (s : Dev) (d c : Nat) : Dev :=
  if s.isUp d ∧ s.get R.PWR_LINGER_US = 0 then s
  else
    let h : Hold := { dom := d, client := c, until_ := s.ticks + s.get R.PWR_LINGER_US * usTicks }
    let rest := s.pwr.holds.filter fun x => !(x.dom == d && x.client == c)
    { s with pwr := { s.pwr with holds := rest ++ [h] } }.revote

/-- The power domain in which a BAR0 address lies, none for AON (Table 22-1). -/
def domOf (a : Nat) : Option Nat :=
  let b := a / 2 ^ 20
  let o := a % 2 ^ 20
  if a ≥ 0x2000000 then some ((a - 0x2000000) / 2 ^ 20)
  else match b with
    | 4 | 5 => if o / 0x100 = 1 then some 32 else if o / 0x100 = 2 then some 33 else none
    | 9 | 11 | 17 => some domUsr
    | 10 => some domThk
    | 13 => if o ≥ 0x1000 then some ((o - 0x1000) / 0x100) else none
    | 15 => some domDma
    | 18 =>
      if o < 0x40 then some domUsr
      else if o < 0x100 then (let g := (o - 0x40) / 0x10; if g < 2 then some domUsr else if g < 4 then some domRope else some domTwin)
      else (let i := (o - 0x100) / 0x80; if i < 8 then some domUsr else if i < 16 then some domRope else some domTwin)
    | 19 => some domRope
    | _ => none

/-- An access to the domain of a BAR0 address. -/
def Dev.accessAddr (s : Dev) (a : Nat) : Dev :=
  match domOf a with
  | some d => s.access d cliHost
  | none => s

/-- The domain of a BAR0 address takes accesses. -/
def Dev.addrUp (s : Dev) (a : Nat) : Bool :=
  match domOf a with
  | some d => s.isUp d
  | none => true

/-- Host writes that wait for a domain. -/
def Dev.heldWrites (s : Dev) : Nat := s.hif.waiting.countP fun x => match x with | .write _ _ => true | .read _ _ => false

/-- A host write to address a is taken at once: its domain is up, and HIF grants credit (R477). -/
def Dev.takesWrite (s : Dev) (a : Nat) : Bool := s.addrUp a && decide (s.heldWrites < 64)

/-- A host write of v to address a takes effect as f, or waits until its domain is ready (R474, R477). -/
def Dev.hostDo (s : Dev) (a : Nat) (v : Word) (f : Dev → Dev) : Dev :=
  let t := s.accessAddr a
  if t.takesWrite a then f t else { t with hif := { t.hif with waiting := t.hif.waiting ++ [.write a v] } }

end Sys2Proof.Machine
end

