-- ==== Sys2Proof/Machine/MemCore.lean ====
section
/-!
DEFINITION. Sys2Proof/Machine/MemCore.lean: reads and partial writes of protected words, pitons and MEM_EVENT
(21_memory_integrity.md R452, R454, R459, R469).
-/
namespace Sys2Proof.Machine

/-- A MEM_EVENT with its MEM_IRQ bit (R469); UE and SLICE_SKIPPED at most once per second. -/
def Dev.memEvent (s : Dev) (f : Fld) (code source bit k slice : Nat) : Dev :=
  let p := le 1 code ++ le 1 source ++ le 2 (k / 65536) ++ le 2 (k % 65536) ++ le 1 bit ++ le 2 slice
  let t := s.raise f
  if code = 1 ∨ code = 6 then t.eventRated 0x1580 code 0 fun _ => p else t.event 0x1580 p

/-- An uncorrectable read is counted, logged and reported (R452). -/
def Dev.memUe (s : Dev) (source k : Nat) : Dev :=
  let e := s.errsOf k
  ((s.countR R.MEM_UE_COUNT 1).memLog 2 source 0x7F k (rowSyn e) (colSyn e)).memEvent R.MEM_IRQ_UE 1 source 0x7F k (Config.instSlice (k / 65536))

/-- A correctable word is corrected in the same access, and counted (R452). -/
def Dev.memCorrect (s : Dev) (source k : Nat) : Dev :=
  let e := s.errsOf k
  let r := rowSyn e
  let c := colSyn e
  match synClass r c with
  | .data b => ((s.countR R.MEM_CE_COUNT 1).memLog 1 source b k r c).setErrs k (recode (e ^^^ 2 ^ b))
  | .check b => ((s.countR R.MEM_CHECKBIT 1).memLog 3 source b k r c).setErrs k (recode e)
  | _ => s

/-- A read of a protected word (R452): the 64 data bits that come out inverted, none where it is uncorrectable. -/
def Dev.memRead (s : Dev) (source k : Nat) : Dev × Option Nat :=
  let e := s.errsOf k
  if e = 0 then (s, some 0)
  else match synClass (rowSyn e) (colSyn e) with
    | .uncorrectable => (s.memUe source k, none)
    | _ => let t := s.memCorrect source k; (t, some (t.errsOf k % 2 ^ 64))

/-- Words that a block reads one after another (R452): whether one of them is uncorrectable. -/
def Dev.memReads (s : Dev) (source : Nat) (l : List Nat) : Dev × Bool :=
  l.foldl (fun x k => let r := x.1.memRead source k; (r.1, x.2 || r.2.isNone)) (s, false)

/-- A partial write (R454): the data bits that the word under it has inverted, none where the write is refused. -/
def Dev.memPartial (s : Dev) (source k : Nat) : Dev × Option Nat :=
  let e := s.errsOf k
  if e = 0 then (s, some 0)
  else match synClass (rowSyn e) (colSyn e) with
    | .uncorrectable =>
      (((s.count R.MEM_MERGE_REFUSED 1).memLog 4 source 0x7F k (rowSyn e) (colSyn e)).memEvent R.MEM_IRQ_MERGE_REFUSED 2 source 0x7F k
        (Config.instSlice (k / 65536)), none)
    | .clean => (s.setErrs k 0, some (e % 2 ^ 64))
    | _ =>
      let t := s.memCorrect source k
      ((t.count R.MEM_MERGE_CLEANED 1).setErrs k 0, some (t.errsOf k % 2 ^ 64))

/-- place_piton of R459 for word k, requested by the host, the tracker or BIST; an address beyond the instance places none. -/
def Dev.placePiton (s : Dev) (source k : Nat) : Dev :=
  let i := k / 65536
  let sl := Config.instSlice i
  if (s.anchor k).isSome then s
  else match (List.range 8).find? fun p => !(s.piton i p).valid && !(s.piton i p).bad with
    | some p =>
      let r := s.memRead source k
      let t := r.1.setPiton i p { valid := true, poison := r.2.isNone, bad := false, addr := k % 65536, errs := recode (r.2.getD 0) }
      ((t.count R.MEM_PITON_COUNTS_PITONS 1).memLog 6 source 0x7F k 0 0).memEvent R.MEM_IRQ_PITON 3 source 0x7F k sl
    | none =>
      let t : Dev := { s with mem := { s.mem with degraded := if s.mem.degraded.contains i then s.mem.degraded else s.mem.degraded ++ [i] } }
      ((t.count R.MEM_PITON_COUNTS_FULL 1).memLog 7 source 0x7F k 0 0).memEvent R.MEM_IRQ_PITON_FULL 4 source 0x7F k sl

end Sys2Proof.Machine
end

