-- ==== Sys2Proof/Machine/Fec.lean ====
section
/-!
DEFINITION. Sys2Proof/Machine/Fec.lean: the codes of the line: scrambler, RS(64,48) header code, encapsulation CRC, burst
capacity and the LDPC encoder (06_line_framing_and_fec.md R124 to R131, R134, R141, R142).
-/
namespace Sys2Proof.Machine

/-- PSync (R124) and the burst delimiter (Table 6-9). -/
def psyncPattern : BitVec 128 := 0x3A1FC5E29B6407D8E27C1A95F03B6D48#128
def delimiter : Nat := 0xD17A42C98E35B06F

/-- Bits in a downstream frame and bit times in an upstream frame (R123, R141). -/
def frameBits : Nat := 13312000
def upBits : Nat := 6656000

/-- Bits [o, o + k) of a bit string of n bits that stands as a number, its first bit most significant. -/
def span (w n o k : Nat) : Nat := bits w (n - o - k) k

/-- A pseudo-random sequence as it grows: its first len bits as a number. -/
structure Prbs where
  word : Nat
  len : Nat
deriving DecidableEq, Repr

/-- The sequence of an n-stage register with feedback from stages n and m, loaded with ones, obeys s(i) = s(i − n) + s(i − m), and so
s(i) = s(i − n 2^j) + s(i − m 2^j): where n 2^j bits are known, m 2^j more follow at once. -/
def Prbs.grow (n m j : Nat) (x : Prbs) : Prbs :=
  let k := m * 2 ^ j
  if x.len < n * 2 ^ j then x
  else { word := x.word * 2 ^ k + (span x.word x.len (x.len - n * 2 ^ j) k ^^^ span x.word x.len (x.len - k) k), len := x.len + k }

/-- The sequence grown to k bits, with the largest step its length allows, in at most as many steps as told. -/
def Prbs.run (n m k : Nat) : Nat → Prbs → Prbs
  | 0, x => x
  | i + 1, x => if k ≤ x.len then x else Prbs.run n m k i (x.grow n m (x.len / n).log2)

/-- The first k output bits of an n-stage register for x^n + x^m + 1 loaded with ones (R125, Table 6-10, R120). Each growth step adds
more than a quarter, so that 3 log k + 8 steps reach k bits. -/
def prbs (n m k : Nat) : Nat :=
  let x := Prbs.run n m k (3 * k.log2 + 8) { word := 2 ^ n - 1, len := n }
  span x.word x.len 0 k

/-- The scrambler of R125: bits [o, o + k) of the generator x^31 + x^28 + 1 from its load on. -/
def scrambler (o k : Nat) : Nat := prbs 31 28 (o + k) % 2 ^ k

/-- A byte string added modulo 2 to the scrambler from its load on. -/
def descramble (b : List Byte) : List Byte := be b.length (ofBe b ^^^ scrambler 0 (8 * b.length))

/-- Product in GF(2^8) with the polynomial x^8 + x^4 + x^3 + x^2 + 1 (R126): w bits of b from the lowest. -/
def gfMulAux : Nat → Nat → Nat → Nat
  | 0, _, _ => 0
  | w + 1, a, b =>
    let a2 := if a * 2 ≥ 256 then (a * 2 - 256) ^^^ 0x1D else a * 2
    (if b % 2 = 1 then a else 0) ^^^ gfMulAux w a2 (b / 2)
def gfMul (a b : Nat) : Nat := gfMulAux 8 a b

/-- Powers, and the inverse a^254. -/
def gfPow (a : Nat) : Nat → Nat
  | 0 => 1
  | n + 1 => gfMul a (gfPow a n)
def gfInv (a : Nat) : Nat := gfPow a 254

/-- Value of a polynomial, lowest coefficient first, at x. -/
def polyEval (p : List Nat) (x : Nat) : Nat := p.foldr (fun c v => c ^^^ gfMul v x) 0

/-- Sum, scaling, shift and product of polynomials over the field, lowest coefficient first. -/
def polyAdd : List Nat → List Nat → List Nat
  | [], q => q
  | p, [] => p
  | a :: p, b :: q => (a ^^^ b) :: polyAdd p q
def polyScale (c : Nat) (p : List Nat) : List Nat := p.map (gfMul c)
def polyShift (n : Nat) (p : List Nat) : List Nat := List.replicate n 0 ++ p
def polyMul (p q : List Nat) : List Nat := p.foldr (fun a r => polyAdd (polyScale a q) (0 :: r)) []

/-- The 16 syndromes of 64 coefficients, lowest first (roots α^0 to α^15). -/
def syndromes (r : List Nat) : List Nat := (List.range 16).map fun i => polyEval r (gfPow 2 i)

/-- State of the error locator's synthesis: locator, the one before its last change, length, shift, discrepancy then. -/
structure Bm where
  c : List Nat
  b : List Nat
  l : Nat
  m : Nat
  d : Nat
deriving DecidableEq, Repr

/-- One step of the synthesis (Berlekamp and Massey) with syndrome n. -/
def bmStep (syn : List Nat) (x : Bm) (n : Nat) : Bm :=
  let d := (List.range (x.l + 1)).foldl (fun v i => if i ≤ n then v ^^^ gfMul (x.c.getD i 0) (syn.getD (n - i) 0) else v) 0
  if d = 0 then { x with m := x.m + 1 }
  else
    let c := polyAdd x.c (polyShift x.m (polyScale (gfMul d (gfInv x.d)) x.b))
    if 2 * x.l ≤ n then { c := c, b := x.c, l := n + 1 - x.l, m := 1, d := d } else { x with c := c, m := x.m + 1 }

/-- RS(64,48) decoding (R126, R127): the corrected 64 bytes and how many bytes changed; none when uncorrectable. -/
def rsDecode (h : List Byte) : Option (List Byte × Nat) :=
  let r := h.reverse.map (·.toNat)
  let syn := syndromes r
  if syn.all (· == 0) then some (h, 0)
  else
    let x := (List.range 16).foldl (bmStep syn) { c := [1], b := [1], l := 0, m := 1, d := 1 }
    let roots := (List.range 64).filter fun j => polyEval x.c (gfInv (gfPow 2 j)) == 0
    if x.l > 8 ∨ roots.length ≠ x.l then none
    else
      let omega := (polyMul syn x.c).take 16
      let deriv := (List.range x.c.length).map fun i => if i % 2 = 0 then x.c.getD (i + 1) 0 else 0
      let fixed := (List.range 64).map fun j =>
        if roots.contains j then
          let xi := gfInv (gfPow 2 j)
          r.getD j 0 ^^^ gfMul (gfPow 2 j) (gfMul (polyEval omega xi) (gfInv (polyEval deriv xi)))
        else r.getD j 0
      if (syndromes fixed).all (· == 0) then some ((fixed.map (BitVec.ofNat 8)).reverse, x.l) else none

/-- CRC-16 of Table 6-5: polynomial 0x1021, initial 0xFFFF, no final inversion. -/
def hecBit (r : Nat) (b : Bool) : Nat :=
  let fb := bit r 15 != b
  (r * 2 % 65536) ^^^ (if fb then 0x1021 else 0)
def hec (b : List Byte) : Nat := (bitsOf b).foldl hecBit 0xFFFF

/-- A reflected CRC-32 with initial value and final XOR of all ones (R221, R406); the polynomial bit-reversed. -/
def crcBit (poly r : Nat) (b : Bool) : Nat :=
  let x := r ^^^ b2n b
  (x / 2) ^^^ (if x % 2 = 1 then poly else 0)
def crcByte (poly r : Nat) (b : Byte) : Nat := (List.range 8).foldl (fun v i => crcBit poly v (b.getLsbD i)) r
def crcReflected (poly : Nat) (bs : List Byte) : Nat := (bs.foldl (crcByte poly) 0xFFFFFFFF) ^^^ 0xFFFFFFFF

/-- CRC-32C (polynomial 0x1EDC6F41) and CRC-32 (0x04C11DB7), reflected (R221). -/
def crc32c (bs : List Byte) : Nat := crcReflected 0x82F63B78 bs
def crc32 (bs : List Byte) : Nat := crcReflected 0xEDB88320 bs

/-- The FCS of a frame as sent (R379, R406): the CRC-32, lowest byte first. -/
def fcs (bs : List Byte) : List Byte := le 4 (crc32 bs)

/-- An encapsulation header (Table 6-5). -/
def encapHeader (len flow : Nat) (last enc : Bool) : List Byte :=
  let h := be 6 (len * 2 ^ 34 + flow * 2 ^ 18 + b2n last * 2 ^ 17 + b2n enc * 2 ^ 16)
  h ++ be 2 (hec h)

/-- Information bits of a data field of d bits (R142). -/
def capacity (d : Nat) : Nat :=
  let n := d / 16384
  let r := d - 16384 * n
  13824 * n + (if r ≥ 2568 then 8 * ((r - 2560) / 8) else 0)

/-- The shift of block (i, j) of the parity-check matrix, none where the block is zero (R129). -/
def ldpcShift (i j : Nat) : Option Nat :=
  if j ≤ 53 then some (((i + 1) * (j + 1) * (j + 2) + 13 * i) % 256)
  else if j = 54 then (if i = 0 ∨ i = 9 then some 1 else if i = 5 then some 0 else none)
  else if i = j - 55 ∨ i = j - 54 then some 0 else none

/-- A block of 256 bits as Pˢ takes it: row r of the product is bit r + s modulo 256 of the block (R129). -/
def rotl256 (x s : Nat) : Nat := x * 2 ^ s % 2 ^ 256 + x / 2 ^ (256 - s)

/-- Block j of a codeword of 16,384 bits. -/
def cwBlock (w j : Nat) : Nat := span w 16384 (256 * j) 256

/-- Block row i of H times a codeword, over block columns js. -/
def ldpcRow (w i : Nat) (js : List Nat) : Nat :=
  js.foldl (fun v j => match ldpcShift i j with
    | some s => v ^^^ rotl256 (cwBlock w j) s
    | none => v) 0

/-- The syndrome of a codeword is zero (R130). -/
def ldpcZero (w : Nat) : Bool := (List.range 10).all fun i => ldpcRow w i (List.range 64) == 0

/-- The codeword of 13,824 information bits (R129). The sum of all block rows leaves P^0 at column 54, so the first parity block is
the sum of the information part of every row; each later one follows from its row. -/
def ldpcEncode (inf : Nat) : Nat :=
  let w := inf * 2 ^ 2560
  let row (i : Nat) : Nat := ldpcRow w i (List.range 54)
  let p0 := (List.range 10).foldl (fun v i => v ^^^ row i) 0
  let at54 (i : Nat) : Nat := match ldpcShift i 54 with | some s => rotl256 p0 s | none => 0
  let rest := (List.range 9).foldl (fun (x : Nat × Nat) k =>
    let p := row k ^^^ at54 k ^^^ x.2
    (x.1 * 2 ^ 256 + p, p)) (0, 0)
  w + p0 * 2 ^ 2304 + rest.1

/-- Where a decoder stops (R130): the first of its at most n estimates, the received word before them, that has a zero syndrome. -/
def ldpcStop (n : Nat) (received : Nat) (est : List Nat) : Option Nat := (received :: est.take n).find? ldpcZero

/-- What a code word leaves the decoder as: its information bits, whether it is uncorrectable, and how many bits decoding changed. -/
structure CwOut where
  info : Nat
  bad : Bool
  changed : Nat
deriving DecidableEq, Repr

/-- The decoder on one descrambled codeword (R130). The spec gives no decoding algorithm: the estimates of its iterations come with
the word. -/
def ldpcDecode (n received : Nat) (est : List Nat) : CwOut :=
  match ldpcStop n received (est.map (· % 2 ^ 16384)) with
  | some w => { info := w / 2 ^ 2560, bad := false, changed := popcount 16384 (received ^^^ w) }
  | none => { info := received / 2 ^ 2560, bad := true, changed := 0 }

/-- The scrambler's bits over codeword c of a downstream frame (Table 6-1). -/
def cwScramble (c : Nat) : Nat := scrambler (8064 + 16384 * c) 16384

/-- The data field of d bits that carries n information bits (R142), before scrambling. -/
def dataField : Nat → Nat → Nat → Nat → Nat
  | 0, _, _, _ => 0
  | fuel + 1, d, n, inf =>
    if d ≥ 16384 then ldpcEncode (span inf n 0 13824) * 2 ^ (d - 16384) + dataField fuel (d - 16384) (n - 13824) (inf % 2 ^ (n - 13824))
    else if d ≥ 2568 then
      let k := 8 * ((d - 2560) / 8)
      ldpcEncode (span inf n 0 k) * 2 ^ (d - 2560 - k)
    else 0

/-- k copies of a pattern of w bits. -/
def repeated (w pat k : Nat) : Nat := (2 ^ (w * k) - 1) / (2 ^ w - 1) * pat

/-- Preamble of n bits (Table 6-10); n is a multiple of 64. -/
def preamble (pat n : Nat) : Nat :=
  match pat with
  | 0 => repeated 2 0b10 (n / 2)
  | 1 => prbs 7 6 n
  | _ => repeated 4 0b1100 (n / 4)

/-- The bits of a burst on the line (Table 6-9), the first most significant: preamble, delimiter, the 64 header bits, and the scrambled
data field of d bits with its information bytes. -/
def burstBits (pat preLen header d : Nat) (info : List Byte) : Nat :=
  let data := dataField (d / 16384 + 1) d (8 * info.length) (ofBe info) ^^^ scrambler 0 d
  preamble pat (64 * preLen) * 2 ^ (128 + d) + delimiter * 2 ^ (64 + d) + header * 2 ^ d + data

end Sys2Proof.Machine
end

