-- ==== Sys2Proof/Machine/BelayCode.lean ====
section
/-!
DEFINITION. Sys2Proof/Machine/BelayCode.lean: the belay signal: spreading codes, chips, the convolutional code and its Viterbi
decoder, and the symbols of a packet (08_belay_channel.md R174 to R177).
-/
namespace Sys2Proof.Machine

/-- k more bits of a sequence in which each bit is the sum of the bits at the given distances before it; the bits so far stand newest
first. -/
def recur (taps : List Nat) : Nat → List Bool → List Bool
  | 0, l => l
  | k + 1, l => recur taps k ((taps.foldl (fun v t => v != l.getD (t - 1) false) false) :: l)

/-- Chips 0 to 1,022 of sequences a and b (R175): a 10-stage register loaded with ones yields ten ones, and then the sum of its tapped
stages (DEDUCED: the feedback of R125 and Table 6-10). -/
def goldA : List Bool := (recur [3, 10] 1013 (List.replicate 10 true)).reverse
def goldB : List Bool := (recur [2, 3, 6, 8, 9, 10] 1013 (List.replicate 10 true)).reverse

/-- The 1,024 chips of code n (R175). -/
def belayCode (n : Nat) : List Bool :=
  let a := goldA
  let b := goldB
  ((List.range 1023).map fun i =>
    if n = 0 then a.getD i false
    else if n = 1 then b.getD i false
    else a.getD i false != b.getD ((i + n - 2) % 1023) false) ++ [false]

/-- The chips of one symbol (R174): value 0 sends the code as generated, value 1 inverted. -/
def symbolChips (n : Nat) (v : Bool) : List Bool := (belayCode n).map (· != v)

/-- The optical intensity of a chip: the higher one for value 0 (R174). -/
def chipHigh (c : Bool) : Bool := !c

/-- The intensities, chip by chip, of a packet's symbols under a code. -/
def belayLight (n : Nat) (symbols : List Bool) : List Bool := symbols.flatMap fun v => (symbolChips n v).map chipHigh

/-- The two output bits of the encoder (R176): its register holds the input bit in bit 6 and the six bits before it below, newest
first; the output of generator 171 comes first (DEDUCED: the highest octal digit weighs the input bit). -/
def convPair (reg : Nat) : Bool × Bool := (popcount 7 (reg &&& 0o171) % 2 == 1, popcount 7 (reg &&& 0o133) % 2 == 1)

/-- The encoder from the state of its six last input bits. -/
def convFrom : Nat → List Bool → List Bool
  | _, [] => []
  | st, u :: l =>
    let reg := b2n u * 64 + st
    (convPair reg).1 :: (convPair reg).2 :: convFrom (reg / 2) l

/-- The coded part of a packet: header, payload and CRC with the tail of six zeros (Table 8-1), from the all-zero state. -/
def convEncode (bytes : List Byte) : List Bool := convFrom 0 (bitsOf bytes ++ List.replicate 6 false)

/-- The sync word of Table 8-1. -/
def belaySync : Nat := 0x5B3ED0A7

/-- The symbols of a packet given by its header, payload and CRC (Table 8-1). -/
def belaySymbols (bytes : List Byte) : List Bool := List.replicate 64 false ++ toBits 32 belaySync ++ convEncode bytes

/-- A survivor of the decoder: its metric, and its input bits of the last 49 steps, newest in bit 0. -/
structure Survivor where
  metric : Nat
  past : Nat
deriving DecidableEq, Repr

/-- The 3-bit metric of one output bit against a soft decision: 0 is a sure 0, 7 a sure 1 (R176). -/
def softMetric (b : Bool) (v : Nat) : Nat := if b then 7 - v else v

/-- The metric of a register value against a pair of soft decisions. -/
def branchMetric (reg v w : Nat) : Nat := softMetric (convPair reg).1 v + softMetric (convPair reg).2 w

/-- The better of two survivors that lead to one register value, x by an oldest bit of 0. Which of two equal ones stays is a free
value. -/
def survive (reg v w : Nat) (x y : Survivor) : Survivor :=
  let a := x.metric + branchMetric reg v w
  let b := y.metric + branchMetric (reg + 1) v w
  let first := if a < b then true else if b < a then false else Config.viterbiTie reg
  { metric := min a b, past := (2 * (if first then x.past else y.past) + reg / 64) % 2 ^ 49 }

/-- One step from the survivors of all 64 states: those of states t (input bit 0) and t + 32 (input bit 1) come from states 2t and
2t + 1. -/
def trellis (v w : Nat) : Nat → List Survivor → List Survivor × List Survivor
  | t, x :: y :: l =>
    let r := trellis v w (t + 1) l
    (survive (2 * t) v w x y :: r.1, survive (64 + 2 * t) v w x y :: r.2)
  | _, _ => ([], [])

/-- The survivor of least metric; which of several is a free value. -/
def bestSurvivor (l : List Survivor) : Survivor :=
  let least := l.foldl (fun m x => min m x.metric) (2 ^ 21)
  match l.filter (·.metric == least) with
  | [] => { metric := 0, past := 0 }
  | [x] => x
  | x :: y :: t => (x :: y :: t).getD (Config.viterbiBest (t.length + 2)) x

/-- The decoder as it runs: survivors, steps done, bits decided, newest first. -/
structure Viterbi where
  states : List Survivor
  steps : Nat
  decided : List Bool
deriving DecidableEq, Repr

/-- The encoder started in the all-zero state: no path leads from another. -/
def Viterbi.start : Viterbi :=
  { states := { metric := 0, past := 0 } :: List.replicate 63 { metric := 2 ^ 20, past := 0 }, steps := 0, decided := [] }

/-- One pair of soft decisions; a bit is decided 48 steps after its own (R176). -/
def Viterbi.step (x : Viterbi) (v w : Nat) : Viterbi :=
  let r := trellis v w 0 x.states
  let s := r.1 ++ r.2
  { states := s, steps := x.steps + 1,
    decided := if x.steps < 48 then x.decided else bit (bestSurvivor s).past 48 :: x.decided }

/-- The decoder over a list of soft decisions, two for each bit. -/
def Viterbi.run : List (Fin 8) → Viterbi → Viterbi
  | v :: w :: l, x => Viterbi.run l (x.step v w)
  | _, x => x

/-- The bits of a coded part that has been received whole: those decided, and the last ones from the path into the all-zero state. -/
def viterbi (soft : List (Fin 8)) : List Bool :=
  let x := Viterbi.run soft .start
  x.decided.reverse ++ toBits (min 48 x.steps) (x.states.headD { metric := 0, past := 0 }).past

/-- The bits decided while reception goes on. -/
def viterbiSoFar (soft : List (Fin 8)) : List Bool := (Viterbi.run soft .start).decided.reverse

/-- Sure soft decisions of symbols received without error. -/
def softOf (symbols : List Bool) : List (Fin 8) := symbols.map fun v => if v then 7 else 0

end Sys2Proof.Machine
end

