-- ==== Sys2Proof/Machine/RopeCore.lean ====
section
/-!
DEFINITION. Sys2Proof/Machine/RopeCore.lean: routes and queues of the rope fabric that other blocks use, and what leaving the
fabric's modes does to it (19_rope_fabric.md R409, R422, R425 Y8, R429).
-/
namespace Sys2Proof.Machine

/-- A rope port of which nothing was heard. -/
def RopPort.empty : RopPort :=
  { serial := 0, heardAt := none, seen := 0, claimed := false, node := 0, differ := 0, hailAt := none }

/-- The rope fabric with nothing found. -/
def Rop.empty : Rop :=
  { ports := [], db := [], own := none, routes := [], changed := none, settleFrom := 0, running := false, nextSeq := 1 }

/-- A rope port. -/
def Dev.ropP (s : Dev) (n : Nat) : RopPort := sget .empty n s.rop.ports
def Dev.setRopP (s : Dev) (n : Nat) (x : RopPort) : Dev := { s with rop := { s.rop with ports := sset .empty n x s.rop.ports } }

/-- The valid route of a node ID (R422). -/
def Dev.route (s : Dev) (id : Nat) : Option Route := (s.rop.routes.find? (·.1 == id)).map (·.2)

/-- The queues that pitch 11 gives an egress, in ascending order (R409). -/
def Dev.queuesOf (s : Dev) (e : Nat) : List Nat := (List.range 8192).filter fun q => s.get (R.SCH_Qn_CFG_EGRESS q) == e

/-- Queue j of a rope port's egress. -/
def Dev.ropeQueue (s : Dev) (port j : Nat) : Option Nat := (s.queuesOf (9 + port))[j]?

/-- The place of a queue among those of a rope egress, none outside the rope queue sets (R424). -/
def Dev.ropeIndex (s : Dev) (q : Nat) : Option Nat :=
  let e := s.get (R.SCH_Qn_CFG_EGRESS q)
  if 9 ≤ e ∧ e ≤ 16 then (s.queuesOf e).findIdx? (· == q) else none

/-- The fabric's volatile registers at their unclaimed, unheard values. -/
def Dev.ropClear (s : Dev) : Dev :=
  let s1 := ({ s with rop := { Rop.empty with nextSeq := s.rop.nextSeq } }).wr R.ROP_STATUS 0
  let s2 := forEach (List.range 8) s1 fun n t => (t.wr (R.ROP_Pn_STATUS n) 0).wr64 (R.ROP_Pn_NBR_SERIAL_LO n) 0
  (s2.set R.ROP_RELAY_STATUS_STATE 0).set R.ROP_RELAY_STATUS_SERVER 0

/-- The fabric stops: database, routes and claim discarded, relay state SEEK (Y8, R429); none when it is stopped already. -/
def Dev.ropeLeave (s : Dev) : Option Dev :=
  if s.rop.running || s.get R.ROP_RELAY_STATUS_STATE != 0 then some s.ropClear else none

end Sys2Proof.Machine
end

