-- ==== Sys2Proof/Machine/Mirror.lean ====
section
/-!
DEFINITION. Sys2Proof/Machine/Mirror.lean: rope frames on their way out, and the mirror records that the active twin sends
(19_rope_fabric.md R406, R422; 20_twin_pairs.md R434, R435, R448).
-/
namespace Sys2Proof.Machine

/-- The module's serial (PLT_SERIAL). -/
def Dev.serial (s : Dev) : Nat := s.rd64 R.PLT_SERIAL_LO

/-- Rope header (Table 19-1). -/
def ropeHeader (kind dst src ttl qidx flow : Nat) (enc : Bool) (task flag : Nat) : List Byte :=
  let n := 2 ^ 124 + kind % 16 * 2 ^ 120 + dst % 1024 * 2 ^ 110 + src % 1024 * 2 ^ 100 + ttl % 256 * 2 ^ 92 + qidx % 64 * 2 ^ 86 +
    flow % 65536 * 2 ^ 70 + b2n enc * 2 ^ 69 + task % 65536 * 2 ^ 53 + flag % 32 * 2 ^ 48
  let h := be 14 (n / 2 ^ 16)
  h ++ be 2 (hec h)

/-- Kinds of Table 19-2. -/
def kData : Nat := 0
def kRelayDown : Nat := 1
def kRelayUp : Nat := 2
def kMsg : Nat := 3
def kHail : Nat := 4
def kLsr : Nat := 5
def kTwin : Nat := 6
def kReferee : Nat := 7

/-- The module's own node ID, valid while CLAIMED. -/
def Dev.nodeId (s : Dev) : Nat := s.get R.ROP_STATUS_NODE_ID
def Dev.claimed (s : Dev) : Bool := s.rop.running && s.is R.ROP_STATUS_CLAIMED

/-- Steps 2 and 3 of R239 with the events they cause. flight: the frame comes from a parse unit, and a packet in flight there is not
held as pitch 11 drains (Table 2-8). -/
def Dev.admitFrame (s : Dev) (f : QFrame) (flight : Bool := false) : Dev :=
  let r := if flight && s.img.state == .drain then s.enqueueNow f else s.enqueue f
  r.1.schEvents r.2

/-- A rope frame put into queue qidx of the egress that its route names, or dropped and counted (R415, R422). -/
def Dev.ropeOut (s : Dev) (dst qidx : Nat) (hdr : List Byte) (f : QFrame) (flight : Bool := false) : Dev :=
  match s.route dst with
  | none => s.countR R.ROP_NO_ROUTE 1
  | some r => match s.ropeQueue r.primary qidx with
    | some q => s.admitFrame { f with queue := q, rope := some hdr } flight
    | none => s.count R.ROP_DROPS_QUEUE 1

/-- Record kinds (Table 20-2). -/
def mHello : Nat := 0x01
def mThkChange : Nat := 0x10
def mThkCommit : Nat := 0x11
def mHedge : Nat := 0x12
def mGcl : Nat := 0x20
def mTime : Nat := 0x30
def mKey : Nat := 0x40
def mPn : Nat := 0x42
def mTrib : Nat := 0x50
def mReg : Nat := 0x60
def mBulkBegin : Nat := 0x70
def mBulkEnd : Nat := 0x71

/-- The bytes of a record. -/
def MirrorRec.bytes (r : MirrorRec) (resend : Bool) : List Byte :=
  be 4 r.seq ++ be 1 r.kind ++ be 1 (b2n resend) ++ be 2 r.payload.length ++ r.payload

/-- The node whose record carries a serial (R434, R443). -/
def Dev.nodeOf (s : Dev) (serial : Nat) : Option Nat := (s.rop.routes.find? (·.2.serial == serial)).map (·.1)

/-- The partner's serial. -/
def Dev.partner (s : Dev) : Nat := s.rd64 R.TWN_PARTNER_SERIAL_LO

/-- A record put on the mirror path, where it runs (R434, R448). -/
def Dev.mirrorPut (s : Dev) (r : MirrorRec) (resend : Bool) : Dev :=
  if !s.sup.mode.traffic then s
  else if s.is R.TWN_CFG_PATH then
    match s.nodeOf s.partner with
    | some n =>
      let j := s.get R.ROP_FAB_CFG_TWIN_QIDX
      s.ropeOut n j (ropeHeader kTwin n s.nodeId (s.get R.ROP_FAB_CFG_TTL) j 0 false 0 0) { (default : QFrame) with bytes := r.bytes resend }
    | none => s
  else if s.is (R.LAN_Gg_STATUS_UP 4) then let b := r.bytes resend; s.emit (.twin (b ++ fcs b))
  else s

/-- A record numbered, held for resending and sent (R434, Table 20-3). -/
def Dev.mirrorSend (s : Dev) (kind : Nat) (payload : List Byte) (resend : Bool) : Dev :=
  let n := (s.rd R.TWN_MIRROR_TX).toNat
  let r : MirrorRec := { seq := n, kind := kind, payload := payload }
  let l := s.twn.sent ++ [r]
  let s1 : Dev := { s with twn := { s.twn with sent := l.drop (l.length - 16384) } }
  (s1.wr R.TWN_MIRROR_TX (BitVec.ofNat 32 (if n + 1 = 2 ^ 32 then 1 else n + 1))).mirrorPut r resend

/-- A record of the active twin (R435). -/
def Dev.mirror (s : Dev) (kind : Nat) (payload : List Byte) : Dev :=
  if s.is R.TWN_CFG_EN && s.role == .active then s.mirrorSend kind payload false else s

/-- ACT_STATUS as a word: STATE, TID, HINT and PENDING follow what the block holds (spec/07). -/
def Dev.actStatus (s : Dev) : Word :=
  BitVec.ofNat 32 (s.act.st.code + s.get R.ACT_STATUS_TID * 2 ^ R.ACT_STATUS_TID.lo +
    b2n (s.act.hintA.isSome || s.act.hintB.isSome) * 2 ^ R.ACT_STATUS_HINT.lo + b2n s.act.pend * 2 ^ R.ACT_STATUS_PENDING.lo)

/-- The registration record at an activation change. -/
def Dev.mirrorReg (s : Dev) : Dev :=
  s.mirror mReg (be 4 s.actStatus.toNat ++ be 4 (s.rd R.ACT_EQD).toNat ++ be 4 (s.rd R.ACT_TREE).toNat ++ be 4 (s.rd R.ACT_TDM_BASE).toNat)

end Sys2Proof.Machine
end

