-- ==== Sys2Proof/Machine/RopeFlood.lean ====
section
/-!
DEFINITION. Sys2Proof/Machine/RopeFlood.lean: hails, adjacencies, node IDs, link-state records and their flooding
(19_rope_fabric.md R408 to R421).
-/
namespace Sys2Proof.Machine

/-- A ROP_EVENT payload (Table 19-7). -/
def ropPayload (code port id serial : Nat) : List Byte := le 1 code ++ le 1 port ++ le 2 id ++ le 8 serial

/-- A control frame leaves rope port n: header, payload, FCS (R406, R408). -/
def Dev.ropCtl (s : Dev) (n kind dst ttl : Nat) (b : List Byte) : Dev :=
  let f := ropeHeader kind dst (if s.claimed then s.nodeId else 0) ttl 0 0 false 0 0 ++ b
  s.ctlOut n (f ++ fcs f)

/-- FLAGS of this module's HAILs and records (R416). -/
def Dev.ropFlags (s : Dev) : Nat :=
  b2n (s.is R.ROP_CFG_RELAY_SERVER) + 2 * b2n (s.sup.mode == .service && !s.standby) + 4 * b2n (s.is R.ROP_CFG_REFEREE)

/-- Every record, the own one included. -/
def Dev.records (s : Dev) : List Lsr := (match s.rop.own with | some o => [o] | none => []) ++ s.rop.db

/-- A record put into its place by ID. -/
def insertLsr (r : Lsr) : List Lsr → List Lsr
  | [] => [r]
  | x :: t => if r.id < x.id then r :: x :: t else if r.id = x.id then (if r.serial < x.serial then r :: t else x :: t)
    else x :: insertLsr r t

/-- Records in use, in ascending ID: for each ID the one of the lowest serial (R415). -/
def Dev.inUse (s : Dev) : List Lsr := s.records.foldl (fun l r => insertLsr r l) []

/-- DIGEST of a HAIL (Table 19-3). -/
def Dev.ropDigest (s : Dev) : Nat := crc32c (s.inUse.flatMap fun r => be 2 r.id ++ be 8 r.serial ++ be 4 r.seq)

/-- AGE of a record now, in units of 10 ms. -/
def Lsr.ageAt (r : Lsr) (now : Nat) : Nat := r.age + (now - r.since) / (10 * msTicks)

/-- The LSR payload of a record (Table 19-4). -/
def Dev.lsrBytes (s : Dev) (r : Lsr) : List Byte :=
  be 2 r.id ++ be 8 r.serial ++ be 4 r.seq ++ be 2 (sat 16 (r.ageAt s.ticks)) ++ be 1 r.flags ++ be 1 r.links.length ++
    r.links.flatMap fun l => be 1 l.port ++ be 1 l.cost ++ be 2 l.id ++ be 8 l.serial

/-- The record that a payload spells. -/
def lsrOf (b : List Byte) (now : Nat) : Lsr :=
  { id := beAt b 0 2 % 1024, serial := beAt b 2 8, seq := beAt b 10 4, age := beAt b 14 2, since := now, flags := beAt b 16 1,
    links := (List.range (min 8 (beAt b 17 1))).map fun k =>
      { port := beAt b (18 + 12 * k) 1, cost := beAt b (19 + 12 * k) 1, id := beAt b (20 + 12 * k) 2 % 1024,
        serial := beAt b (22 + 12 * k) 8 } }

/-- A record sent on a port. -/
def Dev.sendLsr (s : Dev) (n : Nat) (r : Lsr) : Dev := s.ropCtl n kLsr 0 1 (s.lsrBytes r)

/-- A record flooded on every TWO_WAY or UP port but one (R417). -/
def Dev.flood (s : Dev) (except : Option Nat) (r : Lsr) : Dev :=
  forEach (List.range 8) s fun n t => if t.is (R.ROP_Pn_STATUS_TWO_WAY n) ∧ except ≠ some n then t.sendLsr n r else t

/-- Every record in use sent on a port (R412). -/
def Dev.sendAll (s : Dev) (n : Nat) : Dev := forEach s.inUse s fun r t => t.sendLsr n r

/-- The database changed (R420). -/
def Dev.dbChanged (s : Dev) : Dev :=
  let t := s.set R.ROP_STATUS_RECORDS s.inUse.length
  { t with rop := { t.rop with changed := some t.ticks } }

/-- The next SEQ used up: 1 at first, skipping 0 (R416). -/
def Dev.takeSeq (s : Dev) : Nat × Dev :=
  let n := s.rop.nextSeq
  (n, { s with rop := { s.rop with nextSeq := if n + 1 = 2 ^ 32 then 1 else n + 1 } })

/-- The UP adjacencies as links (R416). -/
def Dev.upLinks (s : Dev) : List RopLink :=
  ((List.range 8).filter fun n => s.is (R.ROP_Pn_STATUS_ADJ_UP n)).map fun n =>
    { port := n, cost := s.get (R.ROP_Pn_CFG_COST n), id := (s.ropP n).node, serial := (s.ropP n).serial }

/-- A claimed module originates its record, which takes the place of one held under its key (R416, R417). -/
def Dev.originate (s : Dev) : Dev :=
  if !s.claimed then s
  else
    let q := s.takeSeq
    let r : Lsr := { id := s.nodeId, serial := s.serial, seq := q.1, age := 0, since := s.ticks, flags := s.ropFlags, links := s.upLinks }
    (({ q.2 with rop := { q.2.rop with own := some r, db := q.2.rop.db.filter fun x => x.id != r.id || x.serial != r.serial } }).flood
      none r).dbChanged

/-- The own record withdrawn under its ID (R417). -/
def Dev.withdrawOwn (s : Dev) : Dev :=
  let q := s.takeSeq
  let r : Lsr := { id := s.nodeId, serial := s.serial, seq := q.1, age := 0, since := s.ticks, flags := 0x80, links := [] }
  ({ q.2 with rop := { q.2.rop with own := none } }).flood none r

/-- h(s, a) (R413). -/
def ropHash (serial a : Nat) : Nat := crc32c (be 8 serial ++ be 1 a) % 1024

/-- An ID is in use: a record of another module with a lower serial holds it (R414). -/
def Dev.idTaken (s : Dev) (id : Nat) : Bool := s.rop.db.any fun r => r.id == id && decide (r.serial < s.serial)

/-- The steps that choose an ID from attempt a on (R414): the attempt in use and the ID. -/
def Dev.chooseId (s : Dev) (a : Nat) : Option (Nat × Nat) :=
  match (List.range (256 - a)).find? fun k => !s.idTaken (ropHash s.serial (a + k)) with
  | some k => some (a + k, ropHash s.serial (a + k))
  | none => ((List.range 1024).map fun k => (ropHash s.serial 255 + k) % 1024).find? (fun id => !s.idTaken id) |>.map fun id => (255, id)

/-- A HAIL on port n (Table 19-3). -/
def Dev.hailBytes (s : Dev) (n : Nat) : List Byte :=
  padTo 48 (be 8 s.serial ++ be 2 (if s.claimed then s.nodeId + 2 ^ 15 else 0) ++ be 1 n ++ be 1 s.ropFlags ++ be 8 (s.ropP n).serial ++
    be 4 (match s.rop.own with | some o => o.seq | none => 0) ++ be 4 s.ropDigest ++ be 2 s.inUse.length ++
    be 1 (s.get R.ROP_STATUS_ATTEMPT))
def Dev.sendHail (s : Dev) (n : Nat) : Dev :=
  if s.rop.running && s.ropeLink n && !s.draining 14 then (s.ropCtl n kHail 0 1 (s.hailBytes n)).count (R.ROP_Pn_HAILS_TX n) 1 else s

/-- Entries whose primary port's adjacency is gone switch to their alternate, or become invalid (R421). -/
def Dev.failover (s : Dev) (n : Nat) : Dev :=
  let k := (s.rop.routes.filter fun x => x.2.primary == n && x.2.alt.isSome).length
  let l := s.rop.routes.filterMap fun x =>
    if x.2.primary = n then x.2.alt.map fun a => (x.1, { x.2 with primary := a, alt := none })
    else some (x.1, { x.2 with alt := if x.2.alt = some n then none else x.2.alt })
  ({ s with rop := { s.rop with routes := l } }).count R.ROP_ROUTING_FAILOVERS k

/-- The adjacency of port n judged again (R411), with what its change brings: records exchanged on leaving DOWN (R412), events,
failover, a new record, as one that a neighbour under a new node ID gives too (R18, R417). -/
def Dev.adjEval (s : Dev) (n : Nat) : Dev :=
  let x := s.ropP n
  let heard := match x.heardAt with | some t => decide (s.ticks ≤ t + 30 * msTicks) | none => false
  let two := s.rop.running && s.ropeLink n && heard && x.seen == s.serial
  let up := two && x.claimed && s.claimed
  let wasTwo := s.is (R.ROP_Pn_STATUS_TWO_WAY n)
  let wasUp := s.is (R.ROP_Pn_STATUS_ADJ_UP n)
  let moved := up && wasUp && s.get (R.ROP_Pn_STATUS_NEIGHBOR n) != x.node
  let s1 := (((s.setB (R.ROP_Pn_STATUS_TWO_WAY n) two).setB (R.ROP_Pn_STATUS_ADJ_UP n) up).setB (R.ROP_Pn_STATUS_HEARD n) heard).set
    (R.ROP_Pn_STATUS_NEIGHBOR n) x.node
  let s2 := if two && !wasTwo then s1.sendAll n else s1
  if up = wasUp then (if moved && s2.claimed then s2.originate else s2)
  else
    let s3 := (s2.raiseAt R.ROP_IRQ_ADJ n).event 0x1380 (ropPayload (if up then 1 else 2) n x.node x.serial)
    let s4 := if up then s3 else s3.failover n
    if s4.claimed then s4.originate else s4.dbChanged

/-- Every adjacency judged again. -/
def Dev.adjAll (s : Dev) : Dev := forEach (List.range 8) s fun n t => t.adjEval n

/-- The link of rope port n came up or went down (R410, R411). -/
def Dev.ropeLinkChanged (s : Dev) (n : Nat) : Dev :=
  if !s.rop.running then s
  else if s.ropeLink n then
    (s.setRopP n { s.ropP n with hailAt := some (s.ticks + 10 * msTicks) }).sendHail n
  else
    ({ s with sch := { s.sch with ctlWait := serase (9 + n) s.sch.ctlWait } }.setRopP n
      { RopPort.empty with serial := (s.ropP n).serial }).adjEval n

/-- The fabric starts: hails on every port whose link is up, and SETTLE begins (R414). -/
def Dev.ropStart (s : Dev) : Dev :=
  let s1 := s.ropClear
  forEach (List.range 8) { s1 with rop := { s1.rop with running := true, settleFrom := s1.ticks } } fun n t =>
    if t.ropeLink n then t.ropeLinkChanged n else t

/-- An ID claimed (R414). -/
def Dev.claim (s : Dev) (a id : Nat) : Dev :=
  ((((s.set R.ROP_STATUS_NODE_ID id).set R.ROP_STATUS_ATTEMPT a).set R.ROP_STATUS_CLAIMED 1).set R.ROP_STATUS_NO_ID 0).originate.adjAll

/-- No ID is free: the module is unclaimed, and no route is valid (R414, R415). -/
def Dev.noId (s : Dev) : Dev :=
  let t := (s.set R.ROP_STATUS_CLAIMED 0).set R.ROP_STATUS_NO_ID 1
  let s1 := ({ t with rop := { t.rop with routes := [] } }.dbChanged).adjAll
  if s.is R.ROP_STATUS_NO_ID then s1 else (s1.raise R.ROP_IRQ_NO_ID).event 0x1380 (ropPayload 8 0xFF 0 0)

/-- A module with NO_ID tries again at a change of the database. -/
def Dev.retryId (s : Dev) : Dev :=
  if s.is R.ROP_STATUS_NO_ID && s.rop.running then (match s.chooseId 0 with | some (a, id) => s.claim a id | none => s) else s

/-- Another module claims this module's ID (R414): the higher serial moves. -/
def Dev.collision (s : Dev) (other : Nat) : Dev :=
  let s1 := ((s.count R.ROP_COUNTS_COLLISIONS 1).raise R.ROP_IRQ_COLLISION).eventRated 0x1380 4 0 fun _ =>
    ropPayload 4 0xFF s.nodeId other
  if other ≥ s.serial then s1
  else
    let s2 := s1.withdrawOwn
    match s2.chooseId (s2.get R.ROP_STATUS_ATTEMPT + 1) with
    | none => s2.noId
    | some (a, id) => ((s2.claim a id).count R.ROP_COUNTS_ID_CHANGES 1 |>.raise R.ROP_IRQ_ID_CHANGED).event 0x1380 (ropPayload 3 0xFF id 0)

/-- Servers a relay client may choose, best first (R425): LINE_UP, route cost, node ID. -/
def Dev.relayServers (s : Dev) : List Lsr :=
  let ok := s.inUse.filterMap fun r => if bit r.flags 0 then (s.route r.id).map fun x => (x.cost, r) else none
  let better (a b : Nat × Lsr) : Bool :=
    let u := bit a.2.flags 1
    let v := bit b.2.flags 1
    if u != v then u else decide (a.1 < b.1) || (a.1 == b.1 && decide (a.2.id < b.2.id))
  let rec ins (a : Nat × Lsr) : List (Nat × Lsr) → List (Nat × Lsr)
    | [] => [a]
    | b :: t => if better a b then a :: b :: t else b :: ins a t
  (ok.foldl (fun l a => ins a l) []).map (·.2)

end Sys2Proof.Machine
end

