-- ==== Sys2Proof/Machine/Line.lean ====
section
/-!
DEFINITION. Sys2Proof/Machine/Line.lean: the line source, port roles and framers by mode (05_line_front_end.md R103, R104,
06_line_framing_and_fec.md R137 F11, R149), and the registration record (07_activation_and_ranging.md R165 to R172).
-/
namespace Sys2Proof.Machine

/-- The line port that is line source (LFE_STATUS.SOURCE), none for the relay or without image. -/
def Dev.sourcePort (s : Dev) : Option Port :=
  match s.get R.LFE_STATUS_SOURCE with
  | 0 => some .a
  | 1 => some .b
  | _ => none

/-- Pitch 13 enables the port. -/
def Dev.portEnabled (s : Dev) (p : Port) : Bool := bit (s.get R.LFE_STATUS_ENABLED) p.ix

/-- The role Table 5-2 gives a port: 0 OFF, 1 WARM, 2 ACTIVE. DESIGN CHOICE: in TEST an enabled port is WARM, for loop and PRBS, as
Table 5-2 says, where R17 says that no port is warm. -/
def Dev.wantedRole (s : Dev) (p : Port) : Nat :=
  let m := s.voteMode
  if !s.portEnabled p || s.sourcePort.isNone then 0
  else if m.traffic then (if s.sourcePort == some p then 2 else 1)
  else if m == .test then 1
  else 0

/-- The front end of a port: what no register shows. -/
def Dev.lfeP (s : Dev) : Port → LfePort
  | .a => s.lfe.a
  | .b => s.lfe.b
def Dev.setLfeP (s : Dev) (p : Port) (x : LfePort) : Dev :=
  match p with
  | .a => { s with lfe := { s.lfe with a := x } }
  | .b => { s with lfe := { s.lfe with b := x } }

/-- The framer of a port: what no register shows. -/
def Dev.lfrP (s : Dev) : Port → LfrPort
  | .a => s.lfr.a
  | .b => s.lfr.b
def Dev.setLfrP (s : Dev) (p : Port) (x : LfrPort) : Dev :=
  match p with
  | .a => { s with lfr := { s.lfr with a := x } }
  | .b => { s with lfr := { s.lfr with b := x } }

/-- The port has LOS or LOL. -/
def Dev.faulty (s : Dev) (p : Port) : Bool := s.is (R.LFE_x_STATUS_LOS p.ix) || s.is (R.LFE_x_STATUS_LOL p.ix)

/-- A port's front end is powered. -/
def Dev.powered (s : Dev) (p : Port) : Bool := s.isUp (domLfe p)

/-- The instants R118 counts from, as the port's status now stands. -/
def Dev.markFault (s : Dev) (p : Port) : Dev :=
  let x := s.lfeP p
  let f := s.faulty p
  let c := s.is (R.LFE_x_STATUS_READY p.ix) && !f
  s.setLfeP p { x with
    faultySince := if f then some (x.faultySince.getD s.ticks) else none,
    clearSince := if c then some (x.clearSince.getD s.ticks) else none }

/-- The TEC of a port runs (Table 5-2). -/
def Dev.tecRuns (s : Dev) (p : Port) : Bool :=
  s.powered p && s.sup.mode.traffic &&
    (s.get (R.LFE_x_STATUS_ROLE p.ix) == 2 || (s.get (R.LFE_x_STATUS_ROLE p.ix) == 1 && s.is (R.LFE_x_CTL_WARM_TEC p.ix)))

/-- The TEC runs and TEC_LOCK is 0; the instant since which that holds (R113). -/
def Dev.tecOpen (s : Dev) (p : Port) : Bool := s.tecRuns p && !s.is (R.LFE_x_STATUS_TEC_LOCK p.ix)
def Dev.markTec (s : Dev) (p : Port) : Dev :=
  let x := s.lfeP p
  s.setLfeP p { x with tecOpenSince := if s.tecOpen p then some (x.tecOpenSince.getD s.ticks) else none }

/-- A port loses its power: LOL reads 1 and counts nothing, calibration is lost (R107, R109). -/
def Dev.portOff (s : Dev) (p : Port) : Dev :=
  let i := p.ix
  ((((s.set (R.LFE_x_STATUS_LOL i) 1).set (R.LFE_x_STATUS_READY i) 0).set (R.LFE_x_STATUS_CAL_BUSY i) 0).markFault p).markTec p

/-- A burst or a belay packet is leaving the port (R110, R194). -/
def Dev.transmits (s : Dev) (p : Port) : Bool := (s.lfeP p).sending || decide (s.ticks < (s.lfeP p).burstEnd)

/-- In TEST the driver of the port feeds its receiver (R120). -/
def Dev.looped (s : Dev) (p : Port) : Bool := s.sup.mode == .test && s.is (R.LFE_x_TEST_LOOP p.ix)

/-- Frame alignment of a port is in SYNC, and multiframe alignment in MF_SYNC. -/
def Dev.inSync (s : Dev) (p : Port) : Bool := s.get (R.LFR_x_STATUS_FA p.ix) == 2
def Dev.mfSync (s : Dev) (p : Port) : Bool := s.is (R.LFR_x_STATUS_MF_SYNC p.ix)

/-- The line source is aligned (R165). -/
def Dev.aligned (s : Dev) : Bool :=
  match s.activePort with
  | some p => s.inSync p && s.mfSync p
  | none => false

/-- The framer of a port runs (R149). -/
def Dev.framerRuns (s : Dev) (p : Port) : Bool :=
  s.sup.mode.traffic && s.get (R.LFE_x_STATUS_ROLE p.ix) != 0 && s.powered p && s.sourcePort.isSome

/-- An open packet is discarded and counted (R135). -/
def Dev.dropOpen (s : Dev) (p : Port) : Dev :=
  match (s.lfrP p).pkt with
  | some _ => (s.setLfrP p { s.lfrP p with pkt := none }).count (R.LFR_x_ENCAP_COUNTS_FRAG_LOST p.ix) 1
  | none => s

/-- LFR_IRQ bits of a port. -/
def lfrIrq : Port → Fld
  | .a => R.LFR_IRQ_PORT_A
  | .b => R.LFR_IRQ_PORT_B

/-- LFR_EVENT code with its LFR_IRQ bit (R150). -/
def Dev.lfrEvent (s : Dev) (p : Port) (code : Nat) : Dev :=
  (s.raiseAt (lfrIrq p) (code - 1)).event 0x0580
    (le 1 p.ix ++ le 1 code ++ le 4 (s.rd (R.LFR_x_WIN_CORR p.ix)).toNat ++ le 4 (s.get (R.LFR_x_WIN_UNC_CODEWORDS p.ix)))

/-- A line window in progress is discarded and counted (R272). -/
def Dev.discardLine (s : Dev) : Dev :=
  match s.tmb.lineWin with
  | some _ => (({ s with tmb := { s.tmb with lineWin := none } }).count R.TMB_MEAS_DISCARDS_LINE 1).set R.TMB_LINE_STATUS_LINE_VALID 0
  | none => s

/-- A framer back in HUNT, with nothing aligned, nothing declared and its window discarded; a multiframe alignment that was held is
reported lost, and a line window that it measured is discarded (F9, F11, Table 6-8, R148, R272). -/
def Dev.framerHunt (s : Dev) (p : Port) : Dev :=
  let s0 := if s.activePort = some p then s.discardLine else s
  let s1 := (if s0.mfSync p then s0.lfrEvent p 4 else s0).dropOpen p
  let x := s1.lfrP p
  let s2 := s1.setLfrP p { x with
    cands := [], pos := 0, wrong := 0, lastIndex := none, pkt := none,
    winFrames := 0, winCorr := 0, winUnc := 0, dsRun := 0, uncRun := 0 }
  let i := p.ix
  (((((s2.set (R.LFR_x_STATUS_FA i) 0).set (R.LFR_x_STATUS_CANDS i) 0).set (R.LFR_x_STATUS_MF_SYNC i) 0).set
    (R.LFR_x_STATUS_DS i) 0).set (R.LFR_x_STATUS_UNC i) 0).set (R.LFR_x_STATUS_MISSES i) 0

/-- The grant IDs assigned to this terminal, in order (ACT_GRANT_IDn). -/
def Dev.grantIds (s : Dev) : List Nat :=
  (List.range (s.get R.ACT_GRANT_COUNT_COUNT)).map fun n => s.get (R.ACT_GRANT_ID_ID n)

/-- The grant IDs replaced as a whole. -/
def Dev.setGrantIds (s : Dev) (l : List Nat) : Dev :=
  let s1 := s.set R.ACT_GRANT_COUNT_COUNT l.length
  forEach (List.range 32) s1 fun n t =>
    match l[n]? with
    | some g => (t.set (R.ACT_GRANT_ID_ID n) g).set (R.ACT_GRANT_ID_VALID n) 1
    | none => (t.set (R.ACT_GRANT_ID_ID n) 0).set (R.ACT_GRANT_ID_VALID n) 0

/-- A STATUS queued for the belay channel; it replaces a queued one (R193). -/
def Dev.queueStatus (s : Dev) : Dev :=
  let t := if s.bel.queued then s.count R.BEL_TX_COUNTS_REPLACED 1 else s
  { t with bel := { t.bel with queued := true } }

/-- The activation state replaced, and mirrored (R435); leaving LOST drops the kept hints (R170), and entry to LOST, RESUMING or
REGISTERED queues a STATUS (R193). -/
def Dev.setAct (s : Dev) (x : ActSt) : Dev :=
  let a : Act := { s.act with
    st := x,
    hintA := if x = .lost then s.act.hintA else none,
    hintB := if x = .lost then s.act.hintB else none,
    since := if x = s.act.st then s.act.since else s.ticks }
  let t := { s with act := a }.mirrorReg
  if x ≠ s.act.st ∧ (x = .lost ∨ x = .resuming ∨ x = .registered) then t.queueStatus else t

/-- A pending EQD is discarded (R167). -/
def Dev.dropPend (s : Dev) : Dev := { s with act := { s.act with pend := false } }

/-- The registration record cleared: no terminal ID, no slots, no grant IDs, EQD back to PRE_EQD. DESIGN CHOICE: a pending EQD goes
with the record at A16 too, which R167 does not list. -/
def Dev.clearRecord (s : Dev) : Dev :=
  ((((s.dropPend.set R.ACT_STATUS_TID 0x3FF).set R.ACT_TDM_BASE_BASE 0xFFFF).wr R.ACT_TREE 0).set
    R.ACT_EQD_EQD (s.get R.ACT_PRE_EQD_PRE_EQD)).setGrantIds []

/-- Codes of ACT_EVENT (Table 7-7). -/
def Dev.actEvent (s : Dev) (code : Nat) : Dev :=
  s.event 0x0680 (le 1 code ++ le 2 (s.get R.ACT_STATUS_TID) ++ le 4 (s.get R.ACT_EQD_EQD))

/-- The terminal holds a terminal ID and an equalisation delay, or the relay client is SERVED (R167, R425). -/
def Dev.registered (s : Dev) : Bool :=
  s.act.st == .registered || s.act.st == .lost || s.act.st == .resuming || (s.relay && s.get R.ROP_RELAY_STATUS_STATE == 2)

/-- The valid hint for the line source: its tree is the tree of the aligned source (R170). -/
def Dev.validHint (s : Dev) : Option Hint :=
  match s.activePort with
  | some p =>
    match (if p = .a then s.act.hintA else s.act.hintB) with
    | some h => if h.tree = (s.lfrP p).tree then some h else none
    | none => none
  | none => none

/-- A hint whose values fall outside R152 or R161 counts as WITHDRAWN (R171); its EQD is the whole 4-byte value. -/
def Hint.usable (h : Hint) : Bool :=
  !h.withdrawn && decide (h.tid < 1023) && decide (h.eqd < 2 ^ 25) && decide (h.grantId < 0xFFF) &&
    (decide (h.tdmBase ≤ 1008) || h.tdmBase == 0xFFFF)

/-- A11: the hint's values are taken and RESUME_WAIT starts (R171). -/
def Dev.applyHint (s : Dev) (h : Hint) : Dev :=
  let same := s.get R.ACT_STATUS_TID == h.tid
  let ids := s.grantIds
  let s1 := (((s.set R.ACT_TREE_TREE_ID h.tree).set R.ACT_EQD_EQD h.eqd).set R.ACT_TDM_BASE_BASE h.tdmBase).set R.ACT_STATUS_TID h.tid
  let s2 := if same then
      s1.setGrantIds (if ids.contains h.grantId || decide (ids.length ≥ 32) then ids else ids ++ [h.grantId])
    else s1.setGrantIds [h.grantId]
  let s3 : Dev := { s2 with act := { s2.act with lastUcast := none, upSeq := 0 } }
  s3.setAct .resuming

end Sys2Proof.Machine
end

