-- ==== Sys2Proof/Machine/Mode.lean ====
section
/-!
DEFINITION. Sys2Proof/Machine/Mode.lean: the mode controller: triggers, the transition table, held triggers and host requests,
and what follows from a mode at once (04_modes_startup_reset.md R77 to R88, R101, R507; 05 Table 5-2; 07 Table 7-5 rows A1,
A3, A11, A12, A17, A18; 12 R268; 22 R479, R480, R482, R484).
-/
namespace Sys2Proof.Machine

/-- Results of a host request (MOD_REQ_RESULT.RESULT). -/
inductive ReqResult where
  | none | ok | mode | held | replaced | refused | key | cancelled
deriving DecidableEq, Repr

/-- RESULT codes. -/
def ReqResult.code : ReqResult → Nat
  | .none => 0
  | .ok => 1
  | .mode => 2
  | .held => 3
  | .replaced => 4
  | .refused => 5
  | .key => 6
  | .cancelled => 7

/-- MOD_REQ_RESULT set. -/
def Dev.reqResult (s : Dev) (r : Req) (x : ReqResult) : Dev :=
  (s.set R.MOD_REQ_RESULT_REQ r.code).set R.MOD_REQ_RESULT_RESULT x.code

/-- A final result: the register and MOD_IRQ.REQ_DONE (R101). -/
def Dev.reqFinal (s : Dev) (r : Req) (x : ReqResult) : Dev := (s.reqResult r x).raise R.MOD_IRQ_REQ_DONE

/-- A final result that REQ_DONE reports (R101). -/
def Dev.reqDone (s : Dev) (r : Req) (x : ReqResult) : Dev :=
  (s.reqFinal r x).event 0x0381 (le 1 r.code ++ le 1 x.code)

/-- The host watchdog with a full period, where it is armed (R94, R96). -/
def Dev.wdogFull (s : Dev) : Option Nat :=
  let n := s.get R.PLT_WDOG_CFG_HOST_TIMEOUT
  if n = 0 then none else some (s.ticks + n * msTicks)

/-- The host watchdog as a mode is entered: suspended in BIVOUAC and TEST, a full period when BIVOUAC is left (R96). -/
def Dev.wdogMode (s : Dev) (dest : Mode) : Option Nat :=
  if dest = .bivouac ∨ dest = .test then none else if s.sup.mode = .bivouac then s.wdogFull else s.sup.hostWdog

/-- The mode changes by a row of Table 4-3: MOD_STATUS, the count, the interrupt and MODE_CHANGE (R79, R101). -/
def Dev.setMode (s : Dev) (row : Nat) (dest : Mode) (t : Trigger) : Dev :=
  let s1 : Dev := { s with sup := { s.sup with
    prevMode := s.sup.mode, mode := dest, lastTrigger := t.code, modeSince := s.ticks, hostWdog := s.wdogMode dest,
    acqSince := if dest = .acquire then s.ticks else s.sup.acqSince } }
  (((s1.countR R.MOD_TRANSITIONS 1).raise R.MOD_IRQ_MODE_CHANGE).event 0x0380
    (le 1 dest.code ++ le 1 s.sup.mode.code ++ le 1 t.code ++ le 1 s.role.code ++ le 1 row)).revote

/-- The row of Table 4-3 that completes at once, for a mode and a trigger whose guard holds. -/
def Dev.row (s : Dev) (t : Trigger) : Option (Nat × Mode) :=
  let sb := s.standby
  match s.sup.mode, t with
  | _, .reset => some (1, .config)
  | .config, .imageActive => some (2, .acquire)
  | .acquire, .aligned => some (4, .range)
  | .acquire, .acqLimit => if s.get R.MOD_ACQ_LIMIT_MS = 0 then none else some (5, .island)
  | .range, .registered => some (if sb then (7, .standby) else (6, .service))
  | .range, .syncLost => some (8, .acquire)
  | .service, .syncLost | .service, .deregistered | .service, .pitch13 | .service, .portSwitch => some (9, .island)
  | .service, .verdictStandby => some (10, .standby)
  | .standby, .verdictActive => some (11, .service)
  | .standby, .syncLost | .standby, .deregistered | .standby, .pitch13 | .standby, .portSwitch => some (12, .island)
  | .island, .resumed => some (if sb then (14, .standby) else (13, .service))
  | .island, .reacquired => some (15, .range)
  | _, _ => none

/-- A wake trigger (R78). -/
def Trigger.wake : Trigger → Bool
  | .wakeBelay | .wakeHost | .wakeGpio => true
  | _ => false

/-- The power coordinator is given a request: PWR_REQ_RESULT while it runs (R479). -/
def Dev.pwrReq (s : Dev) (r : CoordReq) (result dom reason : Nat) : Dev :=
  s.wr R.PWR_REQ_RESULT (BitVec.ofNat 32 (r.code + 16 * result + 2 ^ 8 * dom + 2 ^ 16 * reason))

/-- PWR_EVENT codes and the bit of PWR_IRQ each goes with (Table 22-5). -/
def Dev.pwrEvent (s : Dev) (code dom reason : Nat) : Dev :=
  (s.raise ⟨R.PWR_IRQ, code - 1, 1⟩).event 0x1680
    (le 1 code ++ le 1 (if dom = 0x3F then 0xFF else dom) ++ le 1 reason ++ le 4 (sat 32 ((s.ticks - s.pwr.reqStart) / usTicks)))

/-- EXIT for M17 or M18: self-refresh is left, votes are restored for the To mode and domains wake (R482). -/
def Dev.startExit (s : Dev) : Dev :=
  ({ s with pwr := { s.pwr with coord := .exiting, withdrawn := false, closed := false, reqStart := s.ticks } }.pwrReq
    .exit 0 0x3F 0).revote

/-- Cells of a frame moved from the front to the deep buffer while free deep cells remain (R480 step 1). -/
def spillFrame (x : Nat × List QFrame) (f : QFrame) : Nat × List QFrame :=
  let n := min x.1 f.cells.front
  (x.1 - n, x.2 ++ [{ f with cells := { f.cells with front := f.cells.front - n, deep := f.cells.deep + n } }])

/-- Every front-buffer cell copied into a free cell of the deep buffer, as far as they last. -/
def spillTable (x : Nat × List (Nat × List QFrame)) (e : Nat × List QFrame) : Nat × List (Nat × List QFrame) :=
  let r := e.2.foldl spillFrame (x.1, [])
  (r.1, x.2 ++ [(e.1, r.2)])

/-- Step 1's copy over queues, launch FIFOs and timed lists. -/
def Dev.spillFront (s : Dev) : Dev :=
  let free := poolCells - frontCells - s.deepUsed
  let a := s.sch.queues.foldl spillTable (free, [])
  let b := s.sch.fifos.foldl spillTable (a.1, [])
  let c := s.sch.timed.foldl spillTable (b.1, [])
  { s with sch := { s.sch with queues := a.2, fifos := b.2, timed := c.2 } }

/-- ENTER for M16: ingress closes, front cells are copied, standing votes are withdrawn and domains stop in order (R480). -/
def Dev.startEntry (s : Dev) : Dev :=
  ({ s with pwr := { s.pwr with coord := .entering, withdrawn := true, closed := true, reqStart := s.ticks } }.spillFront.pwrReq
    .enter 0 0x3F 0).revote

/-- Every domain is UP. -/
def Dev.allUp (s : Dev) : Bool := (List.range domCount).all s.isUp

/-- ALL_ON for M3 (R484). -/
def Dev.startAllOn (s : Dev) : Dev :=
  ({ s with pwr := { s.pwr with allOn := true, reqStart := s.ticks } }.pwrReq .allOn 0 0x3F 0).revote

/-- The wake cause of a wake trigger (MOD_WAKE_CAUSE). -/
def Dev.wakeCause (s : Dev) (t : Trigger) : Dev :=
  match t with
  | .wakeBelay => s.set R.MOD_WAKE_CAUSE_BELAY 1
  | .wakeHost => s.set R.MOD_WAKE_CAUSE_HOST 1
  | .wakeGpio => s.set R.MOD_WAKE_CAUSE_GPIO (s.get R.MOD_WAKE_CAUSE_GPIO ||| s.sup.wakePins)
  | _ => s

/-- A trigger evaluated against Table 4-3 in the mode current now (R79, R85, R86). -/
def Dev.evalTrigger (s : Dev) (t : Trigger) : Dev :=
  if s.sup.transit.isSome ∧ t ≠ .reset then s
  else if t.wake ∧ s.sup.mode = .bivouac then
    { s with sup := { s.sup with transit := some (if s.sup.regAtBivouac
        then { row := 17, dest := .island, trig := t } else { row := 18, dest := .acquire, trig := t }) } }.startExit
  else match s.row t with
    | some (n, m) => s.setMode n m t
    | none => s

/-- Triggers of one class replace each other while they are held (R507). -/
def Trigger.sameHeld (a b : Trigger) : Bool :=
  a == b || ((a == .verdictActive || a == .verdictStandby) && (b == .verdictActive || b == .verdictStandby))

/-- A wake that arrives during BIVOUAC entry is a held EXIT of the power coordinator (R88, R479). -/
def Dev.holdExit (s : Dev) : Dev :=
  let s1 := if s.pwr.held.isSome then (s.pwrEvent 4 0x3F 0) else s
  { s1 with pwr := { s1.pwr with held := some .exit } }

/-- A trigger reported to the mode controller: evaluated, or held during a timed transition (R79, R507). -/
def Dev.trigger (s : Dev) (t : Trigger) : Dev :=
  if s.sup.transit.isSome ∧ t ≠ .reset then
    let s1 : Dev := { s with sup := { s.sup with heldTrig := s.sup.heldTrig.filter (fun x => !x.sameHeld t) ++ [t] } }
    if t.wake ∧ s.pwr.coord = .entering then s1.holdExit else s1
  else s.evalTrigger t

/-- The order in which triggers of one step are taken (R86). -/
def Trigger.rank : Trigger → Nat
  | .reset => 1
  | .syncLost | .deregistered | .pitch13 | .portSwitch => 2
  | .aligned | .registered | .resumed | .reacquired => 3
  | .verdictActive | .verdictStandby => 4
  | .acqLimit => 5
  | .wakeBelay | .wakeHost | .wakeGpio => 6
  | .hostReq => 7
  | .imageActive => 1

/-- Triggers of one step in the order of R86. -/
def orderTriggers (l : List Trigger) : List Trigger := (List.range 8).flatMap fun r => l.filter fun t => t.rank == r

/-- REACQUIRED raised by activation (Table 7-5). -/
def Dev.raiseReacquired (s : Dev) : Dev :=
  ((s.count R.ACT_RESUME_COUNTS_REACQUIRED 1).raise R.ACT_IRQ_REACQUIRED).actEvent 4 |>.trigger .reacquired

/-- DEREGISTERED raised by activation, with its cause (Table 7-5, ACT_DEREG). -/
def Dev.raiseDeregistered (s : Dev) (cause : Nat) : Dev :=
  ((s.set R.ACT_DEREG_CAUSE cause).raise R.ACT_IRQ_DEREGISTERED).actEvent 2 |>.trigger .deregistered

/-- What activation does of itself in the present state (A1, A3, A11, A12, A17, A18); a REACQUIRED that is held has been raised. -/
def Dev.actStep (s : Dev) : Option Dev :=
  let m := s.sup.mode
  let raised := s.sup.heldTrig.contains .reacquired
  let al := s.aligned && !s.draining 13
  match s.act.st with
  | .idle =>
    if m = .range ∧ al then some (s.setAct .listen)
    else if m = .island ∧ al ∧ !raised then some s.raiseReacquired
    else none
  | .listen =>
    if m = .config ∨ m = .test then some (s.clearRecord.setAct .idle)
    else if m = .island ∧ al ∧ !raised then some s.raiseReacquired
    else none
  | .lost =>
    if m = .config ∨ m = .test then some (s.clearRecord.setAct .idle)
    else if al ∧ (m = .range ∨ m = .service ∨ m = .standby ∨ m = .island) then
      match s.validHint with
      | some h => if h.usable then some (s.applyHint h) else some (s.clearRecord.setAct .listen).raiseReacquired
      | none => some (s.clearRecord.setAct .listen).raiseReacquired
    else none
  | _ => if m = .config ∨ m = .test then some (s.clearRecord.setAct .idle) else none

/-- What the fabric does of itself: it stops outside its modes, starts in them, and tells a change of its flags (R414, R417, R429). -/
def Dev.ropeStep (s : Dev) : Option Dev :=
  if !s.sup.mode.traffic then s.ropeLeave
  else if !s.rop.running then
    if s.is R.ROP_CFG_EN && !s.draining 14 && s.isUp domRope then some s.ropStart else none
  else match s.rop.own with
    | some o => if s.claimed && o.flags != s.ropFlags then some s.originate else none
    | none => none

/-- A relay client moves to a state and reports it (Table 19-5). -/
def Dev.relayTo (s : Dev) (st server code serial : Nat) : Dev :=
  (((s.set R.ROP_RELAY_STATUS_STATE st).set R.ROP_RELAY_STATUS_SERVER server).raise R.ROP_IRQ_RELAY).event 0x1380
    (ropPayload code 0xFF server serial)

/-- What a relay client does of itself (Table 19-5 Y1 to Y6). -/
def Dev.relayStep (s : Dev) : Option Dev :=
  if !s.relay || !s.rop.running || s.draining 13 || s.draining 14 then none
  else
    let servers := s.relayServers
    let st := s.get R.ROP_RELAY_STATUS_STATE
    let cur := servers.find? fun x => x.id == s.get R.ROP_RELAY_STATUS_SERVER
    let first (t : Dev) (a b : Trigger) : Dev :=
      if t.sup.mode = .acquire then t.trigger a else if t.sup.mode = .island then t.trigger b else t
    match st with
    | 0 => match servers with
      | [] => none
      | x :: _ =>
        if bit x.flags 1 then
          let t := s.relayTo 2 x.id 5 x.serial
          some (if t.sup.mode = .acquire then (t.trigger .aligned).trigger .registered
            else if t.sup.mode = .island then t.trigger .resumed else t)
        else some (first (s.relayTo 1 x.id 5 x.serial) .aligned .reacquired)
    | 1 => match cur with
      | none => some ((s.relayTo 0 0 6 0).trigger .syncLost)
      | some x =>
        if bit x.flags 1 then some ((s.relayTo 2 x.id 5 x.serial).trigger .registered)
        else match servers.find? (fun y => bit y.flags 1) with
          | some y => some ((s.relayTo 2 y.id 5 y.serial).trigger .registered)
          | none => none
    | _ => match cur with
      | none => some ((s.relayTo 0 0 6 0).trigger .syncLost)
      | some x =>
        if bit x.flags 1 then none
        else
          let t := (s.relayTo 1 x.id 5 x.serial).trigger .deregistered
          some (if t.sup.mode = .island then t.trigger .reacquired else t)

/-- HOLDOVER of the timebase as the line source stands (R268). -/
def Dev.holdoverNow (s : Dev) : Bool :=
  match s.activePort with
  | some p => !s.inSync p
  | none => true

/-- One thing that follows at once from the mode: a TEC that begins to run unlocked (R113), port roles (Table 5-2), framers (R137 F11, R149), belay receivers (R181), the fabric (R429),
activation, and HOLDOVER. A burst or a switch in progress keeps the roles (R111, R119). -/
def Dev.settleStep (s : Dev) : Option Dev :=
  let role (p : Port) : Option Dev :=
    let w := s.wantedRole p
    if s.get (R.LFE_x_STATUS_ROLE p.ix) = w ∨ s.lfe.switching.isSome ∨ (s.lfeP p).sending then none
    else some ((s.set (R.LFE_x_STATUS_ROLE p.ix) w).revote)
  let framer (p : Port) : Option Dev :=
    if (s.get (R.LFE_x_STATUS_ROLE p.ix) = 0 ∨ ¬ s.sup.mode.traffic) ∧ s.get (R.LFR_x_STATUS_FA p.ix) ≠ 0 then some (s.framerHunt p)
    else none
  let hold : Option Dev :=
    if s.is R.TMB_STATUS_HOLDOVER = s.holdoverNow then none
    else some (((s.setB R.TMB_STATUS_HOLDOVER s.holdoverNow).raise R.TMB_IRQ_HOLDOVER_CHG).event 0x0C80
      (le 1 (if s.holdoverNow then 2 else 3) ++ le 12 0))
  let stop (p : Port) : Option Dev :=
    if (s.sup.mode = .test ∨ s.pwr.allOn) ∧ s.get (R.BEL_x_STATUS_RX p.ix) ≠ 3 then
      some ((((s.set (R.BEL_x_STATUS_RX p.ix) 3).set (R.BEL_x_STATUS_CAND p.ix) 0).set (R.BEL_x_STRENGTH_TRACK p.ix) 0).set
        (R.BEL_x_STRENGTH_CAND p.ix) 0)
    else none
  let tec (p : Port) : Option Dev := if s.tecOpen p = (s.lfeP p).tecOpenSince.isSome then none else some (s.markTec p)
  (tec .a).orElse fun _ => (tec .b).orElse fun _ => (stop .a).orElse fun _ => (stop .b).orElse fun _ => (role .a).orElse fun _ => (role .b).orElse fun _ => (framer .a).orElse fun _ => (framer .b).orElse fun _ =>
    s.ropeStep.orElse fun _ => s.relayStep.orElse fun _ => hold.orElse fun _ => s.actStep

/-- Everything that follows at once from the mode. -/
def Dev.settle (s : Dev) : Dev := iter Dev.settleStep 32 s

/-- A trigger and all that follows from it at once. -/
def Dev.fire (s : Dev) (t : Trigger) : Dev := (s.trigger t).settle

/-- A LOAD_PARTIAL runs, so requests for BIVOUAC and TEST are held behind it (R50). -/
def Dev.reloading (s : Dev) : Bool :=
  match s.img.op with
  | some o => o.cmd == .loadPartial
  | none => false

/-- A host request evaluated: the row it finds (M3, M16 to M19), or MODE. EXIT_TEST is completed by the reset (R79). -/
def Dev.evalReq (s : Dev) (r : HeldReq) : Dev × ReqResult :=
  let start (row : Nat) (dest : Mode) (t : Trigger) (s : Dev) : Dev :=
    { s with sup := { s.sup with transit := some { row := row, dest := dest, trig := t }, transitReq := some r } }
  match r.req with
  | .bivouac =>
    if s.sup.mode.traffic ∧ s.img.op.isNone then ((start 16 .bivouac .hostReq s).startEntry, .ok) else (s, .mode)
  | .wake =>
    if s.sup.mode = .bivouac ∧ s.is R.MOD_WAKE_EN_HOST then
      let t := s.evalTrigger .wakeHost
      ({ t with sup := { t.sup with transitReq := some r } }, .ok)
    else (s, .mode)
  | .test =>
    if r.key ≠ 0x5445 then (s, .key)
    else if (s.sup.mode = .config ∨ s.sup.mode.traffic) ∧ s.img.op.isNone then
      let t := (start 3 .test .hostReq s).startAllOn
      (t, .ok)
    else (s, .mode)
  | .exitTest => if s.sup.mode = .test then ({ s with sup := { s.sup with softPending := some true } }, .ok) else (s, .mode)
  | .cancel => (s, .mode)

/-- A held request evaluated when what held it ends (R87, R101): final results are reported by REQ_DONE. -/
def Dev.evalHeld (s : Dev) : Dev :=
  match s.sup.heldReq with
  | none => s
  | some r =>
    if s.sup.transit.isSome ∨ (s.reloading ∧ (r.req = .bivouac ∨ r.req = .test)) then s
    else
      let x := { s with sup := { s.sup with heldReq := none } }.evalReq r
      if x.1.sup.transit.isSome then (x.1.reqResult r.req x.2).settle else (x.1.reqDone r.req x.2).settle

/-- A timed transition has ended: held triggers in one step, then a held request (R87, R507); neither where a SOFT reset waited for
that end, which acts first and discards them (R86, R88). -/
def Dev.afterTransit (s : Dev) : Dev :=
  if s.sup.softPending.isSome then s else
  let l := orderTriggers s.sup.heldTrig
  let s1 : Dev := { s with sup := { s.sup with heldTrig := [] } }
  (forEach l s1 fun t x => x.trigger t).settle.evalHeld

/-- The To mode of a timed transition is reached (R84, R101, R507). -/
def Dev.endTransit (s : Dev) : Dev :=
  match s.sup.transit with
  | none => s
  | some t =>
    let r := s.sup.transitReq
    let s1 := { s with sup := { s.sup with transit := none, transitReq := none } }.setMode t.row t.dest t.trig
    let s2 := if t.row = 17 ∨ t.row = 18 then (s1.wakeCause t.trig).raise R.MOD_IRQ_WAKE else s1
    let s3 := match r with | some q => s2.reqDone q.req .ok | none => s2
    s3.settle.afterTransit

/-- BIVOUAC entry refused: the mode stays (R82). -/
def Dev.refuseTransit (s : Dev) : Dev :=
  let r := s.sup.transitReq
  let s1 : Dev := { s with sup := { s.sup with transit := none, transitReq := none } }
  (match r with | some q => s1.reqDone q.req .refused | none => s1).settle.afterTransit

/-- ALL_ON with every domain UP completes at once (R479, R484). -/
def Dev.finishAllOn (s : Dev) : Dev :=
  (({ s with pwr := { s.pwr with allOn := false } }.pwrReq .allOn 1 0x3F 0)).endTransit

/-- A request for TEST that finds every domain UP completes at once (R484). -/
def Dev.afterReq (s : Dev) : Dev :=
  match s.sup.transit with
  | some t => if t.row = 3 ∧ s.allUp then s.finishAllOn else s
  | none => s

/-- A host request arrives (R87, R101): its result. -/
def Dev.hostReq (s : Dev) (r : HeldReq) : Dev × ReqResult :=
  if r.req = .test ∧ r.key ≠ 0x5445 then (s.reqFinal r.req .key, .key)
  else if r.req = .cancel then
    match s.sup.heldReq with
    | some h => ({ s with sup := { s.sup with heldReq := none } }.reqDone h.req .cancelled, .cancelled)
    | none => (s.reqFinal .cancel .mode, .mode)
  else if s.sup.transit.isSome ∨ (s.reloading ∧ (r.req = .bivouac ∨ r.req = .test)) then
    let s1 := match s.sup.heldReq with | some h => s.reqDone h.req .replaced | none => s
    ({ s1 with sup := { s1.sup with heldReq := some r } }.reqResult r.req .held, .held)
  else
    let x := s.evalReq r
    let s1 := if x.1.sup.transit.isSome then x.1.reqResult r.req x.2 else x.1.reqFinal r.req x.2
    (s1.settle.afterReq, x.2)

end Sys2Proof.Machine
end

