-- ==== Sys2Proof/Machine/Timebase.lean ====
section
/-!
DEFINITION. Sys2Proof/Machine/Timebase.lean: increment, steps, measurements, PPS and stamps
(12_timebase_and_stamps.md R266 to R283).
-/
namespace Sys2Proof.Machine

/-- A TMB_EVENT (Table 12-4). -/
def Dev.tmbEvent (s : Dev) (code : Nat) (detail : List Byte) : Dev := s.event 0x0C80 (le 1 code ++ padTo 12 detail)

/-- An INCR write or a step mirrored (R435): op and the 12 bytes of its value. -/
def Dev.mirrorTime (s : Dev) (op : Nat) (v : List Byte) : Dev := s.mirror mTime (be 1 op ++ v)

/-- INCR_WRITE: a write of TMB_INCR_LO sets INCR with the held high word, or is refused whole outside ±1,000 ppm (R267). -/
def doIncrWrite (v : Word) (s : Dev) : Dev :=
  let n := v.toNat + 2 ^ 32 * ((s.highFor R.TMB_INCR_HI).toNat % 4)
  let t := s.dropHeld R.TMB_INCR_HI
  if 0x133627628 ≤ n ∧ n ≤ 0x134000000 then (t.wr64 R.TMB_INCR_LO n).mirrorTime 0 (be 12 n)
  else (t.raise R.TMB_IRQ_INCR_REFUSED).tmbEvent 7 []

/-- Nanoseconds and seconds of the same tick latched (R269). -/
def Dev.latchTime (s : Dev) : Dev := { s with tmb := { s.tmb with timeLatch := some (s.now.ns, s.now.sec) } }

/-- The fraction of the time of day. -/
def Dev.timeFrac (s : Dev) : Word := BitVec.ofNat 32 (s.tmb.time % 2 ^ 32)

/-- TIME_FRAC_READ (R269). -/
def doTimeFracRead (s : Dev) : Dev := s.latchTime.answerRead R.TMB_TIME_FRAC s.timeFrac

/-- The time becomes t at the first tick after the write: windows are discarded, PPS_OUT follows R281 (R271). -/
def Dev.applyStep (s : Dev) (t : Nat) : Dev :=
  let s1 : Dev := { s with tmb := { s.tmb with time := t, refBad := s.get R.TMB_REF_CFG_WIN != 0 } }
  let s2 : Dev := { s1 with tmb := { s1.tmb with
    ppsDone := if s1.get R.TMB_PPS_OFFSET_NS ≤ s1.now.ns then some s1.now.sec else none } }
  ((s2.discardLine.gatesFollow).raise R.TMB_IRQ_STEPPED).tmbEvent 1 []

/-- A step refused (R270). -/
def Dev.refuseStep (s : Dev) : Dev := (s.raise R.TMB_IRQ_STEP_REFUSED).tmbEvent 8 []

/-- The 48-bit seconds of TMB_ADJ_SEC. -/
def Dev.adjSec (s : Dev) : Nat := s.rd64 R.TMB_ADJ_SEC_LO % 2 ^ 48

/-- STEP_ADD: the signed step is added at the first tick after the write (R270). -/
def doStepAdd (s : Dev) : Dev :=
  let ns := signed 32 (s.rd R.TMB_ADJ_NS).toNat
  let step : Int := (signed 48 s.adjSec * 1000000000 + ns) * 2 ^ 32
  let t := s.elapse 1
  if ns.natAbs ≥ 1000000000 ∨ (t.tmb.time : Int) + step < 0 then s.refuseStep
  else (t.applyStep (((t.tmb.time : Int) + step).toNat % timeWrap)).mirrorTime 1 (be 8 s.adjSec ++ be 4 (s.rd R.TMB_ADJ_NS).toNat)

/-- STEP_SET: the time becomes the value, with fraction 0 (R270). -/
def doStepSet (s : Dev) : Dev :=
  let ns := (s.rd R.TMB_ADJ_NS).toNat
  if ns ≥ 1000000000 then s.refuseStep
  else ((s.elapse 1).applyStep ((s.adjSec * 1000000000 + ns) * 2 ^ 32)).mirrorTime 2 (be 8 s.adjSec ++ be 4 ns)

/-- A write of TMB_ADJ_CTL (R270). -/
def Dev.adjCtl (s : Dev) (v : Word) : Dev :=
  if bit v.toNat 0 then (if bit v.toNat 1 then doStepSet s else doStepAdd s) else s

/-- A downstream frame's part in line measurement (R272): captured says that its PSync was detected at its expected position.
A window that ends with it is due, and the next one starts with it. -/
def Dev.lineCapture (s : Dev) (p : Port) (captured : Bool) (tod : Tod) (valid : Bool) : Dev :=
  let w := 8 * s.get R.TMB_LINE_CFG_WIN
  let t := (s.tmb.time + timeWrap - Config.lineDelay p.ix) % timeWrap
  if w = 0 then { s with tmb := { s.tmb with lineWin := none } }
  else match s.tmb.lineWin with
    | none => if captured then { s with tmb := { s.tmb with lineWin := some { start := t, frames := 0 } } } else s
    | some x =>
      if x.frames + 1 < w then { s with tmb := { s.tmb with lineWin := some { x with frames := x.frames + 1 } } }
      else if captured then
        { s with tmb := { s.tmb with
          lineDue := some { start := x.start, stop := t, frames := x.frames + 1, tod := tod, valid := valid },
          lineWin := some { start := t, frames := 0 } } }
      else s.discardLine

/-- A signed deviation in 2^-8 ns, saturated to 32 bits (R272). -/
def devField (d : Int) : Nat := unsigned 32 (max (-(2 ^ 31)) (min (2 ^ 31 - 1) d))

/-- LINE_WINDOW_END: DEV and the captures of the window that has ended (R272, R273). -/
def doLineWindowEnd (s : Dev) : Dev :=
  match s.tmb.lineDue with
  | none => s
  | some d =>
    let dev := devField ((((d.stop : Int) - d.start) - (d.frames * 125000 * 2 ^ 32 : Nat)) / 2 ^ 24)
    let s1 : Dev := { s with tmb := { s.tmb with lineDue := none, tod := d.tod, loc := Tod.ofNs (d.stop / 2 ^ 32) } }
    let s2 := ((s1.wr R.TMB_LINE_DEV (BitVec.ofNat 32 dev)).setB R.TMB_LINE_STATUS_TOD_VALID d.valid).set R.TMB_LINE_STATUS_LINE_VALID 1
    (s2.raise R.TMB_IRQ_LINE_MEAS).tmbEvent 4 (le 4 dev ++ le 1 (b2n d.valid))

/-- The capture registers of the line window are latched (R273). -/
def Dev.latchLine (s : Dev) : Dev :=
  let put (a : Nat) (t : Tod) (s : Dev) : Dev := ((s.wr a (BitVec.ofNat 32 t.ns)).wr64 (a + 4) t.sec)
  put R.TMB_LOC_NS s.tmb.loc (put R.TMB_TOD_NS s.tmb.tod s)

/-- LINE_DEV_READ (R273). -/
def doLineDevRead (s : Dev) : Dev := s.latchLine.answerRead R.TMB_LINE_DEV (s.rd R.TMB_LINE_DEV)

/-- REF_WINDOW_END: elapsed timebase time in 2^-8 ns over 10,000 × WIN edges of REF10M_IN, gap when a 100 ns period passed
without an edge; with WIN = 0 it only shows whether edges arrive (R274). -/
def doRefWindowEnd (elapsed : Nat) (gap : Bool) (s : Dev) : Dev :=
  let w := s.get R.TMB_REF_CFG_WIN
  let s1 := s.setB R.TMB_STATUS_REF_PRESENT (!gap)
  if w = 0 then s1
  else
    let s2 : Dev := { s1 with tmb := { s1.tmb with refBad := false } }
    if gap ∨ s.tmb.refBad then s2.count R.TMB_MEAS_DISCARDS_REF 1
    else
      let dev := devField ((elapsed : Int) - (w * 1000000 * 256 : Nat))
      ((s2.wr R.TMB_REF_DEV (BitVec.ofNat 32 dev)).raise R.TMB_IRQ_REF_MEAS).tmbEvent 5 (le 4 dev)

/-- PPS_IN_EDGE: the time of the first tick after the edge, less the factory delay (R275). -/
def doPpsInEdge (s : Dev) : Dev :=
  if !s.is R.TMB_PPS_CFG_IN_EN then s
  else
    let s0 := s.elapse 1
    let t := Tod.ofNs (((s0.tmb.time + timeWrap - Config.ppsInDelay) % timeWrap) / 2 ^ 32)
    let s1 := if s.is R.TMB_PPS_IN_SEC_HI_NEW then s0.count R.TMB_MEAS_DISCARDS_PPS_OVERRUN 1 else s0
    let s2 : Dev := { (s1.wr R.TMB_PPS_IN_NS (BitVec.ofNat 32 t.ns)) with tmb := { s1.tmb with ppsSec := t.sec } }
    (s2.set R.TMB_PPS_IN_SEC_HI_NEW 1).raise R.TMB_IRQ_PPS_IN

/-- NEW clears and the seconds registers of the PPS_IN capture are latched (R275). -/
def Dev.latchPps (s : Dev) : Dev :=
  ((s.set R.TMB_PPS_IN_SEC_HI_NEW 0).wr R.TMB_PPS_IN_SEC_LO (BitVec.ofNat 32 s.tmb.ppsSec)).set R.TMB_PPS_IN_SEC_HI_TIME
    (s.tmb.ppsSec / 2 ^ 32)

/-- PPS_IN_READ (R275). -/
def doPpsInRead (s : Dev) : Dev := s.latchPps.answerRead R.TMB_PPS_IN_NS (s.rd R.TMB_PPS_IN_NS)

/-- PPS_OUT changes level; a standby twin's output is undriven (R85, R281). -/
def Dev.drivePps (s : Dev) (level : Bool) : Dev :=
  let t : Dev := { s with tmb := { s.tmb with ppsOut := level } }
  if s.standby then t else t.emit (.ppsOut level)

/-- The level on the PPS_OUT pin, none where it is undriven (R85, R281, R498). -/
def Dev.ppsPin (s : Dev) : Option Bool := if s.pinsOff || s.standby then none else some s.tmb.ppsOut

/-- After a write of TMB_PPS_CFG: WIDTH = 0 holds PPS_OUT low (R281). -/
def Dev.ppsHeld (s : Dev) : Dev := if s.get R.TMB_PPS_CFG_WIDTH = 0 ∧ s.tmb.ppsOut then s.drivePps false else s

/-- After a write of a WIN: 0 stops its measurement, and a REF window begins (R272, R274). -/
def Dev.lineWinWritten (s : Dev) : Dev :=
  if s.get R.TMB_LINE_CFG_WIN = 0 then { s with tmb := { s.tmb with lineWin := none } } else s
def Dev.refWinWritten (s : Dev) : Dev := { s with tmb := { s.tmb with refBad := false } }

/-- The second in which PPS_OUT rises next (R281). -/
def Dev.ppsNext (s : Dev) : Nat :=
  if s.now.ns ≤ s.get R.TMB_PPS_OFFSET_NS ∧ s.tmb.ppsDone ≠ some s.now.sec then s.now.sec else s.now.sec + 1

/-- PPS_OUT_RISE: at the first tick at which the nanoseconds reach TMB_PPS_OFFSET (R281). -/
def doPpsOutRise (s : Dev) : Dev :=
  let w := s.get R.TMB_PPS_CFG_WIDTH
  if w = 0 ∨ s.tmb.ppsOut then s
  else
    let sec := s.ppsNext
    let s1 := s.untilNs (sec * 1000000000 + s.get R.TMB_PPS_OFFSET_NS)
    let s2 : Dev := { s1 with tmb := { s1.tmb with ppsDone := some sec, ppsEnd := s1.tmb.run + w * 1000 * 2 ^ 32 } }
    s2.drivePps true

/-- PPS_OUT_FALL: WIDTH µs of elapsed timebase time after the rise (R281). -/
def doPpsOutFall (s : Dev) : Dev :=
  if !s.tmb.ppsOut then s
  else
    let left := s.tmb.ppsEnd - s.tmb.run
    (s.elapse ((left + s.incr - 1) / max 1 s.incr)).drivePps false

/-- TXS_POP: the oldest stamp entry moves into the stamp registers (R279). -/
def doTxsPop (s : Dev) : Dev :=
  match s.tmb.txs with
  | [] => s.set R.TMB_TXS_ID_VALID 0
  | e :: rest =>
    let s1 : Dev := { s with tmb := { s.tmb with txs := rest } }
    let s2 := (((s1.set R.TMB_TXS_ID_ID e.id).set R.TMB_TXS_ID_PORT e.port).setB R.TMB_TXS_ID_ONE_STEP e.oneStep).set R.TMB_TXS_ID_VALID 1
    ((s2.wr R.TMB_TXS_NS (BitVec.ofNat 32 e.at_.ns)).wr64 R.TMB_TXS_SEC_LO e.at_.sec).wr R.TMB_TXS_USER (BitVec.ofNat 32 e.user)

/-- A launched frame takes the next stamp ID and queues its entry, or its entry is discarded (R279). -/
def Dev.txStamp (s : Dev) (port : Nat) (oneStep : Bool) (t : Tod) (user : Nat) : Dev :=
  let id := s.tmb.nextId
  let s1 : Dev := { s with tmb := { s.tmb with nextId := (id + 1) % 2 ^ 16 } }
  if s.tmb.txs.length < 512 then
    { s1 with tmb := { s1.tmb with txs := s1.tmb.txs ++ [{ id := id, port := port, oneStep := oneStep, at_ := t, user := user }] } }
  else ((s1.count R.TMB_TXS_COUNTS_OVERFLOW 1).raise R.TMB_IRQ_OVERFLOW).eventRated 0x0C80 6 0 fun n => le 1 6 ++ padTo 12 (le 4 n)

-- The commands of this file.

/-- INCR_WRITE (R267). -/
def execIncrWrite (v : Word) (s : State) : Host.Outcome State Fault Refusal := s.run (doIncrWrite v)

/-- TIME_FRAC_READ (R269). -/
def execTimeFracRead (s : State) : Host.Outcome State Fault Refusal := s.run (doTimeFracRead)

/-- STEP_ADD (R270). -/
def execStepAdd (s : State) : Host.Outcome State Fault Refusal := s.run (doStepAdd)

/-- STEP_SET (R270). -/
def execStepSet (s : State) : Host.Outcome State Fault Refusal := s.run (doStepSet)

/-- LINE_WINDOW_END (R272). -/
def execLineWindowEnd (s : State) : Host.Outcome State Fault Refusal := s.run (doLineWindowEnd)

/-- LINE_DEV_READ (R273). -/
def execLineDevRead (s : State) : Host.Outcome State Fault Refusal := s.run (doLineDevRead)

/-- REF_WINDOW_END (R274). -/
def execRefWindowEnd (elapsed : Nat) (gap : Bool) (s : State) : Host.Outcome State Fault Refusal := s.run (doRefWindowEnd elapsed gap)

/-- PPS_IN_EDGE (R275). -/
def execPpsInEdge (s : State) : Host.Outcome State Fault Refusal := s.run (doPpsInEdge)

/-- PPS_IN_READ (R275). -/
def execPpsInRead (s : State) : Host.Outcome State Fault Refusal := s.run (doPpsInRead)

/-- PPS_OUT_RISE (R281). -/
def execPpsOutRise (s : State) : Host.Outcome State Fault Refusal := s.run (doPpsOutRise)

/-- PPS_OUT_FALL (R281). -/
def execPpsOutFall (s : State) : Host.Outcome State Fault Refusal := s.run (doPpsOutFall)

/-- TXS_POP (R279). -/
def execTxsPop (s : State) : Host.Outcome State Fault Refusal := s.run (doTxsPop)

end Sys2Proof.Machine
end

