-- ==== Sys2Proof/Machine/LineFrontEnd.lean ====
section
/-!
DEFINITION. Sys2Proof/Machine/LineFrontEnd.lean: the line front ends and the choice of the active port
(05_line_front_end.md R103 to R122).
-/
namespace Sys2Proof.Machine

/-- The interrupt bits of a line port in LFE_IRQ. -/
def lfeIrq : Port → Fld
  | .a => R.LFE_IRQ_PORT_A
  | .b => R.LFE_IRQ_PORT_B

/-- Cause k of a port: its LFE_IRQ bit and LFE_EVENT k + 1 (R122). -/
def Dev.lfeRaise (s : Dev) (p : Port) (k : Nat) : Dev :=
  (s.raiseAt (lfeIrq p) k).event 0x0480 (le 1 p.ix ++ le 1 (k + 1) ++ le 2 (s.get (R.LFE_x_RX_POWER_DBM p.ix)))

/-- A LOL assertion; a loss of lock on a powered port without a full calibration counts and is reported (R107). -/
def Dev.setLol (s : Dev) (p : Port) : Dev :=
  if s.is (R.LFE_x_STATUS_LOL p.ix) then s
  else
    let t := s.set (R.LFE_x_STATUS_LOL p.ix) 1
    if s.powered p && !s.is (R.LFE_x_STATUS_CAL_BUSY p.ix) then (t.count (R.LFE_x_COUNTS_LOL p.ix) 1).lfeRaise p 2 else t

/-- LOS_ON: power below LEVEL for 100 µs (R106); the port is then also in LOL (R107). -/
def doLosOn (p : Port) (power : BitVec 16) (s : Dev) : Dev :=
  if s.is (R.LFE_x_STATUS_LOS p.ix) ∨ signed 16 power.toNat ≥ signed 16 (s.get (R.LFE_x_LOS_CFG_LEVEL p.ix)) then s
  else
    let s1 := (s.set (R.LFE_x_RX_POWER_DBM p.ix) power.toNat).set (R.LFE_x_STATUS_LOS p.ix) 1
    (((s1.count (R.LFE_x_COUNTS_LOS p.ix) 1).lfeRaise p 0).setLol p).markFault p

/-- Codes and taps that an initial or full calibration found, at the present received power; FREEZE holds the present ones and ADAPTED
(R105, R109). -/
def Dev.setEq (s : Dev) (p : Port) (eq : BitVec 6) (taps : BitVec 30) : Dev :=
  if s.is (R.LFE_x_CTL_FREEZE p.ix) then s
  else
    (((s.set ⟨(R.LFE_x_EQ_CTLE p.ix).reg, 0, 6⟩ eq.toNat).set (R.LFE_x_DFE_TAPS p.ix) taps.toNat).set (R.LFE_x_STATUS_ADAPTED p.ix)
      0).setLfeP p { s.lfeP p with adapt := .new, calPower := signed 16 (s.get (R.LFE_x_RX_POWER_DBM p.ix)) }

/-- LOS_OFF: power above LEVEL + HYST for 1 ms (R106); a powered port then finds its gain, CTLE and DFE anew (Table 5-3). -/
def doLosOff (p : Port) (rx : RxStart) (s : Dev) : Dev :=
  if !s.is (R.LFE_x_STATUS_LOS p.ix) ∨
      signed 16 rx.power.toNat ≤ signed 16 (s.get (R.LFE_x_LOS_CFG_LEVEL p.ix)) + s.get (R.LFE_x_LOS_CFG_HYST p.ix) then s
  else
    let t := ((s.set (R.LFE_x_RX_POWER_DBM p.ix) rx.power.toNat).set (R.LFE_x_STATUS_LOS p.ix) 0).lfeRaise p 1
    (if t.powered p && t.is (R.LFE_x_STATUS_READY p.ix) then t.setEq p rx.eq rx.taps else t).markFault p

/-- LOL: the CDR of a powered port loses lock (R107). -/
def doLol (p : Port) (s : Dev) : Dev :=
  if s.powered p && s.get (R.LFE_x_STATUS_ROLE p.ix) != 0 && !s.is (R.LFE_x_STATUS_CAL_BUSY p.ix) then (s.setLol p).markFault p else s

/-- LOL_CLEAR: the CDR has held lock for 100 µs (R107). -/
def doLolClear (p : Port) (s : Dev) : Dev :=
  if s.powered p && s.is (R.LFE_x_STATUS_READY p.ix) && !s.is (R.LFE_x_STATUS_LOS p.ix) && !s.is (R.LFE_x_STATUS_CAL_BUSY p.ix) then
    (s.set (R.LFE_x_STATUS_LOL p.ix) 0).markFault p
  else s

/-- OVERLOAD_ON: power above −5.0 dBm for 100 µs (R108). -/
def doOverloadOn (p : Port) (power : BitVec 16) (s : Dev) : Dev :=
  if s.is (R.LFE_x_STATUS_OVERLOAD p.ix) ∨ signed 16 power.toNat ≤ -50 then s
  else ((s.set (R.LFE_x_RX_POWER_DBM p.ix) power.toNat).set (R.LFE_x_STATUS_OVERLOAD p.ix) 1).lfeRaise p 3

/-- OVERLOAD_OFF: power below −6.0 dBm for 1 ms (R108). -/
def doOverloadOff (p : Port) (power : BitVec 16) (s : Dev) : Dev :=
  if signed 16 power.toNat ≥ -60 then s
  else (s.set (R.LFE_x_RX_POWER_DBM p.ix) power.toNat).set (R.LFE_x_STATUS_OVERLOAD p.ix) 0

/-- PORT_READY: power-up calibration completes (R109). -/
def doPortReady (p : Port) (eq : BitVec 6) (taps : BitVec 30) (s : Dev) : Dev :=
  if s.powered p && s.get (R.LFE_x_STATUS_ROLE p.ix) != 0 && !s.is (R.LFE_x_STATUS_READY p.ix) then
    ((s.set (R.LFE_x_STATUS_READY p.ix) 1).setEq p eq taps).markFault p
  else s

/-- OFFSET_CAL: a slicer is swapped with the spare and recalibrated; reception and every register stay as they are (R109). -/
def doOffsetCal (_p : Port) (s : Dev) : Dev := s

/-- CAL_START: a full calibration starts on a WARM port, or the write is refused (R109). -/
def doCalStart (p : Port) (s0 : Dev) : Dev :=
  s0.hostDo (R.LFE_x_CTL p.ix) (s0.rd (R.LFE_x_CTL p.ix) ||| BitVec.ofNat 32 (2 ^ (R.LFE_x_CTL_CAL_START p.ix).lo)) fun s =>
  if s.get (R.LFE_x_STATUS_ROLE p.ix) = 1 then
    ((s.set (R.LFE_x_STATUS_CAL_BUSY p.ix) 1).set (R.LFE_x_STATUS_LOL p.ix) 1).markFault p
  else s.raise R.LFE_IRQ_SEL_REFUSED

/-- FULL_CAL_DONE (R109); LOL clears later, by lock (R107). -/
def doFullCalDone (p : Port) (eq : BitVec 6) (taps : BitVec 30) (s : Dev) : Dev :=
  if s.is (R.LFE_x_STATUS_CAL_BUSY p.ix) then (s.set (R.LFE_x_STATUS_CAL_BUSY p.ix) 0).setEq p eq taps else s

/-- TEC_LOCK_CHANGE: the laser enters or leaves ±0.5 °C of its set point (R112, R113). -/
def doTecLockChange (p : Port) (lock : Bool) (temp : BitVec 16) (s : Dev) : Dev :=
  let s1 := (s.set (R.LFE_x_TEC_TEMP p.ix) temp.toNat).setB (R.LFE_x_STATUS_TEC_LOCK p.ix) lock
  (if lock then s1.set (R.LFE_x_STATUS_TEC_FAULT p.ix) 0 else s1).markTec p

/-- TEC_FAULT: TEC_LOCK has stayed 0 for 15 s while the TEC ran (R113). -/
def doTecFault (p : Port) (s : Dev) : Dev :=
  match (s.lfeP p).tecOpenSince with
  | some t =>
    if s.tecOpen p && !s.is (R.LFE_x_STATUS_TEC_FAULT p.ix) then
      ((s.until_ (t + 15 * secTicks)).set (R.LFE_x_STATUS_TEC_FAULT p.ix) 1).lfeRaise p 4
    else s
  | none => s

/-- A transmission in progress on a port ends at once, cut short; its packet is not reported as sent (R115, R194). -/
def Dev.cutTx (s : Dev) (p : Port) : Dev :=
  if s.transmits p then
    let t : Dev := { s with bel := { s.bel with tx := if (s.bel.tx.map (·.1)) = some p then none else s.bel.tx } }
    (t.setLfeP p { t.lfeP p with sending := false, burstEnd := t.ticks }).emit (.txCut p.ix)
  else s

/-- The rogue switch opens: what is being sent is cut, ROGUE latches and counts (R115). -/
def Dev.latchRogue (s : Dev) (p : Port) : Dev :=
  (((s.cutTx p).set (R.LFE_x_STATUS_ROGUE p.ix) 1).count (R.LFE_x_TX_COUNTS_ROGUE p.ix) 1).lfeRaise p 5

/-- ROGUE_DETECT: light above −30 dBm outside a burst for over 1 µs (R115). -/
def doRogueDetect (p : Port) (s : Dev) : Dev :=
  if s.is (R.LFE_x_STATUS_ROGUE p.ix) then s else if s.transmits p then (s.latchRogue p).settle else s.latchRogue p

/-- ROGUE_CLR: the switch closes; light says that the condition still holds, and ROGUE then latches again at once (R115). -/
def doRogueClr (p : Port) (light : Bool) (s0 : Dev) : Dev :=
  s0.hostDo (R.LFE_x_CTL p.ix) (s0.rd (R.LFE_x_CTL p.ix) ||| BitVec.ofNat 32 (2 ^ (R.LFE_x_CTL_ROGUE_CLR p.ix).lo)) fun s =>
  let s1 := s.set (R.LFE_x_STATUS_ROGUE p.ix) 0
  if light then s1.latchRogue p else s1

/-- A port switch is possible: both ports enabled, a mode with traffic, a line port as source (R116). -/
def Dev.switchable (s : Dev) : Bool :=
  s.portEnabled .a && s.portEnabled .b && s.sup.mode.traffic && s.sourcePort.isSome

/-- A switch starts: step 1 of R119. -/
def Dev.startSwitch (s : Dev) (p : Port) (auto : Bool) : Dev :=
  { s with lfe := { s.lfe with switching := some (p, auto) } }.set R.LFE_STATUS_SWITCHING 1

/-- PORT_SELECT: a host write naming a port (R117). -/
def doPortSelect (p : Port) (s : Dev) : Dev :=
  if s.sourcePort = some p then s
  else if !s.switchable ∨ s.lfe.switching.isSome ∨ !s.is (R.LFE_x_STATUS_READY p.ix) then s.raise R.LFE_IRQ_SEL_REFUSED
  else s.startSwitch p false

/-- AUTO_SWITCH: the holdoff expires with the active port faulty and the warm port clear (R118). -/
def doAutoSwitch (s : Dev) : Dev :=
  match s.activePort with
  | none => s
  | some p =>
    match (s.lfeP p).faultySince, (s.lfeP p.other).clearSince with
    | some t1, some t2 =>
      if s.get R.LFE_SEL_POLICY = 1 ∧ s.switchable ∧ s.lfe.switching.isNone ∧ !s.is R.LFE_STATUS_HOLD then
        (s.until_ (max t1 t2 + s.get R.LFE_SEL_HOLDOFF * msTicks)).startSwitch p.other true
      else s
    | _, _ => s

/-- Activation at SYNC_LOST, PORT_SWITCH, BIVOUAC entry or a pitch 13 reload that keeps the record (A10, A15, A16). A15 does
not name BIVOUAC entry and the reload (bySource false). -/
def Dev.actLost (s : Dev) (bySource : Bool) : Dev :=
  match s.act.st with
  | .registered => (s.dropPend.setAct .lost)
  | .resuming => if bySource then s.setAct .lost else s
  | .listen | .serial | .ranging => s.clearRecord.setAct .idle
  | _ => s

/-- Upstream frames evaluated and not sent are dropped; their grants count as not used (R119, R145). -/
def Dev.dropUpstream (s : Dev) : Dev :=
  let n := (s.lfr.up.map fun u => u.grants.length).sum
  ({ s with lfr := { s.lfr with up := [], prevEnd := none } }).count R.LFR_US_COUNTS_UNUSED n

/-- Step 2 of R119: the roles change in one step, and what was received through the old port is discarded. -/
def Dev.swapPorts (s : Dev) (p : Port) : Dev :=
  let s1 : Dev := { s with bel := { s.bel with win := none } }
  ((((s1.set (R.LFE_x_STATUS_ROLE p.other.ix) 1).set (R.LFE_x_STATUS_ROLE p.ix) 2).set R.LFE_STATUS_SOURCE p.ix).dropUpstream).discardLine

/-- Step 3 of R119: activation and the mode controller take PORT_SWITCH, and a new source that is already aligned raises ALIGNED at
once (R80, R149). -/
def Dev.portSwitched (s : Dev) : Dev :=
  let t := (s.actLost true).trigger .portSwitch
  let u := if t.aligned then t.trigger .aligned else t
  { u with lfe := { u.lfe with switching := none } }.set R.LFE_STATUS_SWITCHING 0

/-- Step 4 of R119: the switch is reported and counted, and HOLD set. -/
def Dev.switchDone (s : Dev) (p : Port) (auto : Bool) : Dev :=
  let t : Dev := { s with lfe := { s.lfe with holdUntil := s.ticks + max (s.get R.LFE_SEL_HOLDOFF) 100 * msTicks } }
  let u := (t.set R.LFE_STATUS_HOLD 1).count (if auto then R.LFE_SWITCHES_AUTO else R.LFE_SWITCHES_HOST) 1
  (u.raise R.LFE_IRQ_SWITCHED).event 0x0480 (le 1 p.ix ++ le 1 8 ++ le 2 (u.get (R.LFE_x_RX_POWER_DBM p.ix)))

/-- SWITCH_COMPLETE: a burst in progress has ended, and steps 2 to 4 of R119 follow; a belay transmission in progress ends first. -/
def doSwitchComplete (s : Dev) : Dev :=
  match s.lfe.switching with
  | none => s
  | some (p, auto) =>
    if (s.lfeP p.other).sending then s
    else ((((s.until_ (s.lfeP p.other).burstEnd).swapPorts p).portSwitched).switchDone p auto).settle

/-- HOLD_EXPIRY (R119). -/
def doHoldExpiry (s : Dev) : Dev :=
  if s.is R.LFE_STATUS_HOLD then (s.until_ s.lfe.holdUntil).set R.LFE_STATUS_HOLD 0 else s

/-- Tap k (0 to 4) of a port. -/
def Dev.tap (s : Dev) (p : Port) (k : Nat) : Int := signed 6 (s.get ⟨(R.LFE_x_DFE_TAPS p.ix).reg, 6 * k, 6⟩)

/-- ADAPTATION_UPDATE: one update of the CTLE code and the five taps by signed steps, and ADAPTED over the last 10,000 updates (R105). -/
def doAdaptationUpdate (p : Port) (ctle : Int) (steps : List Int) (s : Dev) : Dev :=
  let i := p.ix
  if s.get (R.LFE_x_STATUS_ROLE i) = 0 ∨ !s.powered p ∨ s.is (R.LFE_x_STATUS_LOL i) ∨ s.is (R.LFE_x_CTL_FREEZE i) then s
  else
    let s0 := s.set (R.LFE_x_EQ_CTLE i) (max 0 (min (2 ^ (R.LFE_x_EQ_CTLE i).w - 1) ((s.get (R.LFE_x_EQ_CTLE i) : Int) + ctle))).toNat
    let s1 := forEach (List.range 5) s0 fun k t =>
      t.set ⟨(R.LFE_x_DFE_TAPS i).reg, 6 * k, 6⟩ (unsigned 6 (max (-32) (min 31 (t.tap p k + steps.getD k 0))))
    let x := (s1.lfeP p).adapt.step ((List.range 5).map fun k => s1.tap p k - s.tap p k)
    (s1.setLfeP p { s1.lfeP p with adapt := x }).setB (R.LFE_x_STATUS_ADAPTED i) (x.holds 5 (s.is (R.LFE_x_STATUS_ADAPTED i)))

/-- The PRBS31 pattern that the driver sends into the loop and the checker expects, its first k bits (R120). -/
def prbs31 (k : Nat) : Nat := prbs 31 28 k

/-- LINE_PRBS_LOCK_CHANGE: the PRBS31 checker in TEST, and the errors it counted (R120). DESIGN CHOICE: errors count without lock too,
and PRBS_LOCK keeps its value once PRBS_CHK is cleared. -/
def doLinePrbsLockChange (p : Port) (lock : Bool) (errors : Nat) (s : Dev) : Dev :=
  if s.sup.mode = .test ∧ s.is (R.LFE_x_TEST_PRBS_CHK p.ix) then
    (s.setB (R.LFE_x_STATUS_PRBS_LOCK p.ix) lock).countR (R.LFE_x_PRBS_ERR p.ix) errors
  else s

-- The commands of this file.

/-- LOS_ON (R106). -/
def execLosOn (p : Port) (power : BitVec 16) (s : State) : Host.Outcome State Fault Refusal := s.run (doLosOn p power)

/-- LOS_OFF (R106). -/
def execLosOff (p : Port) (rx : RxStart) (s : State) : Host.Outcome State Fault Refusal := s.run (doLosOff p rx)

/-- LOL (R107). -/
def execLol (p : Port) (s : State) : Host.Outcome State Fault Refusal := s.run (doLol p)

/-- LOL_CLEAR (R107). -/
def execLolClear (p : Port) (s : State) : Host.Outcome State Fault Refusal := s.run (doLolClear p)

/-- OVERLOAD_ON (R108). -/
def execOverloadOn (p : Port) (power : BitVec 16) (s : State) : Host.Outcome State Fault Refusal := s.run (doOverloadOn p power)

/-- OVERLOAD_OFF (R108). -/
def execOverloadOff (p : Port) (power : BitVec 16) (s : State) : Host.Outcome State Fault Refusal := s.run (doOverloadOff p power)

/-- PORT_READY (R109). -/
def execPortReady (p : Port) (eq : BitVec 6) (taps : BitVec 30) (s : State) : Host.Outcome State Fault Refusal := s.run (doPortReady p eq taps)

/-- OFFSET_CAL (R109). -/
def execOffsetCal (p : Port) (s : State) : Host.Outcome State Fault Refusal := s.run (doOffsetCal p)

/-- CAL_START (R109). -/
def execCalStart (p : Port) (s : State) : Host.Outcome State Fault Refusal := s.run (doCalStart p)

/-- FULL_CAL_DONE (R109). -/
def execFullCalDone (p : Port) (eq : BitVec 6) (taps : BitVec 30) (s : State) : Host.Outcome State Fault Refusal := s.run (doFullCalDone p eq taps)

/-- TEC_LOCK_CHANGE (R112). -/
def execTecLockChange (p : Port) (lock : Bool) (temp : BitVec 16) (s : State) : Host.Outcome State Fault Refusal := s.run (doTecLockChange p lock temp)

/-- TEC_FAULT (R113). -/
def execTecFault (p : Port) (s : State) : Host.Outcome State Fault Refusal := s.run (doTecFault p)

/-- ROGUE_DETECT (R115). -/
def execRogueDetect (p : Port) (s : State) : Host.Outcome State Fault Refusal := s.run (doRogueDetect p)

/-- ROGUE_CLR (R115). -/
def execRogueClr (p : Port) (light : Bool) (s : State) : Host.Outcome State Fault Refusal := s.run (doRogueClr p light)

/-- PORT_SELECT (R117). -/
def execPortSelect (p : Port) (s : State) : Host.Outcome State Fault Refusal := s.run (doPortSelect p)

/-- AUTO_SWITCH (R118). -/
def execAutoSwitch (s : State) : Host.Outcome State Fault Refusal := s.run (doAutoSwitch)

/-- SWITCH_COMPLETE (R119). -/
def execSwitchComplete (s : State) : Host.Outcome State Fault Refusal := s.run (doSwitchComplete)

/-- HOLD_EXPIRY (R119). -/
def execHoldExpiry (s : State) : Host.Outcome State Fault Refusal := s.run (doHoldExpiry)

/-- ADAPTATION_UPDATE (R105). -/
def execAdaptationUpdate (p : Port) (ctle : Int) (steps : List Int) (s : State) : Host.Outcome State Fault Refusal := s.run (doAdaptationUpdate p ctle steps)

/-- LINE_PRBS_LOCK_CHANGE (R120). -/
def execLinePrbsLockChange (p : Port) (lock : Bool) (errors : Nat) (s : State) : Host.Outcome State Fault Refusal := s.run (doLinePrbsLockChange p lock errors)

end Sys2Proof.Machine
end

