-- ==== Sys2Proof/Machine/Ingress.lean ====
section
/-!
DEFINITION. Sys2Proof/Machine/Ingress.lean: frames on their way to a parse unit (10_parse_and_thicket.md R212, R214, R236;
02_kregar_image_and_pitches.md Table 2-8; 22_power_domains.md R480).
-/
namespace Sys2Proof.Machine

/-- Class codes of Table 10-1. -/
def clsLine : Nat := 0
def clsEth : Nat := 1
def clsRope : Nat := 2
def clsTrib : Nat := 3
def clsHost : Nat := 4
def clsRecirc : Nat := 5

/-- A frame on its first pass, received at rx. -/
def Frame.first_ (cls port : Nat) (bytes : List Byte) (rx : Tod) : Frame :=
  { bytes := bytes, cls := cls, port := port, first := cls, flow := 0, enc := false, second := false, srcNode := 0x3FF, rx := rx,
    version := none, since := 0, aged := false }

/-- The parse units stop admitting frames (Table 2-8). -/
def Dev.parseHeld (s : Dev) : Bool := s.draining 9 || s.draining 10 || s.draining 11

/-- The parse units run (R236). -/
def Dev.parseRuns (s : Dev) : Bool := s.sup.mode.traffic || s.sup.mode == .test

/-- In TEST the transmitter of a lane feeds its own receiver: a near-end loop, serial or parallel (R404). -/
def Dev.nearLoop (s : Dev) (i : Nat) : Bool := s.get (R.LAN_x_TEST_LOOP i) == 1 || s.get (R.LAN_x_TEST_LOOP i) == 2

/-- A frame came in over a loop of TEST, in which no line framer runs (R149, R210, R404). -/
def Dev.overLoop (s : Dev) (f : Frame) : Bool :=
  match f.first with
  | 1 => s.nearLoop f.port
  | 2 => s.nearLoop (8 + f.port)
  | 3 => s.get (R.TRB_n_CFG_LOOP f.port) == 1
  | _ => false

/-- A frame waits at a parse unit, in TEST only one that came over a loop (R236): not with ingress closed (R480) or without an image (R236); during a drain as far as
IMG_HOLD_CELLS lasts (Table 2-8). -/
def Dev.ingress (s : Dev) (user : Bool) (f : Frame) : Dev :=
  if s.pwr.closed then s.countR R.PWR_ENTRY_DROPS 1
  else if !s.parseRuns || (s.sup.mode == .test && !s.overLoop f) then s
  else if !f.second && s.parseHeld && decide (s.heldCells + cellsFor f.bytes.length > s.get R.IMG_HOLD_CELLS_CELLS) then s.countR R.IMG_DRAIN_DROPS 1
  else if user then { s with prs := { s.prs with user := s.prs.user ++ [f] } }
  else { s with prs := { s.prs with line := s.prs.line ++ [f] } }

end Sys2Proof.Machine
end

