-- ==== Sys2Proof/Machine/Tributary.lean ====
section
/-!
DEFINITION. Sys2Proof/Machine/Tributary.lean: the E1 tributaries (09_e1_tributaries.md R197 to R211).
-/
namespace Sys2Proof.Machine

/-- A tributary that nothing has happened to. -/
def TrbPort.empty : TrbPort :=
  { stream := [], aligned := false, fas := true, badFas := 0, aOnes := 0, aZeros := 0, hist := [], mf := none, mfSig := [], badMf := 0,
    crc := 0, crcPrev := none, cBits := [], crcHist := [], eOut := [], zeros := 0, blocks := 0, few := 0, enough := 0, store := [],
    lastRead := List.replicate 32 255, running := false, xstore := [], xlast := List.replicate 32 255, xrunning := false, down := [],
    last := List.replicate 32 255, outIx := 0, txCrc := 0, txPrev := 0, winSmf := 0, winErr := 0, dsRun := 0 }

/-- What no register shows of tributary n. -/
def Dev.trbP (s : Dev) (n : Nat) : TrbPort := sget .empty n s.trb.ports
def Dev.setTrbP (s : Dev) (n : Nat) (x : TrbPort) : Dev := { s with trb := { s.trb with ports := sset .empty n x s.trb.ports } }
def Dev.modTrbP (s : Dev) (n : Nat) (f : TrbPort → TrbPort) : Dev := s.setTrbP n (f (s.trbP n))

/-- 256 ones (R204). -/
def aisFrame : List Byte := List.replicate 32 255

/-- Framing modes (R198). -/
def Dev.framed (s : Dev) (n : Nat) : Bool := s.get (R.TRB_n_CFG_FRAMING n) != 0
def Dev.crc4 (s : Dev) (n : Nat) : Bool := s.get (R.TRB_n_CFG_FRAMING n) == 2

/-- Bits of TRB_n_STATUS and TRB_n_EVENTS: LOS, AIS_RX, LOF, LOMF, RAI_RX, DS. -/
def trbStatus (n k : Nat) : Fld := (R.TRB_n_STATUS_LOS n).at k

/-- Event bit k of a tributary: TRB_n_EVENTS, vector 8 and TRB_EVENT (R211). -/
def Dev.trbEvent (s : Dev) (n k : Nat) (set : Bool) : Dev :=
  (s.raiseAt (R.TRB_n_EVENTS_CHANGE n) k).event 0x0880 (le 1 n ++ le 1 (k + 1) ++ le 1 (b2n set))

/-- Defect k of tributary n set or cleared; a change is an event. -/
def Dev.trbDefect (s : Dev) (n k : Nat) (v : Bool) : Dev :=
  if s.is (trbStatus n k) = v then s else (s.setB (trbStatus n k) v).trbEvent n k v

/-- The input has LOS, AIS_RX or LOF. -/
def Dev.trbBad (s : Dev) (n : Nat) : Bool := s.is (trbStatus n 0) || s.is (trbStatus n 1) || s.is (trbStatus n 2)

/-- The window in progress is discarded (R209). -/
def TrbPort.dropWindow (x : TrbPort) : TrbPort := { x with winSmf := 0, winErr := 0 }

/-- Multiframe alignment not held, and nothing known of submultiframes. -/
def TrbPort.mfHunt (x : TrbPort) : TrbPort :=
  { x with hist := [], mf := none, mfSig := [], badMf := 0, crc := 0, crcPrev := none, cBits := [], crcHist := [] }

/-- Frame alignment is lost: LOF sets, LOMF and RAI_RX are held at 0, and the search starts again (R199, R200). -/
def Dev.trbLof (s : Dev) (n : Nat) : Dev :=
  let s1 := s.modTrbP n fun x =>
    { x.mfHunt.dropWindow with aligned := false, badFas := 0, aOnes := 0, aZeros := 0, store := [], running := false }
  ((s1.trbDefect n 2 true).trbDefect n 3 false).trbDefect n 4 false

/-- One bit through the CRC-4 register, x^4 + x + 1. -/
def crc4Bit (r : Nat) (b : Bool) : Nat :=
  let fb := bit r 3 != b
  (2 * r % 16) ^^^ (if fb then 3 else 0)

/-- The CRC-4 register after a frame, its C bit counted as 0 in frames that carry FAS. -/
def crc4Frame (r : Nat) (fas : Bool) (fr : List Byte) : Nat :=
  let b := bitsOf fr
  (if fas then false :: b.drop 1 else b).foldl crc4Bit r

/-- DS window end: 1,000 submultiframes (R209). -/
def Dev.dsWindow (s : Dev) (n : Nat) : Dev :=
  let x := s.trbP n
  let th := s.get R.TRB_DS_CFG_TH
  let s1 := (s.set (R.TRB_n_WIN_COUNT n) x.winErr).modTrbP n fun y => y.dropWindow
  if x.winErr > th then (s1.modTrbP n fun y => { y with dsRun := 0 }).trbDefect n 5 true
  else if x.winErr ≤ th / 2 then
    let s2 := s1.modTrbP n fun y => { y with dsRun := y.dsRun + 1 }
    if x.dsRun + 1 ≥ 3 then s2.trbDefect n 5 false else s2
  else s1.modTrbP n fun y => { y with dsRun := 0 }

/-- A submultiframe ends: its C bits are compared with the CRC-4 of the one before (R199, R209). -/
def Dev.smfEnd (s : Dev) (n : Nat) : Dev :=
  let x := s.trbP n
  let c := ofBits x.cBits.reverse
  let s1 := s.modTrbP n fun y => { y with crcPrev := some y.crc, crc := 0, cBits := [] }
  match x.crcPrev with
  | none => s1
  | some r =>
    let err := c != r
    let s2 := if err then s1.count (R.TRB_n_CRC_ERRORED n) 1 else s1
    let s3 := if x.winSmf ≥ 1000 then s2.dsWindow n else s2
    let s4 := s3.modTrbP n fun y => { y with
      crcHist := (err :: y.crcHist).take 1000, eOut := y.eOut ++ [!err], winSmf := y.winSmf + 1, winErr := y.winErr + b2n err }
    if ((s4.trbP n).crcHist.filter id).length ≥ 915 then (s4.trbDefect n 3 true).trbLof n else s4

/-- A multiframe ends: its alignment signal is judged (R199). -/
def Dev.mfEnd (s : Dev) (n : Nat) : Dev :=
  let x := s.trbP n
  let ok := (x.mfSig.reverse.take 6) == [false, false, true, false, true, true]
  let bad := if ok then 0 else x.badMf + 1
  if bad ≥ 3 then (s.modTrbP n fun y => y.mfHunt.dropWindow).trbDefect n 3 true
  else s.modTrbP n fun y => { y with badMf := bad, mfSig := [] }

/-- The alignment signal stands in both of the last two multiframes, first bits newest first (R199). -/
def mfFound (hist : List Bool) : Bool :=
  let h := hist.reverse
  let sig (o : Nat) : List Bool := [1, 3, 5, 7, 9, 11].map fun i => (h[o + i]?).getD false
  h.length == 32 && sig 0 == [false, false, true, false, true, true] && sig 16 == [false, false, true, false, true, true]

/-- An aligned frame in CRC4 mode: multiframe search, or C bits, E-bits and submultiframes (R199, R209). -/
def Dev.trbCrc4 (s : Dev) (n : Nat) (fas : Bool) (fr : List Byte) : Dev :=
  let first := (fr.headD 0).getLsbD 7
  let x := s.trbP n
  match x.mf with
  | none =>
    let h := (first :: x.hist).take 32
    if !fas && mfFound h then (s.modTrbP n fun y => { y.mfHunt with mf := some 0 }).trbDefect n 3 false
    else s.modTrbP n fun y => { y with hist := h }
  | some i =>
    let s1 := s.modTrbP n fun y => { y with
      mf := some ((i + 1) % 16), crc := crc4Frame y.crc fas fr,
      cBits := if fas then first :: y.cBits else y.cBits, mfSig := if fas then y.mfSig else first :: y.mfSig }
    let s2 := if (i = 13 ∨ i = 15) ∧ !first then s1.count (R.TRB_n_CRC_EBIT n) 1 else s1
    let s3 := if i = 7 ∨ i = 15 then s2.smfEnd n else s2
    if i = 15 ∧ (s3.trbP n).mf.isSome then s3.mfEnd n else s3

/-- The A bit of an NFAS frame (Table 9-1 RAI_RX). -/
def Dev.trbA (s : Dev) (n : Nat) (fr : List Byte) : Dev :=
  let a := (fr.headD 0).getLsbD 5
  let s1 := s.modTrbP n fun x => { x with aOnes := if a then x.aOnes + 1 else 0, aZeros := if a then 0 else x.aZeros + 1 }
  let x := s1.trbP n
  if x.aOnes ≥ 3 then s1.trbDefect n 4 true else if x.aZeros ≥ 3 then s1.trbDefect n 4 false else s1

/-- A frame written into a 2-frame store: a full store deletes its oldest frame, a slip (R201, R206). -/
def storePush (l : List (List Byte)) (fr : List Byte) : List (List Byte) × Bool :=
  if l.length ≥ 2 then (l.drop 1 ++ [fr], true) else (l ++ [fr], false)

/-- The domain of the tributaries is up and a tributary is under test with its own output looped back (R210). -/
def Dev.trbLocal (s : Dev) (n : Nat) : Bool := s.sup.mode == .test && s.get (R.TRB_n_CFG_LOOP n) == 1
def Dev.trbRemote (s : Dev) (n : Nat) : Bool := s.sup.mode == .test && s.get (R.TRB_n_CFG_LOOP n) == 2

/-- Domain TRB has stopped for BIVOUAC (Table 9-2). -/
def Dev.trbStopped (s : Dev) : Bool := s.pwr.coord != .run && (s.dom domTrb == .retain || s.dom domTrb == .off || s.dom domTrb == .stopping || s.dom domTrb == .waking)

/-- The priority of Table 9-2 that holds. From a SOFT reset on until pitch 13 is applied every output sends AIS, whatever TRB_ENABLE
holds (R92; DEDUCED: row 2, which stands before row 3, speaks of a tributary that pitch 13 has given its setting). -/
def Dev.trbPriority (s : Dev) (n : Nat) : Nat :=
  let hold := s.is R.TRB_STATE_HOLD
  if !s.trb.applied || (s.standby && !hold) || s.trbStopped then 1
  else if (s.decl 13).isNone then 3
  else if !bit (s.get R.TRB_ENABLE_EN) n then 2
  else if s.draining 13 || s.sup.mode == .config || s.pwr.coord == .entering then 3
  else if hold then 4
  else if s.trbLocal n || s.trbRemote n then 5
  else if s.sup.mode == .island then 6
  else 7

/-- The tributary whose frames the output of TRBm sends from its further store: its source in the cross-connect, itself in a remote
loop (R206, R210). -/
def Dev.trbSource (s : Dev) (m : Nat) : Option Nat :=
  match s.trbPriority m with
  | 6 => let x := s.get (R.TRB_n_CFG_XSRC m); if x ≥ 16 ∨ s.trbBad x then none else some x
  | 5 => if s.trbRemote m then some m else none
  | _ => none

/-- A frame received on TRBn goes to the upstream store, to the packet path where pitch 13 sends it there, and in ISLAND and
in a remote loop to the outputs that name it (R201, R206, R210, R212). -/
def Dev.trbTake (s : Dev) (n : Nat) (fr : List Byte) : Dev :=
  let r := storePush (s.trbP n).store fr
  let s1 := s.modTrbP n fun x => { x with store := r.1, running := true }
  let s2 := if r.2 then s1.count (R.TRB_n_SLIPS_RX n) 1 else s1
  let s3 := match s2.decl 13 with
    | some d => if bit d.packetTribs n && !s2.trbBad n then s2.ingress true (Frame.first_ clsTrib n fr s2.now) else s2
    | none => s2
  forEach (List.range 16) s3 fun m t =>
    if t.trbSource m ≠ some n then t
    else
      let q := storePush (t.trbP m).xstore fr
      let u := t.modTrbP m fun x => { x with xstore := q.1, xrunning := true }
      if q.2 && t.sup.mode == .island then u.count (R.TRB_n_SLIPS_TX m) 1 else u

/-- One aligned frame (R199, R200). -/
def Dev.trbFrame (s : Dev) (n : Nat) (fr : List Byte) : Dev :=
  let x := s.trbP n
  let fas := x.fas
  let ok := (fr.headD 0).toNat % 128 == 0x1B
  let bad := if fas then (if ok then 0 else x.badFas + 1) else x.badFas
  let s1 := s.modTrbP n fun y => { y with fas := !fas, badFas := bad }
  if bad ≥ 3 then s1.trbLof n
  else
    let s2 := if fas then s1 else s1.trbA n fr
    let s3 := if s2.crc4 n then s2.trbCrc4 n fas fr else s2
    if (s3.trbP n).aligned then s3.trbTake n fr else s3

/-- The bits at a place spell FAS in bits 2 to 8 of an octet. -/
def fasAt (l : List Bool) : Bool := (l.drop 1).take 7 == [false, false, true, true, false, true, true]

/-- The search for frame alignment at the head of the stream: FAS, then bit 2 set, then FAS (R199). -/
def alignHere (l : List Bool) : Bool := fasAt l && (l[257]?).getD false && fasAt (l.drop 512)

/-- One action on the received stream: a bit skipped in the search, alignment gained, or an aligned frame taken. -/
def Dev.trbScan (n : Nat) (s : Dev) : Option Dev :=
  let x := s.trbP n
  if x.aligned then
    if x.stream.length < 256 then none
    else some ((s.setTrbP n { x with stream := x.stream.drop 256 }).trbFrame n (bytesOf x.stream 32))
  else if x.stream.length < 520 then none
  else if alignHere x.stream then
    some ((s.setTrbP n { x with aligned := true, fas := true, badFas := 0, stream := x.stream.drop 512 }).trbDefect n 2 false)
  else some (s.setTrbP n { x with stream := x.stream.drop 1 })

/-- AIS_RX over spans of 512 bits (Table 9-1). -/
def Dev.trbAis (s : Dev) (n : Nat) (zeros : Nat) : Dev :=
  let x := s.trbP n
  if x.blocks = 0 then s.setTrbP n { x with zeros := zeros, blocks := 1 }
  else
    let few := decide (x.zeros + zeros < 3)
    let y := { x with zeros := 0, blocks := 0, few := if few then x.few + 1 else 0, enough := if few then 0 else x.enough + 1 }
    let s1 := s.setTrbP n y
    if y.few ≥ 2 then s1.trbDefect n 1 true else if y.enough ≥ 2 then s1.trbDefect n 1 false else s1

/-- 256 received bits of a tributary. -/
def Dev.trbInput (s : Dev) (n : Nat) (b : List Bool) : Dev :=
  let s1 := s.trbAis n ((b.filter (!·)).length)
  if s1.framed n then
    iter (Dev.trbScan n) 1100 (s1.modTrbP n fun x => { x with stream := x.stream ++ b })
  else
    let s2 := ((s1.set (trbStatus n 2) 0).set (trbStatus n 3) 0).set (trbStatus n 4) 0
    (s2.modTrbP n fun x => { x.mfHunt.dropWindow with stream := [], aligned := false }).trbTake n (bytesOf b 32)

/-- TRB_n_CFG was written in a block that was s. FRAMING changes: alignment is sought anew, and what the new mode does not evaluate reads 0 (R198 to R200; in BASIC mode there is
no CRC-4 multiframe, DEDUCED). A change of XSRC empties the further store. -/
def Dev.trbCfgWritten (t s : Dev) (n : Nat) : Dev :=
  let u := if t.get (R.TRB_n_CFG_XSRC n) = s.get (R.TRB_n_CFG_XSRC n) then t else t.modTrbP n fun x => { x with xstore := [], xrunning := false }
  if u.get (R.TRB_n_CFG_FRAMING n) = s.get (R.TRB_n_CFG_FRAMING n) then u
  else
    let w := u.modTrbP n fun x => { x.mfHunt.dropWindow with stream := [], aligned := x.aligned && u.framed n, eOut := [] }
    if !w.framed n then ((w.set (trbStatus n 2) 0).set (trbStatus n 3) 0).set (trbStatus n 4) 0
    else if !w.crc4 n then w.set (trbStatus n 3) 0
    else w

/-- E1_INPUT_FRAME: the next 256 bits of an E1 input (R199 to R201). -/
def doE1InputFrame (n : Fin 16) (b : BitVec 256) (s : Dev) : Dev :=
  if !s.isUp domTrb || s.trbLocal n then s
  else s.trbInput n ((List.range 256).map fun i => b.getMsbD i)

/-- E1_LOS_ON, on a tributary whose input is not replaced by its own output: 32 bit periods without a pulse (Table 9-1). -/
def doE1LosOn (n : Fin 16) (s : Dev) : Dev := if !s.isUp domTrb || s.trbLocal n then s else s.trbDefect n 0 true

/-- E1_LOS_OFF: 4 or more pulses in each of two spans of 32 bit periods (Table 9-1). -/
def doE1LosOff (n : Fin 16) (s : Dev) : Dev := if !s.isUp domTrb || s.trbLocal n then s else s.trbDefect n 0 false

/-- E1_DS_WINDOW: the end of a window of 1,000 submultiframes (R209). -/
def doE1DsWindow (n : Fin 16) (s : Dev) : Dev := if (s.trbP n).winSmf ≥ 1000 then s.dsWindow n else s

/-- A frame read from a store: a store that runs dry repeats its last frame, a slip (R201, R206). -/
def storeRead (l : List (List Byte)) (last : List Byte) (running : Bool) : List (List Byte) × List Byte × Bool :=
  match l with
  | f :: t => (t, f, false)
  | [] => ([], last, running)

/-- The upstream side reads one frame of TRBn: 256 ones in place of it for a bad input, a disabled tributary, and one that pitch 13
sends to the packet path (R201, R202). An input that delivers no frames because it is bad slips none. -/
def Dev.trbRead (s : Dev) (n : Nat) : Dev × List Byte :=
  let x := s.trbP n
  let mapped := match s.decl 13 with | some d => !bit d.packetTribs n | none => true
  let bad := s.trbBad n
  let r := storeRead x.store x.lastRead (x.running && !bad)
  let s1 := s.setTrbP n { x with store := r.1, lastRead := r.2.1, running := x.running && !(bad && x.store.isEmpty) }
  (if r.2.2 then s1.count (R.TRB_n_SLIPS_RX n) 1 else s1, if !bit (s.get R.TRB_ENABLE_EN) n || !mapped || bad then aisFrame else r.2.1)

/-- The sixteen frames read at the start of an upstream frame (R201). -/
def Dev.trbReadAll (s : Dev) : Dev × List (List Byte) :=
  (List.range 16).foldl (fun x n => let r := x.1.trbRead n; (r.1, x.2 ++ [r.2])) (s, [])

/-- A downstream frame of TRBn from the framer, marked missing or errored and counted as such (R133, R204). -/
def Dev.trbDeliver (s : Dev) (n : Nat) (bytes : List Byte) (missing errored : Bool) : Dev :=
  let t := if missing then s.count (R.TRB_n_DS_FRAMES_MISSING n) 1 else if errored then s.count (R.TRB_n_DS_FRAMES_ERRORED n) 1 else s
  t.modTrbP n fun x => { x with down := (x.down ++ [(bytes, missing, errored)]).drop (x.down.length - 1) }

/-- Every tributary is told that its frame is missing (R127). -/
def Dev.trbMissing (s : Dev) : Dev := forEach (List.range 16) s fun n t => t.trbDeliver n aisFrame true false

/-- Timeslot 0 of output frame i, with A and Sa bits (R198, R203); bit 1 is 1 in BASIC mode. -/
def ts0 (crc4 : Bool) (i prev : Nat) (e a : Bool) (sa : Nat) : Nat :=
  let mfas : Nat → Bool
    | 5 | 9 | 11 => true
    | 13 | 15 => e
    | _ => false
  if i % 2 = 0 then b2n (if crc4 then bit prev (3 - i / 2 % 4) else true) * 128 + 0x1B
  else b2n (if crc4 then mfas i else true) * 128 + 64 + b2n a * 32 + sa % 32

/-- A frame with timeslot 0 generated, in BASIC and CRC4 modes (R198); the CRC-4 of what is sent runs on. -/
def Dev.trbGenerate (s : Dev) (n : Nat) (fr : List Byte) : Dev × List Byte :=
  if !s.framed n then (s.set (R.TRB_n_STATUS_RAI_TX n) 0, fr)
  else
    let x := s.trbP n
    let i := x.outIx
    let a := s.is (R.TRB_n_CFG_RAI_AUTO n) && s.trbBad n
    let eNow := i = 13 ∨ i = 15
    let e := x.eOut.headD true
    let out := BitVec.ofNat 8 (ts0 (s.crc4 n) i x.txPrev e a (fr.headD 0).toNat) :: fr.drop 1
    let c := crc4Frame (if i % 8 = 0 then 0 else x.txCrc) (i % 2 == 0) out
    let s1 := s.setTrbP n { x with
      txCrc := c, txPrev := if i % 8 = 7 then c else x.txPrev,
      eOut := if eNow then x.eOut.drop 1 else x.eOut.drop (x.eOut.length - 4) }
    (s1.setB (R.TRB_n_STATUS_RAI_TX n) a, out)

/-- The next downstream frame of TRBn, or AIS (R204, R428). -/
def Dev.trbDown (s : Dev) (n : Nat) : Dev × List Byte × Bool :=
  let x := s.trbP n
  match x.down with
  | [] => (s, aisFrame, true)
  | (b, m, e) :: t =>
    let ais := m || (e && s.is (R.TRB_n_CFG_ERR_AIS n))
    (s.setTrbP n { x with down := t }, if ais then aisFrame else b, ais)

/-- A further store of this output is read (R206, R210). -/
def Dev.trbCross (s : Dev) (n : Nat) : Dev × List Byte :=
  let x := s.trbP n
  let r := storeRead x.xstore x.xlast x.xrunning
  let s1 := s.setTrbP n { x with xstore := r.1, xlast := r.2.1 }
  (if r.2.2 && s.sup.mode == .island then s1.count (R.TRB_n_SLIPS_TX n) 1 else s1, r.2.1)

/-- The OUT code of a priority. -/
def trbOut : Nat → Nat
  | 2 => 6
  | 3 => 1
  | 4 => 4
  | 5 => 5
  | 6 => 3
  | 7 => 2
  | _ => 0

/-- A frame sent from priority 5, 6 or 7: with timeslot 0 generated unless it is AIS; it is the one a hold repeats (R208). -/
def Dev.trbSend (s : Dev) (n : Nat) (fr : List Byte) (ais : Bool) : Dev × List Byte :=
  let r := if ais then (s.set (R.TRB_n_STATUS_RAI_TX n) 0, aisFrame) else s.trbGenerate n fr
  (r.1.modTrbP n fun x => { x with last := r.2 }, r.2)

/-- A relay client's tributary is told that its downstream frame is missing (R428). -/
def Dev.trbRelay (s : Dev) (n : Nat) : Dev := if s.relay && s.sup.mode.traffic && s.isUp domTrb then s.trbDeliver n aisFrame true false else s

/-- E1_OUTPUT_FRAME: one frame time of the output of TRBn (R203 to R208, Table 9-2). gap: a switchover gap is in progress. An output
that sends from elsewhere leaves its downstream frame unused, and its further store empty. -/
def Dev.trbOutput (s : Dev) (n : Nat) (gap : Bool) : Dev :=
  let s := s.setB R.TRB_STATE_HOLD gap
  let s := (s.setB R.TRB_STATE_XCON (s.sup.mode == .island)).trbRelay n
  let p := s.trbPriority n
  let own := p = 7 ∨ (p = 5 ∧ s.trbLocal n)
  let taken := s.modTrbP n fun x => { x with
    down := if own then x.down else x.down.drop 1
    xstore := if (s.trbSource n).isSome then x.xstore else []
    xrunning := x.xrunning && (s.trbSource n).isSome }
  let r : Dev × List Byte := match p with
    | 1 | 2 => (taken.set (R.TRB_n_STATUS_RAI_TX n) 0, [])
    | 3 => (taken.set (R.TRB_n_STATUS_RAI_TX n) 0, aisFrame)
    | 4 => if s.trb.isOver then (taken.set (R.TRB_n_STATUS_RAI_TX n) 0, aisFrame) else taken.trbGenerate n (s.trbP n).last
    | 5 =>
      if s.trbLocal n then
        let d := taken.trbDown n
        let g := d.1.trbSend n d.2.1 d.2.2
        ((g.1.trbDefect n 0 false).trbInput n (bitsOf g.2), aisFrame)
      else let c := taken.trbCross n; c.1.trbSend n c.2 false
    | 6 =>
      let s1 := taken.modTrbP n fun x => { x with down := [] }
      if (s.trbSource n).isNone then s1.trbSend n aisFrame true else let c := s1.trbCross n; c.1.trbSend n c.2 false
    | _ => let d := taken.trbDown n; d.1.trbSend n d.2.1 d.2.2
  let s2 := r.1.set (R.TRB_n_STATUS_OUT n) (trbOut p)
  (s2.modTrbP n fun x => { x with outIx := (x.outIx + 1) % 16 }).emit (.e1 n (trbOut p) r.2)

/-- One frame time of the output of TRBn while the device is in reset: undriven, or AIS in a SOFT reset (R92, Table 9-2). -/
def Dev.trbInReset (s : Dev) (n : Nat) : Dev := let p := s.trbPriority n; s.emit (.e1 n (trbOut p) (if p = 3 then aisFrame else []))

-- The commands of this file.

/-- E1_INPUT_FRAME (R199). -/
def execE1InputFrame (n : Fin 16) (b : BitVec 256) (s : State) : Host.Outcome State Fault Refusal := s.run (doE1InputFrame n b)

/-- E1_LOS_ON (R200). -/
def execE1LosOn (n : Fin 16) (s : State) : Host.Outcome State Fault Refusal := s.run (doE1LosOn n)

/-- E1_LOS_OFF (R200). -/
def execE1LosOff (n : Fin 16) (s : State) : Host.Outcome State Fault Refusal := s.run (doE1LosOff n)

/-- E1_DS_WINDOW (R209). -/
def execE1DsWindow (n : Fin 16) (s : State) : Host.Outcome State Fault Refusal := s.run (doE1DsWindow n)

end Sys2Proof.Machine
end

