-- ==== Sys2Proof/Machine/CipherCore.lean ====
section
/-!
DEFINITION. Sys2Proof/Machine/CipherCore.lean: the two pipelines: line packets, MACsec, replay and packet numbers
(16_cipher_and_keys.md R358 to R364, R367 to R369).
-/
namespace Sys2Proof.Machine

/-- Line, MACsec and CMAC kinds (Table 16-3). -/
def Key.line (k : Key) : Bool := k.kind == 1 || k.kind == 2
def Key.macsec (k : Key) : Bool := k.kind == 3 || k.kind == 4
def Key.cmac (k : Key) : Bool := k.kind == 5 || k.kind == 6

/-- A CPH_EVENT (Table 16-5), raised with its CPH_IRQ bit. -/
def Dev.cphEvent (s : Dev) (code pipe slot count : Nat) : Dev :=
  let gen := if slot = 0xFFFF then 0 else (s.slot slot).gen
  (s.raise ⟨R.CPH_IRQ, code - 1, 1⟩).event 0x1080 (le 1 code ++ le 1 pipe ++ le 2 slot ++ le 2 gen ++ le 4 count)

/-- A tag failed: counted, noted, journalled at most once per second (R373). -/
def Dev.authFail (s : Dev) (pipe slot : Nat) : Dev :=
  let s1 := s.count (if pipe = 0 then R.CPH_D_COUNTS_AUTH_FAIL else R.CPH_U_COUNTS_AUTH_FAIL) 1
  let s2 := ((s1.set R.CPH_LAST_FAIL_SLOT slot).set R.CPH_LAST_FAIL_PIPE pipe).raise R.CPH_IRQ_AUTH_FAIL
  s2.eventRated 0x1080 3 pipe fun n => le 1 3 ++ le 1 pipe ++ le 2 slot ++ le 2 (s2.slot slot).gen ++ le 4 n

/-- Whether the replay check passes (R368). -/
def KeySlot.fresh (x : KeySlot) (pn : Nat) : Bool :=
  pn != 0 && (if x.window = 0 then decide (x.rpn < pn) else decide (x.rpn ≤ pn + x.window))

/-- A PN accepted on decryption. -/
def Dev.acceptPn (s : Dev) (slot pn : Nat) : Dev := let x := s.slot slot; s.setSlot slot { x with rpn := max x.rpn pn }

/-- IV, and associated data, of a line packet (R361). -/
def lineIv (dir flow pn : Nat) : List Byte := be 1 dir ++ [0] ++ be 2 flow ++ be 8 pn

/-- CPH_D: a line packet of a FLOW decrypted, or dropped and counted (R361, R362, R368). -/
def Dev.lineDecrypt (s0 : Dev) (flow : Nat) (pkt : List Byte) : Dev × Option (List Byte) :=
  let s := s0.access domCphD cliLine
  let e := sget 0 flow s.cph.flowMap
  let absent := (s.count R.CPH_D_COUNTS_KEY_ABSENT 1, none)
  if !bit e 15 then absent
  else
    let n := e % 4096
    match (s.slot n).cur with
    | none => absent
    | some k =>
      if !k.line then absent
      else if pkt.length < 24 then (s.authFail 0 n, none)
      else
        let pn := beAt pkt 0 8
        let iv := lineIv 0 flow pn
        match gcmOpen k.key iv iv (slice pkt 8 (pkt.length - 24)) (slice pkt (pkt.length - 16) 16) with
        | none => (s.authFail 0 n, none)
        | some p =>
          if (s.slot n).fresh pn then (s.acceptPn n pn, some p)
          else (s.count R.CPH_D_COUNTS_REPLAY 1, none)

/-- The PN limit of a kind (R362, R364): the first PN that may not be used. -/
def Key.pnEnd (k : Key) : Nat := if k.kind = 3 then 2 ^ 32 else if k.kind = 4 then 2 ^ 64 else 2 ^ 64 - 1

/-- The PN of a slot used up; PN_WARN once per slot write (R364). None where the PN is exhausted. -/
def Dev.takePn (s : Dev) (slot : Nat) (k : Key) : Dev × Option Nat :=
  let x := s.slot slot
  if x.pn ≥ k.pnEnd then
    let s1 := s.count R.CPH_U_DROPS_PN_EXHAUSTED 1
    let key := rateKey 0x1080 5 1
    let n := s1.rateCount key
    ((s1.rateMark key).cphEvent 5 1 slot n, none)
  else
    let m := (s.rd R.CPH_PN_WARN).toNat
    let warn := !x.warned && m != 0 && decide (x.pn + 1 + m ≥ k.pnEnd)
    let s1 := s.setSlot slot { x with pn := x.pn + 1, warned := x.warned || warn }
    (if warn then s1.cphEvent 4 1 slot 0 else s1, some x.pn)

/-- SecTAG of a transmit frame (Table 16-2; IEEE 802.1AE gives TCI, AN, SL and PN). -/
def secTag (k : Key) (pn dataLen : Nat) : List Byte :=
  [0x88, 0xE5] ++ be 1 (b2n k.sciFlag * 32 + 12 + k.an) ++ be 1 (if dataLen < 48 then dataLen else 0) ++ be 4 (pn % 2 ^ 32) ++
    (if k.sciFlag then k.sci else [])

/-- GCM IV of a MACsec frame (IEEE 802.1AE): SCI and PN, or for XPN the SSCI and 64-bit PN under the salt. -/
def macsecIv (k : Key) (sci : List Byte) (pn : Nat) : List Byte :=
  if k.kind = 4 then xorBytes (k.ssci ++ be 8 pn) k.salt else sci ++ be 4 (pn % 2 ^ 32)

/-- A frame that names no key of its slot: STALE where a FORCE displaced the key, KEY_ABSENT otherwise (R367, R369). -/
def Dev.noKey (s : Dev) (slot gen : Nat) : Dev :=
  if (s.slot slot).stale.contains gen then s.count R.CPH_U_DROPS_STALE 1 else s.count R.CPH_U_COUNTS_KEY_ABSENT 1

/-- CPH_U encrypts a frame for an egress (R361 to R364): a line packet of a FLOW for U, a MACsec frame for E0 to E7. -/
def Dev.encryptFrame (s0 : Dev) (e slot gen flow : Nat) (b : List Byte) : Dev × Option (List Byte) :=
  let s := s0.access domCphU cliLine
  match (s.slot slot).keyOf gen with
  | none => (s.noKey slot gen, none)
  | some k =>
    if (e = 0 ∧ b.length + k.expansion > 9744) ∨ (e ≠ 0 ∧ b.length + k.expansion > 9728) then (s.count R.CPH_U_DROPS_OVERSIZE 1, none)
    else
      let r := s.takePn slot k
      match r.2 with
      | none => (r.1, none)
      | some pn =>
        if e = 0 then
          let iv := lineIv 1 flow pn
          let c := gcmSeal k.key iv iv b
          (r.1, some (be 8 pn ++ c.1 ++ padTo 16 c.2))
        else
          let tag := secTag k pn (b.length - 12)
          let hdr := b.take 12 ++ tag
          let c := gcmSeal k.key (macsecIv k k.sci pn) hdr (b.drop 12)
          (r.1, some (hdr ++ c.1 ++ padTo 16 c.2))

/-- The 64-bit PN of a received XPN frame: the low half it carries, the high half next to the highest accepted PN. -/
def xpnOf (rpn low : Nat) : Nat :=
  let hi := rpn / 2 ^ 32
  if !bit low 31 && bit rpn 31 then (hi + 1) % 2 ^ 32 * 2 ^ 32 + low else hi * 2 ^ 32 + low

/-- CPH_U decrypts a MACsec frame, or drops and counts it (R363, R368, R369). -/
def Dev.decryptFrame (s0 : Dev) (slot gen : Nat) (b : List Byte) : Dev × Option (List Byte) :=
  let s := s0.access domCphU cliLine
  match (s.slot slot).keyOf gen with
  | none => (s.noKey slot gen, none)
  | some k =>
    let tci := (slice b 14 1).headD 0
    let sc := tci.getLsbD 5
    let hl := if sc then 28 else 20
    let low := beAt b 16 4
    let pn := if k.kind = 4 then xpnOf (s.slot slot).rpn low else low
    if beAt b 12 2 ≠ 0x88E5 ∨ b.length < hl + 16 ∨ tci.getLsbD 7 ∨ !tci.getLsbD 3 ∨ !tci.getLsbD 2 ∨ tci.toNat % 4 ≠ k.an then
      (s.authFail 1 slot, none)
    else
      match gcmOpen k.key (macsecIv k (if sc then slice b 20 8 else k.sci) pn) (b.take hl) (slice b hl (b.length - hl - 16))
          (slice b (b.length - 16) 16) with
      | none => (s.authFail 1 slot, none)
      | some p =>
        if (s.slot slot).fresh pn then (s.acceptPn slot pn, some (b.take 12 ++ p))
        else (s.count R.CPH_U_COUNTS_REPLAY 1, none)

/-- A cipher use that does not match the slot's kind (R359); e is the egress, none for a task. -/
def Dev.cipherMismatch (s : Dev) (cipher slot : Nat) (e : Option Nat) : Bool :=
  match (s.slot slot).cur with
  | none => false
  | some k =>
    (cipher == 1 && (k.cmac || (match e with | some x => (k.line && x != 0) || (k.macsec && !(1 ≤ x && x ≤ 8)) | none => false))) ||
      (cipher == 2 && !k.macsec)

end Sys2Proof.Machine
end

