-- ==== Sys2Proof/Machine/Activation.lean ====
section
/-!
DEFINITION. Sys2Proof/Machine/Activation.lean: line management messages, the registration record and the rows of Table 7-5
that they and the timers take (07_activation_and_ranging.md R151 to R173; 03 R75, R76).
-/
namespace Sys2Proof.Machine


/-- The module's own terminal ID (0x3FF none). -/
def Dev.tid (s : Dev) : Nat := s.get R.ACT_STATUS_TID

/-- The tree management key, none while its slot holds no CMAC key (R156, R370). -/
def Dev.lmmKey (s : Dev) : Option (List Byte) := s.cmacKey (s.get R.ACT_LMM_KEY_SLOT)

/-- MIC of the first 38 bytes of an LMM (Table 7-2). -/
def lmmMic (key b : List Byte) : List Byte := slice (aesCmac key (slice b 0 38)) 0 10

/-- The SERIAL content (Table 7-3): DEVICE, STEPPING and CODE as PLT_ID. -/
def Dev.serialContent (s : Dev) (kept draw port : Nat) : List Byte :=
  be 8 s.serial ++ be 2 0x5120 ++ be 1 (s.get R.PLT_ID_STEPPING) ++ be 1 (s.get R.PLT_ID_CODE) ++ be 2 kept ++ be 2 draw ++ be 1 port

/-- An upstream LMM (Table 7-2). -/
def lmmBytes (key : List Byte) (tid typ seq : Nat) (content : List Byte) : List Byte :=
  let b := be 2 (tid * 64) ++ be 1 typ ++ be 1 seq ++ padTo 34 content
  b ++ lmmMic key b

/-- ACK statuses of an LMM. -/
def lmmOk : Nat := 0
def lmmArgument : Nat := 1
def lmmFull : Nat := 2
def lmmState : Nat := 3

/-- An ACK queued; the ninth displaces the oldest (R159). -/
def Dev.queueAck (s : Dev) (typ seq status : Nat) : Dev :=
  let l := s.act.acks ++ [(typ, seq, status)]
  if l.length > 8 then ({ s with act := { s.act with acks := l.drop 1 } }).count R.ACT_LMM_DROP_ACK_DROP 1
  else { s with act := { s.act with acks := l } }

/-- The terminal drops its record for a cause: A8, A9 or A14 (Table 7-5). -/
def Dev.dropRecord (s : Dev) (cause : Nat) : Dev :=
  match s.act.st with
  | .ranging | .registered => (s.clearRecord.setAct .listen).raiseDeregistered cause
  | .resuming => (s.clearRecord.setAct .listen).raiseReacquired
  | _ => s

/-- PROFILE (R160, A2): pre and rand as received, tree of the carrying frame. -/
def Dev.lmmProfile (s : Dev) (c : List Byte) (tree : Nat) : Dev :=
  let pre := beAt c 0 4
  if pre ≥ 2 ^ 25 then s.count R.ACT_LMM_ERR_UNKNOWN 1
  else
    let s1 := (s.set R.ACT_PRE_EQD_PRE_EQD pre).set R.ACT_RAND_RAND_UNITS (beAt c 4 2)
    let s2 := match s1.act.st with
      | .idle | .listen | .serial | .ranging => s1.set R.ACT_EQD_EQD pre
      | _ => s1
    if s2.act.st = .listen then
      let s3 := s2.set R.ACT_TREE_TREE_ID tree
      if s3.is R.ACT_CTL_SN_EN then (s3.setGrantIds [0xFFF]).setAct .serial else s3
    else s2

/-- ID_ASSIGN (R161, A4). -/
def Dev.lmmIdAssign (s : Dev) (c : List Byte) : Dev :=
  if s.act.st ≠ .serial ∨ beAt c 0 8 ≠ s.serial then s
  else
    let tid := beAt c 8 2
    let g := beAt c 10 2
    let base := beAt c 12 2
    if tid ≥ 1023 ∨ g ≥ 0xFFF ∨ (base > 1008 ∧ base ≠ 0xFFFF) then s.count R.ACT_LMM_ERR_UNKNOWN 1
    else
      let s1 := (((s.set R.ACT_STATUS_TID tid).set R.ACT_TDM_BASE_BASE base).set R.ACT_TREE_BELAY_CODE (beAt c 14 2)).setGrantIds [g]
      ({ s1 with act := { s1.act with lastBcast := none, lastUcast := none, upSeq := 0, rangeId := g } }).setAct .ranging

/-- An accepted RANGING_TIME becomes the pending EQD (R153). -/
def Dev.pendEqd (s : Dev) (v effect : Nat) : Dev :=
  let s1 := if s.act.pend then s.count R.ACT_EQD_COUNTS_REPLACED 1 else s
  let s2 := ((s1.set R.ACT_EQD_PEND_EQD v).wr64 R.ACT_EFFECT_SF_LO effect).count R.ACT_EQD_COUNTS_UPDATES 1
  { s2 with act := { s2.act with pend := true } }

/-- RANGING_TIME in frame k (R153, R162): its ACK status. -/
def Dev.lmmRangingTime (s : Dev) (c : List Byte) (k : Nat) : Dev × Nat :=
  let mode := beAt c 0 1
  let raw := beAt c 1 4
  let effect := max (beAt c 5 8) (k + 1)
  let refuse (x : Nat) : Dev × Nat := (s.count R.ACT_EQD_COUNTS_REFUSED 1, x)
  let absolute : Dev × Nat := if raw < 2 ^ 25 then (s.pendEqd raw effect, lmmOk) else refuse lmmArgument
  if mode > 1 then refuse lmmArgument
  else match s.act.st with
    | .ranging => if mode = 0 then absolute else refuse lmmState
    | .registered =>
      if mode = 0 then absolute
      else
        let v := (s.get R.ACT_EQD_EQD : Int) + signed 32 raw
        if 0 ≤ v ∧ v < 2 ^ 25 then (s.pendEqd v.toNat effect, lmmOk) else refuse lmmArgument
    | _ => refuse lmmState

/-- IDs of a list without repeats, first kept. -/
def dedup (l : List Nat) : List Nat := l.foldl (fun a x => if a.contains x then a else a ++ [x]) []

/-- GRANT_ID_SET (R163): applied whole or not at all. -/
def Dev.lmmGrantIdSet (s : Dev) (c : List Byte) : Dev × Nat :=
  let op := beAt c 0 1
  let n := beAt c 1 1
  let ids := (List.range n).map fun i => beAt c (2 + 2 * i) 2
  if op > 2 ∨ n > 16 ∨ ids.any (fun i => decide (i ≥ 0xFFF)) then (s, lmmArgument)
  else
    let old := s.grantIds
    let new := match op with
      | 0 => dedup (old ++ ids)
      | 1 => old.filter fun i => !ids.contains i
      | _ => dedup ids
    if new.length > 32 then (s, lmmFull) else (s.setGrantIds new, lmmOk)

/-- DEREGISTER (R164, A8, A9, A14). -/
def Dev.lmmDeregister (s : Dev) (c : List Byte) : Dev :=
  let n := beAt c 1 8
  match s.act.st with
  | .ranging | .registered | .resuming =>
    if n = 0 ∨ n = s.serial then (s.set R.ACT_DEREG_REASON (beAt c 0 1)).dropRecord 1 else s
  | _ => s

/-- TUNNEL downstream: fragments are paired into a message of the remote path, or discarded and counted (R75, R76). -/
def Dev.tunnelFragment (s : Dev) (c : List Byte) : Dev :=
  if !s.is R.HIF_CTL_RM_EN then s
  else
    let h := beAt c 0 2
    let half := slice c 2 32
    let dropped (t : Dev) : Dev := t.countR R.HIF_RM_DROPPED 1
    let held (x : Option (Nat × List Byte)) (t : Dev) : Dev := { t with hif := { t.hif with tunnelHalf := x } }
    if !bit h 15 then
      held (some (h % 256, half)) (if s.hif.tunnelHalf.isSome then dropped s else s)
    else match s.hif.tunnelHalf with
      | some (q, first) =>
        if q = h % 256 then
          let t := held none s
          t.setPath .remote { t.hif.remote with inbox := t.hif.remote.inbox ++ [HMsg.ofBytes (first ++ half)] }
        else held none (dropped s)
      | none => dropped s

/-- Types that call for an ACK (Table 7-3). -/
def lmmAcked (typ : Nat) : Bool := typ == 3 || typ == 4

/-- Types that Table 7-3 gives as down or both (R157). -/
def lmmDown (typ : Nat) : Bool := [1, 2, 3, 4, 5, 0x10].contains typ

/-- The last accepted SEQ of a class with the ACK status given to it: broadcast or unicast (R158). -/
def Act.lastOf (x : Act) (bcast : Bool) : Option (Nat × Option Nat) := if bcast then x.lastBcast else x.lastUcast
def Act.setLast (x : Act) (bcast : Bool) (l : Option (Nat × Option Nat)) : Act :=
  if bcast then { x with lastBcast := l } else { x with lastUcast := l }

/-- One LMM executed (R160 to R164, R75): its ACK status, when its type calls for one. -/
def Dev.lmmExec (s : Dev) (typ : Nat) (c : List Byte) (k tree : Nat) : Dev × Option Nat :=
  match typ with
  | 1 => (s.lmmProfile c tree, none)
  | 2 => (s.lmmIdAssign c, none)
  | 3 => let r := s.lmmRangingTime c k; (r.1, some r.2)
  | 4 => let r := s.lmmGrantIdSet c; (r.1, some r.2)
  | 5 => (s.lmmDeregister c, none)
  | _ => (s.tunnelFragment c, none)

/-- An LMM with a new SEQ of its class: executed, its status kept and acknowledged. -/
def Dev.lmmNew (s : Dev) (bcast : Bool) (typ seq : Nat) (b : List Byte) (k tree : Nat) : Dev :=
  let r := ({ s with act := s.act.setLast bcast (some (seq, none)) }).lmmExec typ (slice b 4 34) k tree
  match r.2 with
  | some x => ({ r.1 with act := r.1.act.setLast bcast (some (seq, some x)) }).queueAck typ seq x
  | none => r.1

/-- An LMM whose SEQ is the last of its class: counted, and its ACK sent again (R158). -/
def Dev.lmmAgain (s : Dev) (typ seq : Nat) (status : Option Nat) : Dev :=
  let t := s.count R.ACT_LMM_ERR_DUPLICATE 1
  match status with
  | some x => if lmmAcked typ then t.queueAck typ seq x else t
  | none => t

/-- A downstream LMM of frame k, header tree given; bad: a byte lies in an uncorrectable codeword (R155 to R158). -/
def Dev.lmmReceive (s : Dev) (b : List Byte) (bad : Bool) (k tree : Nat) : Dev :=
  if bad then s.count R.ACT_LMM_DROP_UNC 1
  else match s.lmmKey with
    | none => s.count R.ACT_LMM_ERR_KEY_ABSENT 1
    | some key =>
      if slice b 38 10 ≠ lmmMic key b then
        let s1 := (s.count R.ACT_LMM_ERR_MIC_FAIL 1).raise R.ACT_IRQ_MIC_FAIL
        s1.eventRated 0x0680 6 0 fun _ => le 1 6 ++ le 2 s1.tid ++ le 4 (s1.get R.ACT_EQD_EQD)
      else
        let tid := beAt b 0 2 / 64
        let typ := beAt b 2 1
        let seq := beAt b 3 1
        let own := tid == s.tid && (s.act.st == .ranging || s.act.st == .registered || s.act.st == .resuming)
        if tid ≠ 1023 ∧ !own then s
        else if !lmmDown typ then s.count R.ACT_LMM_ERR_UNKNOWN 1
        else
          let t := s.countR R.ACT_LMM_RX 1
          match t.act.lastOf (tid == 1023) with
          | some (q, x) => if q = seq then t.lmmAgain typ seq x else t.lmmNew (tid == 1023) typ seq b k tree
          | none => t.lmmNew (tid == 1023) typ seq b k tree

/-- The LMM slot of a burst (R156, R159): ranging says that the burst uses the ranging grant of RANGING. -/
def Dev.upLmm (s : Dev) : Dev × List Byte :=
  match s.lmmKey with
  | none => (s, List.replicate 48 0)
  | some key =>
    let port := match s.activePort with | some p => p.ix | none => 0
    let send (t : Dev) (typ : Nat) (content : List Byte) : Dev × List Byte :=
      let q := (t.act.upSeq + 1) % 256
      (({ t with act := { t.act with upSeq := q } }).countR R.ACT_LMM_TX 1, lmmBytes key t.tid typ q content)
    if s.act.st = .ranging then send s 0x81 (s.serialContent 0x3FF 0 port)
    else match s.act.acks with
      | (t, q, x) :: rest => send { s with act := { s.act with acks := rest } } 0x82 (be 1 t ++ be 1 q ++ be 1 x)
      | [] =>
        if s.act.resumeQ then
          send { s with act := { s.act with resumeQ := false } } 0x83 (be 8 s.serial ++ be 2 (s.get R.ACT_TREE_TREE_ID) ++ be 4 (s.get R.ACT_EQD_EQD))
        else match s.act.twinPeer with
          | some c => send { s with act := { s.act with twinPeer := none } } 0x84 c
          | none => match s.act.tunnel with
            | c :: rest => send { s with act := { s.act with tunnel := rest } } 0x10 c
            | [] => (s, lmmBytes key s.tid 0x00 s.act.upSeq [])

/-- The header of an aligned line source names another tree than the kept one (A9). -/
def Dev.treeCheck (s : Dev) (tree : Nat) : Dev :=
  if s.act.st = .registered ∧ tree ≠ s.get R.ACT_TREE_TREE_ID then (s.count R.ACT_ACT_COUNTS_TREE_CHANGE 1).dropRecord 4 else s

/-- A grant of an assigned ID is accepted in RESUMING (A13). -/
def Dev.resumed (s : Dev) : Dev :=
  if s.act.st = .resuming then
    let s1 := ({ s with act := { s.act with resumeQ := true } }).setAct .registered
    (((s1.count R.ACT_RESUME_COUNTS_RESUMED 1).raise R.ACT_IRQ_RESUMED).actEvent 3).trigger .resumed
  else s

/-- The pending EQD takes effect at the start of upstream frame k, when that is its effect frame (R153, A7). -/
def Dev.eqdApply (s : Dev) (k : Nat) : Dev :=
  if s.act.pend ∧ s.rd64 R.ACT_EFFECT_SF_LO ≤ k then
    let s1 := s.dropPend.set R.ACT_EQD_EQD (s.get R.ACT_EQD_PEND_EQD)
    match s.act.st with
    | .ranging => (((s1.setAct .registered).raise R.ACT_IRQ_REGISTERED).actEvent 1).trigger .registered
    | .registered => ((s1.raise R.ACT_IRQ_EQD_APPLIED).actEvent 5).mirrorReg
    | _ => s1
  else s

/-- RANGE_TIMEOUT expires (A8). -/
def doRangeTimeout (s : Dev) : Dev :=
  let ms := s.get R.ACT_TIMERS_RANGE_TIMEOUT
  if s.act.st = .ranging ∧ ms ≠ 0 then
    (((s.until_ (s.act.since + ms * msTicks)).count R.ACT_ACT_COUNTS_RANGE_TIMEOUTS 1).dropRecord 2).settle
  else s

/-- RESUME_WAIT expires (A14). -/
def doResumeWaitExpiry (s : Dev) : Dev :=
  let ms := s.get R.ACT_TIMERS_RESUME_WAIT
  if s.act.st = .resuming ∧ ms ≠ 0 then ((s.until_ (s.act.since + ms * msTicks)).dropRecord 0).settle else s

/-- SN_EN_WRITE: a host write of ACT_CTL.SN_EN (A5). -/
def doSnEnWrite (v : Bool) (s : Dev) : Dev :=
  let s1 := s.setB R.ACT_CTL_SN_EN v
  if !v ∧ s.act.st = .serial then (s1.setGrantIds []).setAct .listen else s1

/-- ACT_RESTART: ACT_CTL.RESTART written 1 (A8, A9, A14). -/
def doActRestart (s : Dev) : Dev := (s.dropRecord 3).settle

-- The commands of this file.

/-- RANGE_TIMEOUT (R166). -/
def execRangeTimeout (s : State) : Host.Outcome State Fault Refusal := s.run (doRangeTimeout)

/-- RESUME_WAIT_EXPIRY (R166). -/
def execResumeWaitExpiry (s : State) : Host.Outcome State Fault Refusal := s.run (doResumeWaitExpiry)

/-- SN_EN_WRITE (R166). -/
def execSnEnWrite (v : Bool) (s : State) : Host.Outcome State Fault Refusal := s.run (doSnEnWrite v)

/-- ACT_RESTART (R166). -/
def execActRestart (s : State) : Host.Outcome State Fault Refusal := s.run (doActRestart)

end Sys2Proof.Machine
end

