-- ==== Sys2Proof/Machine/Framer.lean ====
section
/-!
DEFINITION. Sys2Proof/Machine/Framer.lean: downstream framing, delineation, grants and defects
(06_line_framing_and_fec.md R123 to R150; 07 R151, R153, R154; 09 R201, R202).
-/
namespace Sys2Proof.Machine

/-- PSYNC_HUNT_MATCH: a match at position pos in HUNT or PRESYNC (Table 6-6 F1 to F5). -/
def doPsyncHuntMatch (p : Port) (pos : Nat) (s : Dev) : Dev :=
  let i := p.ix
  if !s.framerRuns p || s.inSync p || pos % 2 != 0 || decide (pos ≥ frameBits) then s
  else
    let x := s.lfrP p
    match x.cands.find? (·.1 == pos) with
    | some (_, h) =>
      if h + 1 ≥ 3 then
        let y := { x with
          cands := [], pos := pos, wrong := 0, lastIndex := none, winFrames := 0, winCorr := 0,
          winUnc := 0, dsRun := 0, uncRun := 0 }
        ((((((s.setLfrP p y).set (R.LFR_x_STATUS_FA i) 2).set (R.LFR_x_STATUS_CANDS i) 0).set (R.LFR_x_STATUS_MISSES i) 0).lfrEvent p
          1)).settle
      else s.setLfrP p { x with cands := x.cands.map fun c => if c.1 == pos then (pos, h + 1) else c }
    | none =>
      if x.cands.length ≥ 4 then s.count (R.LFR_x_ALIGN_COUNTS_LOOKALIKE i) 1
      else ((s.setLfrP p { x with cands := x.cands ++ [(pos, 1)] }).set (R.LFR_x_STATUS_FA i) 1).set (R.LFR_x_STATUS_CANDS i)
        (x.cands.length + 1)

/-- PSYNC_CANDIDATE_MISS: a miss at a candidate's next frame position (Table 6-6 F6). -/
def doPsyncCandidateMiss (p : Port) (pos : Nat) (s : Dev) : Dev :=
  let i := p.ix
  let x := s.lfrP p
  if s.get (R.LFR_x_STATUS_FA i) ≠ 1 ∨ !x.cands.any (·.1 == pos) then s
  else
    let l := x.cands.filter (·.1 != pos)
    ((s.setLfrP p { x with cands := l }).set (R.LFR_x_STATUS_CANDS i) l.length).set (R.LFR_x_STATUS_FA i) (if l.isEmpty then 0 else 1)

/-- Codeword bits in a window (R146). -/
def windowBits : Nat := 106430464000

/-- The DS threshold count (R146). -/
def Dev.dsThreshold (s : Dev) : Nat := s.get R.LFR_DS_CFG_BER_M * windowBits / 10 ^ s.get R.LFR_DS_CFG_BER_E

/-- A window of 8,000 frames ends: DS and UNC (R146, R147). -/
def Dev.windowEnd (s : Dev) (p : Port) : Dev :=
  let i := p.ix
  let x := s.lfrP p
  let s1 := ((s.wr (R.LFR_x_WIN_CORR i) (BitVec.ofNat 32 (sat 32 x.winCorr))).set (R.LFR_x_WIN_UNC_CODEWORDS i) x.winUnc)
  let th := s.dsThreshold
  let on := s.get R.LFR_DS_CFG_BER_M != 0 && decide (x.winCorr > th)
  let run := if 2 * x.winCorr < th then x.dsRun + 1 else 0
  let ds := s.is (R.LFR_x_STATUS_DS i)
  let s2 := if on && !ds then (s1.set (R.LFR_x_STATUS_DS i) 1).lfrEvent p 5
    else if ds && !on && decide (run ≥ 3) then (s1.set (R.LFR_x_STATUS_DS i) 0).lfrEvent p 6 else s1
  let ut := s.get R.LFR_DS_CFG_UNC_TH
  let uon := decide (x.winUnc > ut)
  let urun := if x.winUnc ≤ ut / 2 then x.uncRun + 1 else 0
  let unc := s.is (R.LFR_x_STATUS_UNC i)
  let s3 := if uon && !unc then (s2.set (R.LFR_x_STATUS_UNC i) 1).lfrEvent p 7
    else if unc && !uon && decide (urun ≥ 3) then (s2.set (R.LFR_x_STATUS_UNC i) 0).lfrEvent p 8 else s2
  s3.setLfrP p { s3.lfrP p with winFrames := 0, winCorr := 0, winUnc := 0, dsRun := run, uncRun := urun }

/-- DEFECT_WINDOW_END (R146, R147). -/
def doDefectWindowEnd (p : Port) (s : Dev) : Dev := if (s.lfrP p).winFrames ≥ 8000 then s.windowEnd p else s

/-- DS_CFG_WRITE: LFR_DS_CFG written; M = 0 clears a declared DS at once (R146). -/
def doDsCfgWrite (v : Word) (s : Dev) : Dev :=
  let s1 := s.wr R.LFR_DS_CFG (v &&& 0xFFFFFF#32)
  forEach [Port.a, Port.b] s1 fun p t =>
    if t.get R.LFR_DS_CFG_BER_M = 0 ∧ t.is (R.LFR_x_STATUS_DS p.ix) then
      ((t.set (R.LFR_x_STATUS_DS p.ix) 0).setLfrP p { t.lfrP p with dsRun := 0 }).lfrEvent p 6
    else t

/-- A fourth consecutive miss: F9 and what it raises (R137, R148). -/
def Dev.syncLoss (s : Dev) (p : Port) : Dev :=
  let i := p.ix
  let s1 := (s.count (R.LFR_x_ALIGN_COUNTS_SYNC_LOSS i) 1).lfrEvent p 2
  let s2 := if s.is (R.LFR_x_STATUS_DS i) then s1.lfrEvent p 6 else s1
  let s3 := if s.is (R.LFR_x_STATUS_UNC i) then s2.lfrEvent p 8 else s2
  let s5 := s3.framerHunt p
  if s.activePort = some p then ((s5.actLost true).trigger .syncLost).settle else s5

/-- Header fields (Table 6-2). -/
structure DsHeader where
  sf : Nat
  mfas : Nat
  preLen : Nat
  prePat : Nat
  lmms : Nat
  grants : Nat
  tdm : Nat
  tree : Nat
  tod : Tod
deriving DecidableEq, Repr

/-- The fields that 48 information bytes hold. -/
def DsHeader.of (b : List Byte) : DsHeader :=
  { sf := beAt b 0 8, mfas := beAt b 8 1, preLen := beAt b 9 1, prePat := beAt b 10 1, lmms := beAt b 11 1, grants := beAt b 12 2,
    tdm := beAt b 14 2, tree := beAt b 16 2, tod := { sec := beAt b 18 6, ns := beAt b 24 4 } }

/-- The ranges of Table 6-2 (R127). -/
def DsHeader.valid (h : DsHeader) : Bool :=
  decide (4 ≤ h.preLen) && decide (h.preLen ≤ 128) && decide (h.prePat ≤ 2) && decide (h.lmms ≤ 64) && decide (h.grants ≤ 2048) &&
    decide (h.tdm ≤ 1024) && decide (h.tod.ns ≤ 999999999)

/-- HEADER_DECODE: the header descrambled and decoded, none when it is uncorrectable or invalid; both are counted (R125 to R127). -/
def Dev.headerDecode (s : Dev) (p : Port) (raw : List Byte) : Dev × Option DsHeader :=
  let i := p.ix
  match rsDecode (descramble (padTo 64 raw)) with
  | none => (s.count (R.LFR_x_HEAD_COUNTS_UNCORRECTABLE i) 1, none)
  | some (b, n) =>
    let s1 := if n > 0 then s.count (R.LFR_x_HEAD_COUNTS_CORRECTED i) 1 else s
    let h := DsHeader.of b
    if h.valid then (s1, some h) else (s1.count (R.LFR_x_HEAD_COUNTS_INVALID i) 1, none)

/-- MFAS values by index (Table 6-7). -/
def mfasTable : List Nat := [0xE3, 0x1C, 0xA5, 0x5A, 0xC6, 0x39, 0x96, 0x69, 0x87, 0x78, 0xB4, 0x4B, 0xD2, 0x2D, 0xF0, 0x0F]

/-- The index of an MFAS value. -/
def mfasIndex (v : Nat) : Option Nat := (List.range 16).find? fun i => mfasTable.getD i 0 == v

/-- MULTIFRAME_CHECK: one frame's MFAS index, none when its value is wrong (Table 6-8). DESIGN CHOICE: MF_INDEX keeps its last value
while multiframe alignment is not held. -/
def Dev.mfCheck (s : Dev) (p : Port) (ix : Option Nat) : Dev :=
  let i := p.ix
  let x := s.lfrP p
  if !s.mfSync p then
    match ix, x.lastIndex with
    | some n, some m =>
      if n = (m + 1) % 16 then
        let s1 := (((s.setLfrP p { x with wrong := 0, lastIndex := some n }).set (R.LFR_x_STATUS_MF_SYNC i) 1).set
          (R.LFR_x_STATUS_MF_INDEX i) n).lfrEvent p 3
        if s1.activePort = some p then s1.fire .aligned else s1
      else s.setLfrP p { x with lastIndex := some n }
    | some n, none => s.setLfrP p { x with lastIndex := some n }
    | none, _ => s.setLfrP p { x with lastIndex := none }
  else
    let e := (s.get (R.LFR_x_STATUS_MF_INDEX i) + 1) % 16
    if ix = some e then (s.setLfrP p { x with wrong := 0, lastIndex := ix }).set (R.LFR_x_STATUS_MF_INDEX i) e
    else if x.wrong < 2 then (s.setLfrP p { x with wrong := x.wrong + 1, lastIndex := ix }).set (R.LFR_x_STATUS_MF_INDEX i) e
    else ((((s.setLfrP p { x with wrong := 0, lastIndex := ix }).set (R.LFR_x_STATUS_MF_SYNC i) 0).count
      (R.LFR_x_MF_COUNTS_MF_LOSS i) 1).lfrEvent p 4)

/-- SF_COUNT_CHECK (R140). DESIGN CHOICE: an MFAS value outside Table 6-7 has no index, and its header does not show the second
fault. -/
def Dev.sfCheck (s : Dev) (p : Port) (sf : Nat) (ix : Option Nat) : Dev :=
  let x := s.lfrP p
  let jump := (x.sfKnown && sf != (s.rd64 (R.LFR_x_SF_LO p.ix) + 1) % 2 ^ 64) ||
    (match ix with | some n => sf % 16 != n | none => false)
  let s1 := (s.wr64 (R.LFR_x_SF_LO p.ix) sf).setLfrP p { x with sfKnown := true }
  if jump then s1.count (R.LFR_x_MF_COUNTS_SF_JUMP p.ix) 1 else s1

/-- Information bytes of a codeword, and of the payload (R131). -/
def cwBytes : Nat := 1728
def payloadBytes : Nat := 1403136

/-- The codewords of a frame that count: those that Table 6-1 has, each once. -/
def DsFrame.words (f : DsFrame) : List CwIn :=
  (List.range 812).filterMap fun c => f.cws.find? (·.index == c)

/-- The payload of a frame (R125, R130): each codeword descrambled and then decoded, in at most n iterations. -/
def DsFrame.decode (f : DsFrame) (n : Nat) : Payload :=
  let l := f.words.map fun w => (w.index, ldpcDecode n (w.word % 2 ^ 16384 ^^^ cwScramble w.index) w.est)
  { info := l.map fun x => (x.1, x.2.info), unc := (l.filter (·.2.bad)).map (·.1), corrected := (l.map (·.2.changed)).sum }

/-- One byte of the payload. -/
def Payload.byte (f : Payload) (a : Nat) : Byte :=
  BitVec.ofNat 8 (span (sget 0 (a / cwBytes) f.info) 13824 (8 * (a % cwBytes)) 8)

/-- Payload bytes [a, a + n) of a frame, and whether one of them lies in an uncorrectable codeword. -/
def Payload.bytes (f : Payload) (a n : Nat) : List Byte := (List.range n).map fun i => f.byte (a + i)
def Payload.bad (f : Payload) (a n : Nat) : Bool :=
  n != 0 && f.unc.any fun c => decide (a / cwBytes ≤ c) && decide (c ≤ (a + n - 1) / cwBytes)

/-- Accumulator of a map's evaluation. -/
structure GrantAcc where
  prev : Option Int
  got : List Grant
  bad : Nat
  excess : Nat
deriving DecidableEq, Repr

/-- One map entry (R144); assigned IDs and preamble bits given. -/
def grantStep (ids : List Nat) (pre : Nat) (x : GrantAcc) (e : Grant × Bool) : GrantAcc :=
  let g := e.1
  if e.2 then { x with bad := x.bad + 1 }
  else if !ids.contains g.id then x
  else if g.length = 0 then x
  else if x.got.length ≥ 64 then { x with excess := x.excess + 1 }
  else
    let need := b2n g.tdm * 4096 + b2n g.lmm * 384 + b2n g.report * 128
    let close : Bool := match x.prev with | some q => decide ((g.start : Int) < q + 1024) | none => false
    if g.length < pre + 128 ∨ g.start + g.length > upBits ∨ close ∨
        capacity (g.length - pre - 128) < need then { x with bad := x.bad + 1 }
    else { x with prev := some (g.start + g.length : Nat), got := x.got ++ [g] }

/-- prev_end for upstream frame k (R144, R154): none where frame k − 1 accepted no grant. -/
def Dev.prevEndFor (s : Dev) (k : Nat) : Option Int :=
  match s.lfr.prevEnd with
  | some (j, e) =>
    if j + 1 = k then
      let base : Int := (e : Int) - upBits
      let eff := s.rd64 R.ACT_EFFECT_SF_LO
      if s.act.pend ∧ eff ≤ k ∧ j < eff then some (base + (s.get R.ACT_EQD_EQD : Int) - s.get R.ACT_EQD_PEND_EQD) else some base
    else none
  | none => none

/-- BWMAP_EVALUATE: grants of upstream frame k accepted or refused (R144); a grant accepted in RESUMING gives A13. -/
def Dev.bwmapEvaluate (s : Dev) (h : DsHeader) (f : Payload) : Dev :=
  let es := (List.range h.grants).map fun n => (Grant.ofBytes (f.bytes (8 * n) 8), f.bad (8 * n) 8)
  let r := es.foldl (grantStep s.grantIds (64 * h.preLen)) { prev := s.prevEndFor h.sf, got := [], bad := 0, excess := 0 }
  let s1 := (s.count R.LFR_US_COUNTS_GRANT_BAD r.bad).count R.LFR_US_COUNTS_GRANT_EXCESS r.excess
  let s2 := s1.set R.LFR_US_STATUS_GRANTS r.got.length
  let u : UpFrame := {
    k := h.sf, ds := s.ticks, preLen := h.preLen, prePat := h.prePat, eqd := 0, started := false, sent := false, grants := r.got,
    tdm := [], tdmSent := false, missed := false }
  let last := match r.got.getLast? with | some g => some (h.sf, g.start + g.length) | none => none
  let s3 : Dev := { s2 with lfr := { s2.lfr with up := s2.lfr.up ++ [u], prevEnd := last } }
  if r.got.isEmpty then s3 else s3.resumed

/-- A packet is complete (R135, R136; DESIGN CHOICE: a packet of 0 bytes whose fragments differ in ENC counts in DISCARDED): discarded, or delivered by the line source to the line-side parse unit, decrypted first
when it carries ENC (R361, R362). -/
def Dev.packetDone (s : Dev) (p : Port) (k : OpenPkt) : Dev :=
  if k.bytes.isEmpty && !k.bad then s
  else if k.bad || decide (k.bytes.length > 9744) then s.count (R.LFR_x_ENCAP_COUNTS_DISCARDED p.ix) 1
  else if s.activePort ≠ some p ∨ k.flow = 0xFFFF ∨ !bit (s.rd (R.LFR_FLOW_MAP (k.flow / 32))).toNat (k.flow % 32) then s
  else
    let give (t : Dev) (b : List Byte) : Dev :=
      t.ingress false { Frame.first_ clsLine p.ix b t.now with flow := k.flow, enc := k.enc }
    if k.enc then
      let r := s.lineDecrypt k.flow k.bytes
      match r.2 with
      | some b => give r.1 b
      | none => r.1
    else give s k.bytes

/-- One item of the packet area at position a (R134, R135): the next position, none at the end of delineation. -/
def Dev.item (s : Dev) (p : Port) (f : Payload) (a : Nat) : Dev × Option Nat :=
  if a + 8 > payloadBytes then (s, none)
  else
    let h := f.bytes a 8
    let n := ofBe h
    let len := bits n 50 14
    let flow := bits n 34 16
    if f.bad a 8 || hec (slice h 0 6) != beAt h 6 2 || decide (a + 8 + len > payloadBytes) then
      ((s.count (R.LFR_x_ENCAP_COUNTS_HEC_FAIL p.ix) 1).dropOpen p, none)
    else
      let next := some (a + 8 + len)
      if flow = 0xFFFF then (s.dropOpen p, next)
      else
        let enc := bit n 32
        let b := f.bytes (a + 8) len
        let bad := f.bad (a + 8) len
        let s1 := match (s.lfrP p).pkt with
          | some k => if k.flow = flow then s else s.dropOpen p
          | none => s
        let k : OpenPkt := match (s1.lfrP p).pkt with
          | some k => { k with bytes := k.bytes ++ b, bad := k.bad || bad || k.enc != enc }
          | none => { flow := flow, enc := enc, bytes := b, bad := bad }
        if bit n 33 then ((s1.setLfrP p { s1.lfrP p with pkt := none }).packetDone p k, next)
        else (s1.setLfrP p { s1.lfrP p with pkt := some k }, next)

/-- PACKET_DELINEATE from position a, at most n items (R135). -/
def Dev.delineate (p : Port) (f : Payload) : Nat → Dev → Nat → Dev
  | 0, s, _ => s
  | n + 1, s, a =>
    let r := s.item p f a
    match r.2 with
    | some b => Dev.delineate p f n r.1 b
    | none => r.1

/-- TDM_DELIVER: slots of the TDM area to the tributaries (R133, R161). -/
def Dev.tdmDeliver (s : Dev) (h : DsHeader) (f : Payload) : Dev :=
  let base := s.get R.ACT_TDM_BASE_BASE
  let area := 8 * h.grants + 48 * h.lmms
  forEach (List.range 16) s fun n t =>
    if base = 0xFFFF ∨ base + n ≥ h.tdm then t.trbDeliver n aisFrame true false
    else
      let a := area + 32 * (base + n)
      t.trbDeliver n (f.bytes a 32) false (f.bad a 32)

/-- Activation runs (R172). -/
def Dev.actRuns (s : Dev) : Bool :=
  match s.sup.mode with
  | .range | .service | .standby | .island => true
  | _ => false

/-- The LMM area in order (R157). -/
def Dev.lmmArea (s : Dev) (h : DsHeader) (f : Payload) : Dev :=
  forEach (List.range h.lmms) s fun n t =>
    let a := 8 * h.grants + 48 * n
    if t.actRuns then t.lmmReceive (f.bytes a 48) (f.bad a 48) h.sf h.tree else t

/-- The payload of a frame with a correct header: on the line source grants, LMMs and slots; packets on every framer (R149). -/
def Dev.payload (s : Dev) (p : Port) (h : DsHeader) (f : Payload) : Dev :=
  let s1 := if s.activePort = some p then
      ((((s.treeCheck h.tree).settle.bwmapEvaluate h f).settle.lmmArea h f).settle).tdmDeliver h f
    else s
  Dev.delineate p f 175400 s1 (8 * h.grants + 48 * h.lmms + 32 * h.tdm)

/-- A frame whose payload is discarded (R127, R135): the open packet is lost, tributaries get nothing, and its upstream frame
starts with no grant. DESIGN CHOICE: no map was evaluated, and LFR_US_STATUS.GRANTS keeps the count of the frame before. -/
def Dev.noPayload (s : Dev) (p : Port) : Dev :=
  let s1 := s.dropOpen p
  if s.activePort = some p then
    let s2 := s1.trbMissing
    if (s.lfrP p).sfKnown then
      let u : UpFrame := {
        k := s.rd64 (R.LFR_x_SF_LO p.ix) + 1, ds := s.ticks, preLen := 0, prePat := 0, eqd := 0, started := false, sent := false,
        grants := [], tdm := [], tdmSent := false, missed := false }
      { s2 with lfr := { s2.lfr with up := s2.lfr.up ++ [u], prevEnd := none } }
    else s2
  else s1

/-- Between frames the TIA gain code moves by one while the received power stands more than 3 dB from its value at calibration (05,
Receiver); its direction is a free value, and FREEZE does not hold it (DEDUCED: FREEZE names the CTLE and the DFE). -/
def Dev.tiaTrack (s : Dev) (p : Port) : Dev :=
  if (signed 16 (s.get (R.LFE_x_RX_POWER_DBM p.ix)) - (s.lfeP p).calPower).natAbs ≤ 30 then s
  else
    let r := s.draw
    let g := s.get (R.LFE_x_EQ_TIA_GAIN p.ix)
    r.2.set (R.LFE_x_EQ_TIA_GAIN p.ix) (if Config.tiaUp r.1 then min 3 (g + 1) else g - 1)

/-- A frame processed at the expected position (F7, F8): descrambled and decoded (R125, R130), counts, header, multiframe, capture, payload. -/
def Dev.frameIn (s00 : Dev) (p : Port) (raw : DsFrame) (hit : Bool) : Dev :=
  let i := p.ix
  let s := s00.tiaTrack p
  let f := raw.decode (s.get R.LFR_CFG_MAX_ITER)
  let s0 := if (s.lfrP p).winFrames ≥ 8000 then s.windowEnd p else s
  let x := s0.lfrP p
  let s1 := (s0.setLfrP p { x with
    winFrames := x.winFrames + 1, winCorr := x.winCorr + f.corrected, winUnc := x.winUnc + f.unc.length }).countR
      (R.LFR_x_UNC_TOTAL i) f.unc.length
  let r := s1.headerDecode p raw.header
  let src := s.activePort == some p
  let ix := match r.2 with | some h => mfasIndex h.mfas | none => none
  let s2 := r.1.mfCheck p ix
  match r.2 with
  | none =>
    let s3 := if src then s2.lineCapture p hit default false else s2
    (s3.noPayload p).settle
  | some h =>
    let s3 := s2.sfCheck p h.sf ix
    let s4 := s3.setLfrP p { s3.lfrP p with tree := h.tree }
    let s5 := if src then s4.lineCapture p hit h.tod (h.tod.sec != 0 || h.tod.ns != 0) else s4
    (s5.payload p h f).settle

/-- DOWNSTREAM_FRAME: one frame at the expected position in SYNC (Table 6-6 F7 to F9). -/
def doDownstreamFrame (p : Port) (f : DsFrame) (s : Dev) : Dev :=
  let i := p.ix
  if !s.framerRuns p || !s.inSync p then s
  else if hamming (toBits 128 f.psync.toNat) (toBits 128 psyncPattern.toNat) ≤ s.get R.LFR_CFG_PSYNC_TOL then
    (s.set (R.LFR_x_STATUS_MISSES i) 0).frameIn p f true
  else
    let m := s.get (R.LFR_x_STATUS_MISSES i)
    if m < 3 then ((s.set (R.LFR_x_STATUS_MISSES i) (m + 1)).count (R.LFR_x_ALIGN_COUNTS_PSYNC_MISS i) 1).frameIn p f false
    else s.syncLoss p

/-- Read frames that no burst will carry are discarded and counted once for their upstream frame (R202). -/
def UpFrame.lose (u : UpFrame) (s : Dev) : UpFrame × Dev :=
  if u.tdmSent || u.missed then (u, s) else ({ u with missed := true }, s.count R.TRB_US_COUNTS_MISSED 1)

/-- Upstream frames that are over: grants left are not used (R145). -/
def Dev.endUpFrames (s : Dev) (l : List UpFrame) : Dev :=
  forEach l s fun u t => (u.lose (t.count R.LFR_US_COUNTS_UNUSED u.grants.length)).2

/-- UPSTREAM_FRAME_START: the oldest evaluated upstream frame begins (R151): a pending EQD is applied in its effect frame
(R153), and the tributary stores are read (R201, R202). -/
def doUpstreamFrameStart (s : Dev) : Dev :=
  match s.lfr.up.find? (fun u => !u.started) with
  | none => s
  | some u =>
    let older := s.lfr.up.takeWhile (·.started)
    let later := (s.lfr.up.dropWhile (·.started)).drop 1
    let s1 := (({ s with lfr := { s.lfr with up := later } }).endUpFrames older).eqdApply u.k
    let e := s1.get R.ACT_EQD_EQD
    let s2 := s1.until_ (u.ds + (upBits + e) / 64)
    let r := if s2.isUp domTrb then s2.trbReadAll else (s2, List.replicate 16 aisFrame)
    let v := { u with started := true, eqd := e, tdm := r.2 }
    let w := if u.grants.any (·.tdm) then (v, r.1) else v.lose r.1
    ({ w.2 with lfr := { w.2.lfr with up := w.1 :: w.2.lfr.up } }).settle

-- The commands of this file.

/-- PSYNC_HUNT_MATCH (R137). -/
def execPsyncHuntMatch (p : Port) (pos : Nat) (s : State) : Host.Outcome State Fault Refusal := s.run (doPsyncHuntMatch p pos)

/-- PSYNC_CANDIDATE_MISS (R137). -/
def execPsyncCandidateMiss (p : Port) (pos : Nat) (s : State) : Host.Outcome State Fault Refusal := s.run (doPsyncCandidateMiss p pos)

/-- DEFECT_WINDOW_END (R146). -/
def execDefectWindowEnd (p : Port) (s : State) : Host.Outcome State Fault Refusal := s.run (doDefectWindowEnd p)

/-- DS_CFG_WRITE (R146). -/
def execDsCfgWrite (v : Word) (s : State) : Host.Outcome State Fault Refusal := s.run (doDsCfgWrite v)

/-- DOWNSTREAM_FRAME (R123). -/
def execDownstreamFrame (p : Port) (f : DsFrame) (s : State) : Host.Outcome State Fault Refusal := s.run (doDownstreamFrame p f)

/-- UPSTREAM_FRAME_START (R151). -/
def execUpstreamFrameStart (s : State) : Host.Outcome State Fault Refusal := s.run (doUpstreamFrameStart)

end Sys2Proof.Machine
end

