-- ==== Sys2Proof/Machine/TskCore.lean ====
section
/-!
DEFINITION. Sys2Proof/Machine/TskCore.lean: when a task becomes ready, flags, dependence counters, posts, contexts and the trace
(14_task_dispatch.md R317 to R336).
-/
namespace Sys2Proof.Machine

/-- An empty packet context. -/
def PktCtx.empty : PktCtx := { item := none, desc := List.replicate 64 0, prepended := 0 }

/-- A descriptor not in use. -/
def Task.free : Task :=
  { st := .free, pitch := 0, cmask := 0, prio := 0, preempt := false, waitAll := false, entry := 0, mask := 0, flags := 0, clear := 0,
    depInit := 0, dep := 0, succ := List.replicate 4 (false, 0), postLimit := 0, runs := 0, readyAt := 0, ctx := none, wait := none,
    posts := [], msgs := [] }

/-- The valid successors of a task, SUCC0 first (R322). -/
def Task.successors (t : Task) : List Nat := (t.succ.filter (·.1)).map (·.2)

/-- Task n. -/
def Dev.task (s : Dev) (n : Nat) : Task := sget .free n s.tsk.tasks
def Dev.setTask (s : Dev) (n : Nat) (x : Task) : Dev := { s with tsk := { s.tsk with tasks := sset .free n x s.tsk.tasks } }

/-- An engine that holds no task. -/
def Eng.idle : Eng := { st := .idle, task := 0, pc := 0, regs := [], scratch := [], ops := [], pkt := .empty, latch := 0, held := none, page := none }

/-- Engine e (0 to 511). -/
def Dev.eng (s : Dev) (e : Nat) : Eng := sget .idle e s.engs
def Dev.setEng (s : Dev) (e : Nat) (x : Eng) : Dev := { s with engs := sset .idle e x s.engs }

/-- The engine that holds a task. -/
def Dev.engineOf (s : Dev) (n : Nat) : Option Nat := (s.engs.find? fun e => e.2.st != .idle && e.2.task == n).map (·.1)

/-- Event flags that a condition examines hold (R319). -/
def condHolds (flags mask : Nat) (all : Bool) : Bool := if all then flags &&& mask == mask else flags &&& mask != 0

/-- A TSK_EVENT (Table 14-6). -/
def tskPayload (code task pitch n : Nat) : List Byte := le 1 code ++ le 2 task ++ le 1 pitch ++ le 4 n

/-- A rate-limited TSK_EVENT with its cause. -/
def Dev.tskRated (s : Dev) (f : Fld) (code task : Nat) : Dev :=
  (s.raise f).eventRated 0x0E80 code 0 fun n => tskPayload code task (s.task task).pitch n

/-- Trace kinds (Table 14-5). -/
inductive TraceKind where
  | dispatch | interrupt | yield | preempt | wait | complete | fault
deriving DecidableEq, Repr

/-- KIND codes. -/
def TraceKind.code : TraceKind → Nat
  | .dispatch => 1
  | .interrupt => 2
  | .yield => 3
  | .preempt => 4
  | .wait => 5
  | .complete => 6
  | .fault => 7

/-- A decision traced (R334). -/
def Dev.traceTask (s : Dev) (k : TraceKind) (task engine other : Nat) (restored : Bool) : Dev :=
  let t := s.task task
  if !s.is R.TSK_TRACE_CFG_EN || !bit (s.get R.TSK_TRACE_CFG_KINDS) (k.code - 1) ||
      !bit (s.get R.TSK_TRACE_CFG_PITCHES) (t.pitch - 1) then s
  else
    let seq := (s.rd R.TSK_TRACE_NEXT).toNat
    let w := le 4 seq ++ le 4 s.now.ns ++ le 2 task ++ le 2 engine ++ le 1 k.code ++ le 1 (t.prio + 16 * b2n restored) ++ le 2 other
    let s1 := ({ s with tsk := { s.tsk with trace := sset 0 (seq % 16384) (BitVec.ofNat 128 (ofLe w)) s.tsk.trace } }).wr R.TSK_TRACE_NEXT
      (BitVec.ofNat 32 (seq + 1))
    if k = .fault ∧ s.is R.TSK_TRACE_CFG_FREEZE then
      (((s1.set R.TSK_TRACE_CFG_EN 0).set R.TSK_TRACE_CFG_FROZEN 1).raise R.TSK_IRQ_TRACE_FROZEN).eventCounted 0x0E80 3 0 fun n =>
        tskPayload 3 task t.pitch n
    else s1

/-- The yield request of a task that is no longer READY, or was dispatched, is withdrawn; a pre-emption, decided at once, is not (R327,
R328). -/
def Dev.dropRequests (s : Dev) (n : Nat) : Dev :=
  { s with tsk := { s.tsk with requests := s.tsk.requests.filter fun r => !(r.2.1 == n && r.2.2) } }

/-- An engine asked by task n to give way: a YIELD task at its next YIELDPT; a PREEMPT task at once, or where it is stalled when its
current instruction is complete (R327, R328). -/
def Dev.askLeave (s : Dev) (e n : Nat) : Dev :=
  let yields := !(s.task (s.eng e).task).preempt
  let t : Dev := { s with tsk := { s.tsk with requests := s.tsk.requests ++ [(e, n, yields)] } }
  if !yields && (t.eng e).st == .running then t.setEng e { t.eng e with st := .leaving } else t

/-- A task re-evaluated at a change of its flags or DEP (R319, R330); seq orders the tasks that become ready. -/
def Dev.reevalOne (seq n : Nat) (s : Dev) : Dev :=
  let t := s.task n
  let ok := condHolds t.flags t.mask t.waitAll && t.dep == 0
  match t.st with
  | .idle => if ok then s.setTask n { t with st := .ready, readyAt := seq } else s
  | .ready => if t.ctx.isNone && !ok then (s.setTask n { t with st := .idle }).dropRequests n else s
  | .waiting => match t.wait with
    | some (m, all) => if condHolds t.flags m all then s.setTask n { t with st := .ready, readyAt := seq, wait := none } else s
    | none => s
  | _ => s

/-- Tasks re-evaluated in one step (R323, R333). -/
def Dev.reeval (s : Dev) (l : List Nat) : Dev :=
  let s1 := forEach l s fun n t => t.reevalOne s.tsk.readySeq n
  { s1 with tsk := { s1.tsk with readySeq := s.tsk.readySeq + 1 } }

/-- Tasks that became READY between s and t did so in one step (R323). -/
def Dev.oneInstant (s t : Dev) : Dev :=
  let n := s.tsk.readySeq
  if t.tsk.readySeq = n then t
  else { t with tsk := { t.tsk with readySeq := n + 1, tasks := t.tsk.tasks.map fun x => (x.1, { x.2 with readyAt := min n x.2.readyAt }) } }

/-- Flags set on a task (R321); a FREE task loses them. -/
def Dev.setFlags (s : Dev) (n mask : Nat) : Dev :=
  let t := s.task n
  if t.st = .free then (s.count R.TSK_EV_LOST_FLAGS 1).tskRated R.TSK_IRQ_EV_LOST 4 n
  else (s.setTask n { t with flags := t.flags ||| mask }).reeval [n]

/-- Flags cleared on a task. -/
def Dev.clearFlags (s : Dev) (n mask : Nat) : Dev :=
  let t := s.task n
  if t.st = .free then s else (s.setTask n { t with flags := t.flags &&& (2 ^ 32 - 1 - mask % 2 ^ 32) }).reeval [n]

/-- A posted item is dropped for want of a task, of room in the list, or of cells (R325). -/
def Dev.postDrop (s : Dev) (f : Fld) (n : Nat) : Dev := (s.count f 1).tskRated R.TSK_IRQ_POST_DROP 2 n

/-- POST_ITEM: an item joins a task's post list, and FLAG is set on it (R325). -/
def Dev.post (s : Dev) (n flag : Nat) (item : PostItem) : Dev :=
  let t := s.task n
  if t.st = .free then s.postDrop R.TSK_POST_DROPS_NO_TASK n
  else if t.posts.length ≥ t.postLimit then s.postDrop R.TSK_POST_DROPS_FULL n
  else if item.frame.isSome ∧ s.sharedFree ≤ 0 then s.postDrop R.TSK_POST_DROPS_BUFFER n
  else (s.setTask n { t with posts := t.posts ++ [item] }).setFlags n (2 ^ flag)

/-- Posted items of a task are dropped, each counted in NO_TASK (R331, R336). -/
def Dev.dropPosts (s : Dev) (n : Nat) : Dev :=
  let t := s.task n
  forEach t.posts (s.setTask n { t with posts := [] }) fun _ u => u.postDrop R.TSK_POST_DROPS_NO_TASK n

/-- A context saved: the on-die store keeps the latest 512 (R332). -/
def Dev.saveCtx (s : Dev) (n : Nat) (c : Ctx) : Dev :=
  let l := s.tsk.onDie.filter (· != n) ++ [n]
  let t := s.task n
  { s.setTask n { t with ctx := some c } with tsk := { (s.setTask n { t with ctx := some c }).tsk with onDie := l.drop (l.length - 512) } }

/-- A task's context given up. -/
def Dev.dropCtx (s : Dev) (n : Nat) : Dev :=
  let s1 := s.setTask n { s.task n with ctx := none, wait := none }
  { s1 with tsk := { s1.tsk with onDie := s1.tsk.onDie.filter (· != n) } }

/-- The context an engine holds. -/
def Eng.ctx (e : Nat) (x : Eng) : Ctx := { regs := x.regs, pc := x.pc, pkt := x.pkt, cluster := e / 16, latch := x.latch }

/-- Engine pitch p is in use: enabled by an image that declares it (R25). -/
def Dev.pitchUsed (s : Dev) (p : Nat) : Bool :=
  1 ≤ p && p ≤ 8 && (match s.decl p with | some d => d.used | none => false) && !bit s.img.fault p

/-- The scheduler dispatches (R335). -/
def Dev.tskRuns (s : Dev) : Bool := s.sup.mode != .bivouac && s.sup.mode != .config

/-- Clusters in which a READY task may run now (R324, R336). -/
def Dev.usable (s : Dev) (t : Task) : List Nat :=
  let l := match t.ctx with
    | some c => [c.cluster]
    | none => ((List.range 4).filter fun u => bit t.cmask u).map fun u => 4 * (t.pitch - 1) + u
  if !s.pitchUsed t.pitch || (s.draining t.pitch && t.ctx.isNone) then [] else l.filter fun c => !s.tsk.fenced.contains c

/-- Whether task a stands before task b among READY tasks (R323). -/
def readyBefore (a b : Nat × Task) : Bool :=
  let x := a.2
  let y := b.2
  decide (x.prio < y.prio) || (x.prio == y.prio && (decide (x.readyAt < y.readyAt) || (x.readyAt == y.readyAt && decide (a.1 < b.1))))

/-- A task put into its place. -/
def insertReady (a : Nat × Task) : List (Nat × Task) → List (Nat × Task)
  | [] => [a]
  | b :: t => if readyBefore a b then a :: b :: t else b :: insertReady a t

/-- READY tasks in the order in which they seek an engine (R323, R324). -/
def Dev.readyList (s : Dev) : List (Nat × Task) :=
  (s.tsk.tasks.filter fun t => t.2.st == .ready).foldl (fun l a => insertReady a l) []

/-- A task starts on an engine, or resumes there (R320, R324, R327). -/
def Dev.dispatchTo (s : Dev) (n e : Nat) : Dev :=
  let t := s.task n
  let restored := t.ctx.isSome
  let x : Eng := match t.ctx with
    | some c => { Eng.idle with st := .running, task := n, pc := c.pc, regs := c.regs, pkt := c.pkt, latch := c.latch }
    | none => { Eng.idle with st := .running, task := n, pc := t.entry }
  let t1 := if restored then { t with st := .running }
    else { t with st := .running, flags := t.flags &&& (2 ^ 32 - 1 - t.clear % 2 ^ 32), dep := t.depInit }
  let scratch := (s.eng e).scratch
  let s1 := (((s.setTask n t1).dropCtx n).dropRequests n).setEng e { x with scratch := scratch }
  let s2 : Dev := { s1 with tsk := { s1.tsk with wake := s1.tsk.wake.filter (· != e / 16) } }
  ((s2.countR R.TSK_DISPATCHES 1).traceTask .dispatch n e 0xFFFF restored).revote

/-- An engine is left: the task whose request it serves takes it (R327, R328), unless a task that became READY in the same step stands
before it (R333); otherwise the engine is idle. since is the ready instant of this step. -/
def Dev.leaveEngine (s : Dev) (e : Nat) (since : Nat := s.tsk.readySeq) : Dev :=
  let s1 := s.setEng e { Eng.idle with scratch := (s.eng e).scratch }
  match s1.tsk.requests.find? (·.1 == e) with
  | some (_, n, _) =>
    let s2 : Dev := { s1 with tsk := { s1.tsk with requests := s1.tsk.requests.filter (·.1 != e) } }
    let first := (s2.readyList.find? fun x =>
      (x.1 == n || decide (since ≤ x.2.readyAt)) && (s2.usable x.2).contains (e / 16)).map (·.1)
    if first = some n then s2.dispatchTo n e else s2.revote
  | none => s1.revote

/-- The task of an engine gives way with its context saved, and is READY again with the ready instant it had (R327, R328). -/
def Dev.giveWay (s : Dev) (e : Nat) : Dev :=
  let x := s.eng e
  let s1 := s.saveCtx x.task (x.ctx e)
  (s1.setTask x.task { s1.task x.task with st := .ready }).leaveEngine e

end Sys2Proof.Machine
end

