-- ==== Sys2Proof/Machine/Sched.lean ====
section
/-!
DEFINITION. Sys2Proof/Machine/Sched.lean: token buckets, fair queueing, gates, the launch stage and timed frames
(11_queues_shapers_gates.md R239 to R264; 12 R278, R280; 17 R379, R380).
-/
namespace Sys2Proof.Machine

/-- Bucket units in one byte (R245). -/
def byteUnits : Nat := 8000000 * 2 ^ 32

/-- The bucket brought to the present at a rate and a burst (R245). -/
def Dev.refill (s : Dev) (rate burst : Nat) (b : Bucket) : Bucket :=
  { tokens := min ((burst * byteUnits : Nat) : Int) (b.tokens + (rate * (s.tmb.run - b.last) : Nat)), last := s.tmb.run }

/-- A draw of L bytes from a bucket that holds tokens above zero. -/
def Bucket.draw (b : Bucket) (len : Int) : Bucket := { b with tokens := b.tokens - len * byteUnits }

/-- A policer that nothing was written to: MONITOR, BURST 0. -/
def Policer.reset : Policer := { rate := 0, burst := 0, monitor := true, bucket := { tokens := 0, last := 0 }, out := 0 }

/-- Policer n (R246). -/
def Dev.policer (s : Dev) (n : Nat) : Policer := sget .reset n s.sch.pols
def Dev.setPolicer (s : Dev) (n : Nat) (x : Policer) : Dev := { s with sch := { s.sch with pols := sset .reset n x s.sch.pols } }

/-- POLICER_CHECK: whether a frame of len bytes passes policer n (R245, R246). -/
def Dev.police (s : Dev) (n len : Nat) : Dev × Bool :=
  let p := s.policer n
  let b := s.refill p.rate p.burst p.bucket
  if b.tokens > 0 then (s.setPolicer n { p with bucket := b.draw len }, true)
  else (s.setPolicer n { p with bucket := b, out := sat 32 (p.out + 1) }, p.monitor)

/-- A bucket that was never used: full. -/
def Dev.fullBucket (s : Dev) (burst : Nat) : Bucket := { tokens := ((burst * byteUnits : Nat) : Int), last := s.tmb.run }

/-- The bucket of queue shaper n as it was left, and brought to the present. -/
def Dev.shaperHeld (s : Dev) (n : Nat) : Bucket := sget (s.fullBucket (s.get (R.SCH_SHn_CFG_BURST n))) n s.sch.shapers
def Dev.shaper (s : Dev) (n : Nat) : Bucket :=
  s.refill (s.rd (R.SCH_SHn_RATE n)).toNat (s.get (R.SCH_SHn_CFG_BURST n)) (s.shaperHeld n)
def Dev.setShaper (s : Dev) (n : Nat) (b : Bucket) : Dev :=
  { s with sch := { s.sch with shapers := sinsert n b s.sch.shapers } }

/-- The bucket of port shaper p as it was left, and brought to the present. -/
def Dev.portShaperHeld (s : Dev) (p : Nat) : Bucket := sget (s.fullBucket (s.get (R.SCH_PSp_CFG_BURST p))) p s.sch.portShapers
def Dev.portShaper (s : Dev) (p : Nat) : Bucket :=
  s.refill (s.rd (R.SCH_PSp_RATE p)).toNat (s.get (R.SCH_PSp_CFG_BURST p)) (s.portShaperHeld p)
def Dev.setPortShaper (s : Dev) (p : Nat) (b : Bucket) : Dev :=
  { s with sch := { s.sch with portShapers := sinsert p b s.sch.portShapers } }

/-- The enabled port shaper that covers a class of an egress (R244, R248). -/
def Dev.portShaperOf (s : Dev) (e c : Nat) : Option Nat :=
  (List.range 64).find? fun p => s.get (R.SCH_PSp_ASSIGN_EGRESS p) == e && bit (s.get (R.SCH_PSp_ASSIGN_CLASSES p)) c && s.is (R.SCH_PSp_CFG_EN p)

/-- A queue may enter its class launch FIFO as far as its shaper goes (R247). -/
def Dev.shaperIn (s : Dev) (q : Nat) : Bool := !s.is (R.SCH_SHn_CFG_EN q) || decide ((s.shaper q).tokens > 0)

/-- The finish tag by which a queue competes: none at weight 0 (R249). -/
def Dev.tagOf (s : Dev) (q : Nat) : Option Nat := if s.get (R.SCH_Qn_CFG_WEIGHT q) = 0 then none else sget none q s.sch.headTag

/-- After a write of its weight: a waiting head that had no tag takes one from F(q) (R249). -/
def Dev.retag (s : Dev) (q : Nat) : Dev := if (sget none q s.sch.headTag).isSome then s else s.tagHead q false

/-- The queue that fair queueing takes for a class of an egress (R249). -/
def Dev.wfqPick (s : Dev) (e c : Nat) : Option Nat :=
  let cand := (s.sch.queues.filter fun x => !x.2.isEmpty && s.get (R.SCH_Qn_CFG_EGRESS x.1) == e &&
    s.get (R.SCH_Qn_CFG_CLASS x.1) == c && s.shaperIn x.1).map (·.1)
  let better (best : Option Nat) (q : Nat) : Option Nat :=
    match best with
    | none => some q
    | some b => match s.tagOf b, s.tagOf q with
      | some x, some y => if tagLt y x then some q else some b
      | none, some _ => some q
      | _, none => some b
  cand.foldl better none

/-- CLASS_FIFO_FILL: one head frame moves into a class launch FIFO that has room (R247, R249). -/
def Dev.fifoFill (s : Dev) (e c : Nat) : Option Dev :=
  if (s.fifo e c).length ≥ 2 then none
  else match s.wfqPick e c with
    | none => none
    | some q =>
      match s.queue q with
      | [] => none
      | f :: rest =>
        let s1 := if s.is (R.SCH_SHn_CFG_EN q) then s.setShaper q ((s.shaper q).draw (s.lenL e f)) else s
        let s2 := match s1.tagOf q with
          | some t => { s1 with sch := { s1.sch with
              vtime := sset 0 (8 * e + c) t s1.sch.vtime, tag := sset 0 q t s1.sch.tag } }
          | none => s1
        some (((s2.setQueue q rest).tagHead q false).setFifo e c (s2.fifo e c ++ [f]))

/-- Every class launch FIFO of an egress filled as far as its queues go. -/
def Dev.fillAll (s : Dev) (e : Nat) : Dev :=
  forEach (List.range 8) s fun c t => iter (fun u => u.fifoFill e c) 2 t

/-- A frame of L bytes that starts now ends by an instant in 2^-32 ns, or before it, compared exactly (R250, R252). -/
def Dev.endsBy (s : Dev) (e : Nat) (len : Int) (limit : Nat) (strict : Bool) : Bool :=
  let r := s.egressRate e
  let need : Int := max 0 len * (8 * r.2 * 2 ^ 32 : Nat)
  let room : Int := (limit : Int) - s.tmb.time
  if strict then decide (need < room * r.1) else decide (need ≤ room * r.1)

/-- The start of a committed pending list, in ns (R254). -/
def Dev.pendStart (s : Dev) (e : Nat) : Option Nat :=
  if s.is (R.SCH_Ee_STATUS_PEND_COMMITTED e) then
    some ((s.rd64 (R.SCH_Ee_START_SEC_LO e) % 2 ^ 48) * 1000000000 + (s.rd (R.SCH_Ee_START_NS e)).toNat)
  else none

/-- L of the fit test of an ordinary frame (R252). A frame of E that starts cut through, because it is longer than the threshold of
CT_STEP (Table 17-2), is one whose length is not yet known: it takes the maximum of its egress. -/
def Dev.fitLen (s : Dev) (e : Nat) (f : QFrame) : Int :=
  let cut := 1 ≤ e && e ≤ 8 && decide (s.get (R.MAC_En_CFG_CT_STEP (e - 1)) < 5) &&
    decide (f.bytes.length + s.expansion f > 256 * 2 ^ s.get (R.MAC_En_CFG_CT_STEP (e - 1)))
  if cut then (s.get (R.MAC_En_CFG_MAX_FRAME (e - 1)) : Int) - 4 + s.overhead e else s.lenL e f

/-- A frame of class c of L bytes may start now as far as gates go: STRICT, or the gate is open and the frame fits (R250, R252). -/
def Dev.gateOk (s : Dev) (e c : Nat) (len : Int) : Bool :=
  if !bit (s.get (R.SCH_Ee_CFG_GATED e)) c then true
  else
    let t := s.nowNs
    let fits (lim : Option Nat) : Bool := match lim with | some x => s.endsBy e len (x * 2 ^ 32) false | none => true
    bit (s.gates e t) c && fits (s.gateCloses e c t) && fits (s.pendStart e)

/-- The first frame of a timed list that is not late. -/
def Dev.nextOnTime (s : Dev) (e : Nat) : Option QFrame := (s.timedOf e).find? fun f => !f.late

/-- An ordinary frame leaves room for the next pending timed frame (R250). -/
def Dev.clearOfTimed (s : Dev) (e : Nat) (f : QFrame) : Bool :=
  match s.nextOnTime e with
  | some g => match g.launch with
    | some t => s.endsBy e (s.fitLen e f) (s.startOf e t) true
    | none => true
  | none => true

/-- The frame being launched on an egress. -/
def Dev.launching (s : Dev) (e : Nat) : Option (QFrame × Nat) := sget none e s.sch.launching
def Dev.setLaunching (s : Dev) (e : Nat) (x : Option (QFrame × Nat)) : Dev :=
  { s with sch := { s.sch with launching := sset none e x s.sch.launching } }

/-- What no register shows of Ethernet port n. -/
def MacPort.reset : MacPort := { pauseWait := none, pauseEnd := none, pauseTx := none, rxRem := 0, txRem := 0, idleSince := 0, wakeUntil := 0 }
def Dev.macP (s : Dev) (n : Nat) : MacPort := sget .reset n s.mac
def Dev.setMacP (s : Dev) (n : Nat) (x : MacPort) : Dev := { s with mac := sset .reset n x s.mac }

/-- The launch stages run (R263). -/
def Dev.schRuns (s : Dev) : Bool := s.sup.mode.traffic || s.sup.mode == .test

/-- The egress can start a frame now: none in progress; on P the adjacency is UP (R411); and on E no pause, no PAUSE to send, no low-power idle, no switchover
gap; during BIVOUAC entry none starts (R250, R383 to R385, R446, R480). -/
def Dev.canStart (s : Dev) (e : Nat) : Bool :=
  s.schRuns && s.pwr.coord != .entering && !s.egressDown e && (s.launching e).isNone &&
    (if 1 ≤ e ∧ e ≤ 8 then
      let p := s.macP (e - 1)
      !s.sch.gap && p.pauseEnd.isNone && p.pauseWait.isNone && p.pauseTx.isNone && !s.is (R.MAC_En_STATUS_TX_LPI (e - 1)) &&
        decide (p.wakeUntil ≤ s.ticks)
     else if 9 ≤ e ∧ e ≤ 16 then s.is (R.ROP_Pn_STATUS_ADJ_UP (e - 9))
     else true)

/-- One's-complement sum of two 16-bit values. -/
def ocAdd (a b : Nat) : Nat := let x := a + b; x % 65536 + x / 65536

/-- Bytes of a list replaced from an offset on. -/
def overwrite (b : List Byte) (o : Nat) (v : List Byte) : List Byte := b.take o ++ v ++ b.drop (o + v.length)

/-- One-step: the stamp written into the frame, and its checksum adjusted (R278). -/
def oneStep (b : List Byte) (off csum : Nat) (t : Tod) : List Byte :=
  let b1 := overwrite b off t.beBytes
  if csum = 0 then b1
  else
    let word (x : List Byte) (k : Nat) : Nat := beAt x (2 * k) 2
    let words := (List.range ((b.length + 1) / 2)).filter fun k => 2 * k != csum && 2 * k + 1 != csum
    let diff := words.foldl (fun v k => if word b k = word b1 k then v else ocAdd (ocAdd v (65535 - word b k)) (word b1 k)) 0
    let c := 65535 - beAt b csum 2
    overwrite b1 csum (be 2 (65535 - ocAdd c diff))

/-- TX_STAMP: a launched frame of E that requests a stamp (R278, R279); the bytes as they leave. -/
def Dev.stampFrame (s : Dev) (e : Nat) (f : QFrame) : Dev × QFrame :=
  if !(1 ≤ e ∧ e ≤ 8) ∨ (f.tsMode ≠ 1 ∧ f.tsMode ≠ 2) then (s, f)
  else
    let t := Tod.ofNs (((s.tmb.time : Int) + s.txLat e).toNat / 2 ^ 32)
    let s1 := s.txStamp (e - 1) (f.tsMode == 2) t f.user
    if f.tsMode = 1 then (s1, f)
    else if f.tsOff + 10 > f.bytes.length ∨ (f.csumOff ≠ 0 ∧ f.csumOff + 2 > f.bytes.length) then (s1.count R.TMB_TXS_COUNTS_ONESTEP_BAD 1, f)
    else (s1, { f with bytes := oneStep f.bytes f.tsOff f.csumOff t })

/-- LINE_ENCRYPT: a frame on its way into the launch stage through CPH_U; none where it is dropped (R358, R359). -/
def Dev.cipherFrame (s : Dev) (e : Nat) (f : QFrame) : Dev × Option QFrame :=
  match f.cipher with
  | 1 =>
    let r := s.encryptFrame e f.slot f.gen ((Config.upFlow f.queue).toNat % 65535) f.bytes
    (r.1, r.2.map fun b => { f with bytes := b })
  | 2 =>
    let r := s.decryptFrame f.slot f.gen f.bytes
    (r.1, r.2.map fun b => { f with bytes := b })
  | _ => (s, some f)

/-- The cells of a frame are read when it leaves (R452): one that holds an uncorrectable word is discarded and counted (Table 21-2). -/
def Dev.takeCells (s : Dev) (f : QFrame) : Dev × Bool :=
  let r := s.memReads srcBlock f.words
  if r.2 then (r.1.countR R.MEM_UE_FRAMES 1, true) else (r.1, false)

/-- A frame's first bit is launched (R251): its cells are read, then cipher, oversize check, stamp. It occupies the egress until
FRAME_LAUNCH_DONE. -/
def Dev.launch (s0 : Dev) (e : Nat) (f : QFrame) : Dev :=
  let m := s0.takeCells f
  if m.2 then m.1
  else
  let s := m.1
  let r := s.cipherFrame e f
  match r.2 with
  | none => r.1
  | some g =>
    if 1 ≤ e ∧ e ≤ 8 ∧ g.bytes.length + 4 > r.1.get (R.MAC_En_CFG_MAX_FRAME (e - 1)) then r.1.count (R.MAC_En_TX_ERR_OVERSIZE (e - 1)) 1
    else
      let q := r.1.stampFrame e g
      let step := if 1 ≤ e ∧ e ≤ 8 then q.1.get (R.MAC_En_CFG_CT_STEP (e - 1)) else 5
      (q.1.setLaunching e (some (q.2, step))).countR (R.SCH_Ee_FRAMES e) 1

/-- The first late frame whose T has passed and which may start now (R258). -/
def Dev.lateReady (s : Dev) (e : Nat) : Option (Nat × QFrame) :=
  let l := s.timedOf e
  match l.findIdx? (fun f => f.late && (match f.launch with | some t => decide (s.startOf e t ≤ s.tmb.time) | none => true) &&
      s.gateOk e (s.get (R.SCH_Qn_CFG_CLASS f.queue)) (s.lenL e f)) with
  | some i => (l[i]?).map fun f => (i, f)
  | none => none

/-- A down egress with DOWN_DROP discards what reaches its launch stage or its timed list (R262). -/
def Dev.downDrop (s : Dev) (e : Nat) : Dev :=
  let n := (s.timedOf e).length + ((List.range 8).map fun c => (s.fifo e c).length).sum
  if n = 0 then s
  else (forEach (List.range 8) (s.setTimed e []) fun c t => t.setFifo e c []).countR (R.SCH_Ee_DOWN_DROPS e) n

/-- The class that the launch stage takes, from 7 down (R250). -/
def Dev.classPick (s : Dev) (e : Nat) : Option (Nat × QFrame) :=
  ((List.range 8).reverse.filterMap fun c => match s.fifo e c with
    | f :: _ =>
      let shaped := match s.portShaperOf e c with | some p => decide ((s.portShaper p).tokens > 0) | none => true
      if shaped && s.gateOk e c (s.fitLen e f) && (e == 17 || s.clearOfTimed e f) then some (c, f) else none
    | [] => none).head?

/-- A head frame leaves its class launch FIFO, drawing on its port shaper (R248). -/
def Dev.takeHead (s : Dev) (e c : Nat) (f : QFrame) : Dev :=
  let s1 := match s.portShaperOf e c with
    | some p => s.setPortShaper p ((s.portShaper p).draw (s.lenL e f))
    | none => s
  s1.setFifo e c ((s1.fifo e c).drop 1)

/-- DEEP_TO_FRONT_COPY: a queue's oldest deep cells are copied into the front buffer (R241). -/
def copyFrame (x : Nat × List QFrame) (f : QFrame) : Nat × List QFrame :=
  let n := min x.1 f.cells.deep
  (x.1 - n, x.2 ++ [{ f with cells := { f.cells with front := f.cells.front + n, deep := f.cells.deep - n } }])
def doDeepToFrontCopy (q : Fin 8192) (s : Dev) : Dev :=
  let l := s.queue q
  let front := cellSum (·.cells.front) (s.framesOf q)
  let head := s.get R.SCH_SPILL_CFG_HEAD
  if l.any (fun f => decide (f.cells.deep > 0)) ∧ 2 * front < head then
    let c := (l.foldl copyFrame (min (head - front) (frontCells - s.frontUsed), [])).2
    (s.setQueue q c).memFulls srcBlock ((c.filter fun f => !l.contains f).flatMap (·.words))
  else s

/-- CLASS_FIFO_FILL (R249). -/
def doClassFifoFill (e : Fin 18) (c : Fin 8) (s : Dev) : Dev :=
  if !s.schRuns then s
  else match s.fifoFill e c with
    | some t => t
    | none => s

/-- GATE_TICK: the entry in force ends, or the active list starts, and the gates take the next state (R251, R253, R264). -/
def doGateTick (e : Fin 18) (s : Dev) : Dev :=
  match s.gclPos e s.nowNs with
  | none =>
    let st := (sget default (e : Nat) s.sch.actStart).toNs
    if s.rd (R.SCH_Ee_ACT_CYCLE e) ≠ 0 ∧ s.nowNs < st then (s.untilNs st).gateNow e else s.gateNow e
  | some p =>
    let cycle := (s.rd (R.SCH_Ee_ACT_CYCLE e)).toNat
    let l := s.gclSegs e
    let next := match l.find? (fun x => decide (p < x.1)) with | some x => x.1 - p | none => cycle - p
    (s.untilNs (s.nowNs + next)).gateNow e

/-- An SCH_EVENT of a kind that is journalled each time, with its count in the last second (Table 11-5, R265). -/
def Dev.schEventEach (s : Dev) (code e : Nat) : Dev :=
  s.eventCounted 0x0B80 code e fun n => le 1 code ++ le 1 e ++ le 4 n ++ le 4 0

/-- A refused commit (R255). -/
def Dev.gclRefused (s : Dev) (e : Nat) : Dev := (s.raise R.SCH_IRQ_GCL_REFUSED).schEventEach 2 e

/-- The base time in the pending bank's registers. -/
def Dev.pendBase (s : Dev) (e : Nat) : Tod :=
  { sec := s.rd64 (R.SCH_Ee_BASE_SEC_LO e) % 2 ^ 48, ns := (s.rd (R.SCH_Ee_BASE_NS e)).toNat }

/-- The start that COMMIT computes (R254). -/
def gclStartFrom (base cycle lead : Nat) : Nat := if lead ≤ base then base else base + (lead - base + cycle - 1) / cycle * cycle

/-- The GCL records of a bank of egress e (Table 20-2): at most 250 entries each; those that run on have op 2. -/
def Dev.gclRecords (s : Dev) (e : Nat) (active : Bool) (op : Nat) : List (List Byte) :=
  let len := if active then sget 0 e s.sch.actLen else s.get (R.SCH_Ee_GCL_CTL_LEN e)
  let cyc := (s.rd (if active then R.SCH_Ee_ACT_CYCLE e else R.SCH_Ee_GCL_CYCLE e)).toNat
  let st : Tod := if active then sget default e s.sch.actStart
    else { sec := s.rd64 (R.SCH_Ee_START_SEC_LO e) % 2 ^ 48, ns := (s.rd (R.SCH_Ee_START_NS e)).toNat }
  let ent (i : Nat) : List Byte := be 4 (s.rd (if active then R.SCH_Ee_ACTi e i else R.SCH_Ee_GCLi e i)).toNat
  let n := (len - 1) / 250
  (List.range (n + 1)).map fun k =>
    be 1 e ++ be 1 (if op = 0 ∧ k < n then 2 else op) ++ be 2 len ++ be 4 cyc ++ be 6 st.sec ++ be 4 st.ns ++
      (if op = 1 then [] else (List.range (min 250 (len - 250 * k))).flatMap fun i => ent (250 * k + i))

/-- A gate list commit or abort mirrored (R435). -/
def Dev.mirrorGcl (s : Dev) (e : Nat) (active : Bool) (op : Nat) : Dev :=
  forEach ((s.gclRecords e active op).take (if op = 1 then 1 else 5)) s fun b t => t.mirror mGcl b

/-- The start of the pending list, or a refusal, on a standby twin too (R254, R255, R438). -/
def Dev.gclCommit (s : Dev) (e : Nat) : Dev :=
  let cycle := (s.rd (R.SCH_Ee_GCL_CYCLE e)).toNat
  if s.standby then (s.count R.TWN_COUNTS_REFUSED 1).gclRefused e
  else if cycle = 0 ∨ e = 0 ∨ e = 17 ∨ s.draining 11 then s.gclRefused e
  else
    let t := Tod.ofNs (gclStartFrom (s.pendBase e).toNs cycle (s.nowNs + s.get R.SCH_ADMIN_LEAD_US * 1000))
    (((s.wr (R.SCH_Ee_START_NS e) (BitVec.ofNat 32 t.ns)).wr64 (R.SCH_Ee_START_SEC_LO e) t.sec).set (R.SCH_Ee_STATUS_PEND_COMMITTED e)
      1).mirrorGcl e false 0

/-- GCL_COMMIT (R254). -/
def doGclCommit (e : Fin 18) (s : Dev) : Dev :=
  s.hostDo (R.SCH_Ee_GCL_CTL e) (s.rd (R.SCH_Ee_GCL_CTL e) ||| 0x1000) fun u => u.gclCommit e

/-- A committed list that has not started is withdrawn (R255). -/
def Dev.gclAbort (s : Dev) (e : Nat) : Dev :=
  if s.is (R.SCH_Ee_STATUS_PEND_COMMITTED e) then (s.set (R.SCH_Ee_STATUS_PEND_COMMITTED e) 0).mirrorGcl e false 1 else s

/-- GCL_ABORT (R255). -/
def doGclAbort (e : Fin 18) (s : Dev) : Dev :=
  s.hostDo (R.SCH_Ee_GCL_CTL e) (s.rd (R.SCH_Ee_GCL_CTL e) ||| 0x2000) fun u => u.gclAbort e

/-- Pending and active bank exchanged: entries, LEN, CYCLE and BASE (R254). -/
def Dev.gclSwap (s : Dev) (e : Nat) : Dev :=
  let s1 := forEach (List.range 1024) s fun i t =>
    let a := t.rd (R.SCH_Ee_ACTi e i)
    let b := t.rd (R.SCH_Ee_GCLi e i)
    if a = b then t else (t.wr (R.SCH_Ee_ACTi e i) b).wr (R.SCH_Ee_GCLi e i) a
  let la := sget 0 e s1.sch.actLen
  let lp := s1.get (R.SCH_Ee_GCL_CTL_LEN e)
  let ca := s1.rd (R.SCH_Ee_ACT_CYCLE e)
  let cp := s1.rd (R.SCH_Ee_GCL_CYCLE e)
  let s2 := ((s1.set (R.SCH_Ee_GCL_CTL_LEN e) la).wr (R.SCH_Ee_ACT_CYCLE e) cp).wr (R.SCH_Ee_GCL_CYCLE e) ca
  let b := sget default e s2.sch.actBase
  let s3 : Dev := { s2 with sch := { s2.sch with
    actLen := sset 0 e lp s2.sch.actLen, actBase := sset default e (s2.pendBase e) s2.sch.actBase } }
  ((s3.wr (R.SCH_Ee_BASE_NS e) (BitVec.ofNat 32 b.ns)).wr64 (R.SCH_Ee_BASE_SEC_LO e) b.sec).set (R.SCH_Ee_STATUS_BANK e)
    (1 - s3.get (R.SCH_Ee_STATUS_BANK e))

/-- GCL_START: at the start instant the banks exchange (R254). -/
def doGclStart (e : Fin 18) (s : Dev) : Dev :=
  match s.pendStart e with
  | none => s
  | some ns =>
    let t := (s.untilNs ns).gclSwap e
    let u : Dev := { t with sch := { t.sch with actStart := sset default (e : Nat) (Tod.ofNs ns) t.sch.actStart } }
    let v := u.set (R.SCH_Ee_STATUS_PEND_COMMITTED e) 0
    ((v.gateNow e).raise R.SCH_IRQ_GCL_STARTED).event 0x0B80 (le 1 1 ++ le 1 e ++ le 4 (ns / 1000000000) ++ le 4 (ns % 1000000000))

/-- The bit time, counted as 64 to a tick, at which a launch time falls. -/
def Dev.bitOf (s : Dev) (t : Tod) : Int := 64 * (s.ticks : Int) + (64 * ((t.units : Int) - s.tmb.time) + s.incr - 1) / max 1 s.incr

/-- The first bit time of a grant's burst. -/
def UpFrame.firstBit (u : UpFrame) (g : Grant) : Nat := 64 * u.ds + upBits + u.eqd + g.start

/-- A launch time falls within the burst of a grant (R257). -/
def UpFrame.covers (u : UpFrame) (g : Grant) (b : Int) : Bool := decide (u.firstBit g ≤ b) && decide (b < (u.firstBit g + g.length : Nat))

/-- A launch time falls within the burst of a grant that is still to be sent (R257). -/
def Dev.grantCovers (s : Dev) (t : Tod) : Bool :=
  s.lfr.up.any fun u => u.started && u.grants.any fun g => u.covers g (s.bitOf t)

/-- TIMED_LAUNCH: the launch instant of the next timed frame that is not late (R256, R258). -/
def doTimedLaunch (e : Fin 18) (s0 : Dev) : Dev :=
  match s0.nextOnTime e with
  | none => s0
  | some f =>
    let start := match f.launch with | some t => s0.startOf e t | none => 0
    let s := s0.elapse (if start ≤ s0.tmb.time then 0 else (start - s0.tmb.time + s0.incr - 1) / max 1 s0.incr)
    if !s.schRuns then s
    else if s.egressDown e ∧ s.is (R.SCH_Ee_CFG_DOWN_DROP e) then s.downDrop e
    else if (e : Nat) = 0 then
      (if f.launch.all s.grantCovers then s else s.makeLate e f (R.SCH_Ee_LATE_GATE e))
    else if s.passed e f then s.makeLate e f (R.SCH_Ee_LATE_GATE e)
    else if (s.launching e).isSome || s.ctlBusy e then s.makeLate e f (R.SCH_Ee_LATE2_OVERLAP e)
    else if s.canStart e && s.gateOk e (s.get (R.SCH_Qn_CFG_CLASS f.queue)) (s.lenL e f) then
      (s.setTimed e ((s.timedOf e).erase f)).launch e f
    else s.makeLate e f (R.SCH_Ee_LATE_GATE e)

/-- A write of SCH_Qn_RESV (R243). -/
def Dev.resvWrite (s : Dev) (q : Nat) (v : Word) : Dev :=
  let n := v.toNat % 2 ^ 24
  let total := s.get R.SCH_RESV_TOTAL_CELLS + n - s.get (R.SCH_Qn_RESV_CELLS q)
  if total > 4194304 ∧ n > s.get (R.SCH_Qn_RESV_CELLS q) then (s.raise R.SCH_IRQ_RESV_REFUSED).schEventEach 5 0xFF
  else (s.set (R.SCH_Qn_RESV_CELLS q) n).set R.SCH_RESV_TOTAL_CELLS total

/-- RESV_WRITE (R243). -/
def doResvWrite (q : Fin 8192) (v : Word) (s : Dev) : Dev := s.hostDo (R.SCH_Qn_RESV q) v fun u => u.resvWrite q v

/-- Refill at the old rate, then the new one (R245). -/
def Dev.tokenRate (s : Dev) (b : BucketRef) (v : Word) : Dev :=
  match b with
  | .policer =>
    let n := s.get R.SCH_POL_SEL_INDEX
    let p := s.policer n
    s.setPolicer n { p with bucket := s.refill p.rate p.burst p.bucket, rate := v.toNat }
  | .shaper n => (s.setShaper n (s.shaper n)).wr (R.SCH_SHn_RATE n) v
  | .portShaper p => (s.setPortShaper p (s.portShaper p)).wr (R.SCH_PSp_RATE p) v

/-- A bucket capped at a burst. -/
def Bucket.cap (b : Bucket) (burst : Nat) : Bucket := { b with tokens := min ((burst * byteUnits : Nat) : Int) b.tokens }

/-- The count held is capped at the new burst, with no refill (R245); MODE and EN stand in the same register. -/
def Dev.tokenBurst (s : Dev) (b : BucketRef) (v : Word) : Dev :=
  let burst := v.toNat % 2 ^ 24
  match b with
  | .policer =>
    let n := s.get R.SCH_POL_SEL_INDEX
    let p := s.policer n
    s.setPolicer n { p with bucket := p.bucket.cap burst, burst := burst, monitor := bit v.toNat 24 }
  | .shaper n => (s.setShaper n ((s.shaperHeld n).cap burst)).wr (R.SCH_SHn_CFG n) (v &&& 0x80FFFFFF#32)
  | .portShaper p => (s.setPortShaper p ((s.portShaperHeld p).cap burst)).wr (R.SCH_PSp_CFG p) (v &&& 0x80FFFFFF#32)

/-- The rate and the burst register of a bucket. -/
def BucketRef.rateReg : BucketRef → Nat
  | .policer => R.SCH_POL_RATE
  | .shaper n => R.SCH_SHn_RATE n
  | .portShaper p => R.SCH_PSp_RATE p
def BucketRef.burstReg : BucketRef → Nat
  | .policer => R.SCH_POL_CFG
  | .shaper n => R.SCH_SHn_CFG n
  | .portShaper p => R.SCH_PSp_CFG p

/-- TOKEN_RATE_WRITE (R245). -/
def doTokenRateWrite (b : BucketRef) (v : Word) (s : Dev) : Dev := s.hostDo b.rateReg v fun u => u.tokenRate b v

/-- TOKEN_BURST_WRITE (R245). -/
def doTokenBurstWrite (b : BucketRef) (v : Word) (s : Dev) : Dev := s.hostDo b.burstReg v fun u => u.tokenBurst b v

-- The commands of this file.

/-- DEEP_TO_FRONT_COPY (R241). -/
def execDeepToFrontCopy (q : Fin 8192) (s : State) : Host.Outcome State Fault Refusal := s.run (doDeepToFrontCopy q)

/-- CLASS_FIFO_FILL (R249). -/
def execClassFifoFill (e : Fin 18) (c : Fin 8) (s : State) : Host.Outcome State Fault Refusal := s.run (doClassFifoFill e c)

/-- GATE_TICK (R253). -/
def execGateTick (e : Fin 18) (s : State) : Host.Outcome State Fault Refusal := s.run (doGateTick e)

/-- GCL_COMMIT (R254). -/
def execGclCommit (e : Fin 18) (s : State) : Host.Outcome State Fault Refusal := s.run (doGclCommit e)

/-- GCL_ABORT (R255). -/
def execGclAbort (e : Fin 18) (s : State) : Host.Outcome State Fault Refusal := s.run (doGclAbort e)

/-- GCL_START (R254). -/
def execGclStart (e : Fin 18) (s : State) : Host.Outcome State Fault Refusal := s.run (doGclStart e)

/-- TIMED_LAUNCH (R256). -/
def execTimedLaunch (e : Fin 18) (s : State) : Host.Outcome State Fault Refusal := s.run (doTimedLaunch e)

/-- RESV_WRITE (R243). -/
def execResvWrite (q : Fin 8192) (v : Word) (s : State) : Host.Outcome State Fault Refusal := s.run (doResvWrite q v)

/-- TOKEN_RATE_WRITE (R245). -/
def execTokenRateWrite (b : BucketRef) (v : Word) (s : State) : Host.Outcome State Fault Refusal := s.run (doTokenRateWrite b v)

/-- TOKEN_BURST_WRITE (R245). -/
def execTokenBurstWrite (b : BucketRef) (v : Word) (s : State) : Host.Outcome State Fault Refusal := s.run (doTokenBurstWrite b v)

end Sys2Proof.Machine
end

