-- ==== Sys2Proof/Machine/Forward.lean ====
section
/-!
DEFINITION. Sys2Proof/Machine/Forward.lean: what becomes of a frame that an action, a task or the host sends: cipher check,
policer, rope, queue; posting to a task; launching on every egress; upstream bursts (10 R224; 11 R239, R250, R257 to R261;
06 R141 to R145; 07 R168; 14 R325; 16 R358, R359; 19 R406, R422 to R427).
-/
namespace Sys2Proof.Machine

/-- An action (Table 10-4). -/
structure Action where
  verdict : Nat
  queue : Nat
  policer : Nat
  polEn : Bool
  slot : Nat
  cipher : Nat
  destKind : Nat
  dest : Nat
  task : Nat
  flag : Nat
  notify : Bool
  counter : Nat
  cntEn : Bool
  user : Nat
  reserved : Nat
deriving DecidableEq, Repr

/-- The fields of 160 bits. -/
def Action.of (n : Nat) : Action :=
  { verdict := bits n 0 2, queue := bits n 2 13, policer := bits n 15 16, polEn := bit n 31, slot := bits n 32 12, cipher := bits n 44 2,
    destKind := bits n 46 2, dest := bits n 48 10, task := bits n 58 16, flag := bits n 74 5, notify := bit n 79,
    counter := bits n 80 16, cntEn := bit n 96, user := bits n 128 32, reserved := bits n 97 31 }

/-- A write of the action with a reserved bit set or a reserved encoding is refused (R224). -/
def Action.legal (a : Action) : Bool := a.reserved == 0 && a.verdict != 3 && a.cipher != 3 && a.destKind != 3

/-- How a frame is to be sent: the fields of a send descriptor (Tables 12-1, 13-5). -/
structure SendDesc where
  queue : Nat
  cipher : Nat
  slot : Nat
  gen : Nat
  destKind : Nat
  dest : Nat
  user : Nat
  launch : Option Tod
  tsMode : Nat
  tsOff : Nat
  csumOff : Nat
deriving DecidableEq, Repr

/-- A DATA frame that arrives for this module (R423). -/
def Dev.ropeDeliver (s : Dev) (port src : Nat) (b : List Byte) : Dev :=
  s.ingress true { Frame.first_ clsRope port b s.now with srcNode := src }

/-- A relayed line packet that arrives for this module (R426). -/
def Dev.relayDown (s : Dev) (flow : Nat) (enc : Bool) (b : List Byte) : Dev :=
  if s.relay then s.ingress false { Frame.first_ clsLine 2 b s.now with flow := flow, enc := enc }
  else s.count R.ROP_DROPS_RELAY 1

/-- A frame sent to a rope node (R424, R426): fr is the frame's first pass class and line fields. -/
def Dev.ropeSend (s : Dev) (d : SendDesc) (fr : Frame) (b : List Byte) (flight : Bool) : Dev :=
  if !s.claimed then s.countR R.ROP_NO_ROUTE 1
  else match s.ropeIndex d.queue with
    | none => s.count R.ROP_DROPS_QUEUE 1
    | some j =>
      let down := fr.first == clsLine
      if d.dest = s.nodeId then
        if down then s.relayDown fr.flow fr.enc b else s.ropeDeliver 0 s.nodeId b
      else
        let h := ropeHeader (if down then kRelayDown else kData) d.dest s.nodeId (s.get R.ROP_FAB_CFG_TTL) j
          (if down then fr.flow else 0) (down && fr.enc) 0 0
        s.ropeOut d.dest j h { (default : QFrame) with
          bytes := b, user := d.user, cipher := d.cipher, slot := d.slot, gen := d.gen, destKind := d.destKind, dest := d.dest,
          launch := d.launch, tsMode := d.tsMode, tsOff := d.tsOff, csumOff := d.csumOff, rx := fr.rx } flight

/-- Steps 2 and 3 of R239 for a frame with its send fields (R298, R356): a cipher use that does not match is dropped (R359). -/
def Dev.sendFrame (s : Dev) (d : SendDesc) (fr : Frame) (info b : List Byte) (flight : Bool := false) : Dev :=
  if s.cipherMismatch d.cipher d.slot (some (s.get (R.SCH_Qn_CFG_EGRESS d.queue))) then s.count R.CPH_U_DROPS_MISMATCH 1
  else if d.destKind = 2 then s.ropeSend d fr b flight
  else s.admitFrame (flight := flight) { (default : QFrame) with
    bytes := b, queue := d.queue, user := d.user, cipher := d.cipher, slot := d.slot, gen := d.gen, destKind := d.destKind,
    dest := d.dest, launch := d.launch, tsMode := d.tsMode, tsOff := d.tsOff, csumOff := d.csumOff, rx := fr.rx, info := info }

/-- The send fields of an action; slot and GEN are captured now (R367). -/
def Dev.descOf (s : Dev) (a : Action) : SendDesc :=
  { queue := a.queue, cipher := a.cipher, slot := a.slot, gen := (s.slot a.slot).gen, destKind := a.destKind, dest := a.dest,
    user := a.user, launch := none, tsMode := 0, tsOff := 0, csumOff := 0 }

/-- A frame posted to a task: decrypted first where its action says so (R325, R358). -/
def Dev.postFrame (s : Dev) (a : Action) (n : Nat) (key info : List Byte) (fr : Frame) : Dev :=
  if s.cipherMismatch a.cipher a.slot none then s.count R.CPH_U_DROPS_MISMATCH 1
  else
    let gen := (s.slot a.slot).gen
    let r := if a.cipher = 2 then s.decryptFrame a.slot gen fr.bytes else (s, some fr.bytes)
    match r.2 with
    | none => r.1
    | some b => r.1.post a.task a.flag
        { frame := some { fr with bytes := b }, key := key, info := info, action := n, gen := gen, cells := cellsFor b.length }

/-- A flow counter counts a frame (Table 10-4). -/
def Dev.flowCount (s : Dev) (a : Action) (len : Nat) : Dev :=
  if !a.cntEn then s
  else
    let c := sget (0, 0) a.counter s.thk.counters
    { s with thk := { s.thk with counters := sset (0, 0) a.counter (c.1 + 1, c.2 + len) s.thk.counters } }

/-- A frame takes an action (R218, R222, R224, R239): VERDICT 0b11 of an image action acts as DROP. key and info go with a post
or a notice. A standby twin's user output is silent by its down egresses (R85, R262). -/
def Dev.applyAction (s0 : Dev) (n : Nat) (key info : List Byte) (fr : Frame) : Dev :=
  let a := Action.of n
  let s := s0.flowCount a fr.bytes.length
  let noticed (t : Dev) : Dev :=
    if a.notify && (a.verdict == 0 || a.verdict == 1) then
      t.post a.task a.flag { frame := none, key := key, info := info, action := n, gen := 0, cells := 0 }
    else t
  match a.verdict with
  | 0 =>
    let s1 := noticed s
    if s1.cipherMismatch a.cipher a.slot (some (s1.get (R.SCH_Qn_CFG_EGRESS a.queue))) then s1.count R.CPH_U_DROPS_MISMATCH 1
    else
      let r := if a.polEn then s1.police a.policer fr.bytes.length else (s1, true)
      if r.2 then r.1.sendFrame (r.1.descOf a) fr info fr.bytes true else r.1
  | 2 => s.postFrame a n key info fr
  | _ => (noticed s).countR R.THK_DROPS 1

/-- What leaves an Ethernet port for a frame: padded to 60 bytes, FCS added (R379). -/
def ethBytes (b : List Byte) : List Byte :=
  let p := b ++ List.replicate (60 - b.length) 0
  p ++ fcs p

/-- A frame whose FCS, its last four bytes, is complemented where it is spoilt (R381). -/
def spoil (bad : Bool) (b : List Byte) : List Byte :=
  if bad then b.take (b.length - 4) ++ (b.drop (b.length - 4)).map (~~~ ·) else b

/-- Bytes sent counted in KiB with the remainder carried (MAC_En_TX_KIB). -/
def Dev.macSent (s : Dev) (n len : Nat) : Dev :=
  let p := s.macP n
  let x := p.txRem + len
  ((s.setMacP n { p with txRem := x % 1024, idleSince := s.ticks }).countR (R.MAC_En_TX_FRAMES n) 1).countR (R.MAC_En_TX_KIB n) (x / 1024)

/-- A pause value that waited starts its timer when the frame in progress has ended (R382). -/
def Dev.pauseStart (s : Dev) (n : Nat) : Dev :=
  let p := s.macP n
  match p.pauseWait with
  | none => s
  | some v =>
    let r := s.egressRate (n + 1)
    let s1 := s.setMacP n { p with pauseWait := none, pauseEnd := some (s.tmb.run + v * 512 * r.2 * 2 ^ 32 / r.1) }
    s1.set (R.MAC_En_STATUS_PAUSED n) 1

/-- A waiting PAUSE leaves as soon as no frame is in progress, whatever pauses or gates the port (R384): 64 bytes with FCS, and 20 of
preamble and gap. -/
def Dev.pausePump (s : Dev) (n : Nat) : Dev :=
  let p := s.macP n
  match p.pauseTx with
  | none => s
  | some v =>
    if (s.launching (n + 1)).isSome || s.egressDown (n + 1) || s.is (R.MAC_En_STATUS_TX_LPI n) || decide (s.ticks < p.wakeUntil) then s
    else
      let b := [0x01, 0x80, 0xC2, 0x00, 0x00, 0x01] ++ be 6 (s.rd64 (R.MAC_En_ADDR_LO n) % 2 ^ 48) ++ [0x88, 0x08, 0x00, 0x01] ++ be 2 v
      (((s.setMacP n { p with pauseTx := none, idleSince := s.ticks }).emit (.eth n (ethBytes b))).occupy (n + 1) 84).count
        (R.MAC_En_TX_ERR_PAUSE_TX n) 1

/-- FRAME_LAUNCH_DONE: the last bit of a frame leaves and its cells are freed (R251). Frames of H end in host memory (R355). A frame of
which a cell has become uncorrectable ends with the complement of its FCS (Table 21-2, R381). -/
def doFrameLaunchDone (e : Fin 18) (s : Dev) : Dev :=
  match s.launching e with
  | none => s
  | some (f, _) =>
    if (e : Nat) = 17 ∨ (e : Nat) = 0 then s
    else
      let m := (s.setLaunching e none).takeCells f
      let s1 := m.1
      if (e : Nat) ≤ 8 then
        let b := spoil m.2 (ethBytes f.bytes)
        ((((s1.emit (.eth (e - 1) b)).macSent (e - 1) b.length).pauseStart (e - 1)).pausePump (e - 1)).userLanesOut s
      else
        let h := match f.rope with | some h => h | none => ropeHeader kData 0 0 0 0 0 false 0 0
        (s1.emit (.rope (e - 9) (spoil m.2 (h ++ f.bytes ++ fcs (h ++ f.bytes))))).ctlFlush (e - 9)

/-- An upstream frame of a relay client goes to its server (R427). -/
def Dev.relayUp (s : Dev) (f : QFrame) : Dev :=
  let dst := s.get R.ROP_RELAY_STATUS_SERVER
  let j := s.get R.ROP_RELAY_CFG_QIDX
  s.ropeOut dst j (ropeHeader kRelayUp dst s.nodeId (s.get R.ROP_FAB_CFG_TTL) j 0 false 0 0)
    { f with launch := none, tsMode := 0, cells := default }

/-- Egress U of a relay client: strict priority, no grants (R427). -/
def Dev.relayLaunch (s : Dev) : Dev :=
  if s.egressDown 0 then s
  else match s.classPick 0 with
    | none => s
    | some (c, f) =>
      let m := (s.takeHead 0 c f).takeCells f
      if m.2 then m.1
      else
        let r := m.1.cipherFrame 0 f
        match r.2 with
        | some g => (r.1.countR (R.SCH_Ee_FRAMES 0) 1).relayUp g
        | none => r.1

/-- LAUNCH_SELECT: once no control or PAUSE frame occupies the egress, the launch stage takes a late timed frame, or the first eligible class, and starts its frame (R250, R258); a down
egress with DOWN_DROP discards (R262). U starts frames in bursts only (R260), but for a relay client. -/
def doLaunchSelect (e : Fin 18) (s0 : Dev) : Dev :=
  let s := (if 1 ≤ (e : Nat) ∧ (e : Nat) ≤ 8 then s0.pausePump (e - 1) else s0).freeCtl e
  if !s.schRuns then s
  else if s.egressDown e ∧ s.is (R.SCH_Ee_CFG_DOWN_DROP e) then s.downDrop e
  else if (e : Nat) = 0 then (if s.relay then s.relayLaunch else s)
  else if !s.canStart e then s
  else match s.lateReady e with
    | some (i, f) => (s.setTimed e ((s.timedOf e).eraseIdx i)).launch e f
    | none => match s.classPick e with
      | some (c, f) => (s.takeHead e c f).launch e f
      | none => s

/-- Bytes queued for an egress by class, timed frames included (R261). -/
def Dev.backlog (s : Dev) (e c : Nat) : Nat :=
  let mine (f : QFrame) : Bool := s.get (R.SCH_Qn_CFG_EGRESS f.queue) == e && s.get (R.SCH_Qn_CFG_CLASS f.queue) == c
  (((s.sch.queues.flatMap (·.2)).filter mine).map (·.bytes.length)).sum + ((s.fifo e c).map (·.bytes.length)).sum +
    (((s.timedOf e).filter mine).map (·.bytes.length)).sum

/-- BACKLOG_REPORT (R261). -/
def Dev.backlogReport (s : Dev) : List Byte :=
  (List.range 8).flatMap fun c => be 2 (sat 16 ((s.backlog 0 c + 1023) / 1024))

/-- A burst being filled: bytes of its information field, and bytes that remain. -/
structure Fill where
  dev : Dev
  info : List Byte
  room : Nat

/-- An item put into a burst: through CPH_U when its frame is to be encrypted (R143, R361); a frame the cipher drops leaves
nothing, nor does one with an uncorrectable cell (Table 21-2). -/
def Fill.item (x : Fill) (f : QFrame) : Fill :=
  let m := x.dev.takeCells f
  if m.2 then { x with dev := m.1 }
  else
  let r := m.1.cipherFrame 0 f
  match r.2 with
  | none => { x with dev := r.1 }
  | some g =>
    let it := encapHeader g.bytes.length ((Config.upFlow g.queue).toNat % 65535) true (f.cipher == 1) ++ g.bytes
    { dev := r.1.countR (R.SCH_Ee_FRAMES 0) 1, info := x.info ++ it, room := x.room - it.length }

/-- Bytes an item of a frame takes. -/
def Dev.itemBytes (s : Dev) (f : QFrame) : Nat := 8 + max (f.bytes.length + s.expansion f) (s.lenL 0 f).toNat

/-- The first information byte of a burst whose first bit is sent at or after a bit time: codewords hold 1,728 information bytes
and 2,560 parity bits (R128, R142, R257). -/
def UpFrame.byteAt (u : UpFrame) (g : Grant) (b : Int) : Nat :=
  let d := (b - (u.firstBit g + 64 * u.preLen + 128 : Nat)).toNat
  d / 16384 * 1728 + min 1728 ((d % 16384 + 7) / 8)

/-- One choice of egress U within a burst: a late timed frame that may go, then classes by strict priority; none that takes more than
room (R250, R258, R260). first is the burst's first bit time. -/
def Dev.pickUp (s : Dev) (room first : Nat) : Option (QFrame × Dev) :=
  let due (f : QFrame) : Bool := f.late && (match f.launch with | some w => decide (s.bitOf w ≤ first) | none => true)
  match (s.timedOf 0).find? (fun f => due f && decide (s.itemBytes f ≤ room)) with
  | some f => some (f, s.setTimed 0 ((s.timedOf 0).erase f))
  | none =>
    ((List.range 8).reverse.filterMap fun c => match s.fifo 0 c with
      | f :: _ =>
        let shaped := match s.portShaperOf 0 c with | some p => decide ((s.portShaper p).tokens > 0) | none => true
        if shaped && decide (s.itemBytes f ≤ room) then
          some (f, { s.takeHead 0 c f with sch := { (s.takeHead 0 c f).sch with stuck := serase c s.sch.stuck } }.fillAll 0)
        else none
      | [] => none).head?

/-- An idle item of n bytes (R135). -/
def idleItem (n : Nat) : List Byte := encapHeader (n - 8) 0xFFFF false false ++ List.replicate (n - 8) 0

/-- The next on-time frame of U whose T falls within the burst, and the byte at or after which it is placed (R257). -/
def Dev.burstTimed (s : Dev) (u : UpFrame) (g : Grant) : Option (QFrame × Nat) :=
  match s.nextOnTime 0 with
  | some f => match f.launch with
    | some t => if u.covers g (s.bitOf t) then some (f, u.byteAt g (s.bitOf t)) else none
    | none => none
  | none => none

/-- One item added to the burst (R257). The space before a timed frame takes ordinary items that end by its place, and one idle item
where none fits; at its place it is sent, or late by gate where it does not fit. -/
def Fill.step (u : UpFrame) (g : Grant) (x : Fill) : Option Fill :=
  let take (room : Nat) : Option Fill := (x.dev.pickUp room (u.firstBit g)).map fun r => { x with dev := r.2 }.item r.1
  match x.dev.burstTimed u g with
  | none => take x.room
  | some (f, at_) =>
    let pos := x.info.length
    let late : Fill := { x with dev := x.dev.makeLate 0 f (R.SCH_Ee_LATE_GATE 0) }
    if at_ ≤ pos then
      (if x.dev.itemBytes f ≤ x.room then some ({ x with dev := x.dev.setTimed 0 ((x.dev.timedOf 0).erase f) }.item f) else some late)
    else match take (min x.room (at_ - pos)) with
      | some y => some y
      | none =>
        let n := min 16391 (max 8 (at_ - pos))
        if n ≤ x.room then some { x with info := x.info ++ idleItem n, room := x.room - n } else some late

/-- Remaining capacity: idle items, as many as their LEN asks for, and bytes of 0 (R143). -/
def idleItems : Nat → Nat → List Byte
  | 0, room => List.replicate room 0
  | fuel + 1, room =>
    if room < 8 then List.replicate room 0
    else
      let n := min (room - 8) 16383
      idleItem (n + 8) ++ idleItems fuel (room - 8 - n)
def idleFill (room : Nat) : List Byte := idleItems (room / 16391 + 1) room

/-- A burst header (Table 6-11). -/
def burstHeader (tid id : Nat) (tdm lmm report dg : Bool) (k : Nat) : Nat :=
  let h := tid * 2 ^ 38 + id * 2 ^ 26 + b2n tdm * 2 ^ 25 + b2n lmm * 2 ^ 24 + b2n report * 2 ^ 23 + b2n dg * 2 ^ 22 + k % 65536
  h * 65536 + hec (be 6 h)

/-- The module runs on its hold-up: DG of the burst header (Table 6-11). -/
def Dev.dg (s : Dev) : Bool := !s.is R.PLT_SUPPLY_AC_OK

/-- A burst leaves the ACTIVE port from bit time start on (R110, R141): laser enable rises 256 bit times before its first bit and falls
after its last, at a tick that the port notes. -/
def Dev.emitBurst (s : Dev) (u : UpFrame) (start header d : Nat) (info : List Byte) : Dev :=
  match s.activePort with
  | none => s
  | some p =>
    let len := 64 * u.preLen + 128 + d
    let t := s.setLfeP p { s.lfeP p with burstEnd := u.ds + (upBits + u.eqd + start + len + 63) / 64 }
    t.emit (.burst p.ix u.k ((start : Int) - 256) start len (burstBits u.prePat u.preLen header d info))

/-- QUIET_WINDOW_ANSWER (R168): the window's answer; none where it is not answered. -/
def Dev.quietAnswer (s : Dev) (u : UpFrame) (g : Grant) : Dev × Bool :=
  let sn := 64 * u.preLen + 3072
  match s.lmmKey with
  | none => (s, false)
  | some key =>
    if g.length < sn then (s.count R.ACT_ACT_COUNTS_QW_SHORT 1, false)
    else
      let r := s.draw
      let d := Config.quietDraw r.1 % (min (s.get R.ACT_RAND_RAND_UNITS) ((g.length - sn) / 256) + 1)
      let port := match s.activePort with | some p => p.ix | none => 0
      let info := lmmBytes key 1023 0x81 0 (s.serialContent 0x3FF d port)
      let t := ((r.2.set R.ACT_RAND_LAST_DRAW d).count R.ACT_ACT_COUNTS_SN_SENT 1).countR R.ACT_LMM_TX 1
      (t.emitBurst u (g.start + 256 * d) (burstHeader 1023 0xFFF false false false s.dg u.k) 2944 info, true)

/-- The activation state permits the use of a grant (Table 7-4). -/
def Dev.grantAllowed (s : Dev) (g : Grant) : Bool :=
  match s.act.st with
  | .serial => g.id == 0xFFF
  | .ranging => g.id == s.act.rangeId
  | .registered | .resuming => g.id != 0xFFF
  | _ => false

/-- A granted burst: TDM slots, LMM slot, backlog report, items, idle (R141 to R143). Timed frames whose T fell in no burst before it
are late by gate (R257). -/
def Dev.sendBurst (s0 : Dev) (u : UpFrame) (g : Grant) : Dev :=
  let s := s0.lateWhere 0 fun f => match f.launch with | some t => decide (s0.bitOf t < u.firstBit g) | none => false
  let d := g.length - 64 * u.preLen - 128
  let cap := capacity d / 8
  let l := if g.lmm then s.upLmm else (s, [])
  let fixed := (if g.tdm then u.tdm.flatten else []) ++ l.2 ++ (if g.report then l.1.backlogReport else [])
  let x := iter (Fill.step u g) 220000 { dev := l.1.fillAll 0, info := fixed, room := cap - fixed.length }
  x.dev.emitBurst u g.start (burstHeader s.tid g.id g.tdm g.lmm g.report s.dg u.k) d (x.info ++ idleFill x.room)

/-- LAUNCH_POWER_STEP after a burst of more than 2,048 bits (R114): the measured power in 0.1 dBm, and whether the bias is at its
maximum. The size of a step of the bias is a free value. -/
def Dev.powerStep (s : Dev) (p : Port) (power : Nat) (biasMax : Bool) : Dev :=
  let i := p.ix
  let m := signed 16 power
  let target := (s.get (R.LFE_x_TX_POWER_TARGET i) : Int)
  let bias := s.get (R.LFE_x_LASER_BIAS i)
  let bias := if m < target then (if biasMax then bias else min 65535 (bias + Config.biasStep)) else if m > target then bias - Config.biasStep else bias
  let s1 := (s.set (R.LFE_x_TX_POWER_MEASURED i) power).set (R.LFE_x_LASER_BIAS i) bias
  let weak := m < 40
  let n := if weak then (s1.lfeP p).weak + 1 else 0
  let s2 := s1.setLfeP p { s1.lfeP p with weak := n }
  if !weak then s2.set (R.LFE_x_STATUS_TX_FAIL i) 0
  else if n ≥ 16 ∧ biasMax ∧ !s2.is (R.LFE_x_STATUS_TX_FAIL i) then (s2.set (R.LFE_x_STATUS_TX_FAIL i) 1).lfeRaise p 6
  else s2

/-- The last grant of an upstream frame with a burst is over: heads of U's classes that found no room in 16 consecutive such frames
are dropped (R260). A head that its port shaper holds has not wanted for room. -/
def Dev.stuckCheck (s : Dev) : Dev :=
  forEach (List.range 8) s fun c t =>
    let shaped := match t.portShaperOf 0 c with | some p => decide ((t.portShaper p).tokens > 0) | none => true
    if !shaped then t
    else if (t.fifo 0 c).isEmpty then { t with sch := { t.sch with stuck := serase c t.sch.stuck } }
    else
      let n := sget 0 c t.sch.stuck + 1
      if n ≥ 16 then
        ((({ t with sch := { t.sch with stuck := serase c t.sch.stuck } }.setFifo 0 c ((t.fifo 0 c).drop 1)).countR
          (R.SCH_Ee_STUCK 0) 1).raise R.SCH_IRQ_STUCK).schEvent 6 0
      else { t with sch := { t.sch with stuck := sset 0 c n t.sch.stuck } }

/-- The first upstream frame under way that has a grant left, with the frames before and after it. -/
def nextGrant : List UpFrame → Option (UpFrame × Grant)
  | [] => none
  | u :: t => if !u.started then none else match u.grants with
    | g :: _ => some (u, g)
    | [] => nextGrant t

/-- An upstream frame replaced by number. -/
def Dev.setUp (s : Dev) (u : UpFrame) : Dev :=
  { s with lfr := { s.lfr with up := s.lfr.up.map fun x => if x.k = u.k ∧ x.ds = u.ds then u else x } }

/-- What follows when an accepted grant is not sent: counts of R112 and R115, or UNUSED (R145, R202). -/
def Dev.grantLost (s : Dev) (u : UpFrame) (g : Grant) (blocked : Option Port) : Dev :=
  let s1 := match blocked with
    | some p => s.count (R.LFE_x_TX_COUNTS_INHIBITED p.ix) 1
    | none => s.count R.LFR_US_COUNTS_UNUSED 1
  if g.tdm then let r := u.lose s1; r.2.setUp r.1 else s1.setUp u

/-- UPSTREAM_BURST: the next accepted grant of the upstream frame under way is sent, or passed (R141 to R145, R168). power and
biasMax are what the launch-power loop finds after it (R114). -/
def doUpstreamBurst (power : BitVec 16) (biasMax : Bool) (s0 : Dev) : Dev :=
  match nextGrant s0.lfr.up with
  | none => s0
  | some (u0, g) =>
    let u := { u0 with grants := u0.grants.drop 1 }
    let s := s0.until_ (u.ds + (upBits + u.eqd + g.start) / 64)
    let t := match s.activePort with
      | none => s.grantLost u g none
      | some p =>
        if s.upBlocked || !s.grantAllowed g then s.grantLost u g none
        else if !s.txReady p then s.grantLost u g (some p)
        else
          let v := { u with tdmSent := u.tdmSent || g.tdm, sent := u.sent || g.id != 0xFFF }
          let s1 := if g.tdm && u.tdmSent then s.count R.TRB_US_COUNTS_DUP 1 else s
          let s2 := (s1.setUp v).set R.LFR_US_STATUS_PRE_LEN u.preLen |>.set R.LFR_US_STATUS_PRE_PAT u.prePat
          let r : Dev × Bool := if g.id = 0xFFF then s2.quietAnswer u g else (s2.sendBurst u g, true)
          if !r.2 then r.1.count R.LFR_US_COUNTS_UNUSED 1
          else
            let s3 := r.1.countR R.LFR_BURSTS 1
            let s3 : Dev := if g.id ≠ 0xFFF ∧ (s3.twn.gapDue || s3.twn.gapAt.isSome) then
              { s3 with twn := { s3.twn with gapBurst := true } } else s3
            let len := if g.id = 0xFFF then 64 * u.preLen + 3072 else g.length
            if len > 2048 then s3.powerStep p power.toNat biasMax else s3
    let sent := t.lfr.up.any fun x => x.k == u.k && x.ds == u.ds && x.sent
    if u.grants.isEmpty && sent then t.stuckCheck else t

-- The commands of this file.

/-- FRAME_LAUNCH_DONE (R251). -/
def execFrameLaunchDone (e : Fin 18) (s : State) : Host.Outcome State Fault Refusal := s.run (doFrameLaunchDone e)

/-- LAUNCH_SELECT (R250). -/
def execLaunchSelect (e : Fin 18) (s : State) : Host.Outcome State Fault Refusal := s.run (doLaunchSelect e)

/-- UPSTREAM_BURST (R141). -/
def execUpstreamBurst (power : BitVec 16) (biasMax : Bool) (s : State) : Host.Outcome State Fault Refusal := s.run (doUpstreamBurst power biasMax)

end Sys2Proof.Machine
end

