-- ==== Sys2Proof/Machine/Thicket.lean ====
section
/-!
DEFINITION. Sys2Proof/Machine/Thicket.lean: versions, the Thicket and the Hedge, operations, batches, commits, aging and the
retirement walker (10_parse_and_thicket.md R220 to R238; 20_twin_pairs.md R435, R438, R439).
-/
namespace Sys2Proof.Machine

/-- before(x, y) of versions (R231). -/
def vBefore (x y : Nat) : Bool := let d := (y + 65535 - x) % 65535; decide (1 ≤ d) && decide (d ≤ 32767)

/-- The version after v. -/
def vNext (v : Nat) : Nat := (v + 1) % 65535

/-- An entry of this birth and death is visible to version v (R231). -/
def vVisible (birth death v : Nat) : Bool := (birth == v || vBefore birth v) && (death == birth || vBefore v death)

/-- LIVE, and the pending version P. -/
def Dev.live (s : Dev) : Nat := s.get R.THK_VERSION_LIVE
def Dev.pendVer (s : Dev) : Nat := vNext s.live

/-- Every frame that may hold a version: at a parse unit, in the miss queue, posted, in a saved or a running packet context. -/
def Dev.versionFrames (s : Dev) : List Frame :=
  let ofItem (i : PostItem) : List Frame := match i.frame with | some f => [f] | none => []
  let ofCtx (x : PktCtx) : List Frame := match x.item with | some i => ofItem i | none => []
  s.prs.line ++ s.prs.user ++
    s.thk.missQ.flatMap (fun m => match m.who with | .frame f _ _ _ _ => [f] | .engine _ _ | .gone _ => []) ++
    s.tsk.tasks.flatMap (fun t => t.2.posts.flatMap ofItem ++ (match t.2.ctx with | some c => ofCtx c.pkt | none => [])) ++
    s.engs.flatMap fun e => ofCtx e.2.pkt

/-- The same function applied to each of them. -/
def Dev.mapFrames (g : Frame → Frame) (s : Dev) : Dev :=
  let item (i : PostItem) : PostItem := { i with frame := i.frame.map g }
  let ctx (x : PktCtx) : PktCtx := { x with item := x.item.map item }
  let who (w : Waiter) : Waiter := match w with | .frame f u t k h => .frame (g f) u t k h | .engine e r => .engine e r | .gone l => .gone l
  { s with
    prs := { line := s.prs.line.map g, user := s.prs.user.map g },
    thk := { s.thk with missQ := s.thk.missQ.map fun m => { m with who := who m.who } },
    tsk := { s.tsk with tasks := s.tsk.tasks.map fun t =>
      (t.1, { t.2 with posts := t.2.posts.map item, ctx := t.2.ctx.map fun c => { c with pkt := ctx c.pkt } }) },
    engs := s.engs.map fun e => (e.1, { e.2 with pkt := ctx e.2.pkt }) }

/-- A frame holds the version it took (R230, R234). -/
def Frame.holds (f : Frame) : Bool := f.version.isSome && !f.aged

/-- Holders of a version (R230, R234). -/
def Dev.holders (s : Dev) (v : Nat) : Nat := (s.versionFrames.filter fun f => f.version == some v && !f.aged).length

/-- PREV while it is live: it has holders (R232). -/
def Dev.prevVer (s : Dev) : Option Nat :=
  let p := s.get R.THK_VERSION_PREV
  if p ≠ 0xFFFF ∧ s.holders p ≠ 0 then some p else none

/-- A THK_EVENT (Table 10-7), with its THK_IRQ bit (R238). -/
def thkPayload (code live : Nat) (prev : Option Nat) (detail : Nat) : List Byte :=
  le 1 code ++ le 2 live ++ le 2 (prev.getD 0xFFFF) ++ le 4 detail
def Dev.thkEvent (s : Dev) (code detail : Nat) : Dev :=
  (s.raise ⟨R.THK_IRQ, code - 1, 1⟩).event 0x0A80 (thkPayload code s.live s.prevVer detail)

/-- Thicket slot n: slot n mod 4 of bucket n / 4. -/
def Dev.tslot (s : Dev) (n : Nat) : Option TEntry := sget none n s.thk.slots
def Dev.setTslot (s : Dev) (n : Nat) (e : Option TEntry) : Dev := { s with thk := { s.thk with slots := sset none n e s.thk.slots } }

/-- Hedge row n: rows 2i and 2i + 1 of index i. -/
def Dev.hrow (s : Dev) (n : Nat) : Option HRow := sget none n s.thk.rows
def Dev.setHrow (s : Dev) (n : Nat) (r : Option HRow) : Dev := { s with thk := { s.thk with rows := sset none n r s.thk.rows } }

/-- The candidate buckets of a key under template t (R221). -/
def Dev.buckets (s : Dev) (t : Nat) (key : List Byte) : Nat × Nat :=
  let k := key.take (s.get (R.THK_TMPLn_CFG_KLEN t))
  let n := 1024 * s.get (R.THK_TMPLn_CFG_SIZE t)
  let f := 1024 * s.get (R.THK_TMPLn_CFG_BASE t)
  let b1 := f + crc32c k % n
  let b2 := f + crc32 k % n
  (b1, if b2 = b1 then f + (b1 - f + 1) % n else b2)

/-- The slot whose entry holds a key and is visible to v. -/
def Dev.findEntry (s : Dev) (t : Nat) (key : List Byte) (v : Nat) : Option (Nat × TEntry) :=
  let b := s.buckets t key
  ((List.range 4).map (4 * b.1 + ·) ++ (List.range 4).map (4 * b.2 + ·)).findSome? fun n =>
    match s.tslot n with
    | some e => if e.key = key ∧ vVisible e.birth e.death v then some (n, e) else none
    | none => none

/-- A free slot of a bucket. -/
def Dev.freeSlot (s : Dev) (b : Nat) : Option Nat := ((List.range 4).map (4 * b + ·)).find? fun n => (s.tslot n).isNone

/-- Breadth-first search for a bucket with a free slot (R226): buckets to visit with the slots on the way to each, and buckets
seen. Answers those slots and the free one. -/
def Dev.cuckoo (s : Dev) : Nat → List (Nat × List Nat) → List Nat → Option (List Nat × Nat)
  | 0, _, _ => none
  | _ + 1, [], _ => none
  | fuel + 1, (b, path) :: rest, seen =>
    match s.freeSlot b with
    | some n => some (path, n)
    | none =>
      let r := (List.range 4).foldl (fun (x : List (Nat × List Nat) × List Nat) i =>
        match s.tslot (4 * b + i) with
        | some e =>
          let c := s.buckets e.template e.key
          let o := if c.1 = b then c.2 else c.1
          if x.2.contains o then x else (x.1 ++ [(o, path ++ [4 * b + i])], o :: x.2)
        | none => x) ([], seen)
      s.cuckoo fuel (rest ++ r.1) r.2

/-- Moves along a path, from its free end (R226, R227): each entry is written to its new slot, then its old slot is emptied. The
slot freed at the start is the answer. -/
def Dev.movePath (s : Dev) (path : List Nat) (free : Nat) : Dev × Nat :=
  path.foldr (fun n (x : Dev × Nat) => ((x.1.setTslot x.2 (x.1.tslot n)).setTslot n none, n)) (s, free)

/-- A new entry put into a slot (R226): the block, whether it was placed, and the moves made, which MOVES reports (R227). -/
def Dev.thkInsert (s : Dev) (e : TEntry) : Dev × Bool × Nat :=
  let b := s.buckets e.template e.key
  match s.cuckoo 262144 [(b.1, []), (b.2, [])] [b.1, b.2] with
  | some (path, free) => let r := s.movePath path free; ((r.1.setTslot r.2 (some e)).set R.THK_OP_RESULT_MOVES path.length, true, path.length)
  | none => ((s.countR R.THK_INSERT_FAIL 1).thkEvent 4 (e.template + 3 * 2 ^ 16), false, 0)

/-- Changes in the pending set: staged entries and rows, and those marked dead at P (THK_PENDING). -/
def Dev.pendCount (s : Dev) : Nat :=
  let p := s.pendVer
  (s.thk.slots.filter fun x => match x.2 with | some e => e.birth == p || e.death == p | none => false).length +
    (s.thk.rows.filter fun x => match x.2 with | some r => r.birth == p || r.death == p | none => false).length

/-- Result codes (Table 10-5). -/
inductive ThkRes where
  | ok | exists_ | notFound | full | template | busy | index | hedgeBusy | draining | key | action | pendingFull
deriving DecidableEq, Repr

/-- RESULT codes. -/
def ThkRes.code : ThkRes → Nat
  | .ok => 0
  | .exists_ => 1
  | .notFound => 2
  | .full => 3
  | .template => 4
  | .busy => 5
  | .index => 6
  | .hedgeBusy => 7
  | .draining => 8
  | .key => 9
  | .action => 10
  | .pendingFull => 11

/-- Template t is defined and has a Thicket key. -/
def Dev.keyed (s : Dev) (t : Nat) : Bool := decide (t < 64) && s.is (R.THK_TMPLn_CFG_DEFINED t) && s.get (R.THK_TMPLn_CFG_KLEN t) != 0

/-- Bytes of a key beyond KLEN are 0. -/
def Dev.keyOk (s : Dev) (t : Nat) (key : List Byte) : Bool := (key.drop (s.get (R.THK_TMPLn_CFG_KLEN t))).all (· == 0)

/-- The record of R229 that says an operation. -/
def thkRecord (op t : Nat) (key : List Byte) (act : Nat) : List Byte := padTo 40 key ++ le 20 act ++ le 1 t ++ le 1 op ++ [0, 0]

/-- INSERT, REPLACE and DELETE (Table 10-5) on the pending set, without a twin's refusal: the block, the result and the moves. -/
def Dev.thkChange (s : Dev) (op t : Nat) (key : List Byte) (act : Nat) : Dev × ThkRes × Nat :=
  let p := s.pendVer
  if s.draining 10 then (s, .draining, 0)
  else if op = 0 ∨ op > 3 then (s, .action, 0)
  else if !s.keyed t then (s, .template, 0)
  else if !s.keyOk t key then (s, .key, 0)
  else if op ≠ 3 ∧ !(Action.of act).legal then (s, .action, 0)
  else if s.pendCount ≥ 1048576 then (s, .pendingFull, 0)
  else
    let fresh : TEntry := { template := t, key := key, action := act, birth := p, death := p }
    let done (x : Dev) (moves : Nat) : Dev × ThkRes × Nat := (x.mirror mThkChange (thkRecord op t key act), .ok, moves)
    match s.findEntry t key p, op with
    | some _, 1 => (s, .exists_, 0)
    | none, 3 => (s, .notFound, 0)
    | some (n, e), 3 => if e.birth = p then done (s.setTslot n none) 0 else done (s.setTslot n (some { e with death := p })) 0
    | some (n, e), _ =>
      if e.birth = p then done (s.setTslot n (some { e with action := act })) 0
      else
        let r := (s.setTslot n (some { e with death := p })).thkInsert fresh
        if r.2.1 then done r.1 r.2.2 else ({ r.1 with thk := s.thk }, .full, 0)
    | none, _ =>
      let r := s.thkInsert fresh
      if r.2.1 then done r.1 r.2.2 else (r.1, .full, 0)

/-- The same for the host and the engines: BUSY on a standby twin (R438). -/
def Dev.thkOp (s : Dev) (op t : Nat) (key : List Byte) (act : Nat) : Dev × ThkRes × Nat :=
  if s.standby then (s.count R.TWN_COUNTS_REFUSED 1, .busy, 0) else s.thkChange op t key act

/-- The 20 bytes of an action in five words from address a. -/
def Dev.act5 (s : Dev) (a : Nat) : Nat := ((List.range 5).map fun w => (s.rd (a + 4 * w)).toNat * 2 ^ (32 * w)).sum

/-- The 40 bytes in ten words from address a. -/
def Dev.words10 (s : Dev) (a : Nat) : List Byte := (List.range 10).flatMap fun n => le 4 (s.rd (a + 4 * n)).toNat
def Dev.thkKey (s : Dev) : List Byte := s.words10 (R.THK_KEY 0)
def Dev.thkMask (s : Dev) : List Byte := s.words10 (R.THK_MASK 0)
def Dev.thkAct (s : Dev) : Nat := s.act5 (R.THK_ACT 0)

/-- The result of a THK_OP operation: a BUSY refusal leaves DONE as it was. -/
def Dev.thkResult (s : Dev) (r : ThkRes) : Dev :=
  let s1 := s.set R.THK_OP_RESULT_RESULT r.code
  if r = .busy then s1 else s1.set R.THK_OP_RESULT_DONE 1

/-- THK_OP with an operation on the Thicket. -/
def Dev.thkHost (s : Dev) (op t : Nat) : Dev :=
  let r := s.thkOp op t s.thkKey s.thkAct
  r.1.thkResult r.2.1

/-- The word of THK_OP. -/
def thkOpWord (op t : Nat) (view : Bool) (index : Nat) : Word := BitVec.ofNat 32 (op + 16 * t + 1024 * b2n view + 65536 * index)

/-- INSERT (R225, R226). -/
def doInsert (t : Fin 64) (s : Dev) : Dev := s.hostDo R.THK_OP (thkOpWord 1 t false 0) fun u => u.thkHost 1 t

/-- REPLACE (Table 10-5). -/
def doReplace (t : Fin 64) (s : Dev) : Dev := s.hostDo R.THK_OP (thkOpWord 2 t false 0) fun u => u.thkHost 2 t

/-- DELETE (Table 10-5). -/
def doDelete (t : Fin 64) (s : Dev) : Dev := s.hostDo R.THK_OP (thkOpWord 3 t false 0) fun u => u.thkHost 3 t

/-- LOOKUP: the entry visible to LIVE or to the pending set goes into the action registers (Table 10-5). -/
def Dev.thkLookup (s : Dev) (t : Nat) (view : Bool) : Dev :=
  let key := s.thkKey
  if s.standby then (s.count R.TWN_COUNTS_REFUSED 1).thkResult .busy
  else if s.draining 10 then s.thkResult .draining
  else if !s.keyed t then s.thkResult .template
  else if !s.keyOk t key then s.thkResult .key
  else match s.findEntry t key (if view then s.pendVer else s.live) with
    | none => s.thkResult .notFound
    | some (_, e) =>
      (forEach (List.range 5) s fun w u => u.wr (R.THK_ACT w) (BitVec.ofNat 32 (e.action / 2 ^ (32 * w)))).thkResult .ok
def doLookup (t : Fin 64) (view : Bool) (s : Dev) : Dev := s.hostDo R.THK_OP (thkOpWord 4 t view 0) fun u => u.thkLookup t view

/-- A row of the Hedge that is live: visible to LIVE and not marked dead. -/
def Dev.rowLive (s : Dev) (r : HRow) : Bool := r.death == r.birth && vVisible r.birth r.death s.live

/-- HEDGE record (Table 20-2). -/
def hedgeRecord (i op : Nat) (key mask : List Byte) (act cfg : Nat) : List Byte :=
  be 2 i ++ be 1 op ++ padTo 40 key ++ padTo 40 mask ++ le 20 act ++ be 4 cfg

/-- The row at an index marked dead at P where it is live. -/
def Dev.rowDie (s : Dev) (n : Nat) : Dev :=
  match s.hrow n with
  | some r => if s.rowLive r then s.setHrow n (some { r with death := s.pendVer }) else s
  | none => s

/-- HEDGE_WRITE at an index on the pending set (R228): the row, and the value of THK_HEDGE_CFG with it. -/
def Dev.hedgeWrite (s : Dev) (i : Nat) (key mask : List Byte) (act cfg : Nat) : Dev × ThkRes :=
  let p := s.pendVer
  let row : HRow := { index := i, tmpl := bits cfg 16 6, tmplMask := bits cfg 24 6, key := key, mask := mask, prio := cfg % 65536,
                      action := act, birth := p, death := p }
  let staged (n : Nat) : Bool := match s.hrow n with | some r => r.birth == p | none => false
  let done (x : Dev) : Dev × ThkRes := (x.mirror mHedge (hedgeRecord i 0 key mask act cfg), .ok)
  if s.draining 10 then (s, .draining)
  else if !(Action.of act).legal then (s, .action)
  else if s.pendCount ≥ 1048576 then (s, .pendingFull)
  else if staged (2 * i) then done (s.setHrow (2 * i) (some row))
  else if staged (2 * i + 1) then done (s.setHrow (2 * i + 1) (some row))
  else if (s.hrow (2 * i)).isNone then done ((s.rowDie (2 * i + 1)).setHrow (2 * i) (some row))
  else if (s.hrow (2 * i + 1)).isNone then done ((s.rowDie (2 * i)).setHrow (2 * i + 1) (some row))
  else (s, .hedgeBusy)

/-- HEDGE_CLEAR at an index on the pending set (R228). -/
def Dev.hedgeClear (s : Dev) (i : Nat) : Dev × ThkRes :=
  let one (n : Nat) (x : Dev) : Dev := match x.hrow n with
    | some r => if r.birth = x.pendVer then x.setHrow n none else x.rowDie n
    | none => x
  if s.draining 10 then (s, .draining)
  else if s.pendCount ≥ 1048576 then (s, .pendingFull)
  else (((one (2 * i + 1) (one (2 * i) s)).mirror mHedge (hedgeRecord i 1 [] [] 0 0)), .ok)

/-- No image has given pitch 10 its templates (R236). -/
def Dev.noThicket (s : Dev) : Bool := (s.decl 10).isNone

/-- HEDGE_WRITE (R228). -/
def Dev.hostHedge (s : Dev) (f : Dev → Dev × ThkRes) : Dev :=
  if s.standby then (s.count R.TWN_COUNTS_REFUSED 1).thkResult .busy
  else if s.noThicket then s.thkResult .template
  else let r := f s; r.1.thkResult r.2
def doHedgeWrite (i : Fin 4096) (s : Dev) : Dev :=
  s.hostDo R.THK_OP (thkOpWord 5 0 false i) fun u =>
    u.hostHedge fun x => x.hedgeWrite i x.thkKey x.thkMask x.thkAct (x.rd R.THK_HEDGE_CFG).toNat

/-- HEDGE_CLEAR (R228). -/
def doHedgeClear (i : Fin 4096) (s : Dev) : Dev := s.hostDo R.THK_OP (thkOpWord 6 0 false i) fun u => u.hostHedge fun x => x.hedgeClear i

/-- Records of a batch in order from index i (R229); none is a record whose read met a PCIe error. -/
def Dev.batchRun (s : Dev) : Nat → Nat → List (Option (BitVec 512)) → Dev × Nat × ThkRes
  | i, 0, _ => (s, i, .ok)
  | i, _ + 1, [] => (s, i, .action)
  | i, _ + 1, none :: _ => (s, i, .action)
  | i, n + 1, some w :: rest =>
    let b := le 64 w.toNat
    let r := s.thkOp (leAt b 61 1) (leAt b 60 1) (b.take 40) (leAt b 40 20)
    if r.2.1 = .ok then r.1.batchRun (i + 1) n rest else (r.1, i, r.2.1)

/-- THK_BATCH: COUNT records from host memory (R229, R438). -/
def doThkBatch (v : Word) (recs : List (Option (BitVec 512))) (s : Dev) : Dev :=
  s.hostDo R.THK_BATCH_CMD v fun u =>
    if u.standby then
      ((u.count R.TWN_COUNTS_REFUSED 1).set R.THK_BATCH_STATUS_DONE 0).set R.THK_BATCH_STATUS_RESULT ThkRes.busy.code
    else
      let r := u.batchRun 0 (v.toNat % 2 ^ 20) recs
      ((r.1.set R.THK_BATCH_STATUS_DONE r.2.1).set R.THK_BATCH_STATUS_RESULT r.2.2.code).thkEvent 3 (r.2.1 + r.2.2.code * 2 ^ 20)

/-- Why a commit is held: 1 DRAIN, 3 HOLDERS, 4 WALKER; an operation or a batch is one command, so OPERATION never holds (R232). -/
def Dev.commitReason (s : Dev) : Nat :=
  if s.draining 9 || s.draining 10 then 1
  else if s.prevVer.isSome then 3
  else if (s.pendVer + 65535 - s.get R.THK_WALK_W) % 65535 ≥ 16384 then 4
  else 0

/-- A commit completes: COMMITTED (R232). -/
def Dev.commitDone (s : Dev) (live : Nat) (prev : Nat) : Dev :=
  (s.raise R.THK_IRQ_COMMITTED).event 0x0A80 (thkPayload 1 live (if s.holders prev = 0 then none else some prev) 0)

/-- A commit takes place, and is mirrored; its completion may be withheld (R232, R435, R439). -/
def Dev.commitNow (s : Dev) : Dev :=
  let prev := s.live
  let live := s.pendVer
  let s1 := ((s.set R.THK_VERSION_PREV prev).set R.THK_VERSION_LIVE live).count R.THK_COMMITS_COMMITS 1
  let seq := (s1.rd R.TWN_MIRROR_TX).toNat
  let s2 := s1.mirror mThkCommit (be 2 live)
  if s.role = .active ∧ s.is R.TWN_CFG_EN ∧ s.is R.TWN_CFG_SYNC_COMMIT then
    { s2 with twn := { s2.twn with withheld := s2.twn.withheld ++
      [{ seq := seq, until_ := s.ticks + 10 * msTicks, live := live, prev := prev, engines := [] }] } }
  else s2.commitDone live prev

/-- A commit request by the host or an engine: applied, or held with its reason (R232). -/
def Dev.commitRequest (s : Dev) : Dev :=
  if s.noThicket || s.thk.commitHeld then s
  else
    let r := s.commitReason
    if r = 0 then s.commitNow
    else
      let s1 : Dev := { s with thk := { s.thk with commitHeld := true } }
      (((s1.set R.THK_COMMIT_STATUS_HELD 1).set R.THK_COMMIT_STATUS_REASON r).count R.THK_COMMITS_BUSY 1).thkEvent 2 r

/-- COMMIT_GO (R232); discarded on a standby twin (R438). -/
def doCommitGo (s : Dev) : Dev :=
  s.hostDo R.THK_COMMIT 1 fun u => if u.standby then u.count R.TWN_COUNTS_REFUSED 1 else u.commitRequest

/-- The held commit ends being held. -/
def Dev.dropHeldCommit (s : Dev) : Dev :=
  ({ s with thk := { s.thk with commitHeld := false } }.set R.THK_COMMIT_STATUS_HELD 0).set R.THK_COMMIT_STATUS_REASON 0

/-- COMMIT_RELEASE: the conditions that held a commit have ended (R232). -/
def doCommitRelease (s : Dev) : Dev :=
  if s.thk.commitHeld ∧ s.isUp domThk ∧ s.commitReason = 0 then s.dropHeldCommit.commitNow else s

/-- The pending set undone: what was born at P goes, what died at P lives (R233). -/
def Dev.dropPending (s : Dev) : Dev :=
  let p := s.pendVer
  { s with thk := { s.thk with
    slots := s.thk.slots.filterMap fun x => match x.2 with
      | some e => if e.birth = p then none else if e.death = p then some (x.1, some { e with death := e.birth }) else some x
      | none => some x,
    rows := s.thk.rows.filterMap fun x => match x.2 with
      | some r => if r.birth = p then none else if r.death = p then some (x.1, some { r with death := r.birth }) else some x
      | none => some x } }

/-- THK_ABORT (R233); refused on a standby twin, whose pending set is the mirror's (R438). -/
def doThkAbort (s : Dev) : Dev :=
  s.hostDo R.THK_COMMIT 2 fun u =>
    if u.standby then u.count R.TWN_COUNTS_REFUSED 1
    else (if u.thk.commitHeld then u.dropPending.dropHeldCommit else u.dropPending).thkEvent 6 0

/-- HOLDER_AGED: the oldest holders reach THK_AGE_LIMIT and stop holding (R234). -/
def doHolderAged (s : Dev) : Dev :=
  let lim := s.get R.THK_AGE_LIMIT_US * usTicks
  match ((s.versionFrames.filter fun f => f.version.isSome && !f.aged).map (·.since)).min? with
  | none => s
  | some t =>
    if lim = 0 then s
    else
      let s1 := s.until_ (t + lim)
      let old (f : Frame) : Bool := f.version.isSome && !f.aged && decide (f.since + lim ≤ s1.ticks)
      let n := (s1.versionFrames.filter old).length
      (s1.mapFrames fun f => if old f then { f with aged := true } else f).count R.THK_AGED_AGED n

/-- The version of a frame at a lookup (R230, R234): LIVE at admission, and again once its age has ended. -/
def Dev.takeVersion (s : Dev) (f : Frame) : Dev × Frame :=
  match f.version with
  | none => (s, { f with version := some s.live, since := s.ticks, aged := false })
  | some _ =>
    if f.aged then (s.count R.THK_AGED_REEVAL 1, { f with version := some s.live, since := s.ticks, aged := false }) else (s, f)

/-- The oldest version of the walker (R235). -/
def Dev.oldestVer (s : Dev) : Nat := s.prevVer.getD s.live

/-- What the walker makes of a birth and a death: none empties the place (R235). -/
def walkEntry (oldest birth death : Nat) : Option (Nat × Nat) :=
  if death ≠ birth ∧ (death = oldest ∨ vBefore death oldest) then none
  else if vBefore birth oldest then some (oldest, if death = birth then oldest else death)
  else some (birth, death)

/-- WALKER_VISIT: the next entry or row that is not empty, or the end of the pass (R235). -/
def doWalkerVisit (s : Dev) : Dev :=
  if !s.isUp domThk || s.noThicket then s
  else
    let o := s.oldestVer
    match s.thk.slots.find? (fun x => decide (s.thk.walkPos ≤ x.1)) with
    | some (n, some e) =>
      ({ s with thk := { s.thk with walkPos := n + 1 } }).setTslot n
        ((walkEntry o e.birth e.death).map fun (x : Nat × Nat) => { e with birth := x.1, death := x.2 })
    | some (n, none) => { s with thk := { s.thk with walkPos := n + 1 } }
    | none => match s.thk.rows.find? (fun x => decide (s.thk.walkPos ≤ 1048576 + x.1)) with
      | some (n, some r) =>
        ({ s with thk := { s.thk with walkPos := 1048576 + n + 1 } }).setHrow n
          ((walkEntry o r.birth r.death).map fun (x : Nat × Nat) => { r with birth := x.1, death := x.2 })
      | some (n, none) => { s with thk := { s.thk with walkPos := 1048576 + n + 1 } }
      | none =>
        let s1 := ((s.set R.THK_WALK_W s.thk.walkLive).set R.THK_WALK_PASSES (s.get R.THK_WALK_PASSES + 1)).set R.THK_STATUS_WALK_PASS
          (1 - s.get R.THK_STATUS_WALK_PASS)
        { s1 with thk := { s1.thk with walkPos := 0, walkLive := s.live } }

-- The commands of this file.

/-- INSERT (R226). -/
def execInsert (t : Fin 64) (s : State) : Host.Outcome State Fault Refusal := s.run (doInsert t)

/-- REPLACE (R225). -/
def execReplace (t : Fin 64) (s : State) : Host.Outcome State Fault Refusal := s.run (doReplace t)

/-- DELETE (R225). -/
def execDelete (t : Fin 64) (s : State) : Host.Outcome State Fault Refusal := s.run (doDelete t)

/-- LOOKUP (R225). -/
def execLookup (t : Fin 64) (view : Bool) (s : State) : Host.Outcome State Fault Refusal := s.run (doLookup t view)

/-- HEDGE_WRITE (R228). -/
def execHedgeWrite (i : Fin 4096) (s : State) : Host.Outcome State Fault Refusal := s.run (doHedgeWrite i)

/-- HEDGE_CLEAR (R228). -/
def execHedgeClear (i : Fin 4096) (s : State) : Host.Outcome State Fault Refusal := s.run (doHedgeClear i)

/-- THK_BATCH (R229). -/
def execThkBatch (v : Word) (recs : List (Option (BitVec 512))) (s : State) : Host.Outcome State Fault Refusal := s.run (doThkBatch v recs)

/-- COMMIT_GO (R232). -/
def execCommitGo (s : State) : Host.Outcome State Fault Refusal := s.run (doCommitGo)

/-- COMMIT_RELEASE (R232). -/
def execCommitRelease (s : State) : Host.Outcome State Fault Refusal := s.run (doCommitRelease)

/-- THK_ABORT (R233). -/
def execThkAbort (s : State) : Host.Outcome State Fault Refusal := s.run (doThkAbort)

/-- HOLDER_AGED (R234). -/
def execHolderAged (s : State) : Host.Outcome State Fault Refusal := s.run (doHolderAged)

/-- WALKER_VISIT (R235). -/
def execWalkerVisit (s : State) : Host.Outcome State Fault Refusal := s.run (doWalkerVisit)

end Sys2Proof.Machine
end

