-- ==== Sys2Proof/Machine/Parse.lean ====
section
/-!
DEFINITION. Sys2Proof/Machine/Parse.lean: the parse units and the lookup chain (10_parse_and_thicket.md R212 to R224, R230, R234).
-/
namespace Sys2Proof.Machine

/-- The metadata block of a frame (Table 10-2). -/
def Frame.metadata (f : Frame) : List Byte :=
  be 1 f.cls ++ be 1 f.port ++ be 2 f.bytes.length ++ be 2 (if f.cls = clsLine then f.flow else 0) ++ be 1 (b2n f.enc + 2 * b2n f.second) ++ be 1 f.first ++
    be 2 (if f.cls = clsRope then f.srcNode else 0x3FF) ++ List.replicate 22 0

/-- The three selectors of a frame (R215): one that is absent or not within the frame reads 0. -/
def Dev.selectors (s : Dev) (f : Frame) : List Nat :=
  let at_ (o : Nat) : Nat := if o + 2 ≤ f.bytes.length then beAt f.bytes o 2 else 0
  [at_ 12,
   if s.is (R.PRS_SEL_OFF_SEL1_ON f.cls) then at_ (s.get (R.PRS_SEL_OFF_SEL1 f.cls)) else 0,
   if s.is (R.PRS_SEL_OFF_SEL2_ON f.cls) then at_ (s.get (R.PRS_SEL_OFF_SEL2 f.cls)) else 0]

/-- A selection entry matches a class and selectors. -/
def SelEntry.hit (x : SelEntry) (cls : Nat) (sel : List Nat) : Bool :=
  (cls ^^^ x.cls) &&& x.clsMask == 0 &&
    (List.range 3).all fun i => (sel.getD i 0 ^^^ x.sel.getD i 0) &&& x.selMask.getD i 0 == 0

/-- The profile of a frame: that of the first entry that matches, none where the frame is unparsed (R215). -/
def Dev.profileOf (s : Dev) (user : Bool) (f : Frame) : Option Profile :=
  match s.decl 9 with
  | none => none
  | some d =>
    let sel := s.selectors f
    (if user then d.selUser else d.selLine).findSome? fun x =>
      if x.hit f.cls sel then d.profiles.find? (·.number == x.profile) else none

/-- An extraction, none where it is malformed (R213, R216). -/
def Frame.extract (f : Frame) (x : Extraction) : Option (List Byte) :=
  if x.fromMeta then some (slice f.metadata x.off x.len)
  else if x.off + x.len ≤ f.bytes.length then some (slice f.bytes x.off x.len) else none

/-- The value of an extraction's last two bytes, or of its one byte. -/
def tailValue (b : List Byte) : Nat := ofBe (b.drop (b.length - 2))

/-- A check holds or is not evaluated (R217); an extraction the profile lacks has value 0. -/
def Check.passes (c : Check) (len : Nat) (vals : List (Option (List Byte))) : Bool :=
  let v (i : Nat) : Option Nat := match vals[i]? with
    | some (some b) => some (tailValue b)
    | some none => none
    | none => some 0
  let right : Option Int := match c.b with
    | .length => some len
    | .field j => (v j).map fun n => (n : Int)
    | .zero => some 0
  match v c.i, right with
  | some x, some b =>
    let a := signed 32 (unsigned 32 ((((x &&& c.mask) * c.mul : Nat) : Int) + c.add))
    (match c.op with | .eq => decide (a = b) | .le => decide (a ≤ b) | .ge => decide (a ≥ b))
  | _, _ => true

/-- A key built of pieces (R220): bytes of a piece beyond its extraction are 0. -/
def keyOfPieces (ps : List Piece) (vals : List (Option (List Byte))) : List Byte :=
  padTo 40 (ps.flatMap fun p => slice ((vals.getD p.field none).getD []) p.first p.count)

/-- The Hedge row that a frame of a version takes (R222). -/
def Dev.hedgeHit (s : Dev) (t : Nat) (hkey : List Byte) (v : Nat) : Option HRow :=
  let ok (r : HRow) : Bool := vVisible r.birth r.death v && (t ^^^ r.tmpl) &&& r.tmplMask == 0 &&
    (List.range 40).all fun i => (hkey.getD i 0 ^^^ r.key.getD i 0) &&& r.mask.getD i 0 == 0
  let cand := s.thk.rows.filterMap fun x => match x.2 with | some r => if ok r then some r else none | none => none
  cand.foldl (fun (b : Option HRow) r => match b with
    | some q => if r.prio < q.prio ∨ (r.prio = q.prio ∧ r.index < q.index) then some r else b
    | none => some r) none

/-- The lookup chain on a table whose buckets are at hand (R222): the action and its source (0 Thicket, 1 Hedge, 2 default). -/
def Dev.resolve (s : Dev) (t : Nat) (key hkey : List Byte) (v : Nat) : Dev × Nat × Nat :=
  match (if s.get (R.THK_TMPLn_CFG_KLEN t) = 0 then none else s.findEntry t key v) with
  | some (_, e) => (s.countR R.THK_HITS 1, e.action, 0)
  | none => match (if s.is (R.THK_TMPLn_CFG_HEDGE_EN t) then s.hedgeHit t hkey v else none) with
    | some r => (s.countR R.THK_HEDGE_HITS 1, r.action, 1)
    | none => (s.countR R.THK_DEFAULTS 1, s.act5 (R.THK_TMPLn_DEFAULT_w t 0), 2)

/-- The candidate buckets of a lookup that are cached are read from the cache (R223, R452). -/
def Dev.bucketsRead (s : Dev) (t : Nat) (key : List Byte) : Dev :=
  if s.get (R.THK_TMPLn_CFG_KLEN t) = 0 then s
  else
    let b := s.buckets t key
    forEach ([b.1, b.2].filter fun x => s.thk.cached.contains x) s fun x u => (u.memReads srcBlock (Config.bucketWords x)).1

/-- Buckets of a lookup that are not at hand: not cached, or in a bank that BIST holds (R223), or cached with an uncorrectable word
(Table 21-2). -/
def Dev.missing (s : Dev) (t : Nat) (key : List Byte) : List Nat :=
  if s.get (R.THK_TMPLn_CFG_KLEN t) = 0 then []
  else
    let b := s.buckets t key
    [b.1, b.2].filter fun x => !s.thk.cached.contains x || s.thk.heldBanks.contains (x % 16) || (Config.bucketWords x).any s.wordBad

/-- A miss-spill (R223, R238). -/
def Dev.spill (s : Dev) : Dev :=
  ((s.countR R.THK_MISS_SPILL 1).raise R.THK_IRQ_MISS_SPILL).eventRated 0x0A80 5 0 fun n => thkPayload 5 s.live s.prevVer n

/-- A lookup joins the miss queue. -/
def Dev.enqueueMiss (s : Dev) (b : List Nat) (w : Waiter) : Dev :=
  let s1 : Dev := { s with thk := { s.thk with missQ := s.thk.missQ ++ [{ buckets := b, who := w }] } }
  (s1.countR R.THK_CACHE_MISSES 1).set R.THK_MISSQ_PEAK (max (s.get R.THK_MISSQ_PEAK) s1.thk.missQ.length)

/-- A lookup of an engine starts: it is counted, and joins the miss queue where a bucket is not at hand (R223, R302). -/
def Dev.startLookup (s : Dev) (e rd : Nat) (l : EngLookup) : Dev × EngLookup :=
  if !s.isUp domThk || !s.is (R.THK_TMPLn_CFG_DEFINED l.template) || s.draining 10 then (s, { l with stage := if s.isUp domThk then 1 else 0 })
  else
    let k := s.get (R.THK_TMPLn_CFG_KLEN l.template)
    let s1 := (s.countR R.THK_LOOKUPS 1).bucketsRead l.template (padTo 40 (l.key.take k))
    match s1.missing l.template (padTo 40 (l.key.take k)) with
    | [] => (s1, { l with stage := 1 })
    | b => if s1.thk.missQ.length ≥ 4096 then (s1.spill, { l with stage := 2 }) else (s1.enqueueMiss b (.engine e rd), { l with stage := 1 })

/-- A lookup of an engine completes and its result goes nowhere: its counts are all that shows (R302, R313). -/
def Dev.lookupLost (s : Dev) (l : EngLookup) : Dev :=
  let key := padTo 40 (l.key.take (s.get (R.THK_TMPLn_CFG_KLEN l.template)))
  if !s.is (R.THK_TMPLn_CFG_DEFINED l.template) || (l.view && !s.keyed l.template) || l.stage == 2 || s.draining 10 then s
  else if l.view then (if (s.findEntry l.template key s.pendVer).isSome then s.countR R.THK_HITS 1 else s)
  else (s.resolve l.template key l.key l.version).1

/-- A frame that has its keys is classified (R222 to R224). -/
def Dev.classify (s0 : Dev) (f : Frame) (user : Bool) (t : Nat) (key hkey : List Byte) : Dev :=
  let s := (s0.countR R.THK_LOOKUPS 1).bucketsRead t key
  match s.missing t key with
  | [] =>
    let r := s.resolve t key hkey (f.version.getD s.live)
    r.1.applyAction r.2.1 key f.metadata f
  | b =>
    if s.thk.missQ.length ≥ 4096 then s.spill.applyAction (s.act5 (R.THK_TMPLn_SPILL_w t 0)) key f.metadata f
    else s.enqueueMiss b (.frame f user t key hkey)

/-- The HIF takes a frame of port n ahead of the selection table (R72): the offset of its payload after the EtherType. -/
def Dev.inBandAt (s : Dev) (n : Nat) (b : List Byte) : Option Nat :=
  if !s.is R.HIF_CTL_IB_EN || !bit (s.get R.HIF_IB_CFG_PORTS) n then none
  else
    let vlan := s.get R.HIF_IB_CFG_VLAN
    if vlan = 0 then (if beAt b 12 2 = 0x88B5 then some 14 else none)
    else if beAt b 12 2 = 0x8100 ∧ beAt b 14 2 % 4096 = vlan ∧ beAt b 16 2 = 0x88B5 then some 18
    else none

/-- An in-band frame authenticated, its messages taken and its source made the peer; or discarded silently (R73, R74). -/
def Dev.ibReceive (s : Dev) (n : Nat) (b : List Byte) (o : Nat) : Dev :=
  let fail := s.countR R.HIF_IB_AUTH_FAIL 1
  let count := leAt b (o + 2) 1
  match s.cmacKey (s.get R.HIF_MGMT_KEY_SLOT) with
  | none => fail
  | some k =>
    let body := slice b o (4 + 64 * count)
    if leAt b o 1 ≠ 1 ∨ leAt b (o + 1) 1 ≠ 1 ∨ count = 0 ∨ count > 16 ∨ b.length < o + 4 + 64 * count + 16 ∨
        slice b (o + 4 + 64 * count) 16 ≠ padTo 16 (aesCmac k body) then fail
    else
      let mac := beAt b 6 6
      let s1 := (((s.wr R.HIF_IB_PEER_LO (BitVec.ofNat 32 mac)).set R.HIF_IB_PEER_HI_MAC (mac / 2 ^ 32)).set R.HIF_IB_PEER_HI_PORT n).set
        R.HIF_IB_PEER_HI_VLAN (if o = 18 then s.get R.HIF_IB_CFG_VLAN else 0)
      let s2 := { s1 with hif := { s1.hif with peerTci := if o = 18 then beAt b 14 2 else 0 } }.set R.HIF_IB_PEER_HI_VALID 1
      let msgs := (List.range count).map fun i => HMsg.ofBytes (slice b (o + 4 + 64 * i) 64)
      (s2.setPath .inBand { s2.hif.inBand with inbox := s2.hif.inBand.inbox ++ msgs }).pump

/-- IB_FRAME_RECEIVE: an in-band management frame on port E(n), without FCS (R72 to R74). -/
def doIbFrameReceive (n : Fin 8) (frame : List Byte) (s : Dev) : Dev :=
  match s.inBandAt n frame with
  | some o => if s.parseRuns && !s.pwr.closed then s.ibReceive n frame o else s
  | none => s

/-- A frame of class ETHERNET that the HIF takes. -/
def Dev.takesInBand (s : Dev) (user : Bool) (f : Frame) : Option Nat := if user && f.cls == clsEth then s.inBandAt f.port f.bytes else none

/-- PARSE_FRAME: the oldest frame that waits at a parse unit is admitted, parsed and classified (R215 to R222, R230). While a drain
holds arriving frames, only a pending second pass is (Table 2-8). -/
def doParseFrame (user : Bool) (s0 : Dev) : Dev :=
  let l := if user then s0.prs.user else s0.prs.line
  match (if s0.parseHeld then l.find? (·.second) else l.head?) with
  | none => s0
  | some f0 =>
    let rest := l.erase f0
    if !s0.parseRuns || s0.pwr.closed then s0
    else
      let s := (s0.access domUsr cliMode).access domThk cliMode
      if !s.isUp domUsr || !s.isUp domThk then s
      else
        let s1 : Dev := { s with prs := if user then { s.prs with user := rest } else { s.prs with line := rest } }
        match s1.takesInBand user f0 with
        | some o => s1.ibReceive f0.port f0.bytes o
        | none =>
        let s2 := s1.countR (if user then R.PRS_FRAMES_USER else R.PRS_FRAMES_LINE) 1
        let s3 := if f0.second then s2.count R.PRS_RECIRC_SECOND 1 else s2
        let r := s3.takeVersion f0
        let f := r.2
        match s3.profileOf user f with
        | none =>
          ((r.1.countR (R.PRS_UNPARSED_CNTc f.cls) 1).raise R.PRS_IRQ_UNPARSED).applyAction
            (s.act5 (R.PRS_UNPARSED_ACTc_w f.cls 0)) (padTo 40 []) f.metadata f
        | some p =>
          let s4 := r.1.countR (R.PRS_PROFILE_HITSp p.number) 1
          let vals := p.fields.map f.extract
          let bad := s.act5 (R.PRS_MALFORMED_ACTp_w p.number 0)
          if vals.any (·.isNone) || !(p.checks.all fun c => c.passes f.bytes.length vals) then
            ((s4.countR (R.PRS_MALFORMED_CNTp p.number) 1).raise R.PRS_IRQ_MALFORMED).applyAction bad (padTo 40 []) f.metadata f
          else match (s.decl 10).bind fun d => d.templates.find? (·.number == p.template) with
            | none => s4.applyAction bad (padTo 40 []) f.metadata f
            | some t => s4.classify f user t.number (keyOfPieces t.thicket vals) (keyOfPieces t.hedge vals)

/-- A bucket enters its set of the cache, which evicts one where it is full (R223); the fill is a full-word write (R453). -/
def Dev.cacheFill (s0 : Dev) (b : Nat) : Dev :=
  if s0.thk.heldBanks.contains (b % 16) then s0
  else
    let s := s0.memFulls srcBlock (Config.bucketWords b)
    if s.thk.cached.contains b then s
    else
    let set := s.thk.cached.filter fun x => x % 2048 == b % 2048
    if set.length < 8 then { s with thk := { s.thk with cached := s.thk.cached ++ [b] } }
    else
      let r := s.draw
      let v := set.getD (Config.cacheVictim r.1 % 8) b
      { r.2 with thk := { r.2.thk with cached := r.2.thk.cached.filter (· != v) ++ [b] } }

/-- BUCKET_FETCH_DONE: a bucket that lookups wait for arrives, and those that wait for no other complete in order (R223). bad: the
DRAM read was uncorrectable; the frames that wait for it are dropped and counted, and a lookup of an engine goes on waiting for a
further read (R467, Table 21-2). -/
def doBucketFetchDone (b : Fin 262144) (bad : Bool) (s : Dev) : Dev :=
  if !(s.thk.missQ.any fun m => m.buckets.contains (b : Nat)) || !s.isUp domThk then s
  else if bad then
    let lost (m : Miss) : Bool := m.buckets.contains (b : Nat) && (match m.who with | .frame _ _ _ _ _ => true | .engine _ _ | .gone _ => false)
    let n := (s.thk.missQ.filter lost).length
    let s1 : Dev := { s with thk := { s.thk with missQ := s.thk.missQ.filter fun m => !lost m } }
    (s1.countR R.MEM_DRAM_ERR 1).countR R.MEM_UE_COUNT n
  else
    let s1 := s.cacheFill b
    let q := s1.thk.missQ.map fun m => { m with buckets := m.buckets.filter (· != (b : Nat)) }
    let ready := q.filter fun m => m.buckets.isEmpty
    let s2 : Dev := { s1 with thk := { s1.thk with missQ := q.filter fun m => !m.buckets.isEmpty } }
    s2.oneInstant <| forEach ready s2 fun m u => match m.who with
      | .frame f _ t key hkey =>
        let r := u.resolve t key hkey (f.version.getD u.live)
        r.1.applyAction r.2.1 key f.metadata f
      | .engine _ _ => u
      | .gone l => u.lookupLost l

-- The commands of this file.

/-- IB_FRAME_RECEIVE (R73). -/
def execIbFrameReceive (n : Fin 8) (frame : List Byte) (s : State) : Host.Outcome State Fault Refusal := s.run (doIbFrameReceive n frame)

/-- PARSE_FRAME (R215). -/
def execParseFrame (user : Bool) (s : State) : Host.Outcome State Fault Refusal := s.run (doParseFrame user)

/-- BUCKET_FETCH_DONE (R223). -/
def execBucketFetchDone (b : Fin 262144) (bad : Bool) (s : State) : Host.Outcome State Fault Refusal := s.run (doBucketFetchDone b bad)

end Sys2Proof.Machine
end

