-- ==== Sys2Proof/Machine/Rope.lean ====
section
/-!
DEFINITION. Sys2Proof/Machine/Rope.lean: hails and link-state records received, timers, claiming and routing
(19_rope_fabric.md R407 to R421, R425).
-/
namespace Sys2Proof.Machine

/-- Fields of a received rope header (Table 19-1). -/
def hdrBits (b : List Byte) (lo w : Nat) : Nat := bits (beAt b 0 16) lo w
def hdrKind (b : List Byte) : Nat := hdrBits b 120 4

/-- A received frame checked (R407): the block, and whether the frame is good. -/
def Dev.ropCheck (s : Dev) (b : List Byte) : Dev × Bool :=
  if b.length < 20 ∨ hdrBits b 124 4 ≠ 1 ∨ hdrKind b ≥ 8 ∨ hec (b.take 14) ≠ beAt b 14 2 then (s.count R.ROP_DROPS_HDR 1, false)
  else if b.drop (b.length - 4) ≠ fcs (b.take (b.length - 4)) then (s.count R.ROP_DROPS_FCS 1, false)
  else (s, true)

/-- The payload of a checked frame. -/
def ropBody (b : List Byte) : List Byte := (b.drop 16).take (b.length - 20)

/-- A rope port receives: the fabric runs, its domain is powered and the port's link is up. -/
def Dev.ropReceives (s : Dev) (n : Nat) : Bool := s.rop.running && s.isUp domRope && s.ropeLink n

/-- A HAIL's payload taken on port n (R410 to R412, R414). -/
def Dev.hailIn (s0 : Dev) (n : Nat) (p : List Byte) : Dev :=
  let s := s0.count (R.ROP_Pn_HAILS_RX n) 1
  let x := s.ropP n
  let serial := beAt p 0 8
  let node := beAt p 8 2
  let new := serial ≠ x.serial
  let s1 := if new then (s.setRopP n { x with serial := serial, heardAt := none, differ := 0 }).adjEval n else s
  let s2 := s1.setRopP n { s1.ropP n with
    serial := serial, heardAt := some s.ticks, seen := beAt p 12 8, claimed := bit node 15, node := node % 1024 }
  let s3 := ((s2.wr64 (R.ROP_Pn_NBR_SERIAL_LO n) serial).adjEval n)
  let differ := if beAt p 24 4 = s3.ropDigest ∨ !s3.is (R.ROP_Pn_STATUS_TWO_WAY n) then 0 else (s3.ropP n).differ + 1
  let s4 := s3.setRopP n { s3.ropP n with differ := if differ ≥ 3 then 0 else differ }
  let s5 := if differ ≥ 3 then (s4.sendAll n).count R.ROP_COUNTS_DB_RESYNC 1 else s4
  let s6 := if new then s5.sendHail n else s5
  if bit node 15 ∧ s6.claimed ∧ node % 1024 = s6.nodeId ∧ serial ≠ s6.serial then s6.collision serial else s6

/-- A link-state record taken on port n (R414, R417 to R419). -/
def Dev.lsrIn (s : Dev) (n : Nat) (p : List Byte) : Dev :=
  let r := lsrOf p s.ticks
  let drop := s.count (R.ROP_Pn_LSR_DISCARDED n) 1
  let newer (old : Nat) : Bool := let d := seqSub r.seq old; decide (1 ≤ d) && decide (d < 2 ^ 31)
  if !s.is (R.ROP_Pn_STATUS_TWO_WAY n) then drop
  else if s.claimed ∧ r.id = s.nodeId ∧ r.serial = s.serial then
    (match s.rop.own with
      | some o => if newer o.seq then
          { drop with rop := { drop.rop with nextSeq := (if r.seq + 1 = 2 ^ 32 then 1 else r.seq + 1) } }.originate else drop
      | none => drop)
  else
    let same (x : Lsr) : Bool := x.id == r.id && x.serial == r.serial
    let held := s.rop.db.find? same
    let gone := bit r.flags 7
    if !(match held with | some o => newer o.seq | none => true) then drop
    else if held.isNone ∧ !gone ∧ s.records.length ≥ 2048 then
      ((s.count R.ROP_COUNTS_DB_FULL 1).raise R.ROP_IRQ_DB_FULL).eventRated 0x1380 7 0 fun _ => ropPayload 7 0xFF r.id 0
    else
      let rest := s.rop.db.filter fun x => !same x
      let s1 : Dev := { s with rop := { s.rop with
        db := if gone then rest else rest ++ [r], settleFrom := if gone then s.rop.settleFrom else s.ticks } }
      let s2 := ((s1.flood (some n) r).count (R.ROP_Pn_LSR_ACCEPTED n) 1).dbChanged
      if !gone ∧ s2.claimed ∧ r.id = s2.nodeId ∧ r.serial ≠ s2.serial then s2.collision r.serial else s2.retryId

/-- HAIL_RX: a HAIL arrives on port n with header and FCS (R411); it is an access to the rope domain (R473). -/
def doHailRx (n : Fin 8) (b : List Byte) (s : Dev) : Dev :=
  if !s.ropReceives n then s
  else
    let r := (s.access domRope cliFab).ropCheck b
    if r.2 && hdrKind b == kHail then (r.1.hailIn n (ropBody b)).settle else r.1

/-- LSR_RX: a link-state record arrives on port n with header and FCS (R417). -/
def doLsrRx (n : Fin 8) (b : List Byte) (s : Dev) : Dev :=
  if !s.ropReceives n then s
  else
    let r := (s.access domRope cliFab).ropCheck b
    if r.2 && hdrKind b == kLsr then (r.1.lsrIn n (ropBody b)).settle else r.1

/-- HAIL_TIMER: every 10 ms a port whose link is up sends a HAIL (R410). -/
def doHailTimer (n : Fin 8) (s : Dev) : Dev :=
  if !s.ropReceives n then s
  else match (s.ropP n).hailAt with
    | none => s
    | some t =>
      let s1 := s.until_ t
      (s1.setRopP n { s1.ropP n with hailAt := some (t + 10 * msTicks) }).sendHail n

/-- HAIL_TIMEOUT: no HAIL for 30 ms (R411). -/
def doHailTimeout (n : Fin 8) (s : Dev) : Dev :=
  match (s.ropP n).heardAt with
  | none => s
  | some t =>
    let s1 := s.until_ (t + 30 * msTicks)
    ((s1.setRopP n { s1.ropP n with heardAt := none }).adjEval n).settle

/-- LSR_REFRESH: 2 s after its last record a claimed module originates a new one (R417). -/
def doLsrRefresh (s : Dev) : Dev :=
  match s.rop.own with
  | some o => if s.claimed then (s.until_ (o.since + 2 * secTicks)).originate else s
  | none => s

/-- LSR_AGE_OUT: records whose AGE reaches 800 are removed and not flooded (R417). -/
def doLsrAgeOut (s : Dev) : Dev :=
  match (s.rop.db.map fun r => r.since + (800 - r.age) * 10 * msTicks).min? with
  | none => s
  | some t =>
    let s1 := s.until_ t
    ({ s1 with rop := { s1.rop with db := s1.rop.db.filter fun r => decide (r.ageAt s1.ticks < 800) } }.dbChanged.retryId).settle

/-- NODE_CLAIM: SETTLE ms after the last new record the module claims a node ID (R414). -/
def doNodeClaim (s : Dev) : Dev :=
  if !s.rop.running || s.claimed || s.is R.ROP_STATUS_NO_ID then s
  else
    let s1 := s.until_ (s.rop.settleFrom + s.get R.ROP_CFG_SETTLE * msTicks)
    (match s1.chooseId 0 with
      | some (a, id) => s1.claim a id
      | none => s1.noId).settle

/-- A usable link from one node to another, with its cost and the port at its start (R419). -/
structure Edge where
  src : Nat
  dst : Nat
  cost : Nat
  port : Nat

/-- The usable links between records in use (R420). -/
def Dev.edges (s : Dev) : List Edge :=
  let l := s.inUse
  l.flatMap fun x => x.links.filterMap fun k =>
    match l.find? (fun y => y.id == k.id && y.serial == k.serial) with
    | some y => if y.links.any (fun m => m.id == x.id && m.serial == x.serial) ∧ y.id ≠ x.id then
        some { src := x.id, dst := y.id, cost := k.cost, port := k.port } else none
    | none => none

/-- Path value: total cost, node ID of the first hop, port; compared in that order (R420). -/
abbrev PathVal := Nat × Nat × Nat
def PathVal.lt (a b : PathVal) : Bool :=
  decide (a.1 < b.1) || (a.1 == b.1 && (decide (a.2.1 < b.2.1) || (a.2.1 == b.2.1 && decide (a.2.2 < b.2.2))))

/-- One round over the links from a source. -/
def relax (src : Nat) (es : List Edge) (d : List (Nat × PathVal)) : List (Nat × PathVal) :=
  es.foldl (fun d e =>
    match d.find? (·.1 == e.src) with
    | none => d
    | some (_, v) =>
      if e.dst = src then d
      else
        let c : PathVal := if e.src = src then (e.cost, e.dst, e.port) else (v.1 + e.cost, v.2.1, v.2.2)
        match d.find? (·.1 == e.dst) with
        | some (_, w) => if c.lt w then (e.dst, c) :: d.filter (fun x => x.1 != e.dst) else d
        | none => (e.dst, c) :: d) d

/-- Shortest paths from a source, after n rounds. -/
def distFrom (src : Nat) (es : List Edge) : Nat → List (Nat × PathVal)
  | 0 => [(src, (0, src, 0))]
  | n + 1 => relax src es (distFrom src es n)

/-- Routing table (R420). -/
def Dev.computeRoutes (s : Dev) : List (Nat × Route) :=
  let l := s.inUse
  let es := s.edges
  let me := s.nodeId
  let own := distFrom me es l.length
  let ups := (List.range 8).filter fun n => s.is (R.ROP_Pn_STATUS_ADJ_UP n)
  let nbrs := ups.map fun p => (p, distFrom (s.ropP p).node es l.length)
  l.filterMap fun r =>
    if r.id = me ∧ r.serial = s.serial then none
    else match own.find? (·.1 == r.id) with
      | none => none
      | some (_, c, _, port) =>
        let cand := nbrs.filterMap fun x =>
          if x.1 = port then none
          else match x.2.find? (·.1 == r.id), x.2.find? (·.1 == me) with
            | some (_, dn, _), some (_, back, _) => if dn < back + c then some (s.get (R.ROP_Pn_CFG_COST x.1) + dn, x.1) else none
            | some (_, dn, _), none => some (s.get (R.ROP_Pn_CFG_COST x.1) + dn, x.1)
            | none, _ => none
        let alt := cand.foldl (fun (b : Option (Nat × Nat)) x => match b with
          | some y => if x.1 < y.1 ∨ (x.1 = y.1 ∧ x.2 < y.2) then some x else b
          | none => some x) none
        some (r.id, { primary := port, alt := alt.map (·.2), cost := c, serial := r.serial })

/-- ROUTE_COMPUTE: 1 ms after the last change of the database (R420). -/
def doRouteCompute (s : Dev) : Dev :=
  match s.rop.changed with
  | none => s
  | some t =>
    let s1 := s.until_ (t + msTicks)
    let l := if s1.claimed then s1.computeRoutes else []
    (({ s1 with rop := { s1.rop with changed := none, routes := l } }).count R.ROP_ROUTING_COMPUTES 1).settle

/-- ROP_CTL.REBIND (Y7). -/
def Dev.rebind (s : Dev) : Dev :=
  if s.relay ∧ s.get R.ROP_RELAY_STATUS_STATE ≠ 0 then ((s.relayTo 0 0 6 0).trigger .syncLost).settle else s

/-- REBIND (R425). -/
def doRebind (s : Dev) : Dev := s.hostDo R.ROP_CTL 1 Dev.rebind

-- The commands of this file.

/-- HAIL_RX (R411). -/
def execHailRx (n : Fin 8) (b : List Byte) (s : State) : Host.Outcome State Fault Refusal := s.run (doHailRx n b)

/-- LSR_RX (R417). -/
def execLsrRx (n : Fin 8) (b : List Byte) (s : State) : Host.Outcome State Fault Refusal := s.run (doLsrRx n b)

/-- HAIL_TIMER (R410). -/
def execHailTimer (n : Fin 8) (s : State) : Host.Outcome State Fault Refusal := s.run (doHailTimer n)

/-- HAIL_TIMEOUT (R411). -/
def execHailTimeout (n : Fin 8) (s : State) : Host.Outcome State Fault Refusal := s.run (doHailTimeout n)

/-- LSR_REFRESH (R417). -/
def execLsrRefresh (s : State) : Host.Outcome State Fault Refusal := s.run (doLsrRefresh)

/-- LSR_AGE_OUT (R417). -/
def execLsrAgeOut (s : State) : Host.Outcome State Fault Refusal := s.run (doLsrAgeOut)

/-- NODE_CLAIM (R414). -/
def execNodeClaim (s : State) : Host.Outcome State Fault Refusal := s.run (doNodeClaim)

/-- ROUTE_COMPUTE (R420). -/
def execRouteCompute (s : State) : Host.Outcome State Fault Refusal := s.run (doRouteCompute)

/-- REBIND (R425). -/
def execRebind (s : State) : Host.Outcome State Fault Refusal := s.run (doRebind)

end Sys2Proof.Machine
end

