-- ==== Sys2Proof/Machine/Lanes.lean ====
section
/-!
DEFINITION. Sys2Proof/Machine/Lanes.lean: the serial lanes: bring-up, alignment, polarity, order, equalisation, sleep and test
(18_serial_lanes.md R389 to R405).
-/
namespace Sys2Proof.Machine

/-- Lane states (LAN_x_STATUS.STATE). -/
def lsOff : Nat := 0
def lsCal : Nat := 1
def lsCdr : Nat := 2
def lsHunt : Nat := 3
def lsCheck : Nat := 4
def lsUp : Nat := 5
def lsFail : Nat := 6

/-- A lane of which nothing was learnt. -/
def LanLane.empty : LanLane :=
  { align := default, prbs := default, since := 0, far := none, arrival := 0, polOk := false, adapt := .new }
def Dev.lane (s : Dev) (i : Nat) : LanLane := sget .empty i s.lan
def Dev.setLane (s : Dev) (i : Nat) (x : LanLane) : Dev := { s with lan := sset .empty i x s.lan }

/-- The state of a lane. -/
def Dev.laneSt (s : Dev) (i : Nat) : Nat := s.get (R.LAN_x_STATUS_STATE i)

/-- Group of a lane, its lanes, its domain (Tables 18-1, 22-1). -/
def groupOf (i : Nat) : Nat := i / 4
def groupLanes (g : Nat) : List Nat := (List.range (if g = 4 then 2 else 4)).map (4 * g + ·)
def laneDom (i : Nat) : Nat := if i < 8 then domUsr else if i < 16 then domRope else domTwin

/-- Uses of LAN_x_CFG.USE. -/
def Dev.laneUse (s : Dev) (i : Nat) : Nat := s.get (R.LAN_x_CFG_USE i)

/-- The lane's group is bonded (R389). -/
def Dev.bonded (s : Dev) (i : Nat) : Bool := s.is (R.LAN_Gg_CFG_BONDED (groupOf i))

/-- The Ethernet port of an L lane (R375). -/
def Dev.lanePort (s : Dev) (i : Nat) : Nat := if s.bonded i then 4 * groupOf i else i

/-- Types with RS-FEC (Table 17-1). -/
def Dev.macFec (s : Dev) (n : Nat) : Bool := s.get (R.MAC_En_CFG_TYPE n) == 3 || s.get (R.MAC_En_CFG_TYPE n) == 4

/-- An Ethernet lane whose port type has no FEC. -/
def Dev.plainEth (s : Dev) (i : Nat) : Bool := s.laneUse i == 1 && !s.macFec (s.lanePort i)

/-- Lanes run: pitch 12 applied, in a mode with traffic or TEST, their domain powered (R403). -/
def Dev.laneRuns (s : Dev) (i : Nat) : Bool :=
  (s.sup.mode.traffic || s.sup.mode == .test) && s.isUp (laneDom i) && (s.decl 12).isSome

/-- A direction sleeps by non-use or by request (R401). -/
def Dev.sleepsByRequest (s : Dev) (i : Nat) (tx : Bool) : Bool :=
  s.laneUse i == 0 || s.is (if tx then R.LAN_x_CTL_TX_SLEEP i else R.LAN_x_CTL_RX_SLEEP i)

/-- A direction sleeps in low-power idle (R401). -/
def Dev.sleepsInLpi (s : Dev) (i : Nat) (tx : Bool) : Bool :=
  s.laneUse i == 1 && s.is (R.LAN_x_CTL_LPI_SLEEP i) &&
    s.is (if tx then R.MAC_En_STATUS_TX_LPI (s.lanePort i) else R.MAC_En_STATUS_RX_LPI (s.lanePort i))

/-- A LAN_EVENT (Table 18-4). -/
def Dev.lanPayload (s : Dev) (i code : Nat) : List Byte := le 1 i ++ le 1 code ++ le 1 (s.get (R.LAN_x_STATUS_FAIL_REASON i))

/-- TRACKING and HOLDOVER of an EMB group as its timing lane stands (R392). -/
def Dev.trackGroup (s : Dev) (g : Nat) : Dev :=
  if !s.is (R.LAN_Gg_CFG_CLOCK g) then s
  else
    let up := s.laneSt (4 * g + s.get (R.LAN_Gg_CTL_TIMING g)) == lsUp
    let was := s.is (R.LAN_Gg_STATUS_TRACKING g) || s.is (R.LAN_Gg_STATUS_HOLDOVER g)
    (s.setB (R.LAN_Gg_STATUS_TRACKING g) up).setB (R.LAN_Gg_STATUS_HOLDOVER g) (!up && was)

/-- What a lane's change of state brings to its group and its rope port (R392, R399). -/
def Dev.groupEval (s : Dev) (i : Nat) : Dev :=
  let g := groupOf i
  let ls := groupLanes g
  let allUp := s.is (R.LAN_Gg_CFG_BONDED g) && ls.all fun j => s.laneSt j == lsUp
  let noneUp := ls.all fun j => s.laneSt j != lsUp
  let s1 := s.setB (R.LAN_Gg_STATUS_UP g) allUp
  let s2 := if noneUp then (s1.set (R.LAN_Gg_STATUS_REVERSED g) 0).set (R.LAN_Gg_STATUS_SKEW g) 0 else s1
  let s3 := s2.trackGroup g
  if g = 2 ∨ g = 3 then
    let p := if s.bonded i then 4 * (g - 2) else i - 8
    if s3.ropeLink p = s.ropeLink p ∧ s.bonded i then s3 else (s3.ropeLinkChanged p).settle
  else s3

/-- A lane enters a state; entering or leaving UP is an event (R405). DEDUCED: FAIL_REASON holds while the lane is in FAIL, and a
receiver that is off has neither signal nor lock. -/
def Dev.laneTo (s : Dev) (i st : Nat) : Dev :=
  let was := s.laneSt i
  if was = st then s
  else
    let s1 := s.set (R.LAN_x_STATUS_STATE i) st
    let s2 := if st = lsOff ∨ st = lsCdr then
        ((forEach (List.range 3) s1 fun j t => t.wr (R.LAN_x_DFE i j) 0).set (R.LAN_x_STATUS_ADAPTED i) 0).setLane i
          { LanLane.empty with prbs := (s1.lane i).prbs }
      else s1
    let s2 := if was = lsFail then s2.set (R.LAN_x_STATUS_FAIL_REASON i) 0 else s2
    let s2 := if st = lsOff then (s2.set (R.LAN_x_STATUS_LOS i) 1).set (R.LAN_x_STATUS_CDR_LOCK i) 0 else s2
    if st = lsUp ∨ was = lsUp then
      ((s2.raiseAt R.LAN_IRQ_CHANGE i).event 0x1280 (s2.lanPayload i (if st = lsUp then 1 else 2))).groupEval i
    else s2

/-- Row S11: LOS set, or CDR lock lost. -/
def Dev.laneLost (s : Dev) (i : Nat) : Dev :=
  if s.laneSt i ≥ lsHunt then
    ((s.set (R.LAN_x_STATUS_RX_INVERTED i) 0).laneTo i lsCdr).count (R.LAN_x_SIGNAL_COUNTS_LOS i) 1
  else s

/-- Row S13, and a transmitter that holds electrical idle: a sleeping direction is not awake (R401, R402). -/
def Dev.laneSleep (s : Dev) (i : Nat) : Dev :=
  let txOff := !s.laneRuns i || s.sleepsByRequest i true
  let rxOff := !s.laneRuns i || s.sleepsByRequest i false
  let s1 := if txOff || s.sleepsInLpi i true then (s.set (R.LAN_x_STATUS_TX_AWAKE i) 0).laneOut s i else s
  if rxOff then (s1.set (R.LAN_x_STATUS_RX_AWAKE i) 0).laneTo i lsOff
  else if s.sleepsInLpi i false then s1.set (R.LAN_x_STATUS_RX_AWAKE i) 0 else s1

/-- Every lane of a domain judged again. -/
def Dev.lanesSleep (s : Dev) (d : Nat) : Dev := forEach (List.range 18) s fun i t => if laneDom i = d then t.laneSleep i else t

/-- LANE_WAKE_DONE: a direction has woken (R401, R402, S1). -/
def doLaneWakeDone (i : Fin 18) (tx : Bool) (s : Dev) : Dev :=
  if !s.laneRuns i || s.sleepsByRequest i tx || s.sleepsInLpi i tx then s.laneSleep i
  else if tx then (s.set (R.LAN_x_STATUS_TX_AWAKE i) 1).laneOut s i
  else
    let s1 := s.set (R.LAN_x_STATUS_RX_AWAKE i) 1
    if s.laneSt i = lsOff then s1.laneTo i lsCal else s1

/-- A lane's receiver works: it is awake and its lane runs. -/
def Dev.laneRx (s : Dev) (i : Nat) : Bool := s.laneRuns i && s.is (R.LAN_x_STATUS_RX_AWAKE i)

/-- LANE_CAL_DONE (S2). -/
def doLaneCalDone (i : Fin 18) (s : Dev) : Dev := if s.laneRx i && s.laneSt i == lsCal then s.laneTo i lsCdr else s

/-- LANE_LOS_ON (R394, S11). -/
def doLaneLosOn (i : Fin 18) (s : Dev) : Dev :=
  if !s.laneRx i then s else ((s.set (R.LAN_x_STATUS_LOS i) 1).set (R.LAN_x_STATUS_CDR_LOCK i) 0).laneLost i

/-- LANE_LOS_OFF (R394). -/
def doLaneLosOff (i : Fin 18) (s : Dev) : Dev := if !s.laneRx i then s else s.set (R.LAN_x_STATUS_LOS i) 0

/-- LANE_CDR_LOCKED: lock held for 100 µs (S3). -/
def doLaneCdrLocked (i : Fin 18) (s : Dev) : Dev :=
  if s.laneRx i && !s.is (R.LAN_x_STATUS_LOS i) && s.laneSt i == lsCdr then (s.set (R.LAN_x_STATUS_CDR_LOCK i) 1).laneTo i lsHunt else s

/-- CDR_LOCK_LOSS (S11). -/
def doCdrLockLoss (i : Fin 18) (s : Dev) : Dev :=
  if s.laneRx i && s.is (R.LAN_x_STATUS_CDR_LOCK i) then (s.set (R.LAN_x_STATUS_CDR_LOCK i) 0).laneLost i else s

/-- Row S5: the pair is inverted. -/
def Dev.polFlip (s : Dev) (i : Nat) : Dev :=
  let s1 := (s.set (R.LAN_x_STATUS_RX_INVERTED i) (1 - s.get (R.LAN_x_STATUS_RX_INVERTED i))).count (R.LAN_x_ALIGN_COUNTS_POL_FLIPS i) 1
  ((s1.raise R.LAN_IRQ_POL_FLIP).eventRated 0x1280 4 i fun _ => s1.lanPayload i 4).laneTo i lsHunt

/-- A sync header is valid (R395). -/
def validHeader (h : Fin 4) : Bool := h == 1 || h == 2

/-- The headers in hunt, up to the one that gains lock (R395). -/
def Align.hunt : Align → List (Fin 4) → Align
  | x, [] => x
  | x, h :: hs =>
    if x.count = 96 then x
    else ((if validHeader h then { x with count := x.count + 1 } else { x with count := 0, cand := (x.cand + 1) % 66 }) : Align).hunt hs

/-- The headers with lock held, in windows of 128, up to the 24th invalid one of a window; with the invalid headers among them (R395). -/
def Align.hold : Align → List (Fin 4) → Nat → Align × Nat
  | x, [], n => (x, n)
  | x, h :: hs, n =>
    if x.bad = 24 then (x, n)
    else
      let y : Align := { x with pos := x.pos + 1, bad := x.bad + b2n (!validHeader h) }
      Align.hold (if y.pos = 128 ∧ y.bad < 24 then { y with pos := 0, bad := 0 } else y) hs (n + b2n (!validHeader h))

/-- Alignment is gained (S4). -/
def Dev.laneAligned (s : Dev) (i : Nat) (x : Align) : Dev :=
  (s.setLane i { s.lane i with since := s.ticks, far := none, polOk := false, align := { x with count := 0, pos := 0, bad := 0 } }).laneTo i lsCheck

/-- BLOCK_LOCK: on a rope or twin lane in HUNT, the sync headers at the candidate position, of which the 96th valid one in a row gains
alignment (R395, S4); on an Ethernet lane its PCS or FEC reports alignment (S4) and, without FEC in CHECK, block lock without high
BER (R396, S6). -/
def doBlockLock (b : HeadersIn) (s : Dev) : Dev :=
  let i := b.lane
  if !s.laneRx i then s
  else if s.laneSt i = lsHunt then
    let x := (s.lane i).align.hunt b.headers
    if s.laneUse i = 1 ∨ x.count = 96 then s.laneAligned i x else s.setLane i { s.lane i with align := x }
  else if s.laneSt i = lsCheck ∧ s.plainEth i then (s.setLane i { s.lane i with polOk := true }).laneTo i lsUp
  else s

/-- Rows S7 and S8: the lanes of a bonded group judged together, when polarity is confirmed on every one (R397, R399). -/
def Dev.groupCheck (s : Dev) (g : Nat) : Dev :=
  let ls := groupLanes g
  let waiting := ls.filter fun j => s.laneSt j == lsCheck
  if !(ls.all fun j => s.laneSt j == lsUp || (s.laneSt j == lsCheck && (s.lane j).polOk)) then s
  else if s.laneUse (4 * g) = 1 then forEach waiting s fun j t => t.laneTo j lsUp
  else
    let order := ls.map fun j => (s.lane j).far.getD 99
    let fwd := List.range ls.length
    let pos := ls.map fun j => (s.lane j).arrival
    let skew := pos.foldl max 0 - pos.foldl min (pos.headD 0)
    let refuse (reason : Nat) : Dev := forEach waiting s fun j t =>
      let u := ((t.set (R.LAN_x_STATUS_FAIL_REASON j) reason).setLane j { t.lane j with since := t.ticks }).laneTo j lsFail
      ((u.count (R.LAN_x_SIGNAL_COUNTS_FAIL j) 1).raise R.LAN_IRQ_FAIL).event 0x1280 (u.lanPayload j 3)
    if order ≠ fwd ∧ order ≠ fwd.reverse then refuse 1
    else if skew > 16 then refuse 2
    else
      let rev := order == fwd.reverse
      let s1 := (s.setB (R.LAN_Gg_STATUS_REVERSED g) rev).set (R.LAN_Gg_STATUS_SKEW g) skew
      let s2 := if rev && !s.is (R.LAN_Gg_STATUS_REVERSED g) then
          (s1.raise R.LAN_IRQ_REVERSED).event 0x1280 (s1.lanPayload (4 * g) 5) else s1
      forEach waiting s2 fun j t => t.laneTo j lsUp

/-- The payload of a marker (R393), its first byte most significant. -/
def markerPayload (lane : Nat) : Nat :=
  ofBe [0x4E, 0x7A, 0xC3, BitVec.ofNat 8 lane, BitVec.ofNat 8 lane ^^^ 0xFF, 0x3C, 0x85, 0xB1]

/-- The LANE of a payload that differs from the pattern of some LANE in at most 3 bits: of the nearest pattern (R393). -/
def markerLane (payload : Nat) : Option Nat :=
  let far (l : Nat) : Nat := popcount 64 (payload ^^^ markerPayload l)
  (List.range 4).findSome? fun d =>
    match (List.range 256).filter fun l => far l == d with
    | [] => none
    | l :: ls => some ((l :: ls).getD (Config.markerTie payload % (ls.length + 1)) l)

/-- The LANE of a marker that a lane receives as it is sent or complemented; none where it is no marker for this lane (R393, R396). -/
def Dev.markerOf (s : Dev) (i : Nat) (complemented : Bool) : MarkerIn → Option Nat
  | .alignment => if s.laneUse i = 1 ∧ !s.plainEth i then some 0 else none
  | .block p => if s.laneUse i < 2 then none else markerLane (if complemented then ~~~p else p).toNat

/-- LANE_MARKER: a marker or an alignment marker reaches a lane in CHECK (R393, R396, R397), with its arrival in block times after its
send time; complemented, its sync header is 01 for 10. -/
def doLaneMarker (i : Fin 18) (m : MarkerIn) (complemented : Bool) (arrival : Nat) (s : Dev) : Dev :=
  if !s.laneRx i || s.laneSt i != lsCheck then s
  else match s.markerOf i complemented m, complemented with
    | none, _ => s
    | some _, true => if s.is (R.LAN_x_CTL_POL_AUTO i) then s.polFlip i else s
    | some lane, false =>
      let s1 := s.setLane i { s.lane i with far := some lane, arrival := arrival, polOk := true }
      if s.bonded i then s1.groupCheck (groupOf i) else s1.laneTo i lsUp

/-- CHECK_TIMEOUT (S5 for an Ethernet lane without FEC, S9). -/
def doCheckTimeout (i : Fin 18) (s : Dev) : Dev :=
  if s.laneSt i ≠ lsCheck then s
  else
    let s1 := s.until_ ((s.lane i).since + 2 * msTicks)
    if s.plainEth i then (if s.is (R.LAN_x_CTL_POL_AUTO i) then s1.polFlip i else s1.laneTo i lsHunt)
    else (s1.count (R.LAN_x_ALIGN_COUNTS_CHECK_TO i) 1).laneTo i lsHunt

/-- FAIL_TIMEOUT (S10). -/
def doFailTimeout (i : Fin 18) (s : Dev) : Dev :=
  if s.laneSt i ≠ lsFail then s
  else (s.until_ ((s.lane i).since + 100 * msTicks)).laneTo i lsHunt

/-- Alignment is lost (S12). -/
def Dev.laneUnlocked (s : Dev) (i : Nat) : Dev := (s.count (R.LAN_x_ALIGN_COUNTS_LOCK_LOSS i) 1).laneTo i lsHunt

/-- LOCK_LOSS: on a rope or twin lane the sync headers received with lock held, of which the 24th invalid one in a window loses it
(R395, S12); on an Ethernet lane its PCS or FEC reports the loss. DEDUCED: in CHECK and FAIL, for which Table 18-2 has no such row,
the 24th only starts a new window. -/
def doLockLoss (i : Fin 18) (headers : List (Fin 4)) (s : Dev) : Dev :=
  let st := s.laneSt i
  if !s.laneRx i || !(st == lsCheck || st == lsUp || st == lsFail) then s
  else if s.laneUse i = 1 then (if st = lsUp then s.laneUnlocked i else s)
  else
    let (x, n) := (s.lane i).align.hold headers 0
    let s1 := s.countR (R.LAN_x_INVALID i) n
    if x.bad < 24 then s1.setLane i { s.lane i with align := x }
    else
      let s2 := s1.setLane i { s.lane i with align := { x with pos := 0, bad := 0 } }
      if st = lsUp then s2.laneUnlocked i else s2

/-- FILLER_ADJUST: between frames, the blocks that the elastic store holds; the PCS deletes a filler block above 12 and inserts one
below 4 (R391). -/
def doFillerAdjust (i : Fin 18) (level : Fin 17) (s : Dev) : Dev :=
  if !s.laneRx i || s.laneUse i < 2 || s.is (R.LAN_Gg_CFG_CLOCK (groupOf i)) || s.laneSt i != lsUp then s
  else if 12 < level.val then s.count (R.LAN_x_FILL_DELETED i) 1
  else if level.val < 4 then s.count (R.LAN_x_FILL_INSERTED i) 1
  else s

/-- Tap k (0 to 11) of a lane. -/
def Dev.laneTap (s : Dev) (i k : Nat) : Int := signed 8 (s.get ⟨R.LAN_x_DFE i (k / 4), 8 * (k % 4), 8⟩)

/-- LANE_ADAPTATION_UPDATE: one update of the CTLE code and the twelve taps by signed steps (R400, R105). -/
def doLaneAdaptationUpdate (i : Fin 18) (ctle : Int) (steps : List Int) (s : Dev) : Dev :=
  let st := s.laneSt i
  if !s.laneRx i || !(st == lsHunt || st == lsCheck || st == lsUp) || s.is (R.LAN_x_CTL_FREEZE i) then s
  else
    let s0 := s.set (R.LAN_x_EQ_CTLE i) (max 0 (min 15 ((s.get (R.LAN_x_EQ_CTLE i) : Int) + ctle))).toNat
    let s1 := forEach (List.range 12) s0 fun k t =>
      t.set ⟨R.LAN_x_DFE i (k / 4), 8 * (k % 4), 8⟩ (unsigned 8 (max (-128) (min 127 (t.laneTap i k + steps.getD k 0))))
    let x := (s1.lane i).adapt.step ((List.range 12).map fun k => s1.laneTap i k - s.laneTap i k)
    (s1.setLane i { s1.lane i with adapt := x }).setB (R.LAN_x_STATUS_ADAPTED i) (x.holds 12 (s.is (R.LAN_x_STATUS_ADAPTED i)))

/-- The powers of a PATTERN's polynomial (R404). -/
def prbsTaps : Nat → Nat × Nat
  | 0 => (7, 6)
  | 1 => (9, 5)
  | 2 => (15, 14)
  | 3 => (23, 18)
  | _ => (31, 28)

/-- One received bit at a PRBS checker: the checker, its lock, and whether the bit counts as an error (R404). DEDUCED: a bit that does
not match before lock seeds the checker again. -/
def PrbsChk.step (pattern : Nat) (c : PrbsChk) (lock b : Bool) : PrbsChk × Bool × Bool :=
  let (n, m) := prbsTaps pattern
  let p := bit c.reg (n - 1) != bit c.reg (m - 1)
  let push (x : Bool) : Nat := (2 * c.reg + b2n x) % 2 ^ n
  if lock then
    let errs := (2 * c.errs + b2n (b != p)) % 2 ^ 64
    if 16 ≤ popcount 64 errs then (default, false, b != p) else ({ c with reg := push p, errs := errs }, true, b != p)
  else if c.seeded < n then ({ c with reg := push b, seeded := c.seeded + 1 }, false, false)
  else if b != p then (default, false, false)
  else if c.run = 63 then ({ c with reg := push b, run := 0, errs := 0 }, true, false)
  else ({ c with reg := push b, run := c.run + 1 }, false, false)

/-- The bits received one after the other: the checker, its lock, and the errors counted. -/
def PrbsChk.steps (pattern : Nat) : PrbsChk → Bool → List Bool → Nat → PrbsChk × Bool × Nat
  | c, lock, [], n => (c, lock, n)
  | c, lock, b :: bs, n =>
    let x := c.step pattern lock b
    PrbsChk.steps pattern x.1 x.2.1 bs (n + b2n x.2.2)

/-- LANE_PRBS_LOCK_CHANGE: the bits that reach the checker of a lane in TEST, and the last of them (R404). -/
def doLanePrbsLockChange (i : Fin 18) (received : List Bool) (last : Bool) (s : Dev) : Dev :=
  if s.sup.mode = .test ∧ s.is (R.LAN_x_TEST_CHK i) then
    let x := (s.lane i).prbs.steps (s.get (R.LAN_x_TEST_PATTERN i)) (s.is (R.LAN_x_STATUS_PRBS_LOCK i)) (received ++ [last]) 0
    ((s.setLane i { s.lane i with prbs := x.1 }).setB (R.LAN_x_STATUS_PRBS_LOCK i) x.2.1).countR (R.LAN_x_PRBS_ERR i) x.2.2
  else s

-- The commands of this file.

/-- LANE_WAKE_DONE (R401). -/
def execLaneWakeDone (i : Fin 18) (tx : Bool) (s : State) : Host.Outcome State Fault Refusal := s.run (doLaneWakeDone i tx)

/-- LANE_CAL_DONE (R398). -/
def execLaneCalDone (i : Fin 18) (s : State) : Host.Outcome State Fault Refusal := s.run (doLaneCalDone i)

/-- LANE_LOS_ON (R394). -/
def execLaneLosOn (i : Fin 18) (s : State) : Host.Outcome State Fault Refusal := s.run (doLaneLosOn i)

/-- LANE_LOS_OFF (R394). -/
def execLaneLosOff (i : Fin 18) (s : State) : Host.Outcome State Fault Refusal := s.run (doLaneLosOff i)

/-- LANE_CDR_LOCKED (R398). -/
def execLaneCdrLocked (i : Fin 18) (s : State) : Host.Outcome State Fault Refusal := s.run (doLaneCdrLocked i)

/-- CDR_LOCK_LOSS (R398). -/
def execCdrLockLoss (i : Fin 18) (s : State) : Host.Outcome State Fault Refusal := s.run (doCdrLockLoss i)

/-- BLOCK_LOCK (R395). -/
def execBlockLock (x : HeadersIn) (s : State) : Host.Outcome State Fault Refusal := s.run (doBlockLock x)

/-- LANE_MARKER (R397). -/
def execLaneMarker (i : Fin 18) (m : MarkerIn) (complemented : Bool) (arrival : Nat) (s : State) : Host.Outcome State Fault Refusal :=
  s.run (doLaneMarker i m complemented arrival)

/-- CHECK_TIMEOUT (R398). -/
def execCheckTimeout (i : Fin 18) (s : State) : Host.Outcome State Fault Refusal := s.run (doCheckTimeout i)

/-- FAIL_TIMEOUT (R398). -/
def execFailTimeout (i : Fin 18) (s : State) : Host.Outcome State Fault Refusal := s.run (doFailTimeout i)

/-- LOCK_LOSS (R395). -/
def execLockLoss (i : Fin 18) (headers : List (Fin 4)) (s : State) : Host.Outcome State Fault Refusal := s.run (doLockLoss i headers)

/-- FILLER_ADJUST (R391). -/
def execFillerAdjust (i : Fin 18) (level : Fin 17) (s : State) : Host.Outcome State Fault Refusal := s.run (doFillerAdjust i level)

/-- LANE_ADAPTATION_UPDATE (R400). -/
def execLaneAdaptationUpdate (i : Fin 18) (ctle : Int) (steps : List Int) (s : State) : Host.Outcome State Fault Refusal := s.run (doLaneAdaptationUpdate i ctle steps)

/-- LANE_PRBS_LOCK_CHANGE (R404). -/
def execLanePrbsLockChange (i : Fin 18) (received : List Bool) (last : Bool) (s : State) : Host.Outcome State Fault Refusal :=
  s.run (doLanePrbsLockChange i received last)

end Sys2Proof.Machine
end

