-- ==== Sys2Proof/Machine/Ethernet.lean ====
section
/-!
DEFINITION. Sys2Proof/Machine/Ethernet.lean: the MACs of E0 to E7 (17_ethernet_ports.md R374 to R388; 12 R276).
-/
namespace Sys2Proof.Machine

/-- A MAC_EVENT (Table 17-4). -/
def Dev.macPayload (s : Dev) (n code : Nat) : List Byte := le 1 n ++ le 1 code ++ le 1 (s.get (R.MAC_En_CFG_CT_STEP n))

/-- A MAC runs: its port has a type and domain USR is powered; in TEST on a loop of its lane (R375, R387). -/
def Dev.macRuns (s : Dev) (n : Nat) : Bool :=
  s.get (R.MAC_En_CFG_TYPE n) != 0 && s.isUp domUsr && (s.sup.mode.traffic || (s.sup.mode == .test && s.nearLoop n))

/-- The receive stamp of a frame of En (R276). -/
def Dev.rxStamp (s : Dev) (n : Nat) : Tod :=
  Tod.ofNs ((((s.tmb.time : Int) - Config.rxLatency n (s.portMode n) + signed 16 (s.get (R.TMB_En_DELAY_RX n)) * 2 ^ 30) % timeWrap).toNat / 2 ^ 32)

/-- A received PAUSE takes effect (R382). -/
def Dev.pauseRx (s : Dev) (n v : Nat) : Dev :=
  let p := s.macP n
  let s1 := s.count (R.MAC_En_CTRL_PAUSE_RX n) 1
  if v = 0 then (s1.setMacP n { p with pauseWait := none, pauseEnd := none }).set (R.MAC_En_STATUS_PAUSED n) 0
  else
    let s2 := s1.setMacP n { p with pauseWait := some v }
    if (s.launching (n + 1)).isSome then s2 else s2.pauseStart n

/-- A MAC control frame (R378). -/
def Dev.macControl (s : Dev) (n : Nat) (b : List Byte) : Dev :=
  let dst := beAt b 0 6
  if beAt b 14 2 = 1 ∧ (dst = 0x0180C2000001 ∨ dst = s.rd64 (R.MAC_En_ADDR_LO n) % 2 ^ 48) then
    if s.is (R.MAC_En_CFG_RX_PAUSE_EN n) then s.pauseRx n (beAt b 16 2) else s.count (R.MAC_En_CTRL_PAUSE_IGNORED n) 1
  else s.count (R.MAC_En_CTRL_CTRL_UNKNOWN n) 1

/-- MAC_RX_FRAME: a frame with its FCS reaches En (R376 to R378). code: a PCS error or an uncorrectable codeword lies in it; overrun:
the parse unit's input for the port is full; corrected and uncorrectable: the RS-FEC codewords that ended with it. -/
def doMacRxFrame (n : Fin 8) (b : List Byte) (code overrun : Bool) (corrected uncorrectable : Nat) (s0 : Dev) : Dev :=
  if !s0.macRuns n || !s0.is (R.MAC_En_STATUS_LINK n) then s0
  else
    let s := if s0.macFec n then
        (s0.count (R.MAC_En_FEC_CORRECTED n) corrected).count (R.MAC_En_FEC_UNCORRECTABLE n) uncorrectable
      else s0
    let body := b.take (b.length - 4)
    if b.length < 4 ∨ b.drop (b.length - 4) ≠ fcs body then s.count (R.MAC_En_RX_ERR_FCS n) 1
    else if b.length < 64 then s.count (R.MAC_En_RX_ERR_RUNT n) 1
    else if b.length > s.get (R.MAC_En_CFG_MAX_FRAME n) then s.count (R.MAC_En_RX_ERR_OVERSIZE n) 1
    else if code then s.count (R.MAC_En_RX_ERR2_CODE n) 1
    else if overrun then s.count (R.MAC_En_RX_ERR2_OVERRUN n) 1
    else if beAt body 12 2 = 0x8808 then s.macControl n body
    else
      let p := s.macP n
      let x := p.rxRem + body.length
      (((s.setMacP n { p with rxRem := x % 1024 }).countR (R.MAC_En_RX_FRAMES n) 1).countR (R.MAC_En_RX_KIB n) (x / 1024)).ingress true
        (Frame.first_ clsEth n body (s.rxStamp n))

/-- PAUSE_TIMER_EXPIRY: the pause timer runs out (R383). -/
def doPauseTimerExpiry (n : Fin 8) (s : Dev) : Dev :=
  let p := s.macP n
  match p.pauseEnd with
  | none => s
  | some t =>
    let s1 := s.elapse ((t - s.tmb.run + s.incr - 1) / max 1 s.incr)
    (s1.setMacP n { p with pauseEnd := none }).set (R.MAC_En_STATUS_PAUSED n) 0

/-- A write of MAC_En_PAUSE_TX (R384). -/
def Dev.pauseTxWrite (s : Dev) (n : Nat) (v : Word) : Dev :=
  if bit v.toNat 16 then (s.setMacP n { s.macP n with pauseTx := some (v.toNat % 65536) }).pausePump n else s

/-- PAUSE_TX_GO (R384). -/
def doPauseTxGo (n : Fin 8) (v : Word) (s : Dev) : Dev :=
  s.hostDo (R.MAC_En_PAUSE_TX n) (v ||| 0x10000) fun u => u.pauseTxWrite n (v ||| 0x10000)

/-- UNDERRUN: the frame in progress on En ends after the bytes already sent (R381). -/
def doUnderrun (n : Fin 8) (sent : Nat) (s : Dev) : Dev :=
  match s.launching (n + 1) with
  | none => s
  | some (f, step) =>
    if step = 5 ∨ sent ≥ f.bytes.length then s
    else
      let b := f.bytes.take sent
      let p := b ++ List.replicate (60 - b.length) 0
      let out := p ++ (fcs p).map (~~~ ·)
      let s1 := (((s.setLaunching (n + 1) none).emit (.eth n out)).macSent n out.length).count (R.MAC_En_TX_ERR_UNDERRUN n) 1
      let c := s1.get (R.MAC_En_CFG_CT_STEP n)
      let s2 := s1.set (R.MAC_En_CFG_CT_STEP n) (min 5 (c + 1))
      let s3 := (s2.raiseAt R.MAC_IRQ_UNDERRUN n).eventRated 0x1180 3 n fun _ => s2.macPayload n 3
      let s4 := if c = 4 then (s3.raiseAt R.MAC_IRQ_STORE_FWD n).event 0x1180 (s3.macPayload n 4) else s3
      ((s4.pauseStart n).pausePump n).userLanesOut s

/-- The instant of the earliest pending timed frame of En, as ticks from now. -/
def Dev.timedAhead (s : Dev) (n : Nat) : Option Nat :=
  ((s.timedOf (n + 1)).map fun f => match f.launch with | some t => s.ticksTo t.toNs | none => 0).min?

/-- What keeps the transmitter out of low-power idle (R385), but for the time since it last had work. -/
def Dev.lpiBusy (s : Dev) (n : Nat) : Bool :=
  !s.is (R.MAC_En_EEE_LPI_EN n) || (s.launching (n + 1)).isSome || (List.range 8).any (fun c => !(s.fifo (n + 1) c).isEmpty) ||
    (s.macP n).pauseTx.isSome

/-- The lanes of a port follow its low-power idle (R401). -/
def Dev.lpiLanes (s : Dev) (n : Nat) : Dev :=
  forEach (if s.bonded n then groupLanes (groupOf n) else [n]) s fun i t => t.laneSleep i

/-- LPI_ENTER: after IDLE µs with nothing to send the transmitter enters low-power idle (R385). -/
def doLpiEnter (n : Fin 8) (s0 : Dev) : Dev :=
  let idle := s0.get (R.MAC_En_EEE_IDLE n) * usTicks
  let s := s0.until_ ((s0.macP n).idleSince + idle)
  let near := match s.timedAhead n with | some t => decide (t < s.get (R.MAC_En_EEE_TW n) * usTicks + idle) | none => false
  if s0.lpiBusy n || near || s0.is (R.MAC_En_STATUS_TX_LPI n) || !s0.macRuns n || !s0.is (R.MAC_En_STATUS_LINK n) then s0
  else ((s.set (R.MAC_En_STATUS_TX_LPI n) 1).count (R.MAC_En_LPI_COUNTS_TX_ENTRIES n) 1).lpiLanes n

/-- LPI_EXIT: the transmitter leaves low-power idle when it has work or the earliest launch instant comes nearer than TW + IDLE µs,
and sends idle for TW µs (R385). -/
def doLpiExit (n : Fin 8) (s0 : Dev) : Dev :=
  let tw := s0.get (R.MAC_En_EEE_TW n) * usTicks
  let leave (s : Dev) : Dev :=
    (s.setMacP n { s.macP n with wakeUntil := s.ticks + tw, idleSince := s.ticks }).set (R.MAC_En_STATUS_TX_LPI n) 0
  if !s0.is (R.MAC_En_STATUS_TX_LPI n) then s0
  else if s0.lpiBusy n then leave s0
  else match s0.timedAhead n with
    | some t => leave (s0.elapse (t + 1 - (tw + s0.get (R.MAC_En_EEE_IDLE n) * usTicks)))
    | none => s0

/-- RX_LPI_CHANGE: the partner enters or leaves low-power idle (R386). -/
def doRxLpiChange (n : Fin 8) (on : Bool) (s : Dev) : Dev :=
  if !s.macRuns n then s
  else
    let s1 := (s.setB (R.MAC_En_STATUS_RX_LPI n) on).lpiLanes n
    if on && !s.is (R.MAC_En_STATUS_RX_LPI n) then s1.count (R.MAC_En_LPI_COUNTS_RX_ENTRIES n) 1 else s1

/-- LINK_CHANGE: what the PCS, the FEC and the reconciliation sublayer of En report (R376). -/
def doLinkChange (n : Fin 8) (lock fec localFault remoteFault : Bool) (s : Dev) : Dev :=
  if !s.macRuns n then s
  else
    let align := s.macFec n && fec
    let link := lock && (align || !s.macFec n) && !localFault && !remoteFault
    let was := s.is (R.MAC_En_STATUS_LINK n)
    let s0 := if localFault = s.is (R.MAC_En_STATUS_LOCAL_FAULT n) then s else s.emit (.ethFault n localFault)
    let s1 := ((((s0.setB (R.MAC_En_STATUS_BLOCK_LOCK n) lock).setB (R.MAC_En_STATUS_FEC_ALIGN n) align).setB
      (R.MAC_En_STATUS_LOCAL_FAULT n) localFault).setB (R.MAC_En_STATUS_REMOTE_FAULT n) remoteFault).setB (R.MAC_En_STATUS_LINK n) link
    if link = was then s1
    else ((s1.raiseAt R.MAC_IRQ_LINK_CHG n).event 0x1180 (s1.macPayload n (if link then 1 else 2))).pausePump n

-- The commands of this file.

/-- MAC_RX_FRAME (R377). -/
def execMacRxFrame (n : Fin 8) (b : List Byte) (code overrun : Bool) (corrected uncorrectable : Nat) (s : State) : Host.Outcome State Fault Refusal := s.run (doMacRxFrame n b code overrun corrected uncorrectable)

/-- PAUSE_TIMER_EXPIRY (R382). -/
def execPauseTimerExpiry (n : Fin 8) (s : State) : Host.Outcome State Fault Refusal := s.run (doPauseTimerExpiry n)

/-- PAUSE_TX_GO (R384). -/
def execPauseTxGo (n : Fin 8) (v : Word) (s : State) : Host.Outcome State Fault Refusal := s.run (doPauseTxGo n v)

/-- UNDERRUN (R381). -/
def execUnderrun (n : Fin 8) (sent : Nat) (s : State) : Host.Outcome State Fault Refusal := s.run (doUnderrun n sent)

/-- LPI_ENTER (R385). -/
def execLpiEnter (n : Fin 8) (s : State) : Host.Outcome State Fault Refusal := s.run (doLpiEnter n)

/-- LPI_EXIT (R385). -/
def execLpiExit (n : Fin 8) (s : State) : Host.Outcome State Fault Refusal := s.run (doLpiExit n)

/-- RX_LPI_CHANGE (R386). -/
def execRxLpiChange (n : Fin 8) (on : Bool) (s : State) : Host.Outcome State Fault Refusal := s.run (doRxLpiChange n on)

/-- LINK_CHANGE (R376). -/
def execLinkChange (n : Fin 8) (lock fec localFault remoteFault : Bool) (s : State) : Host.Outcome State Fault Refusal := s.run (doLinkChange n lock fec localFault remoteFault)

end Sys2Proof.Machine
end

