-- ==== Sys2Proof/Machine/Cipher.lean ====
section
/-!
DEFINITION. Sys2Proof/Machine/Cipher.lean: the commands of CPH_CMD and key records (16_cipher_and_keys.md R365 to R371, R508).
-/
namespace Sys2Proof.Machine

/-- Results of CPH_CMD. -/
inductive CphRes where
  | ok | busy | kek | slot | integrity | length | kind | prevBusy | draining | mode | katFail
deriving DecidableEq, Repr

/-- RESULT codes. -/
def CphRes.code : CphRes → Nat
  | .ok => 0
  | .busy => 1
  | .kek => 2
  | .slot => 3
  | .integrity => 4
  | .length => 5
  | .kind => 6
  | .prevBusy => 7
  | .draining => 8
  | .mode => 9
  | .katFail => 10

/-- Record length of a kind (Table 16-3). -/
def recordLen : Nat → Nat
  | 1 => 20
  | 2 => 36
  | 3 => 44
  | 4 => 60
  | 5 => 20
  | _ => 36

/-- The key record that unwrapped bytes hold, or the check that fails (R508); kinds are those the KEK may deliver. -/
def keyRecord (b : List Byte) (kinds : Nat) : Except CphRes Key :=
  let kind := leAt b 0 1
  let flags := leAt b 1 1
  if kind = 0 ∨ kind > 6 then .error .kind
  else if b.length ≠ recordLen kind then .error .length
  else if flags ≥ 8 ∨ leAt b 2 2 ≠ 0 then .error .kind
  else if !bit kinds kind then .error .kind
  else .ok { kind := kind, an := flags % 4, sciFlag := bit flags 2, key := slice b 4 (if kind = 1 ∨ kind = 5 then 16 else 32),
             sci := slice b 36 8, ssci := slice b 44 4, salt := slice b 48 12, gen := 0 }

/-- Frames that hold a generation of a slot (R367). -/
def Dev.keyHolders (s : Dev) (n gen : Nat) : Nat :=
  (s.allFrames.filter fun f => f.cipher != 0 && f.slot == n && f.gen == gen).length

/-- Frames that hold the previous key of a slot (CPH_SLOT_HOLDERS). -/
def Dev.prevHolders (s : Dev) (n : Nat) : Nat := match (s.slot n).prev with | some k => s.keyHolders n k.gen | none => 0

/-- A record written into a slot (R367): GEN rises, the PN counter returns to 1, the highest accepted PN to 0. -/
def Dev.writeKey (s : Dev) (n : Nat) (k : Key) : Dev :=
  let x := s.slot n
  let gen := (x.gen + 1) % 65536
  let displaced := match x.prev with | some p => if s.prevHolders n = 0 then [] else [p.gen] | none => []
  s.setSlot n { x with
    cur := some { k with gen := gen }, prev := x.cur, gen := gen, pn := 1, rpn := 0, warned := false, stale := x.stale ++ displaced }

/-- A blob unwrapped under a KEK for a slot and checked (R366, R508), but for PREV_BUSY. -/
def Dev.checkBlob (s : Dev) (kek n : Nat) (blob : List Byte) : Except CphRes Key :=
  match s.cph.keks.find? (·.1.index == kek) with
  | none => .error .kek
  | some (d, k) =>
    if n < d.first ∨ d.last < n then .error .slot
    else if blob.length < 32 ∨ blob.length > 72 ∨ blob.length % 8 ≠ 0 then .error .length
    else match keyUnwrap k blob with
      | none => .error .integrity
      | some b => keyRecord b d.kinds

/-- The end of a command: result, DONE and GEN of the slot (CPH_CMD_RESULT). -/
def Dev.cphResult (s : Dev) (n : Nat) (r : CphRes) : Dev :=
  ((s.set R.CPH_CMD_RESULT_RESULT r.code).set R.CPH_CMD_RESULT_DONE 1).set R.CPH_CMD_RESULT_GEN (s.slot n).gen

/-- The first CPH_BLOB_LEN bytes of CPH_BLOB, and a length that R508 judges. -/
def Dev.blobBytes (s : Dev) : List Byte :=
  ((List.range 32).flatMap fun i => le 4 (sget (0 : Word) i s.cph.blob).toNat).take (s.get R.CPH_BLOB_LEN_BYTES)

/-- The word of CPH_CMD. -/
def cphWord (cmd kek : Nat) (force : Bool) (n : Nat) : Nat := cmd + 16 * kek + 256 * b2n force + 65536 * n

/-- A KEY record of the active twin (R435). -/
def Dev.mirrorKey (s : Dev) (cmd : Nat) (blob : List Byte) : Dev := s.mirror mKey (be 4 cmd ++ be 1 blob.length ++ blob)

/-- A key command is refused for a reload of pitch 15, or on a standby twin for its own host (R372, R438, R508). -/
def Dev.cphGate (s : Dev) : Option CphRes := if s.draining 15 then some .draining else if s.standby then some .mode else none

/-- UNWRAP of a blob into a slot (R366, R367): the block and the result. -/
def Dev.unwrapTo (s : Dev) (kek : Nat) (force : Bool) (n : Nat) (blob : List Byte) : Dev × CphRes :=
  match s.checkBlob kek n blob with
  | .error e => (s, e)
  | .ok k =>
    if !force ∧ s.prevHolders n ≠ 0 then (s, .prevBusy)
    else
      let cmd := cphWord 1 kek force n
      let s1 := s.writeKey n k
      let s2 : Dev := { s1 with twn := { s1.twn with blobs := sinsert n (cmd, blob) s1.twn.blobs } }
      (((s2.cphEvent 1 0xFF n 0).mirrorKey cmd blob), .ok)

/-- ERASE of a slot (R369). -/
def Dev.eraseSlot (s : Dev) (n : Nat) : Dev :=
  let x := s.slot n
  let s1 := s.setSlot n { x with cur := none, prev := none, gen := (x.gen + 1) % 65536, stale := [] }
  { s1 with twn := { s1.twn with blobs := serase n s1.twn.blobs } }
def Dev.eraseOne (s : Dev) (n : Nat) : Dev := (((s.eraseSlot n).cphEvent 2 0xFF n 0).mirrorKey (cphWord 2 0 false n) [])

/-- ERASE_ALL: every slot, whether it held a key or not (R369, R372). -/
def Dev.eraseEvery (s : Dev) : Dev := forEach (List.range 4096) s fun n t => t.eraseSlot n
def Dev.eraseAll (s : Dev) : Dev := ((s.eraseEvery.cphEvent 2 0xFF 0xFFFF 0).mirrorKey (cphWord 3 0 false 0) [])

/-- UNWRAP (R366). -/
def doUnwrap (kek : Fin 16) (force : Bool) (n : Fin 4096) (s : Dev) : Dev :=
  let clear (t : Dev) : Dev := { t with cph := { t.cph with blob := [] } }
  match s.cphGate with
  | some r => clear ((if r = .mode then s.count R.TWN_COUNTS_REFUSED 1 else s).cphResult n r)
  | none => let r := s.unwrapTo kek force n s.blobBytes; clear (r.1.cphResult n r.2)

/-- ERASE (R369). -/
def doErase (n : Fin 4096) (s : Dev) : Dev :=
  match s.cphGate with
  | some r => (if r = .mode then s.count R.TWN_COUNTS_REFUSED 1 else s).cphResult n r
  | none => (s.eraseOne n).cphResult n .ok

/-- ERASE_ALL (R369). -/
def doEraseAll (s : Dev) : Dev :=
  match s.cphGate with
  | some r => (if r = .mode then s.count R.TWN_COUNTS_REFUSED 1 else s).cphResult 0 r
  | none => s.eraseAll.cphResult 0 .ok

/-- KAT in TEST (R371); pass is what the pipelines deliver. -/
def doKat (pass : Bool) (s : Dev) : Dev :=
  if s.draining 15 then s.cphResult 0 .draining
  else if s.sup.mode ≠ .test then s.cphResult 0 .mode
  else s.cphResult 0 (if pass then .ok else .katFail)

-- The commands of this file.

/-- UNWRAP (R366). -/
def execUnwrap (kek : Fin 16) (force : Bool) (n : Fin 4096) (s : State) : Host.Outcome State Fault Refusal := s.run (doUnwrap kek force n)

/-- ERASE (R369). -/
def execErase (n : Fin 4096) (s : State) : Host.Outcome State Fault Refusal := s.run (doErase n)

/-- ERASE_ALL (R369). -/
def execEraseAll (s : State) : Host.Outcome State Fault Refusal := s.run (doEraseAll)

/-- KAT (R371). -/
def execKat (pass : Bool) (s : State) : Host.Outcome State Fault Refusal := s.run (doKat pass)

end Sys2Proof.Machine
end

