-- ==== Sys2Proof/Machine/EngCore.lean ====
section
/-!
DEFINITION. Sys2Proof/Machine/EngCore.lean: what an engine addresses, pages, traps, and how it executes one instruction
(13_engines.md R284 to R293, R300, R301, R308 to R313; 21_memory_integrity.md R452 to R455).
-/
namespace Sys2Proof.Machine

/-- A cluster that nothing was loaded into. -/
def Cluster.empty : Cluster := { iram := [], shared := [], virt := [], allocs := [], pcache := [], retired := 0 }

/-- Cluster c. -/
def Dev.cluster (s : Dev) (c : Nat) : Cluster := sget .empty c s.clusters
def Dev.setCluster (s : Dev) (c : Nat) (x : Cluster) : Dev := { s with clusters := sset .empty c x s.clusters }

/-- An error of an access: cause, sub-cause and TRAP_ADDR (Table 13-10). -/
structure Trap where
  cause : Nat
  sub : Nat
  addr : Nat
deriving DecidableEq, Repr, Inhabited

/-- Causes of Table 13-10. -/
def trapIllegal (sub addr : Nat) : Trap := ⟨1, sub, addr⟩
def trapFetch (pc : Nat) : Trap := ⟨2, 0, pc⟩
def trapPage (sub addr : Nat) : Trap := ⟨3, sub, addr⟩
def trapAlign (sub addr : Nat) : Trap := ⟨4, sub, addr⟩
def trapThk (sub addr : Nat) : Trap := ⟨5, sub, addr⟩
def trapData (sub addr : Nat) : Trap := ⟨6, sub, addr⟩

/-- Where an engine data address lies (Table 13-2). -/
inductive Region where
  | scratch | shared | virt | none
deriving DecidableEq, Repr

/-- Table 13-2. -/
def region (a : Nat) : Region :=
  if a < 0x4000 then .scratch
  else if 0x10000 ≤ a ∧ a < 0x50000 then .shared
  else if 0x10000000 ≤ a ∧ a < 2 ^ 32 then .virt
  else .none

/-- An address of virtual space lies in a current allocation. -/
def Cluster.allocated (x : Cluster) (a : Nat) : Bool := x.allocs.any fun l => decide (l.page ≤ a / 4096) && decide (a / 4096 < l.page + l.pages)

/-- Who makes a data access: an engine; a DMA channel; the host through the window, to shared RAM or to the scratch of an
engine. -/
inductive Who where
  | engine (e : Nat) | dma | host | hostEng (e : Nat)
deriving DecidableEq, Repr

/-- The source that the error log names. -/
def Who.source : Who → Nat
  | .engine _ => srcEngine
  | .dma => srcDma
  | .host => srcHost
  | .hostEng _ => srcHost

/-- The engine whose local scratch the accessor reaches. -/
def Who.scratch : Who → Option Nat
  | .engine e => some e
  | .hostEng e => some e
  | _ => none

/-- The first address of n from a that is not mapped for the accessor, with its PAGE sub-cause (R287). -/
def Dev.unmapped (s : Dev) (c : Nat) (w : Who) (a n : Nat) : Option (Nat × Nat) :=
  let x := s.cluster c
  ((List.range n).map (a + ·)).findSome? fun b =>
    match region b, w.scratch with
    | .scratch, some _ => none
    | .shared, _ => none
    | .virt, _ => if x.allocated b then none else some (b, 1)
    | _, _ => some (b, 0)

/-- The protected word of the 8 bytes at a data address (a multiple of 8). -/
def wordKey (c : Nat) (w : Who) (a : Nat) : Nat :=
  match region a, w.scratch with
  | .scratch, some e => Config.scratchWord e a
  | _, _ => Config.dataWord c a

/-- The words that n bytes from a touch, by the address of each. -/
def wordsOf (a n : Nat) : List Nat := if n = 0 then [] else (List.range ((a + n - 1) / 8 - a / 8 + 1)).map fun i => 8 * (a / 8 + i)

/-- The pages of virtual space that n bytes from a touch and the page cache does not hold. -/
def Dev.uncached (s : Dev) (c a n : Nat) : List Nat :=
  let x := s.cluster c
  (((wordsOf a n).filter fun b => region b == .virt).map (· / 4096)).eraseDups.filter fun p => !(x.pcache.any (·.1 == p))

/-- A page enters the page cache; the least recently used one leaves it, written back where it is dirty (R291). -/
def Dev.pageIn (s : Dev) (c p : Nat) : Dev :=
  let x := s.cluster c
  if x.pcache.any (·.1 == p) then s
  else
    let kept := x.pcache.take 63
    let gone := x.pcache.drop 63
    ((s.setCluster c { x with pcache := (p, false) :: kept }).count (R.ENG_c_PCACHE_FILLS c) 1).count (R.ENG_c_PCACHE_WRITEBACKS c)
      (gone.filter (·.2)).length

/-- An access to a cached page: it is the most recently used one, and dirty after a write. -/
def Dev.pageUse (s : Dev) (c p : Nat) (dirty : Bool) : Dev :=
  let x := s.cluster c
  match x.pcache.find? (·.1 == p) with
  | some (_, d) => s.setCluster c { x with pcache := (p, d || dirty) :: x.pcache.filter (·.1 != p) }
  | none => s

/-- Every page that n bytes from a touch is used. -/
def Dev.pagesUsed (s : Dev) (c a n : Nat) (dirty : Bool) : Dev :=
  forEach (((wordsOf a n).filter fun b => region b == .virt).map (· / 4096)).eraseDups s fun p t => t.pageUse c p dirty

/-- The bytes at n data addresses, as the memories hold them. -/
def Dev.rawBytes (s : Dev) (c : Nat) (w : Who) (a n : Nat) : List Byte :=
  (List.range n).map fun i =>
    match region (a + i), w.scratch with
    | .scratch, some e => sget 0 (a + i) (s.eng e).scratch
    | .shared, _ => sget 0 (a + i) (s.cluster c).shared
    | .virt, _ => sget 0 (a + i) (s.cluster c).virt
    | _, _ => 0

/-- One byte stored. -/
def Dev.rawStore (s : Dev) (c : Nat) (w : Who) (a : Nat) (b : Byte) : Dev :=
  match region a, w.scratch with
  | .scratch, some e => s.setEng e { s.eng e with scratch := sset 0 a b (s.eng e).scratch }
  | .shared, _ => s.setCluster c { s.cluster c with shared := sset 0 a b (s.cluster c).shared }
  | .virt, _ => s.setCluster c { s.cluster c with virt := sset 0 a b (s.cluster c).virt }
  | _, _ => s

/-- A byte string stored. -/
def Dev.rawWrite (s : Dev) (c : Nat) (w : Who) : Nat → List Byte → Dev
  | _, [] => s
  | a, b :: t => (s.rawStore c w a b).rawWrite c w (a + 1) t

/-- The byte of a word's inverted bits that lies at address a. -/
def flipByte (x a : Nat) : Byte := BitVec.ofNat 8 (x / 2 ^ (8 * (a % 8)))

/-- One protected word of a read: an uncorrectable word of a clean page is filled again from DRAM (Table 21-2). -/
def Dev.readWord (s : Dev) (c : Nat) (w : Who) (a : Nat) : Dev × Option Nat :=
  let k := wordKey c w a
  let r := s.memRead w.source k
  match r.2 with
  | some x => (r.1, some x)
  | none =>
    if region a = .virt ∧ ((s.cluster c).pcache.any fun p => p.1 == a / 4096 && !p.2) then (r.1.setErrs k 0, some 0) else (r.1, none)

/-- Every word of a read in order: the inverted bits of each, none where one is uncorrectable. -/
def Dev.readWords (s : Dev) (c : Nat) (w : Who) : List Nat → Dev × Option (List (Nat × Nat))
  | [] => (s, some [])
  | a :: t =>
    let r := s.readWord c w a
    match r.2 with
    | none => (r.1, none)
    | some x =>
      let q := r.1.readWords c w t
      (q.1, q.2.map ((a, x) :: ·))

/-- What an access comes to: done with bytes, an error, or a page that must first be filled. -/
inductive Acc where
  | ok (s : Dev) (v : List Byte)
  | err (s : Dev) (t : Trap)
  | fill (s : Dev) (page : Nat)

/-- A read of n bytes at a mapped address whose pages are cached. -/
def Dev.dataRead (s : Dev) (c : Nat) (w : Who) (a n sub : Nat) : Acc :=
  match s.unmapped c w a n with
  | some (b, k) => .err s (trapPage k b)
  | none => match s.uncached c a n with
    | p :: _ => .fill s p
    | [] =>
      let r := (s.pagesUsed c a n false).readWords c w (wordsOf a n)
      match r.2 with
      | none => .err r.1 (trapData sub a)
      | some l =>
        .ok r.1 (List.zipWith (fun (b : Byte) i => b ^^^ flipByte (sget 0 (8 * ((a + i) / 8)) l) (a + i)) (s.rawBytes c w a n) (List.range n))

/-- Words of a write in order, those in full marked so: the state with every word ready, none where one is refused; a merge
takes over the bits that the word under it has inverted (R453, R454). -/
def Dev.writeWords (s : Dev) (c : Nat) (w : Who) (a n : Nat) (whole : Bool) : List Nat → Dev × Bool
  | [] => (s, true)
  | b :: t =>
    let k := wordKey c w b
    if whole && decide (a ≤ b) && decide (b + 8 ≤ a + n) then (s.memFull w.source k).writeWords c w a n whole t
    else
      let r := s.memPartial w.source k
      match r.2 with
      | none => (r.1, false)
      | some x =>
        let u := if x = 0 then r.1
          else r.1.rawWrite c w b (List.zipWith (fun (v : Byte) i => v ^^^ flipByte x (b + i)) (s.rawBytes c w b 8) (List.range 8))
        u.writeWords c w a n whole t

/-- A write of bytes at a mapped address whose pages are cached; whole: words it covers are written in full. -/
def Dev.dataWrite (s : Dev) (c : Nat) (w : Who) (a : Nat) (v : List Byte) (whole : Bool) (sub : Nat) : Acc :=
  match s.unmapped c w a v.length with
  | some (b, k) => .err s (trapPage k b)
  | none => match s.uncached c a v.length with
    | p :: _ => .fill s p
    | [] =>
      let r := s.writeWords c w a v.length whole (wordsOf a v.length)
      if r.2 then .ok ((r.1.pagesUsed c a v.length true).rawWrite c w a v) [] else .err r.1 (trapData sub a)

/-- General registers (R285). -/
def Eng.g (x : Eng) (r : Nat) : Word := if r = 0 then 0 else sget 0 r x.regs
def Eng.setG (x : Eng) (r : Nat) (v : Word) : Eng := if r = 0 then x else { x with regs := sset 0 r v x.regs }

/-- Registers that outstanding operations have pending (R301). -/
def Eng.pendingRegs (x : Eng) : List Nat := x.ops.flatMap fun o => [o.rd, o.rd + 1]

/-- A frame held in a context that ends is dropped and counted in ORPHAN (R299). -/
def Dev.orphan (s : Dev) (e : Nat) : Dev :=
  match (s.eng e).pkt.item with
  | some i => if i.frame.isSome then s.count (R.ENG_c_PKT_LOST_ORPHAN (e / 16)) 1 else s
  | none => s

/-- A lookup whose result is discarded: it completes, now or, where it waits for a bucket, when that arrives (R313). -/
def Dev.dropLookup (s : Dev) (e rd : Nat) (l : EngLookup) : Dev :=
  let r := if l.stage = 0 then s.startLookup e rd l else (s, l)
  let mine (m : Miss) : Bool := m.who == .engine e rd
  if r.1.thk.missQ.any mine then
    { r.1 with thk := { r.1.thk with missQ := r.1.thk.missQ.map fun m => if mine m then { m with who := .gone r.2 } else m } }
  else r.1.lookupLost r.2

/-- Outstanding operations complete and their results are discarded (R313). -/
def Dev.discardOps (s : Dev) (e : Nat) : Dev :=
  let t := forEach (s.eng e).ops s fun o u => match o.op with
    | .lookup l => u.dropLookup e o.rd l
    | .op rec => (u.thkOp (leAt rec 61 1) (leAt rec 60 1) (rec.take 40) (leAt rec 40 20)).1
    | .commit => if u.standby then u.count R.TWN_COUNTS_REFUSED 1 else u.commitRequest
    | .commitWait _ _ => u
  t.setEng e { t.eng e with ops := [] }

/-- A trap is recorded, or counted in LOST, and its task stops on FAULTED (R313, R329). -/
def Dev.engTrap (s : Dev) (e : Nat) (t : Trap) (pc word : Nat) : Dev :=
  let c := e / 16
  let n := (s.eng e).task
  let s1 := ((s.discardOps e).orphan e).count (R.ENG_c_TRAP_COUNTS_TRAPS c) 1
  let s2 :=
    if s1.is (R.ENG_c_TRAP_VALID c) then s1.count (R.ENG_c_TRAP_COUNTS_LOST c) 1
    else
      let w := if t.cause = 2 then 0 else word
      let u := (((s1.set (R.ENG_c_TRAP_CAUSE c) t.cause).set (R.ENG_c_TRAP_SUB c) t.sub).set (R.ENG_c_TRAP_ENGINE c) (e % 16)).set
        (R.ENG_c_TRAP_VALID c) 1
      let u := (((u.set (R.ENG_c_TRAP_PC_PC c) pc).set (R.ENG_c_TRAP_TASK_TASK c) n).wr (R.ENG_c_TRAP_ADDR c) (BitVec.ofNat 32 t.addr)).wr
        (R.ENG_c_TRAP_WORD c) (BitVec.ofNat 32 w)
      (u.raise R.ENG_IRQ_TRAP).event 0x0D80
        (le 1 c ++ le 1 (e % 16) ++ le 1 t.cause ++ le 1 t.sub ++ le 2 n ++ le 4 pc ++ le 4 t.addr ++ le 4 w)
  let s3 := ((s2.countR R.TSK_FAULTS 1).raise R.TSK_IRQ_FAULT).eventCounted 0x0E80 1 0 fun k => tskPayload 1 n (s2.task n).pitch k
  let s4 := (s3.setTask n { s3.task n with st := .faulted, wait := none }).traceTask .fault n e 0xFFFF false
  s4.leaveEngine e

/-- The store that the merge buffer holds is merged (R455): none where it is refused, so that the task traps at its PC. -/
def Dev.flushHeld (s : Dev) (e : Nat) : Option Dev × Dev :=
  let x := s.eng e
  match x.held with
  | none => (some s, s)
  | some h =>
    let s1 := s.setEng e { x with held := none }
    match s1.dataWrite (e / 16) (.engine e) h.addr (le 4 h.val) false 1 with
    | .ok t _ => (some t, t)
    | .err t r => (none, t.engTrap e r h.pc h.word)
    | .fill t p =>
      match (t.pageIn (e / 16) p).dataWrite (e / 16) (.engine e) h.addr (le 4 h.val) false 1 with
      | .ok u _ => (some u, u)
      | .err u r => (none, u.engTrap e r h.pc h.word)
      | .fill u _ => (some u, u)

/-- Instructions of Table 13-8. -/
inductive EOp where
  | add | sub | and | or | xor | sll | srl | sra | slt | sltu | mul | mulhu | rev | revh | clz | popc
  | addi | andi | ori | xori | slli | srli | srai | slti | sltiu | bext | bins | lui | jal | jalr
  | beq | bne | blt | bge | bltu | bgeu | lb | lbu | lh | lhu | lw | sb | sh | sw
  | lbp | lhp | lwp | sbp | shp | swp | aadd | aand | aor | aswap | acas
  | fence | end_ | yieldpt | evwaitAny | evwaitAll | evset | evclr | evget | tsr | tsrh
  | pnext | pnew | phead | plen | psend | precirc | pdrop | tlkp | top | tcommit
  | msendTask | msendHost | msendNode | mrecv | palloc | pfree | crc32c | crc32 | crc16
deriving DecidableEq, Repr

/-- A decoded instruction: its fields, and the immediate as a signed number (R309). -/
structure Ins where
  op : EOp
  rd : Nat
  rs1 : Nat
  rs2 : Nat
  imm : Int
  func : Nat
deriving DecidableEq, Repr

/-- Which register fields an instruction of format R uses. -/
structure Uses where
  rd : Bool
  rs1 : Bool
  rs2 : Bool

/-- The instruction of format R with an opcode and func, and the fields it uses (Table 13-8, R308). -/
def rOp (opcode func : Nat) : Option (EOp × Uses) :=
  let all : Uses := ⟨true, true, true⟩
  let two : Uses := ⟨true, true, false⟩
  let no : Uses := ⟨false, false, false⟩
  let dest : Uses := ⟨true, false, false⟩
  let src : Uses := ⟨false, true, false⟩
  match opcode, func with
  | 0x01, 0 => some (.add, all)
  | 0x01, 1 => some (.sub, all)
  | 0x01, 2 => some (.and, all)
  | 0x01, 3 => some (.or, all)
  | 0x01, 4 => some (.xor, all)
  | 0x01, 5 => some (.sll, all)
  | 0x01, 6 => some (.srl, all)
  | 0x01, 7 => some (.sra, all)
  | 0x01, 8 => some (.slt, all)
  | 0x01, 9 => some (.sltu, all)
  | 0x01, 10 => some (.mul, all)
  | 0x01, 11 => some (.mulhu, all)
  | 0x01, 12 => some (.rev, two)
  | 0x01, 13 => some (.revh, two)
  | 0x01, 14 => some (.clz, two)
  | 0x01, 15 => some (.popc, two)
  | 0x28, 0 => some (.aadd, all)
  | 0x28, 1 => some (.aand, all)
  | 0x28, 2 => some (.aor, all)
  | 0x28, 3 => some (.aswap, all)
  | 0x28, 4 => some (.acas, all)
  | 0x29, 0 => some (.fence, no)
  | 0x29, 1 => some (.end_, no)
  | 0x29, 2 => some (.yieldpt, no)
  | 0x29, 3 => some (.evwaitAny, src)
  | 0x29, 4 => some (.evwaitAll, src)
  | 0x29, 5 => some (.evset, ⟨false, true, true⟩)
  | 0x29, 6 => some (.evclr, src)
  | 0x29, 7 => some (.evget, dest)
  | 0x29, 8 => some (.tsr, dest)
  | 0x29, 9 => some (.tsrh, dest)
  | 0x2A, 0 => some (.pnext, dest)
  | 0x2A, 1 => some (.pnew, two)
  | 0x2A, 2 => some (.phead, two)
  | 0x2A, 3 => some (.plen, two)
  | 0x2A, 4 => some (.psend, dest)
  | 0x2A, 5 => some (.precirc, dest)
  | 0x2A, 6 => some (.pdrop, dest)
  | 0x2B, f => if f / 2 ^ 7 = 0 then some (.tlkp, all) else if f = 0x200 then some (.top, two) else if f = 0x400 then some (.tcommit, dest) else none
  | 0x2C, 0 => some (.msendTask, all)
  | 0x2C, 1 => some (.msendHost, all)
  | 0x2C, 2 => some (.msendNode, all)
  | 0x2C, 3 => some (.mrecv, two)
  | 0x2D, 0 => some (.palloc, two)
  | 0x2D, 1 => some (.pfree, two)
  | 0x2E, 0 => some (.crc32c, all)
  | 0x2E, 1 => some (.crc32, all)
  | 0x2E, 2 => some (.crc16, all)
  | _, _ => none

/-- The instruction of format I or S with an opcode. -/
def iOp : Nat → Option EOp
  | 0x02 => some .addi
  | 0x03 => some .andi
  | 0x04 => some .ori
  | 0x05 => some .xori
  | 0x06 => some .slli
  | 0x07 => some .srli
  | 0x08 => some .srai
  | 0x09 => some .slti
  | 0x0A => some .sltiu
  | 0x0B => some .bext
  | 0x0C => some .bins
  | 0x0F => some .jalr
  | 0x10 => some .beq
  | 0x11 => some .bne
  | 0x12 => some .blt
  | 0x13 => some .bge
  | 0x14 => some .bltu
  | 0x15 => some .bgeu
  | 0x18 => some .lb
  | 0x19 => some .lbu
  | 0x1A => some .lh
  | 0x1B => some .lhu
  | 0x1C => some .lw
  | 0x1D => some .sb
  | 0x1E => some .sh
  | 0x1F => some .sw
  | 0x20 => some .lbp
  | 0x21 => some .lhp
  | 0x22 => some .lwp
  | 0x23 => some .sbp
  | 0x24 => some .shp
  | 0x25 => some .swp
  | _ => none

/-- Format S: the field of rd holds rs2. -/
def EOp.isS : EOp → Bool
  | .beq | .bne | .blt | .bge | .bltu | .bgeu | .sb | .sh | .sw | .sbp | .shp | .swp => true
  | _ => false

/-- A pair instruction (R301, R307). -/
def EOp.pair : EOp → Bool
  | .tsr | .tlkp | .top | .tcommit => true
  | _ => false

/-- Bits of imm16 that an instruction leaves unused must be 0 (R309). -/
def immOk (op : EOp) (imm16 : Nat) : Bool :=
  match op with
  | .slli | .srli | .srai => decide (imm16 < 32)
  | .bext | .bins => decide (imm16 < 1024)
  | _ => true

/-- An instruction word decoded; none traps ILLEGAL with ENCODING (R308). -/
def decodeEng (w : Nat) : Option Ins :=
  let opcode := bits w 26 6
  let a := bits w 21 5
  let b := bits w 16 5
  let d := bits w 11 5
  let func := bits w 0 11
  let imm16 := bits w 0 16
  if opcode = 0x0D ∨ opcode = 0x0E then
    some { op := if opcode = 0x0D then .lui else .jal, rd := a, rs1 := 0, rs2 := 0,
           imm := if opcode = 0x0D then (bits w 0 21 : Nat) else signed 21 (bits w 0 21), func := 0 }
  else match iOp opcode with
    | some op =>
      if !immOk op imm16 then none
      else
        let imm : Int := if op = .andi ∨ op = .ori ∨ op = .xori then (imm16 : Nat) else signed 16 imm16
        some (if op.isS then { op := op, rd := 0, rs1 := b, rs2 := a, imm := imm, func := 0 }
              else { op := op, rd := a, rs1 := b, rs2 := 0, imm := imm, func := imm16 })
    | none => match rOp opcode func with
      | none => none
      | some (op, u) =>
        if (!u.rd && a != 0) || (!u.rs1 && b != 0) || (!u.rs2 && d != 0) || (op.pair && (a % 2 == 1 || a == 0)) then none
        else some { op := op, rd := a, rs1 := b, rs2 := d, imm := 0, func := func }

/-- Registers that an instruction reads or writes. -/
def Ins.touches (i : Ins) : List Nat := ([i.rd, i.rs1, i.rs2] ++ (if i.op.pair then [i.rd + 1] else [])).filter (· != 0)

/-- What an instruction comes to: executed, with its next PC where it branches; trapped; stalled, on a page or on operations; or the
task has left the engine. -/
inductive ERes where
  | done (s : Dev) (pc : Option Nat)
  | trap (s : Dev) (t : Trap)
  | page (s : Dev) (p : Nat)
  | wait (s : Dev)
  | left (s : Dev)

/-- An engine that a pre-emption waits for starts no further instruction (R327). -/
def Dev.stopHere (s : Dev) (e : Nat) : Dev :=
  if s.tsk.requests.any (fun r => r.1 == e && !r.2.2) && (s.eng e).st == .running then s.setEng e { s.eng e with st := .leaving } else s

/-- An instruction completes: counted in units of 1,024 per cluster (ENG_c_RETIRED), and a pre-empted engine stops (R327). -/
def Dev.retire (s0 : Dev) (e : Nat) : Dev :=
  let c := e / 16
  let s := s0.stopHere e
  let x := s.cluster c
  if x.retired = 1023 then (s.setCluster c { x with retired := 0 }).countR (R.ENG_c_RETIRED c) 1
  else s.setCluster c { x with retired := x.retired + 1 }

/-- The instruction word at PC: an uncorrectable word traps FETCH_UE (R285, Table 21-2). -/
def Dev.fetchWord (s : Dev) (c pc : Nat) : Dev × Option Nat :=
  let r := s.memRead srcEngine (Config.codeWord c (8 * (pc / 8)))
  (r.1, r.2.map fun x =>
    ofLe (List.zipWith (fun (b : Byte) i => b ^^^ flipByte x (pc + i)) (sbytes (s.cluster c).iram pc 4) (List.range 4)))

/-- Whether a store is the half that completes the full-word write of the held one (R455). -/
def pairsWith (x : Eng) (i : Ins) : Bool :=
  match x.held with
  | some h => i.op == .sw && unsigned 32 ((x.g i.rs1).toNat + i.imm) == h.addr + 4 && h.addr % 8 == 0
  | none => false

/-- Engine e executes its next instruction where that is of kind op: body gives its effect on the engine as it stands (R285, R301,
R308, R312, R455). -/
def Dev.engRun (s0 : Dev) (e : Fin 512) (op : EOp) (body : Dev → Eng → Ins → ERes) : Dev :=
  let c := (e : Nat) / 16
  let x0 := s0.eng e
  if x0.st ≠ .running ∨ !s0.isUp c then s0
  else
    let f := s0.fetchWord c x0.pc
    match f.2 with
    | none => (match f.1.flushHeld e with
      | (some t, _) => t.engTrap e (trapFetch x0.pc) x0.pc 0
      | (none, t) => t)
    | some w =>
      match decodeEng w with
      | none => (match f.1.flushHeld e with
        | (some t, _) => t.engTrap e (trapIllegal 0 0) x0.pc w
        | (none, t) => t)
      | some i =>
        if i.op ≠ op then s0
        else if i.touches.any x0.pendingRegs.contains then f.1.setEng e { x0 with st := .stalled }
        else match (if pairsWith x0 i then (some f.1, f.1) else f.1.flushHeld e) with
          | (none, t) => t
          | (some s, _) =>
            let x := s.eng e
            match body s x i with
            | .done t pc =>
              (t.setEng e { t.eng e with pc := (pc.getD (x.pc + 4)) % 131072 }).retire e
            | .trap t r => t.engTrap e r x.pc w
            | .page t p => t.setEng e { t.eng e with st := .stalled, page := some p }
            | .wait t => t.setEng e { t.eng e with st := .stalled }
            | .left t => t.retire e

/-- A register of engine e written. -/
def Dev.setG (s : Dev) (e r : Nat) (v : Word) : Dev := s.setEng e ((s.eng e).setG r v)

end Sys2Proof.Machine
end

