-- ==== Sys2Proof/Machine/Tasks.lean ====
section
/-!
DEFINITION. Sys2Proof/Machine/Tasks.lean: dispatch, pre-emption and the commands of TSK_CMD (14_task_dispatch.md R318 to R331).
-/
namespace Sys2Proof.Machine

/-- Engines of a cluster, in ascending global number. -/
def enginesOf (c : Nat) : List Nat := (List.range 16).map (16 * c + ·)

/-- An engine waits at END or EVWAIT for its operations: it is leaving its task (R301, R326). -/
def Dev.atExit (s : Dev) (e : Nat) : Bool :=
  let x := s.eng e
  x.st == .stalled && x.page.isNone && match decodeEng (ofLe (sbytes (s.cluster (e / 16)).iram x.pc 4)) with
    | some i => (i.op == .end_ || i.op == .evwaitAny || i.op == .evwaitAll) && !i.touches.any x.pendingRegs.contains
    | none => false

/-- The victim of a READY task (R326): greatest PRIO value, then PREEMPT before YIELD, then lowest engine. -/
def Dev.victim (s : Dev) (t : Task) (cs : List Nat) : Option Nat :=
  let cand := (cs.flatMap enginesOf).filter fun e =>
    let x := s.eng e
    (x.st == .running || x.st == .stalled && !s.atExit e) && decide (t.prio < (s.task x.task).prio) && !s.tsk.requests.any (·.1 == e)
  let key (e : Nat) : Nat := let v := s.task (s.eng e).task; 2 * v.prio + b2n v.preempt
  cand.foldl (fun (b : Option Nat) e => match b with
    | some d => if key d < key e ∨ (key d = key e ∧ e < d) then some e else b
    | none => some e) none

/-- What dispatch does for a READY task (R324): an engine, a wake of a cluster, or a request to a victim. -/
def Dev.seekEngine (s : Dev) (n : Nat) (t : Task) : Option Dev :=
  let cs := s.usable t
  let idle (c : Nat) : Option Nat := (enginesOf c).find? fun e => (s.eng e).st == .idle
  let awake := (cs.filter s.isUp).filterMap idle
  let asleep := cs.filter fun c => !s.isUp c && (idle c).isSome
  match awake.min?, asleep.min? with
  | some e, _ => some (s.dispatchTo n e)
  | none, some c => if s.tsk.wake.contains c then none else some { s with tsk := { s.tsk with wake := s.tsk.wake ++ [c] } }.revote
  | none, none =>
    if s.tsk.requests.any (·.2.1 == n) then none
    else match s.victim t cs with
      | none => none
      | some e =>
        let v := (s.eng e).task
        let yields := !(s.task v).preempt
        some ((s.askLeave e n).traceTask (if yields then .interrupt else .preempt) v e n false)

/-- DISPATCH: the first READY task in order for which something can be done (R323, R324, R326). -/
def doDispatch (s : Dev) : Dev :=
  if !s.tskRuns then s else (s.readyList.findSome? fun x => s.seekEngine x.1 x.2).getD s

/-- PREEMPT_SWITCH: a victim whose operations are complete gives way (R327). -/
def doPreemptSwitch (s : Dev) : Dev :=
  match s.engs.find? fun e => e.2.st == .leaving && e.2.ops.isEmpty with
  | some (e, _) => (match s.flushHeld e with
    | (some t, _) => (t.count R.TSK_SWITCHES_PREEMPTS 1).giveWay e
    | (none, t) => t)
  | none => s

/-- Results of TSK_CMD. -/
inductive TskRes where
  | ok | state | arg
deriving DecidableEq, Repr

/-- RESULT codes. -/
def TskRes.code : TskRes → Nat
  | .ok => 0
  | .state => 1
  | .arg => 2

/-- A command ends. -/
def Dev.tskResult (s : Dev) (r : TskRes) : Dev := (s.set R.TSK_CMD_RESULT_RESULT r.code).set R.TSK_CMD_RESULT_DONE 1

/-- The four successor fields of the descriptor window, each with its valid bit (Table 14-1). -/
def Dev.windowSucc (s : Dev) : List (Bool × Nat) :=
  let v := s.get R.TSK_D_CTL_SVALID
  [(bit v 0, s.get R.TSK_D_SUCC01_SUCC_LOW), (bit v 1, s.get R.TSK_D_SUCC01_SUCC_HIGH),
   (bit v 2, s.get R.TSK_D_SUCC23_SUCC_LOW), (bit v 3, s.get R.TSK_D_SUCC23_SUCC_HIGH)]

/-- A descriptor written into a task (R318). -/
def Dev.putTask (s : Dev) (n : Nat) (d : TaskDecl) : Dev :=
  let t := s.task n
  s.setTask n { t with
    st := .idle, pitch := d.pitchOf, cmask := d.cmask, prio := d.prio, preempt := d.preempt, waitAll := d.waitAll, entry := d.entry,
    mask := d.mask, flags := d.flags, clear := d.clear, depInit := d.depInit, dep := d.depInit, succ := d.succ,
    postLimit := d.postLimit, runs := 0, ctx := none, wait := none }

/-- A descriptor written into a task and its start condition judged (R318, R319). -/
def Dev.writeTask (s : Dev) (n : Nat) (d : TaskDecl) : Dev := (s.putTask n d).reeval [n]

/-- The task that TSK_SEL names. -/
def Dev.selTask (s : Dev) : Nat := s.get R.TSK_SEL_TASK

/-- TSK_WRITE (R318). -/
def doTskWrite (s : Dev) : Dev :=
  let n := s.selTask
  let t := s.task n
  let pitch := s.get R.TSK_D_CTL_PITCH
  if t.st ≠ .free ∧ t.st ≠ .idle then s.tskResult .state
  else if !s.pitchUsed pitch || s.get R.TSK_D_CTL_CMASK == 0 || s.get R.TSK_D_ENTRY_PC % 4 != 0 then s.tskResult .arg
  else
    (s.writeTask n
      { task := n, pitchOf := pitch, cmask := s.get R.TSK_D_CTL_CMASK, prio := s.get R.TSK_D_CTL_PRIO, preempt := s.is R.TSK_D_CTL_KIND,
        waitAll := s.is R.TSK_D_CTL_COND, entry := s.get R.TSK_D_ENTRY_PC, mask := (s.rd R.TSK_D_MASK).toNat,
        flags := (s.rd R.TSK_D_FLAGS).toNat, clear := (s.rd R.TSK_D_CLEAR).toNat, depInit := s.get R.TSK_D_DEP_INIT,
        succ := s.windowSucc, postLimit := s.get R.TSK_D_POST_LIMIT }).tskResult .ok

/-- TSK_READ: the window filled from the descriptor (R318). -/
def doTskRead (s : Dev) : Dev :=
  let t := s.task s.selTask
  let sv := ((List.range 4).map fun i => b2n (t.succ.getD i default).1 * 2 ^ i).sum
  let su (i : Nat) : Nat := (t.succ.getD i default).2
  let s1 := (((s.set R.TSK_D_CTL_PITCH t.pitch).set R.TSK_D_CTL_PRIO t.prio).setB R.TSK_D_CTL_KIND t.preempt).setB R.TSK_D_CTL_COND t.waitAll
  let s2 := (((s1.set R.TSK_D_CTL_CMASK t.cmask).set R.TSK_D_CTL_STATE t.st.code).setB R.TSK_D_CTL_CTX t.ctx.isSome).set R.TSK_D_CTL_SVALID sv
  let s3 := (((s2.set R.TSK_D_ENTRY_PC t.entry).wr R.TSK_D_MASK (BitVec.ofNat 32 t.mask)).wr R.TSK_D_FLAGS (BitVec.ofNat 32 t.flags)).wr
    R.TSK_D_CLEAR (BitVec.ofNat 32 t.clear)
  let s4 := ((s3.set R.TSK_D_DEP_INIT t.depInit).set R.TSK_D_DEP_COUNT t.dep).set R.TSK_D_SUCC01_SUCC_LOW (su 0)
  let s5 := ((s4.set R.TSK_D_SUCC01_SUCC_HIGH (su 1)).set R.TSK_D_SUCC23_SUCC_LOW (su 2)).set R.TSK_D_SUCC23_SUCC_HIGH (su 3)
  (((s5.set R.TSK_D_POST_LIMIT t.postLimit).set R.TSK_D_POST_POSTED t.posts.length).wr R.TSK_D_RUNS (BitVec.ofNat 32 t.runs)).tskResult .ok

/-- TSK_FREE (R331). -/
def doTskFree (s : Dev) : Dev :=
  let n := s.selTask
  let t := s.task n
  if t.st = .idle ∨ t.st = .faulted then ((s.dropPosts n).setTask n .free).tskResult .ok else s.tskResult .state

/-- TSK_SET_FLAGS (R321). -/
def doTskSetFlags (s : Dev) : Dev := (s.setFlags s.selTask (s.rd R.TSK_D_FLAGS).toNat).tskResult .ok

/-- TSK_CLEAR_FLAGS (R333). -/
def doTskClearFlags (s : Dev) : Dev := (s.clearFlags s.selTask (s.rd R.TSK_D_FLAGS).toNat).tskResult .ok

/-- TASK_RESTART (R331). -/
def doTaskRestart (s : Dev) : Dev :=
  let n := s.selTask
  let t := s.task n
  if t.st = .faulted then ((s.setTask n { t with st := .idle, dep := t.depInit }).reeval [n]).tskResult .ok else s.tskResult .state

-- The commands of this file.

/-- DISPATCH (R324). -/
def execDispatch (s : State) : Host.Outcome State Fault Refusal := s.run (doDispatch)

/-- PREEMPT_SWITCH (R327). -/
def execPreemptSwitch (s : State) : Host.Outcome State Fault Refusal := s.run (doPreemptSwitch)

/-- TSK_WRITE (R318). -/
def execTskWrite (s : State) : Host.Outcome State Fault Refusal := s.run (doTskWrite)

/-- TSK_READ (R318). -/
def execTskRead (s : State) : Host.Outcome State Fault Refusal := s.run (doTskRead)

/-- TSK_FREE (R331). -/
def execTskFree (s : State) : Host.Outcome State Fault Refusal := s.run (doTskFree)

/-- TSK_SET_FLAGS (R321). -/
def execTskSetFlags (s : State) : Host.Outcome State Fault Refusal := s.run (doTskSetFlags)

/-- TSK_CLEAR_FLAGS (R333). -/
def execTskClearFlags (s : State) : Host.Outcome State Fault Refusal := s.run (doTskClearFlags)

/-- TASK_RESTART (R331). -/
def execTaskRestart (s : State) : Host.Outcome State Fault Refusal := s.run (doTaskRestart)

end Sys2Proof.Machine
end

