-- ==== Sys2Proof/Machine/Engines.lean ====
section
/-!
DEFINITION. Sys2Proof/Machine/Engines.lean: the instructions of Table 13-8 but those that act on frames, messages and the Thicket
(13_engines.md R287 to R292, R300, R304, R307, R309, R310; 14_task_dispatch.md R322, R328 to R330).
-/
namespace Sys2Proof.Machine

/-- A register-only instruction: g(rd) takes a value of the two sources and the immediate. -/
def Dev.alu (s : Dev) (e : Fin 512) (op : EOp) (f : Word → Word → Int → Word) : Dev :=
  s.engRun e op fun t x i => .done (t.setG e i.rd (f (x.g i.rs1) (x.g i.rs2) i.imm)) none

/-- The immediate as a word. -/
def immWord (i : Int) : Word := BitVec.ofInt 32 i

/-- 1 or 0 as a word. -/
def boolWord (b : Bool) : Word := BitVec.ofNat 32 (b2n b)

/-- ADD. -/
def doAdd (e : Fin 512) (s : Dev) : Dev := s.alu e .add fun a b _ => a + b
/-- SUB. -/
def doSub (e : Fin 512) (s : Dev) : Dev := s.alu e .sub fun a b _ => a - b
/-- AND. -/
def doAnd (e : Fin 512) (s : Dev) : Dev := s.alu e .and fun a b _ => a &&& b
/-- OR. -/
def doOr (e : Fin 512) (s : Dev) : Dev := s.alu e .or fun a b _ => a ||| b
/-- XOR. -/
def doXor (e : Fin 512) (s : Dev) : Dev := s.alu e .xor fun a b _ => a ^^^ b
/-- SLL: by g(rs2)[4:0]. -/
def doSll (e : Fin 512) (s : Dev) : Dev := s.alu e .sll fun a b _ => a <<< (b.toNat % 32)
/-- SRL. -/
def doSrl (e : Fin 512) (s : Dev) : Dev := s.alu e .srl fun a b _ => a >>> (b.toNat % 32)
/-- SRA. -/
def doSra (e : Fin 512) (s : Dev) : Dev := s.alu e .sra fun a b _ => a.sshiftRight (b.toNat % 32)
/-- SLT. -/
def doSlt (e : Fin 512) (s : Dev) : Dev := s.alu e .slt fun a b _ => boolWord (a.slt b)
/-- SLTU. -/
def doSltu (e : Fin 512) (s : Dev) : Dev := s.alu e .sltu fun a b _ => boolWord (a.ult b)
/-- MUL: low 32 bits of the product. -/
def doMul (e : Fin 512) (s : Dev) : Dev := s.alu e .mul fun a b _ => a * b
/-- MULHU: unsigned high 32 bits of the product. -/
def doMulhu (e : Fin 512) (s : Dev) : Dev := s.alu e .mulhu fun a b _ => BitVec.ofNat 32 (a.toNat * b.toNat / 2 ^ 32)
/-- REV: byte reverse. -/
def doRev (e : Fin 512) (s : Dev) : Dev := s.alu e .rev fun a _ _ => BitVec.ofNat 32 (ofBe (le 4 a.toNat))
/-- REVH: byte reverse of the low halfword, zero-extended. -/
def doRevh (e : Fin 512) (s : Dev) : Dev := s.alu e .revh fun a _ _ => BitVec.ofNat 32 (ofBe (le 2 a.toNat))

/-- Leading zeros of the low w bits of a number. -/
def leadingZeros : Nat → Nat → Nat
  | 0, _ => 0
  | w + 1, n => if bit n w then 0 else 1 + leadingZeros w n

/-- CLZ. -/
def doClz (e : Fin 512) (s : Dev) : Dev := s.alu e .clz fun a _ _ => BitVec.ofNat 32 (leadingZeros 32 a.toNat)
/-- POPC: set bits. -/
def doPopc (e : Fin 512) (s : Dev) : Dev := s.alu e .popc fun a _ _ => BitVec.ofNat 32 (popcount 32 a.toNat)
/-- ADDI. -/
def doAddi (e : Fin 512) (s : Dev) : Dev := s.alu e .addi fun a _ i => a + immWord i
/-- ANDI. -/
def doAndi (e : Fin 512) (s : Dev) : Dev := s.alu e .andi fun a _ i => a &&& immWord i
/-- ORI. -/
def doOri (e : Fin 512) (s : Dev) : Dev := s.alu e .ori fun a _ i => a ||| immWord i
/-- XORI. -/
def doXori (e : Fin 512) (s : Dev) : Dev := s.alu e .xori fun a _ i => a ^^^ immWord i
/-- SLLI: by imm16[4:0]. -/
def doSlli (e : Fin 512) (s : Dev) : Dev := s.alu e .slli fun a _ i => a <<< (i.toNat % 32)
/-- SRLI. -/
def doSrli (e : Fin 512) (s : Dev) : Dev := s.alu e .srli fun a _ i => a >>> (i.toNat % 32)
/-- SRAI. -/
def doSrai (e : Fin 512) (s : Dev) : Dev := s.alu e .srai fun a _ i => a.sshiftRight (i.toNat % 32)
/-- SLTI. -/
def doSlti (e : Fin 512) (s : Dev) : Dev := s.alu e .slti fun a _ i => boolWord (a.slt (immWord i))
/-- SLTIU: the sign-extended immediate, compared as unsigned. -/
def doSltiu (e : Fin 512) (s : Dev) : Dev := s.alu e .sltiu fun a _ i => boolWord (a.ult (immWord i))
/-- BEXT: bits p + w − 1 to p, those beyond bit 31 dropped (R309). -/
def doBext (e : Fin 512) (s : Dev) : Dev :=
  s.alu e .bext fun a _ i => BitVec.ofNat 32 (bits a.toNat (i.toNat % 32) (i.toNat / 32 % 32 + 1))
/-- BINS: bits p + w − 1 to p of g(rd) take the low w bits of g(rs1), those beyond bit 31 dropped (R309). -/
def doBins (e : Fin 512) (s : Dev) : Dev :=
  s.engRun e .bins fun t x i =>
    let p := i.imm.toNat % 32
    let w := i.imm.toNat / 32 % 32 + 1
    .done (t.setG e i.rd (BitVec.ofNat 32 (putBits (x.g i.rd).toNat p w (x.g i.rs1).toNat))) none
/-- LUI: imm21 × 2,048. -/
def doLui (e : Fin 512) (s : Dev) : Dev := s.alu e .lui fun _ _ i => immWord (i * 2048)

/-- PC + 4 as JAL and JALR write it. -/
def linkWord (x : Eng) : Word := BitVec.ofNat 32 ((x.pc + 4) % 131072)

/-- A branch target: PC + 4 × imm, modulo 131,072. -/
def target (x : Eng) (i : Ins) : Nat := unsigned 17 (x.pc + 4 * i.imm)

/-- JAL. -/
def doJal (e : Fin 512) (s : Dev) : Dev := s.engRun e .jal fun t x i => .done (t.setG e i.rd (linkWord x)) (some (target x i))
/-- JALR: a target that is not a multiple of 4 traps ALIGN. -/
def doJalr (e : Fin 512) (s : Dev) : Dev :=
  s.engRun e .jalr fun t x i =>
    let a := (x.g i.rs1 + immWord i.imm).toNat
    if a % 4 ≠ 0 then .trap t (trapAlign 1 a) else .done (t.setG e i.rd (linkWord x)) (some a)

/-- A branch taken where g(rs1) and g(rs2) compare so. -/
def Dev.branch (s : Dev) (e : Fin 512) (op : EOp) (f : Word → Word → Bool) : Dev :=
  s.engRun e op fun t x i => .done t (if f (x.g i.rs1) (x.g i.rs2) then some (target x i) else none)

/-- BEQ. -/
def doBeq (e : Fin 512) (s : Dev) : Dev := s.branch e .beq fun a b => a == b
/-- BNE. -/
def doBne (e : Fin 512) (s : Dev) : Dev := s.branch e .bne fun a b => a != b
/-- BLT. -/
def doBlt (e : Fin 512) (s : Dev) : Dev := s.branch e .blt fun a b => a.slt b
/-- BGE. -/
def doBge (e : Fin 512) (s : Dev) : Dev := s.branch e .bge fun a b => !a.slt b
/-- BLTU. -/
def doBltu (e : Fin 512) (s : Dev) : Dev := s.branch e .bltu fun a b => a.ult b
/-- BGEU. -/
def doBgeu (e : Fin 512) (s : Dev) : Dev := s.branch e .bgeu fun a b => !a.ult b

/-- The address g(rs1) + imm. -/
def effAddr (x : Eng) (i : Ins) : Nat := (x.g i.rs1 + immWord i.imm).toNat

/-- A load of n bytes, extended by f (R286, R287). -/
def Dev.load (s : Dev) (e : Fin 512) (op : EOp) (n : Nat) (f : Nat → Word) : Dev :=
  s.engRun e op fun t x i =>
    let a := effAddr x i
    if a % n ≠ 0 then .trap t (trapAlign 0 a)
    else match t.dataRead ((e : Nat) / 16) (.engine e) a n 0 with
      | .ok u v => .done (u.setG e i.rd (f (ofLe v))) none
      | .err u r => .trap u r
      | .fill u p => .page u p

/-- LB: sign-extended. -/
def doLb (e : Fin 512) (s : Dev) : Dev := s.load e .lb 1 fun n => immWord (signed 8 n)
/-- LBU. -/
def doLbu (e : Fin 512) (s : Dev) : Dev := s.load e .lbu 1 fun n => BitVec.ofNat 32 n
/-- LH. -/
def doLh (e : Fin 512) (s : Dev) : Dev := s.load e .lh 2 fun n => immWord (signed 16 n)
/-- LHU. -/
def doLhu (e : Fin 512) (s : Dev) : Dev := s.load e .lhu 2 fun n => BitVec.ofNat 32 n
/-- LW. -/
def doLw (e : Fin 512) (s : Dev) : Dev := s.load e .lw 4 fun n => BitVec.ofNat 32 n

/-- A store of the low n bytes of g(rs2) (R286, R287, R454). -/
def Dev.store (s : Dev) (e : Fin 512) (op : EOp) (n : Nat) : Dev :=
  s.engRun e op fun t x i =>
    let a := effAddr x i
    if a % n ≠ 0 then .trap t (trapAlign 0 a)
    else match t.dataWrite ((e : Nat) / 16) (.engine e) a (le n (x.g i.rs2).toNat) false 1 with
      | .ok u _ => .done u none
      | .err u r => .trap u r
      | .fill u p => .page u p

/-- SB. -/
def doSb (e : Fin 512) (s : Dev) : Dev := s.store e .sb 1
/-- SH. -/
def doSh (e : Fin 512) (s : Dev) : Dev := s.store e .sh 2

/-- SW (R455): the low half of a protected word is held until the next instruction; the high half right after it makes one
full-word write; any other is partial. -/
def doSw (e : Fin 512) (s : Dev) : Dev :=
  s.engRun e .sw fun t x i =>
    let a := effAddr x i
    let c := (e : Nat) / 16
    let v := (x.g i.rs2).toNat
    let end_ (r : Acc) : ERes := match r with
      | .ok u _ => .done u none
      | .err u r => .trap u r
      | .fill u p => .page u p
    if a % 4 ≠ 0 then .trap t (trapAlign 0 a)
    else match x.held with
      | some h => match (t.setEng e { x with held := none }).dataWrite c (.engine e) h.addr (le 4 h.val ++ le 4 v) true 1 with
        | .fill u p => .page (u.setEng e { u.eng e with held := x.held }) p
        | r => end_ r
      | none =>
        if a % 8 = 0 then
          match t.unmapped c (.engine e) a 4, t.uncached c a 4 with
          | some (b, k), _ => .trap t (trapPage k b)
          | none, p :: _ => .page t p
          | none, [] =>
            .done (t.setEng e { x with held := some { addr := a, val := v, pc := x.pc, word := (t.fetchWord c x.pc).2.getD 0 } }) none
        else end_ (t.dataWrite c (.engine e) a (le 4 v) false 1)

/-- An atomic at the shared RAM (R300): the word becomes f old g(rs2) g(rd), where that is one, and g(rd) takes the old word. -/
def Dev.atomic (s : Dev) (e : Fin 512) (op : EOp) (f : Word → Word → Word → Option Word) : Dev :=
  s.engRun e op fun t x i =>
    let a := (x.g i.rs1).toNat
    let c := (e : Nat) / 16
    if region a ≠ .shared then .trap t (trapIllegal 2 a)
    else if a % 4 ≠ 0 then .trap t (trapAlign 0 a)
    else match t.dataRead c (.engine e) a 4 2 with
      | .err u r => .trap u r
      | .fill u p => .page u p
      | .ok u v =>
        let old := BitVec.ofNat 32 (ofLe v)
        match f old (x.g i.rs2) (x.g i.rd) with
        | none => .done (u.setG e i.rd old) none
        | some w => match u.dataWrite c (.engine e) a (le 4 w.toNat) false 2 with
          | .ok z _ => .done (z.setG e i.rd old) none
          | .err z r => .trap z r
          | .fill z p => .page z p

/-- AADD. -/
def doAadd (e : Fin 512) (s : Dev) : Dev := s.atomic e .aadd fun o b _ => some (o + b)
/-- AAND. -/
def doAand (e : Fin 512) (s : Dev) : Dev := s.atomic e .aand fun o b _ => some (o &&& b)
/-- AOR. -/
def doAor (e : Fin 512) (s : Dev) : Dev := s.atomic e .aor fun o b _ => some (o ||| b)
/-- ASWAP. -/
def doAswap (e : Fin 512) (s : Dev) : Dev := s.atomic e .aswap fun _ b _ => some b
/-- ACAS: g(rs2) is stored where the word equals g(rd). -/
def doAcas (e : Fin 512) (s : Dev) : Dev := s.atomic e .acas fun o b d => if o = d then some b else none

/-- FENCE: waits for every store and every asynchronous operation of the engine (R300); a held store was merged before it. -/
def doFence (e : Fin 512) (s : Dev) : Dev :=
  s.engRun e .fence fun t x _ => if x.ops.isEmpty then .done t none else .wait t

/-- A successor's DEP falls by 1 (R322). -/
def Dev.decDep (s : Dev) (n : Nat) : Dev :=
  let t := s.task n
  if t.st = .free then (s.count R.TSK_EV_LOST_DEP 1).tskRated R.TSK_IRQ_EV_LOST 4 n
  else if t.dep = 0 then s.countR R.TSK_DEP_SAT 1
  else s.setTask n { t with dep := t.dep - 1 }

/-- END: the task completes and its successors are decremented in the same step (R299, R301, R304, R322, R329). -/
def doEnd (e : Fin 512) (s : Dev) : Dev :=
  s.engRun e .end_ fun t x _ =>
    if !x.ops.isEmpty then .wait t
    else
      let n := x.task
      let k := t.task n
      let su := k.successors
      let t1 := (t.orphan e).setTask n { k with st := .idle, runs := (k.runs + 1) % 2 ^ 32, ctx := none, wait := none }
      let t2 := ((forEach su t1 fun m u => u.decDep m).countR R.TSK_COMPLETES 1).traceTask .complete n e 0xFFFF false
      .left ((t2.reeval (n :: su)).leaveEngine e t.tsk.readySeq)

/-- YIELDPT: the task gives way where the scheduler has asked for it (R304, R328). -/
def doYieldpt (e : Fin 512) (s : Dev) : Dev :=
  s.engRun e .yieldpt fun t x _ =>
    if !(t.tsk.requests.any fun r => r.1 == (e : Nat) && r.2.2) then .done t none
    else if !x.ops.isEmpty then .wait t
    else
      let n := x.task
      let t1 := (t.setEng e { x with pc := (x.pc + 4) % 131072 }).count R.TSK_SWITCHES_YIELDS 1
      .left ((t1.traceTask .yield n e 0xFFFF false).giveWay e)

/-- EVWAIT: the task goes on where its flags satisfy the mask, and waits with its context otherwise (R304, R329, R330). -/
def Dev.evwait (s : Dev) (e : Fin 512) (op : EOp) (all : Bool) : Dev :=
  s.engRun e op fun t x i =>
    let m := (x.g i.rs1).toNat
    let n := x.task
    if condHolds (t.task n).flags m all then .done t none
    else if !x.ops.isEmpty then .wait t
    else
      let y := { x with pc := (x.pc + 4) % 131072 }
      let t1 := t.saveCtx n (y.ctx e)
      let t2 := t1.setTask n { t1.task n with st := .waiting, wait := some (m, all) }
      .left ((t2.traceTask .wait n e 0xFFFF false).leaveEngine e)

/-- EVWAIT_ANY. -/
def doEvwaitAny (e : Fin 512) (s : Dev) : Dev := s.evwait e .evwaitAny false
/-- EVWAIT_ALL. -/
def doEvwaitAll (e : Fin 512) (s : Dev) : Dev := s.evwait e .evwaitAll true

/-- EVSET: flag g(rs2)[4:0] of task g(rs1)[15:0] (R304, R321). -/
def doEvset (e : Fin 512) (s : Dev) : Dev :=
  s.engRun e .evset fun t x i => .done (t.setFlags ((x.g i.rs1).toNat % 65536) (2 ^ ((x.g i.rs2).toNat % 32))) none
/-- EVCLR: the running task's own flags. -/
def doEvclr (e : Fin 512) (s : Dev) : Dev :=
  s.engRun e .evclr fun t x i => .done (t.clearFlags x.task (x.g i.rs1).toNat) none
/-- EVGET. -/
def doEvget (e : Fin 512) (s : Dev) : Dev :=
  s.engRun e .evget fun t x i => .done (t.setG e i.rd (BitVec.ofNat 32 (t.task x.task).flags)) none

/-- TSR: nanoseconds and seconds of one tick, the high seconds latched (R307). -/
def doTsr (e : Fin 512) (s : Dev) : Dev :=
  s.engRun e .tsr fun t x i =>
    let n := t.now
    let y := (x.setG i.rd (BitVec.ofNat 32 n.ns)).setG (i.rd + 1) (BitVec.ofNat 32 n.sec)
    .done (t.setEng e { y with latch := n.sec / 2 ^ 32 % 65536 }) none
/-- TSRH. -/
def doTsrh (e : Fin 512) (s : Dev) : Dev := s.engRun e .tsrh fun t x i => .done (t.setG e i.rd (BitVec.ofNat 32 x.latch)) none

/-- A CRC instruction: g(rd) updated over g(rs2) bytes at g(rs1); more than 4,096 trap ILLEGAL with ARG (R307). -/
def Dev.crcOp (s : Dev) (e : Fin 512) (op : EOp) (f : Word → List Byte → Word) : Dev :=
  s.engRun e op fun t x i =>
    let n := (x.g i.rs2).toNat
    if n > 4096 then .trap t (trapIllegal 1 n)
    else if n = 0 then .done t none
    else match t.dataRead ((e : Nat) / 16) (.engine e) (x.g i.rs1).toNat n 0 with
      | .ok u v => .done (u.setG e i.rd (f (x.g i.rd) v)) none
      | .err u r => .trap u r
      | .fill u p => .page u p

/-- CRC32C. -/
def doCrc32c (e : Fin 512) (s : Dev) : Dev := s.crcOp e .crc32c fun r b => BitVec.ofNat 32 (b.foldl (crcByte 0x82F63B78) r.toNat)
/-- CRC32. -/
def doCrc32 (e : Fin 512) (s : Dev) : Dev := s.crcOp e .crc32 fun r b => BitVec.ofNat 32 (b.foldl (crcByte 0xEDB88320) r.toNat)

/-- One byte of CRC-16, polynomial 0x1021, not reflected. -/
def crc16Byte (r : Nat) (b : Byte) : Nat :=
  (List.range 8).foldl (fun v i => (if bit v 15 != b.getLsbD (7 - i) then (2 * v) ^^^ 0x1021 else 2 * v) % 65536) r
/-- CRC16: on the low 16 bits of g(rd). -/
def doCrc16 (e : Fin 512) (s : Dev) : Dev :=
  s.crcOp e .crc16 fun r b => BitVec.ofNat 32 (b.foldl crc16Byte (r.toNat % 65536))

/-- Pages reserved in a cluster (ENG_c_PAGES). -/
def Cluster.pages (x : Cluster) : Nat := (x.allocs.map (·.pages)).sum

/-- A range of n pages from page p is free, with an unallocated page on either side (R289). -/
def Cluster.fits (x : Cluster) (p n : Nat) : Bool :=
  decide (0x10000 ≤ p) && decide (p + n ≤ 0x100000) &&
    x.allocs.all fun l => decide (p + n < l.page) || decide (l.page + l.pages < p)

/-- The page at which a range of n begins: hardware's own choice where it fits, otherwise the first place that does. -/
def Cluster.place (x : Cluster) (n first : Nat) : Option Nat :=
  (first :: 0x10000 :: x.allocs.map fun l => l.page + l.pages + 1).find? fun p => x.fits p n

/-- PALLOC (R289). -/
def doPalloc (e : Fin 512) (s : Dev) : Dev :=
  s.engRun e .palloc fun t x i =>
    let c := (e : Nat) / 16
    let k := t.cluster c
    let n := ((x.g i.rs1).toNat + 4095) / 4096
    let fail (u : Dev) (code : Nat) : ERes := .done (u.setG e i.rd (BitVec.ofNat 32 code)) none
    if n = 0 then fail t 0
    else if k.pages + n > t.get (R.ENG_c_QUOTA_VALUE c) then fail (t.count (R.ENG_c_ALLOC_FAIL_QUOTA c) 1) 1
    else
      let r := t.draw
      match k.place n (0x10000 + Config.pallocPage r.1 % 0xF0000) with
      | none => fail (t.count (R.ENG_c_ALLOC_FAIL_SPACE c) 1) 2
      | some p =>
        if k.allocs.length ≥ 1024 then fail (t.count (R.ENG_c_ALLOC_FAIL_TABLE c) 1) 3
        else .done ((r.2.setCluster c { k with allocs := k.allocs ++ [{ page := p, pages := n }] }).setG e i.rd (BitVec.ofNat 32 (4096 * p))) none

/-- An allocation released with its pages and their content (R292). -/
def Cluster.release (x : Cluster) (l : Alloc) : Cluster :=
  { x with
    allocs := x.allocs.erase l
    pcache := x.pcache.filter fun p => decide (p.1 < l.page) || decide (l.page + l.pages ≤ p.1)
    virt := sclear (4096 * l.page) (4096 * (l.page + l.pages)) x.virt }

/-- PFREE (R292). -/
def doPfree (e : Fin 512) (s : Dev) : Dev :=
  s.engRun e .pfree fun t x i =>
    let c := (e : Nat) / 16
    match (t.cluster c).allocs.find? fun l => 4096 * l.page == (x.g i.rs1).toNat with
    | some l => .done ((t.setCluster c ((t.cluster c).release l)).setG e i.rd 0) none
    | none => .done (t.setG e i.rd 1) none

/-- PAGE_FILL_DONE: a page enters the page cache, bad words of DRAM marked in it (R467), and the engines that wait for it go on
(R291). -/
def doPageFillDone (c : Fin 32) (page : Nat) (bad : List (Fin 512)) (s : Dev) : Dev :=
  let wants (x : Nat × Eng) : Bool := x.1 / 16 == (c : Nat) && x.2.page == some page
  if !(s.engs.any wants) || !s.isUp c then s
  else
    let s1 := s.pageIn c page
    let s2 := forEach bad s1 fun w u =>
      (u.countR R.MEM_DRAM_ERR 1).setErrs (Config.dataWord c (4096 * page + 8 * w)) markUe
    { s2 with engs := s2.engs.map fun x => if wants x then (x.1, { x.2 with st := if x.2.st = .stalled then .running else x.2.st, page := none }) else x }

/-- WINDOW_WRITE: a host write to the instruction RAM of cluster c is discarded and counted (R288). -/
def doWindowWrite (c : Fin 32) (o : Fin 32768) (v : Word) (s : Dev) : Dev :=
  if !s.pitchUsed ((c : Nat) / 4 + 1) then s.raise R.HIF_ERR_UNMAPPED
  else s.hostDo (0x2000000 + 0x100000 * c + 4 * o) v fun t => (t.countR R.ENG_WIN_WRITES 1).raise R.ENG_IRQ_WIN_WRITE

-- The commands of this file.

/-- ADD (R310). -/
def execAdd (e : Fin 512) (s : State) : Host.Outcome State Fault Refusal := s.run (doAdd e)

/-- SUB (R310). -/
def execSub (e : Fin 512) (s : State) : Host.Outcome State Fault Refusal := s.run (doSub e)

/-- AND (R310). -/
def execAnd (e : Fin 512) (s : State) : Host.Outcome State Fault Refusal := s.run (doAnd e)

/-- OR (R310). -/
def execOr (e : Fin 512) (s : State) : Host.Outcome State Fault Refusal := s.run (doOr e)

/-- XOR (R310). -/
def execXor (e : Fin 512) (s : State) : Host.Outcome State Fault Refusal := s.run (doXor e)

/-- SLL (R310). -/
def execSll (e : Fin 512) (s : State) : Host.Outcome State Fault Refusal := s.run (doSll e)

/-- SRL (R310). -/
def execSrl (e : Fin 512) (s : State) : Host.Outcome State Fault Refusal := s.run (doSrl e)

/-- SRA (R310). -/
def execSra (e : Fin 512) (s : State) : Host.Outcome State Fault Refusal := s.run (doSra e)

/-- SLT (R310). -/
def execSlt (e : Fin 512) (s : State) : Host.Outcome State Fault Refusal := s.run (doSlt e)

/-- SLTU (R310). -/
def execSltu (e : Fin 512) (s : State) : Host.Outcome State Fault Refusal := s.run (doSltu e)

/-- MUL (R310). -/
def execMul (e : Fin 512) (s : State) : Host.Outcome State Fault Refusal := s.run (doMul e)

/-- MULHU (R310). -/
def execMulhu (e : Fin 512) (s : State) : Host.Outcome State Fault Refusal := s.run (doMulhu e)

/-- REV (R310). -/
def execRev (e : Fin 512) (s : State) : Host.Outcome State Fault Refusal := s.run (doRev e)

/-- REVH (R310). -/
def execRevh (e : Fin 512) (s : State) : Host.Outcome State Fault Refusal := s.run (doRevh e)

/-- CLZ (R310). -/
def execClz (e : Fin 512) (s : State) : Host.Outcome State Fault Refusal := s.run (doClz e)

/-- POPC (R310). -/
def execPopc (e : Fin 512) (s : State) : Host.Outcome State Fault Refusal := s.run (doPopc e)

/-- ADDI (R309). -/
def execAddi (e : Fin 512) (s : State) : Host.Outcome State Fault Refusal := s.run (doAddi e)

/-- ANDI (R309). -/
def execAndi (e : Fin 512) (s : State) : Host.Outcome State Fault Refusal := s.run (doAndi e)

/-- ORI (R309). -/
def execOri (e : Fin 512) (s : State) : Host.Outcome State Fault Refusal := s.run (doOri e)

/-- XORI (R309). -/
def execXori (e : Fin 512) (s : State) : Host.Outcome State Fault Refusal := s.run (doXori e)

/-- SLLI (R309). -/
def execSlli (e : Fin 512) (s : State) : Host.Outcome State Fault Refusal := s.run (doSlli e)

/-- SRLI (R309). -/
def execSrli (e : Fin 512) (s : State) : Host.Outcome State Fault Refusal := s.run (doSrli e)

/-- SRAI (R309). -/
def execSrai (e : Fin 512) (s : State) : Host.Outcome State Fault Refusal := s.run (doSrai e)

/-- SLTI (R309). -/
def execSlti (e : Fin 512) (s : State) : Host.Outcome State Fault Refusal := s.run (doSlti e)

/-- SLTIU (R309). -/
def execSltiu (e : Fin 512) (s : State) : Host.Outcome State Fault Refusal := s.run (doSltiu e)

/-- BEXT (R309). -/
def execBext (e : Fin 512) (s : State) : Host.Outcome State Fault Refusal := s.run (doBext e)

/-- BINS (R309). -/
def execBins (e : Fin 512) (s : State) : Host.Outcome State Fault Refusal := s.run (doBins e)

/-- LUI (R309). -/
def execLui (e : Fin 512) (s : State) : Host.Outcome State Fault Refusal := s.run (doLui e)

/-- JAL (R309). -/
def execJal (e : Fin 512) (s : State) : Host.Outcome State Fault Refusal := s.run (doJal e)

/-- JALR (R309). -/
def execJalr (e : Fin 512) (s : State) : Host.Outcome State Fault Refusal := s.run (doJalr e)

/-- BEQ (R309). -/
def execBeq (e : Fin 512) (s : State) : Host.Outcome State Fault Refusal := s.run (doBeq e)

/-- BNE (R309). -/
def execBne (e : Fin 512) (s : State) : Host.Outcome State Fault Refusal := s.run (doBne e)

/-- BLT (R309). -/
def execBlt (e : Fin 512) (s : State) : Host.Outcome State Fault Refusal := s.run (doBlt e)

/-- BGE (R309). -/
def execBge (e : Fin 512) (s : State) : Host.Outcome State Fault Refusal := s.run (doBge e)

/-- BLTU (R309). -/
def execBltu (e : Fin 512) (s : State) : Host.Outcome State Fault Refusal := s.run (doBltu e)

/-- BGEU (R309). -/
def execBgeu (e : Fin 512) (s : State) : Host.Outcome State Fault Refusal := s.run (doBgeu e)

/-- LB (R287). -/
def execLb (e : Fin 512) (s : State) : Host.Outcome State Fault Refusal := s.run (doLb e)

/-- LBU (R287). -/
def execLbu (e : Fin 512) (s : State) : Host.Outcome State Fault Refusal := s.run (doLbu e)

/-- LH (R287). -/
def execLh (e : Fin 512) (s : State) : Host.Outcome State Fault Refusal := s.run (doLh e)

/-- LHU (R287). -/
def execLhu (e : Fin 512) (s : State) : Host.Outcome State Fault Refusal := s.run (doLhu e)

/-- LW (R287). -/
def execLw (e : Fin 512) (s : State) : Host.Outcome State Fault Refusal := s.run (doLw e)

/-- SB (R287). -/
def execSb (e : Fin 512) (s : State) : Host.Outcome State Fault Refusal := s.run (doSb e)

/-- SH (R287). -/
def execSh (e : Fin 512) (s : State) : Host.Outcome State Fault Refusal := s.run (doSh e)

/-- SW (R287). -/
def execSw (e : Fin 512) (s : State) : Host.Outcome State Fault Refusal := s.run (doSw e)

/-- AADD (R300). -/
def execAadd (e : Fin 512) (s : State) : Host.Outcome State Fault Refusal := s.run (doAadd e)

/-- AAND (R300). -/
def execAand (e : Fin 512) (s : State) : Host.Outcome State Fault Refusal := s.run (doAand e)

/-- AOR (R300). -/
def execAor (e : Fin 512) (s : State) : Host.Outcome State Fault Refusal := s.run (doAor e)

/-- ASWAP (R300). -/
def execAswap (e : Fin 512) (s : State) : Host.Outcome State Fault Refusal := s.run (doAswap e)

/-- ACAS (R300). -/
def execAcas (e : Fin 512) (s : State) : Host.Outcome State Fault Refusal := s.run (doAcas e)

/-- FENCE (R300). -/
def execFence (e : Fin 512) (s : State) : Host.Outcome State Fault Refusal := s.run (doFence e)

/-- END (R304). -/
def execEnd (e : Fin 512) (s : State) : Host.Outcome State Fault Refusal := s.run (doEnd e)

/-- YIELDPT (R328). -/
def execYieldpt (e : Fin 512) (s : State) : Host.Outcome State Fault Refusal := s.run (doYieldpt e)

/-- EVWAIT_ANY (R304). -/
def execEvwaitAny (e : Fin 512) (s : State) : Host.Outcome State Fault Refusal := s.run (doEvwaitAny e)

/-- EVWAIT_ALL (R304). -/
def execEvwaitAll (e : Fin 512) (s : State) : Host.Outcome State Fault Refusal := s.run (doEvwaitAll e)

/-- EVSET (R304). -/
def execEvset (e : Fin 512) (s : State) : Host.Outcome State Fault Refusal := s.run (doEvset e)

/-- EVCLR (R304). -/
def execEvclr (e : Fin 512) (s : State) : Host.Outcome State Fault Refusal := s.run (doEvclr e)

/-- EVGET (R304). -/
def execEvget (e : Fin 512) (s : State) : Host.Outcome State Fault Refusal := s.run (doEvget e)

/-- TSR (R307). -/
def execTsr (e : Fin 512) (s : State) : Host.Outcome State Fault Refusal := s.run (doTsr e)

/-- TSRH (R307). -/
def execTsrh (e : Fin 512) (s : State) : Host.Outcome State Fault Refusal := s.run (doTsrh e)

/-- CRC32C (R307). -/
def execCrc32c (e : Fin 512) (s : State) : Host.Outcome State Fault Refusal := s.run (doCrc32c e)

/-- CRC32 (R307). -/
def execCrc32 (e : Fin 512) (s : State) : Host.Outcome State Fault Refusal := s.run (doCrc32 e)

/-- CRC16 (R307). -/
def execCrc16 (e : Fin 512) (s : State) : Host.Outcome State Fault Refusal := s.run (doCrc16 e)

/-- PALLOC (R289). -/
def execPalloc (e : Fin 512) (s : State) : Host.Outcome State Fault Refusal := s.run (doPalloc e)

/-- PFREE (R292). -/
def execPfree (e : Fin 512) (s : State) : Host.Outcome State Fault Refusal := s.run (doPfree e)

/-- PAGE_FILL_DONE (R291). -/
def execPageFillDone (c : Fin 32) (page : Nat) (bad : List (Fin 512)) (s : State) : Host.Outcome State Fault Refusal := s.run (doPageFillDone c page bad)

/-- WINDOW_WRITE (R288). -/
def execWindowWrite (c : Fin 32) (o : Fin 32768) (v : Word) (s : State) : Host.Outcome State Fault Refusal := s.run (doWindowWrite c o v)

end Sys2Proof.Machine
end

