-- ==== Sys2Proof/Machine/Packet.lean ====
section
/-!
DEFINITION. Sys2Proof/Machine/Packet.lean: the packet context, Thicket operations and messages of engines (13_engines.md R294 to
R299, R301 to R306; 19_rope_fabric.md R424).
-/
namespace Sys2Proof.Machine

/-- The frame in a packet context. -/
def PktCtx.frame (x : PktCtx) : Option Frame := x.item.bind (·.frame)

/-- A packet context whose frame has other bytes. -/
def PktCtx.withBytes (x : PktCtx) (b : List Byte) : PktCtx :=
  match x.item with
  | some i => { x with item := some { i with frame := i.frame.map fun f => { f with bytes := b } } }
  | none => x

/-- The 512 bytes of packet space (Table 13-4). -/
def PktCtx.space (x : PktCtx) : List Byte :=
  let win := match x.item with
    | some i => (match i.frame with
      | some f => padTo 256 (f.bytes.take 256)
      | none => padTo 256 (padTo 40 i.key))
    | none => padTo 256 []
  let f := x.frame
  let info := match x.item with | some i => padTo 32 i.info | none => padTo 32 []
  let act := match x.item with | some i => le 20 i.action | none => le 20 0
  let ver := match f.bind (·.version) with | some v => v | none => 0xFFFF
  let st := b2n f.isSome + 2 * b2n (x.item.isSome && f.isNone) + 4 * b2n (match f with | some g => g.aged | none => false)
  let rx := match f with | some g => g.rx | none => ⟨0, 0⟩
  win ++ info ++ act ++ le 2 ver ++ le 1 st ++ [(0 : Byte)] ++ le 4 rx.ns ++ le 6 rx.sec ++
    le 2 (match f with | some g => g.bytes.length | none => 0) ++ padTo 60 [] ++ padTo 64 x.desc ++ padTo 64 []

/-- One byte written to packet space: the window within the frame, and the send descriptor (R295). -/
def PktCtx.put (x : PktCtx) (o : Nat) (b : Byte) : PktCtx :=
  if o < 256 then (match x.frame with
    | some f => x.withBytes (f.bytes.set o b)
    | none => x)
  else if 0x180 ≤ o ∧ o < 0x1C0 then { x with desc := x.desc.set (o - 0x180) b }
  else x

/-- A packet-space load of n bytes (R295). -/
def Dev.pktLoad (s : Dev) (e : Fin 512) (op : EOp) (n : Nat) : Dev :=
  s.engRun e op fun t x i =>
    let o := effAddr x i
    if o + n > 0x200 then .trap t (trapPage 2 o) else .done (t.setG e i.rd (BitVec.ofNat 32 (leAt x.pkt.space o n))) none

/-- LBP. -/
def doLbp (e : Fin 512) (s : Dev) : Dev := s.pktLoad e .lbp 1
/-- LHP. -/
def doLhp (e : Fin 512) (s : Dev) : Dev := s.pktLoad e .lhp 2
/-- LWP. -/
def doLwp (e : Fin 512) (s : Dev) : Dev := s.pktLoad e .lwp 4

/-- A packet-space store of n bytes (R295). -/
def Dev.pktStore (s : Dev) (e : Fin 512) (op : EOp) (n : Nat) : Dev :=
  s.engRun e op fun t x i =>
    let o := effAddr x i
    if o + n > 0x200 then .trap t (trapPage 2 o)
    else
      let v := le n (x.g i.rs2).toNat
      .done (t.setEng e { x with pkt := (List.range n).foldl (fun p k => p.put (o + k) (v.getD k 0)) x.pkt }) none

/-- SBP. -/
def doSbp (e : Fin 512) (s : Dev) : Dev := s.pktStore e .sbp 1
/-- SHP. -/
def doShp (e : Fin 512) (s : Dev) : Dev := s.pktStore e .shp 2
/-- SWP. -/
def doSwp (e : Fin 512) (s : Dev) : Dev := s.pktStore e .swp 4

/-- The descriptor that PNEXT makes of an action (R296). -/
def Action.sendDesc (a : Action) : List Byte :=
  padTo 64 (le 2 a.queue ++ [0, 0, 0] ++ le 1 a.cipher ++ le 2 a.slot ++ padTo 10 [] ++ le 1 a.destKind ++ [0] ++ le 2 a.dest ++ [0, 0] ++
    le 4 a.user)

/-- A result in g(rd). -/
def Dev.result (s : Dev) (e rd code : Nat) : ERes := .done (s.setG e rd (BitVec.ofNat 32 code)) none

/-- PNEXT: the oldest waiting item (R294). -/
def doPnext (e : Fin 512) (s : Dev) : Dev :=
  s.engRun e .pnext fun t x i =>
    if x.pkt.frame.isSome then t.result e i.rd 4
    else
      let k := t.task x.task
      match k.posts with
      | [] => (t.setEng e { x with pkt := .empty }).result e i.rd 3
      | p :: rest =>
        ((t.setTask x.task { k with posts := rest }).setEng e
          { x with pkt := { item := some p, desc := (Action.of p.action).sendDesc, prepended := 0 } }).result e i.rd 0

/-- PNEW: a frame of g(rs1) zero bytes (R294). -/
def doPnew (e : Fin 512) (s : Dev) : Dev :=
  s.engRun e .pnew fun t x i =>
    let n := (x.g i.rs1).toNat
    if x.pkt.item.isSome then t.result e i.rd 4
    else if n = 0 ∨ n > 256 then t.result e i.rd 2
    else
      let f := Frame.first_ clsHost 0 (List.replicate n 0) ⟨0, 0⟩
      let p : PostItem := { frame := some f, key := [], info := [], action := 0, gen := 0, cells := 0 }
      (t.setEng e { x with pkt := { PktCtx.empty with item := some p } }).result e i.rd 0

/-- PHEAD: bytes removed from the head or prepended (R297). -/
def doPhead (e : Fin 512) (s : Dev) : Dev :=
  s.engRun e .phead fun t x i =>
    let n := (x.g i.rs1).toInt
    match x.pkt.frame with
    | none => t.result e i.rd 1
    | some f =>
      let len : Int := f.bytes.length
      let net := x.pkt.prepended - n
      if n > 0 ∧ len - n < 1 then t.result e i.rd 2
      else if n < 0 ∧ (net > 64 ∨ len - n > 9744) then t.result e i.rd 2
      else
        let b := if n > 0 then f.bytes.drop n.toNat else List.replicate (-n).toNat 0 ++ f.bytes
        (t.setEng e { x with pkt := { x.pkt.withBytes b with prepended := net } }).result e i.rd 0

/-- PLEN: the length set (R297). -/
def doPlen (e : Fin 512) (s : Dev) : Dev :=
  s.engRun e .plen fun t x i =>
    let n := (x.g i.rs1).toNat
    match x.pkt.frame with
    | none => t.result e i.rd 1
    | some f =>
      if n = 0 ∨ (n > f.bytes.length ∧ n > 256) then t.result e i.rd 2
      else (t.setEng e { x with pkt := x.pkt.withBytes (padTo n f.bytes) }).result e i.rd 0

/-- A send descriptor read (Table 13-5): none where PSEND refuses it (R298); PARSE beside the fields. TS_MODE 0b11 acts as 0. -/
def Dev.sendDescOf (s : Dev) (b : List Byte) : Option (Bool × SendDesc) :=
  let q := leAt b 0 2
  let fl := leAt b 2 1
  let ci := leAt b 5 1
  let sl := leAt b 6 2
  let dk := leAt b 0x12 1
  let de := leAt b 0x14 2
  if q ≥ 8192 ∨ fl ≥ 16 ∨ ci ≥ 3 ∨ sl ≥ 4096 ∨ dk ≥ 3 ∨ de ≥ 1024 ∨ leAt b 0x13 1 ≠ 0 ∨ leAt b 0x16 2 ≠ 0 ∨ !((b.drop 0x1C).all (· == 0)) then none
  else
    let w : Tod := { sec := leAt b 0x0C 6, ns := leAt b 0x08 4 }
    some (bit fl 3,
      { queue := q, cipher := ci, slot := sl, gen := (s.slot sl).gen, destKind := dk, dest := de, user := leAt b 0x18 4,
        launch := if bit fl 0 then some w else none, tsMode := if bits fl 1 2 = 3 then 0 else bits fl 1 2, tsOff := leAt b 3 1,
        csumOff := leAt b 4 1 })

/-- A frame sent by an engine or by the host: from step 2 of R239, or through the user-side parse unit (R298, R356). -/
def Dev.send (s : Dev) (parse : Bool) (d : SendDesc) (fr : Frame) (info : List Byte) : Dev :=
  if parse then s.ingress true (Frame.first_ clsHost 0 fr.bytes s.now) else s.sendFrame d fr info fr.bytes

/-- PSEND (R298). -/
def doPsend (e : Fin 512) (s : Dev) : Dev :=
  s.engRun e .psend fun t x i =>
    match x.pkt.frame with
    | none => t.result e i.rd 1
    | some f => match t.sendDescOf x.pkt.desc with
      | none => (t.count (R.ENG_c_PKT_LOST_ARG ((e : Nat) / 16)) 1).result e i.rd 2
      | some (p, d) =>
        (((t.setEng e { x with pkt := .empty }).send p d f (match x.pkt.item with | some j => j.info | none => [])).countR (R.ENG_c_PKT_SENT ((e : Nat) / 16)) 1).result e i.rd 0

/-- PRECIRC (R219, R298). -/
def doPrecirc (e : Fin 512) (s : Dev) : Dev :=
  s.engRun e .precirc fun t x i =>
    match x.pkt.frame with
    | none => t.result e i.rd 1
    | some f =>
      let t1 := t.setEng e { x with pkt := .empty }
      if f.second then ((t1.count R.PRS_RECIRC_DROPPED 1).raise R.PRS_IRQ_RECIRC_DROP).result e i.rd 5
      else
        let g := { f with cls := clsRecirc, second := true }
        ((t1.ingress (f.first != clsLine) g).countR (R.ENG_c_PKT_SENT ((e : Nat) / 16)) 1).result e i.rd 0

/-- PDROP (R298). -/
def doPdrop (e : Fin 512) (s : Dev) : Dev :=
  s.engRun e .pdrop fun t x i =>
    if x.pkt.frame.isNone then t.result e i.rd 1
    else ((t.setEng e { x with pkt := .empty }).count (R.ENG_c_PKT_LOST_DROPPED ((e : Nat) / 16)) 1).result e i.rd 0

/-- An asynchronous operation issued (R301). -/
def Dev.issue (s : Dev) (e : Fin 512) (i : Ins) (op : AsyncOp) (addr word : Nat) : ERes :=
  let x := s.eng e
  .done (s.setEng e { x with ops := x.ops ++ [{ rd := i.rd, op := op, pc := x.pc, word := word, addr := addr }] }) none

/-- The version of an engine's lookup: that of the frame in its context, taken anew once its age has ended; otherwise LIVE (R302). -/
def Dev.lookupVersion (s : Dev) (e : Nat) : Dev × Nat :=
  let x := s.eng e
  match x.pkt.item with
  | some i => (match i.frame with
    | some f =>
      if f.version.isNone then (s, s.live)
      else
        let r := s.takeVersion f
        let pkt : PktCtx := { x.pkt with item := some { i with frame := some r.2 } }
        (r.1.setEng e { x with pkt := pkt }, r.2.version.getD s.live)
    | none => (s, s.live))
  | none => (s, s.live)

/-- TLKP (R302). -/
def doTlkp (e : Fin 512) (s : Dev) : Dev :=
  s.engRun e .tlkp fun t x i =>
    let c := (e : Nat) / 16
    let a := (x.g i.rs1).toNat
    let d := (x.g i.rs2).toNat
    let word := (t.fetchWord c x.pc).2.getD 0
    if a % 4 ≠ 0 then .trap t (trapAlign 0 a)
    else if d % 4 ≠ 0 then .trap t (trapAlign 0 d)
    else match t.unmapped c (.engine e) d 20 with
      | some (b, k) => .trap t (trapPage k b)
      | none =>
        if x.ops.length ≥ 4 then .wait t
        else match t.dataRead c (.engine e) a 40 0 with
          | .err u r => .trap u r
          | .fill u p => .page u p
          | .ok u v =>
            let held := u.lookupVersion e
            let t1 := held.1.access domThk cliTsk
            let l := t1.startLookup e i.rd
              { template := i.func % 64, view := bit i.func 6, key := v, dest := d, version := held.2, stage := 0 }
            l.1.issue e i (.lookup l.2) a word

/-- TOP (R303). -/
def doTop (e : Fin 512) (s : Dev) : Dev :=
  s.engRun e .top fun t x i =>
    let c := (e : Nat) / 16
    let a := (x.g i.rs1).toNat
    if a % 8 ≠ 0 then .trap t (trapAlign 0 a)
    else if x.ops.length ≥ 4 then .wait t
    else match t.dataRead c (.engine e) a 64 0 with
      | .err u r => .trap u r
      | .fill u p => .page u p
      | .ok u v => (u.access domThk cliTsk).issue e i (.op v) a ((t.fetchWord c x.pc).2.getD 0)

/-- TCOMMIT (R303). -/
def doTcommit (e : Fin 512) (s : Dev) : Dev :=
  s.engRun e .tcommit fun t x i =>
    if x.ops.length ≥ 4 then .wait t
    else (t.access domThk cliTsk).issue e i .commit 0 ((t.fetchWord ((e : Nat) / 16) x.pc).2.getD 0)

/-- An operation's place among those of its engine: it may complete now, those before it that reach the operation unit having
reached it (R301). -/
def Dev.opReady (s : Dev) (e : Nat) (before : List Async) (o : Async) : Bool :=
  let first := before.all fun b => match b.op with | .op _ | .commit => false | _ => true
  match o.op with
  | .lookup _ => !(s.thk.missQ.any fun m => match m.who with | .engine d r => d == e && r == o.rd | _ => false)
  | .op _ | .commit => first
  | .commitWait q _ => !(s.twn.withheld.any (·.seq == q))

/-- The first operation of a list that may complete, with those before it. -/
def Dev.pickOp (s : Dev) (e : Nat) : List Async → List Async → Option Async
  | _, [] => none
  | before, o :: t => if s.opReady e before o then some o else s.pickOp e (before ++ [o]) t

/-- An operation ends with its result pair, and an engine that waits goes on. -/
def Dev.opDone (s : Dev) (e : Nat) (o : Async) (a b : Nat) : Dev :=
  let x := s.eng e
  let x1 : Eng := { x with ops := x.ops.filter (·.rd != o.rd) }
  let y := (x1.setG o.rd (BitVec.ofNat 32 a)).setG (o.rd + 1) (BitVec.ofNat 32 b)
  s.setEng e { y with st := if y.st = .stalled ∧ y.page.isNone then .running else y.st }

/-- A trap of an operation, once the store that the merge buffer holds has been merged (R300, R303, R312, R455). -/
def Dev.asyncTrap (s : Dev) (e : Nat) (o : Async) (r : Trap) : Dev :=
  match (s.setEng e { s.eng e with ops := (s.eng e).ops.filter (·.rd != o.rd) }).flushHeld e with
  | (some t, _) => t.engTrap e r o.pc o.word
  | (none, t) => t

/-- An operation ends with a THK trap (R303, R312). -/
def Dev.opTrap (s : Dev) (e : Nat) (o : Async) (sub : Nat) : Dev := s.asyncTrap e o (trapThk sub o.addr)

/-- The action of a lookup written to its address, and the result pair (Table 13-6). -/
def Dev.lookupDone (s : Dev) (e : Nat) (o : Async) (l : EngLookup) (act source : Nat) : Dev :=
  let c := e / 16
  let t := forEach (s.uncached c l.dest 20) s fun p u => u.pageIn c p
  match t.dataWrite c (.engine e) l.dest (le 20 act) false 1 with
  | .ok u _ => u.opDone e o (16 * source + 65536 * l.version) (Action.of act).user
  | .err u r => u.asyncTrap e o r
  | .fill u _ => u

/-- A lookup completes (R302). -/
def Dev.finishLookup (s : Dev) (e : Nat) (o : Async) (l : EngLookup) : Dev :=
  let none_ (code : Nat) : Dev := s.opDone e o (code + 48 + 65536 * l.version) 0
  if !s.is (R.THK_TMPLn_CFG_DEFINED l.template) || (l.view && !s.keyed l.template) then s.opTrap e o 4
  else if l.stage = 2 then none_ 12
  else if s.draining 10 then none_ 8
  else
    let key := padTo 40 (l.key.take (s.get (R.THK_TMPLn_CFG_KLEN l.template)))
    if l.view then
      match s.findEntry l.template key s.pendVer with
      | some (_, x) => (s.countR R.THK_HITS 1).lookupDone e o l x.action 0
      | none => none_ 2
    else
      let r := s.resolve l.template key l.key l.version
      r.1.lookupDone e o l r.2.1 r.2.2

/-- The result of a commit request by an engine: applied, or held with its reason (Table 13-6). -/
def Dev.commitResult (s : Dev) (e : Nat) (o : Async) (live : Nat) : Dev :=
  if s.thk.commitHeld then s.opDone e o (13 + 65536 * s.live) (s.get R.THK_COMMIT_STATUS_REASON) else s.opDone e o (65536 * live) 0

/-- ASYNC_COMPLETE: the next operation of the engine that can completes (R301 to R303). -/
def doAsyncComplete (e : Fin 512) (s0 : Dev) : Dev :=
  if (s0.eng e).ops.isEmpty then s0
  else
    let s := s0.access domThk cliTsk
    if !s.isUp domThk then s
    else match s.pickOp e [] (s.eng e).ops with
      | none => s
      | some o => match o.op with
        | .lookup l =>
          if l.stage = 0 then
            let r := s.startLookup e o.rd l
            let x := r.1.eng e
            r.1.setEng e { x with ops := x.ops.map fun p => if p.rd = o.rd then { p with op := .lookup r.2 } else p }
          else s.finishLookup e o l
        | .op rec =>
          let code := leAt rec 61 1
          if code = 0 ∨ code > 3 then s.opTrap e o 15
          else
            let r := s.thkOp code (leAt rec 60 1) (rec.take 40) (leAt rec 40 20)
            if r.2.1 = .template ∨ r.2.1 = .key ∨ r.2.1 = .action then r.1.opTrap e o r.2.1.code else r.1.opDone e o r.2.1.code r.2.2
        | .commit =>
          if s.standby then (s.count R.TWN_COUNTS_REFUSED 1).opDone e o (5 + 65536 * s.live) 0
          else
            let seq := (s.rd R.TWN_MIRROR_TX).toNat
            let t := s.commitRequest
            if t.twn.withheld.any (fun w => w.seq == seq) && !(s.twn.withheld.any fun w => w.seq == seq) then
              let x := t.eng e
              t.setEng e { x with ops := x.ops.map fun p => if p.rd = o.rd then { p with op := .commitWait seq t.live } else p }
            else t.commitResult e o t.live
        | .commitWait _ live => s.opDone e o (65536 * live) 0

/-- Free message buffers (ENG_MSG_POOL). -/
def Dev.msgPool (s : Dev) : Nat := 65536 - (s.tsk.tasks.map fun t => t.2.msgs.length).sum

/-- A message for a task: 0 OK, 1 FULL, 2 NO_TASK (R305, R316, R321). -/
def Dev.deliver (s : Dev) (n : Nat) (m : TMsg) : Dev × Nat :=
  let t := s.task n
  if s.msgPool = 0 then (s, 1)
  else if t.st = .free then (s.setFlags n (2 ^ m.flag), 2)
  else ((s.setTask n { t with msgs := t.msgs ++ [m] }).setFlags n (2 ^ m.flag), 0)

/-- A message of the fabric that finds the pool empty is dropped and counted (R305). -/
def Dev.deliverRemote (s : Dev) (n : Nat) (m : TMsg) : Dev :=
  let r := s.deliver n m
  if r.2 = 1 then (r.1.countR R.ENG_MSG_DROPS 1).raise R.ENG_IRQ_MSG_DROP else r.1

/-- MSEND with the fate of its 48 bytes (R305): the block and the result. -/
def Dev.msend (s : Dev) (e : Fin 512) (op : EOp) (f : Dev → Eng → Nat → List Byte → Dev × Nat) : Dev :=
  s.engRun e op fun t x i =>
    let c := (e : Nat) / 16
    let a := (x.g i.rs1).toNat
    if a % 4 ≠ 0 then .trap t (trapAlign 0 a)
    else match t.dataRead c (.engine e) a 48 0 with
      | .err u r => .trap u r
      | .fill u p => .page u p
      | .ok u v =>
        let r := f u x (x.g i.rs2).toNat v
        let t1 := match r.2 with
          | 0 => r.1.count (R.ENG_c_MSG_COUNTS_SENT c) 1
          | 1 => r.1.count (R.ENG_c_MSG_COUNTS_FULL c) 1
          | 3 => r.1.count (R.ENG_c_MSG_COUNTS_UNREACHABLE c) 1
          | _ => r.1
        t1.result e i.rd r.2

/-- A message to a task of this module, as an engine sends it. -/
def Dev.msgLocal (s : Dev) (x : Eng) (d : Nat) (v : List Byte) : Dev × Nat :=
  s.deliver (d % 65536) { kind := 0, flag := bits d 16 5, src := x.task, node := 0x3FF, payload := v }

/-- MSEND_TASK. -/
def doMsendTask (e : Fin 512) (s : Dev) : Dev := s.msend e .msendTask fun t x d v => t.msgLocal x d v

/-- MSEND_HOST: journalled as ENG_MSG. -/
def doMsendHost (e : Fin 512) (s : Dev) : Dev :=
  s.msend e .msendHost fun t x _ v => (t.event 0x0D81 (le 1 ((e : Nat) / 16) ++ le 1 ((e : Nat) % 16) ++ le 2 x.task ++ v), 0)

/-- MSEND_NODE: handed to the rope fabric as a MSG frame; the own node ID is delivered here (R305, R424). -/
def doMsendNode (e : Fin 512) (s : Dev) : Dev :=
  s.msend e .msendNode fun t x d v =>
    let n := bits d 21 10
    if t.claimed && n == t.nodeId then t.msgLocal x d v
    else if !t.claimed || (t.route n).isNone then (t, 3)
    else
      let j := t.get R.ROP_FAB_CFG_MSG_QIDX
      let h := ropeHeader kMsg n t.nodeId (t.get R.ROP_FAB_CFG_TTL) j 0 false (d % 65536) (bits d 16 5)
      (t.ropeOut n j h { (default : QFrame) with bytes := be 2 x.task ++ [0, 0] ++ v }, 0)

/-- MRECV: the oldest message of the running task into memory (R306). -/
def doMrecv (e : Fin 512) (s : Dev) : Dev :=
  s.engRun e .mrecv fun t x i =>
    let a := (x.g i.rs1).toNat
    let k := t.task x.task
    if a % 4 ≠ 0 then .trap t (trapAlign 0 a)
    else match k.msgs with
      | [] => t.result e i.rd 1
      | m :: rest =>
        let b := le 1 m.kind ++ le 1 m.flag ++ le 2 m.src ++ le 2 m.node ++ [0, 0] ++ padTo 48 m.payload ++ padTo 8 []
        match t.dataWrite ((e : Nat) / 16) (.engine e) a b false 1 with
        | .err u r => .trap u r
        | .fill u p => .page u p
        | .ok u _ => (u.setTask x.task { u.task x.task with msgs := rest }).result e i.rd 0

-- The commands of this file.

/-- LBP (R295). -/
def execLbp (e : Fin 512) (s : State) : Host.Outcome State Fault Refusal := s.run (doLbp e)

/-- LHP (R295). -/
def execLhp (e : Fin 512) (s : State) : Host.Outcome State Fault Refusal := s.run (doLhp e)

/-- LWP (R295). -/
def execLwp (e : Fin 512) (s : State) : Host.Outcome State Fault Refusal := s.run (doLwp e)

/-- SBP (R295). -/
def execSbp (e : Fin 512) (s : State) : Host.Outcome State Fault Refusal := s.run (doSbp e)

/-- SHP (R295). -/
def execShp (e : Fin 512) (s : State) : Host.Outcome State Fault Refusal := s.run (doShp e)

/-- SWP (R295). -/
def execSwp (e : Fin 512) (s : State) : Host.Outcome State Fault Refusal := s.run (doSwp e)

/-- PNEXT (R294). -/
def execPnext (e : Fin 512) (s : State) : Host.Outcome State Fault Refusal := s.run (doPnext e)

/-- PNEW (R294). -/
def execPnew (e : Fin 512) (s : State) : Host.Outcome State Fault Refusal := s.run (doPnew e)

/-- PHEAD (R297). -/
def execPhead (e : Fin 512) (s : State) : Host.Outcome State Fault Refusal := s.run (doPhead e)

/-- PLEN (R297). -/
def execPlen (e : Fin 512) (s : State) : Host.Outcome State Fault Refusal := s.run (doPlen e)

/-- PSEND (R298). -/
def execPsend (e : Fin 512) (s : State) : Host.Outcome State Fault Refusal := s.run (doPsend e)

/-- PRECIRC (R298). -/
def execPrecirc (e : Fin 512) (s : State) : Host.Outcome State Fault Refusal := s.run (doPrecirc e)

/-- PDROP (R298). -/
def execPdrop (e : Fin 512) (s : State) : Host.Outcome State Fault Refusal := s.run (doPdrop e)

/-- TLKP (R302). -/
def execTlkp (e : Fin 512) (s : State) : Host.Outcome State Fault Refusal := s.run (doTlkp e)

/-- TOP (R303). -/
def execTop (e : Fin 512) (s : State) : Host.Outcome State Fault Refusal := s.run (doTop e)

/-- TCOMMIT (R303). -/
def execTcommit (e : Fin 512) (s : State) : Host.Outcome State Fault Refusal := s.run (doTcommit e)

/-- ASYNC_COMPLETE (R301). -/
def execAsyncComplete (e : Fin 512) (s : State) : Host.Outcome State Fault Refusal := s.run (doAsyncComplete e)

/-- MSEND_TASK (R305). -/
def execMsendTask (e : Fin 512) (s : State) : Host.Outcome State Fault Refusal := s.run (doMsendTask e)

/-- MSEND_HOST (R305). -/
def execMsendHost (e : Fin 512) (s : State) : Host.Outcome State Fault Refusal := s.run (doMsendHost e)

/-- MSEND_NODE (R305). -/
def execMsendNode (e : Fin 512) (s : State) : Host.Outcome State Fault Refusal := s.run (doMsendNode e)

/-- MRECV (R306). -/
def execMrecv (e : Fin 512) (s : State) : Host.Outcome State Fault Refusal := s.run (doMrecv e)

end Sys2Proof.Machine
end

