-- ==== Sys2Proof/Machine/Dma.lean ====
section
/-!
DEFINITION. Sys2Proof/Machine/Dma.lean: DMA channels, bursts, channel programs and the receive taps (15_dma_units.md R338 to R353,
R357).
-/
namespace Sys2Proof.Machine

/-- Channel states (DMA_u_CHk_STATE.STATE). -/
inductive ChSt where
  | idle | ready | running | waiting | halted
deriving DecidableEq, Repr

/-- STATE codes. -/
def ChSt.code : ChSt → Nat
  | .idle => 0
  | .ready => 1
  | .running => 2
  | .waiting => 3
  | .halted => 4

/-- Halt causes (Table 15-5). -/
inductive Halt where
  | srcUe | dstUe | lateError | pcie | unmapped | arg | fetch
deriving DecidableEq, Repr

/-- CAUSE codes. -/
def Halt.code : Halt → Nat
  | .srcUe => 1
  | .dstUe => 2
  | .lateError => 3
  | .pcie => 4
  | .unmapped => 5
  | .arg => 6
  | .fetch => 7

/-- A channel nothing runs on. -/
def Chan.empty : Chan := { move := none, loops := [], wait := none }

/-- Channel k of unit u. -/
def Dev.chan (s : Dev) (u k : Nat) : Chan := sget .empty (16 * u + k) s.dma.chans
def Dev.setChan (s : Dev) (u k : Nat) (x : Chan) : Dev := { s with dma := { s.dma with chans := sset .empty (16 * u + k) x s.dma.chans } }

/-- Its state. -/
def Dev.chIs (s : Dev) (u k : Nat) (x : ChSt) : Bool := s.get (R.DMA_u_CHk_STATE_STATE u k) == x.code
def Dev.setCh (s : Dev) (u k : Nat) (x : ChSt) : Dev := s.set (R.DMA_u_CHk_STATE_STATE u k) x.code

/-- Its program counter. -/
def Dev.chPc (s : Dev) (u k : Nat) : Nat := s.get (R.DMA_u_CHk_STATE_PC u k)
def Dev.setChPc (s : Dev) (u k n : Nat) : Dev := s.set (R.DMA_u_CHk_STATE_PC u k) n

/-- The channel that holds a unit: RUNNING or WAITING (R347). -/
def Dev.holder (s : Dev) (u : Nat) : Option Nat := (List.range 16).find? fun k => s.chIs u k .running || s.chIs u k .waiting

/-- The running channel of a unit, with domain DMA up. -/
def Dev.runner (s : Dev) (u : Nat) : Option Nat :=
  if s.isUp domDma then (List.range 16).find? fun k => s.chIs u k .running else none

/-- A channel halts (R349, D8). -/
def Dev.chHalt (s : Dev) (u k : Nat) (c : Halt) (space addr : Nat) : Dev :=
  let s1 := ((s.setCh u k .halted).set (R.DMA_u_CHk_STATE_CAUSE u k) c.code).count (R.DMA_u_CHk_RUNS_HALTS u k) 1
  let s2 := ((s1.wr (R.DMA_u_CHk_ERR_LO u k) (BitVec.ofNat 32 addr)).set (R.DMA_u_CHk_ERR_HI_ADDR u k) (addr / 2 ^ 32)).set
    (R.DMA_u_CHk_ERR_HI_SPACE u k) space
  let s3 := ((s2.set (R.DMA_u_CHk_ERR_HI_VALID u k) 1).setChan u k { s2.chan u k with wait := none }).raiseAt (R.DMA_u_IRQ_HALT u) k
  (s3.event 0x0F80 (le 1 u ++ le 1 k ++ le 1 c.code ++ le 1 space ++ le 2 (s.chPc u k) ++ le 4 (s.get (R.DMA_u_CHk_REMAIN_BYTES u k)) ++
    le 8 addr)).revote

/-- GO (R351 D1, D2). -/
def Dev.chGo (s : Dev) (u k : Nat) : Dev :=
  if !s.chIs u k .idle || !s.pitchUsed (u + 1) || s.draining (u + 1) then s.countR (R.DMA_u_REFUSED u) 1
  else
    let s1 := (s.wr (R.DMA_u_CHk_STATE u k) 0).set (R.DMA_u_CHk_REMAIN_BYTES u k) 0
    let s2 := ((s1.set (R.DMA_u_CHk_ERR_HI_VALID u k) 0).setChan u k .empty).setCh u k .ready
    let sp := s2.get (R.DMA_u_CHk_PROG_HI_SPACE u k)
    if s2.is (R.DMA_u_CHk_CFG_MODE u k) && decide (sp > 1) then
      s2.chHalt u k .fetch sp (s2.get (R.DMA_u_CHk_PROG_HI_ADDR u k) * 2 ^ 32 + (s2.rd (R.DMA_u_CHk_PROG_LO u k)).toNat)
    else s2.revote

/-- The address of a channel's CTL register, as a host write reaches it. -/
def ctlAddr (u k : Nat) : Nat := R.DMA_u_CHk_CTL u k

/-- The register-mode fields of CTL take a written word. -/
def Dev.ctlFields (s : Dev) (u k : Nat) (v : Word) : Dev := s.wr (ctlAddr u k) (v &&& 0x3FE)

/-- STOP (D9, D10). -/
def Dev.chStop (s : Dev) (u k : Nat) : Dev :=
  if s.chIs u k .ready || s.chIs u k .running || s.chIs u k .waiting then
    (((s.setCh u k .idle).set (R.DMA_u_CHk_STATE_STOPPED u k) 1).setChan u k .empty).revote
  else s

/-- CHANNEL_GO: a write of CTL with GO and without STOP (R351). -/
def doChannelGo (u : Fin 8) (k : Fin 16) (v : Word) (s : Dev) : Dev :=
  let w := (v ||| 1) &&& ~~~0x1000
  s.hostDo (ctlAddr u k) w fun t => (t.ctlFields u k w).chGo u k

/-- CHANNEL_STOP: a write of CTL with STOP; GO beside it is discarded (R351). -/
def doChannelStop (u : Fin 8) (k : Fin 16) (v : Word) (s : Dev) : Dev :=
  let w := v ||| 0x1000
  s.hostDo (ctlAddr u k) w fun t => (t.ctlFields u k w).chStop u k

/-- CLEAR (D11). -/
def Dev.chClear (s : Dev) (u k : Nat) : Dev := if s.chIs u k .halted then (s.setCh u k .idle).setChan u k .empty else s

/-- CHANNEL_CLEAR: a write of CTL with CLEAR alone. -/
def doChannelClear (u : Fin 8) (k : Fin 16) (v : Word) (s : Dev) : Dev :=
  let w := (v ||| 0x2000) &&& ~~~0x1001
  s.hostDo (ctlAddr u k) w fun t => (t.ctlFields u k w).chClear u k

/-- Bytes of a swap unit; none where SWAP is reserved (Table 15-3). -/
def swapUnit : Nat → Option Nat
  | 0 => some 1
  | 1 => some 2
  | 2 => some 4
  | 3 => some 4
  | 4 => some 8
  | _ => none

/-- Where byte i of the stream goes within it. -/
def swapIx (mode i : Nat) : Nat :=
  match mode with
  | 1 => i / 2 * 2 + (1 - i % 2)
  | 2 => i / 4 * 4 + (3 - i % 4)
  | 3 => i / 4 * 4 + (i % 4 + 2) % 4
  | 4 => i / 8 * 8 + (7 - i % 8)
  | _ => i

/-- A MOVE begins: its checks, and length 0 (R341, R343, R348). -/
def Dev.moveBegin (s : Dev) (u k : Nat) (m : Move) : Dev ⊕ Halt :=
  match swapUnit m.swap with
  | none => .inr .arg
  | some w =>
    if m.len % w ≠ 0 ∨ (m.paced ∧ m.srcSpace ≠ 2 ∧ m.dstSpace ≠ 2) then .inr .arg
    else
      let t := (s.setChan u k { s.chan u k with move := some m }).set (R.DMA_u_CHk_REMAIN_BYTES u k) m.len
      .inl (if m.len = 0 then t.set (R.DMA_u_CHk_STATE_ZERO u k) 1 else t)

/-- The MOVE of register mode (R352). -/
def Dev.regMove (s : Dev) (u k : Nat) : Move :=
  { srcSpace := s.get (R.DMA_u_CHk_CTL_SRC_SPACE u k), dstSpace := s.get (R.DMA_u_CHk_CTL_DST_SPACE u k),
    swap := s.get (R.DMA_u_CHk_CTL_SWAP u k), paced := s.is (R.DMA_u_CHk_CTL_PACED u k),
    src := s.get (R.DMA_u_CHk_SRC_HI_ADDR u k) * 2 ^ 32 + (s.rd (R.DMA_u_CHk_SRC u k)).toNat,
    dst := s.get (R.DMA_u_CHk_DST_HI_ADDR u k) * 2 ^ 32 + (s.rd (R.DMA_u_CHk_DST u k)).toNat,
    len := s.get (R.DMA_u_CHk_CNT_BYTES u k), done := 0 }

/-- CHANNEL_START: the lowest-numbered READY channel takes the free unit (R351 D3). -/
def doChannelStart (u : Fin 8) (s0 : Dev) : Dev :=
  match (List.range 16).find? fun k => s0.chIs u k .ready with
  | none => s0
  | some k =>
    if !s0.isUp domDma || (s0.holder u).isSome || s0.draining ((u : Nat) + 1) then s0
    else
      let s := s0.setCh u k .running
      if s.is (R.DMA_u_CHk_CFG_MODE u k) then s
      else
        let m := s.regMove u k
        match s.moveBegin u k m with
        | .inl t => t
        | .inr c => s.chHalt u k c m.srcSpace m.src

/-- The tap of TRBn; a disabled tributary's holds ones and requests nothing (R339). -/
def Dev.trbTap (s : Dev) (n : Nat) : Tap :=
  if !bit (s.get R.TRB_ENABLE_EN) n then { bytes := List.replicate 32 0xFF, req := false }
  else
    let t := sget { bytes := List.replicate 32 0xFF, req := false } n s.dma.taps
    { t with req := t.req && s.isUp domTrb }
def Dev.setTap (s : Dev) (n : Nat) (t : Tap) : Dev :=
  { s with dma := { s.dma with taps := sset { bytes := List.replicate 32 0xFF, req := false } n t s.dma.taps } }

/-- Taps of tributaries that are not enabled hold ones again, without a request (R339). -/
def Dev.tapsKept (s : Dev) : Dev :=
  { s with dma := { s.dma with taps := s.dma.taps.filter fun x => bit (s.get R.TRB_ENABLE_EN) x.1 } }

/-- Domain TRB sleeps: every request of a tap is withdrawn (R339). -/
def Dev.tapsSleep (s : Dev) : Dev :=
  forEach (List.range 16) s fun n t => t.setTap n { sget { bytes := List.replicate 32 0xFF, req := false } n t.dma.taps with req := false }

/-- A peripheral request is asserted; 16 to 63 never are (R338). -/
def Dev.request (s : Dev) (n : Nat) : Bool := decide (n < 16) && (s.trbTap n).req

/-- The request of a paced MOVE (R343). -/
def Move.req (m : Move) : Nat := (if m.srcSpace = 2 then m.src else m.dst) / 32 % 16

/-- The cluster and engine data address of a CLUSTER address; none where the space does not map it (Table 15-1). -/
def clusterAt (u a : Nat) : Option (Nat × Nat) := if a ≥ 2 ^ 34 then none else some (4 * u + a / 2 ^ 32, a % 2 ^ 32)

/-- Bytes read for a burst from address a, host memory ending at 2^48 (R338): the block, the bytes or the cause with the failing address. host: what host memory
answers. -/
def Dev.dmaRead (s : Dev) (u space a n : Nat) (host : HostData) : Dev × (List Byte ⊕ Halt × Nat) :=
  match space with
  | 0 => if a ≥ 2 ^ 48 then (s, .inr (.unmapped, a)) else (match host with
    | .data b => (s, .inl (padTo n b))
    | .pcieError => (s, .inr (.pcie, a)))
  | 1 => (match clusterAt u a with
    | none => (s, .inr (.unmapped, a))
    | some (c, d) =>
      match s.unmapped c .dma d n with
      | some (b, _) => (s, .inr (.unmapped, a - d + b))
      | none =>
        match (forEach (s.uncached c d n) s fun p t => t.pageIn c p).dataRead c .dma d n 0 with
        | .ok t v => (t, .inl v)
        | .err t _ => (t, .inr (.srcUe, a))
        | .fill t _ => (t, .inr (.srcUe, a)))
  | 2 => if a ≥ 512 then (s, .inr (.unmapped, a)) else (s, .inl (slice (s.trbTap (a / 32)).bytes (a % 32) n))
  | _ => (s, .inr (.unmapped, a))

/-- One beat written; words it covers are written in full. -/
def Dev.dmaWrite (s : Dev) (u space a : Nat) (v : List Byte) : Dev × Option (Halt × Nat) :=
  match space with
  | 0 => if a ≥ 2 ^ 48 then (s, some (.unmapped, a)) else (s.emit (.hostWrite a v), none)
  | 1 => (match clusterAt u a with
    | none => (s, some (.unmapped, a))
    | some (c, d) =>
      match s.unmapped c .dma d v.length with
      | some (b, _) => (s, some (.unmapped, a - d + b))
      | none =>
        match (forEach (s.uncached c d v.length) s fun p t => t.pageIn c p).dataWrite c .dma d v true 0 with
        | .ok t _ => (t, none)
        | .err t _ => (t, some (.dstUe, a))
        | .fill t _ => (t, some (.dstUe, a)))
  | _ => (s, some (.unmapped, a))

/-- The stream bytes from index o laid out as they are written: first index and bytes, in runs. -/
def swapRuns (mode o : Nat) (v : List Byte) : List (Nat × List Byte) :=
  let w := (swapUnit mode).getD 1
  if o % w = 0 ∧ v.length % w = 0 then [(o, (List.range v.length).map fun i => v.getD (swapIx mode i) 0)]
  else (List.zipWith (fun (b : Byte) i => (swapIx mode (o + i), [b])) v (List.range v.length))

/-- Beats of a burst in order from stream index o (R340, R349): each read, then written; REMAIN falls by those written. -/
def Dev.beats (u k : Nat) (m : Move) : Nat → Nat → Nat → HostData → Dev → Dev × Option (Halt × Nat × Nat)
  | 0, _, _, _, s => (s, none)
  | fuel + 1, o, n, host, s =>
    if n = 0 then (s, none)
    else
      let b := min n 32
      let r := s.dmaRead u m.srcSpace (m.src + o) b host
      match r.2 with
      | .inr (c, a) => (r.1, some (c, m.srcSpace, a))
      | .inl v =>
        let w := (swapRuns m.swap o v).foldl (fun (x : Dev × Option (Halt × Nat)) p =>
          match x.2 with | some _ => x | none => x.1.dmaWrite u m.dstSpace (m.dst + p.1) p.2) (r.1, none)
        match w.2 with
        | some (c, a) => (w.1, some (c, m.dstSpace, a))
        | none =>
          let left := m.len - (o + b)
          let t := (w.1.set (R.DMA_u_CHk_REMAIN_BYTES u k) left).setChan u k { w.1.chan u k with move := some { m with done := o + b } }
          let t := if t.is (R.DMA_u_CHk_CFG_MODE u k) then t else t.set (R.DMA_u_CHk_CNT_BYTES u k) left
          let sum := sget 0 u t.dma.kib + b
          let t := { t with dma := { t.dma with kib := sset 0 u (sum % 1024) t.dma.kib } }.countR (R.DMA_u_KIB u) (sum / 1024)
          Dev.beats u k m fuel (o + b) (n - b) (match host with | .data d => .data (d.drop b) | .pcieError => .pcieError) t

/-- Clusters that a MOVE reaches. -/
def Move.clusters (m : Move) (u : Nat) : List Nat :=
  (if m.srcSpace = 1 then ((clusterAt u m.src).map (·.1)).toList else []) ++ (if m.dstSpace = 1 then ((clusterAt u m.dst).map (·.1)).toList else [])

/-- DMA_BURST: one burst of the running channel's MOVE, or the channel waits for its request (R339, R340, R344, R349, D4). -/
def doDmaBurst (u : Fin 8) (host : HostData) (s0 : Dev) : Dev :=
  match s0.runner u with
  | none => s0
  | some k => match (s0.chan u k).move with
    | none => s0
    | some m =>
      let s := forEach (m.clusters u) s0 fun c t => t.access c cliTsk
      if m.done ≥ m.len ∨ (m.clusters u).any (fun c => !s.isUp c) then s
      else if m.paced ∧ !s.request m.req then s.setCh u k .waiting
      else
        let o := m.done
        let periph (space a : Nat) : Nat := if space = 2 then 32 - a % 32 else 256
        let n := min (min 256 (m.len - o)) (min (min (256 - (m.src + o) % 256) (256 - (m.dst + o) % 256))
          (min (periph m.srcSpace (m.src + o)) (periph m.dstSpace (m.dst + o))))
        let r := Dev.beats u k m 8 o n host s
        let a := m.src + o
        let t := if m.srcSpace = 2 ∧ a % 32 ≤ 31 ∧ 32 ≤ a % 32 + n ∧ a < 512 then
            r.1.setTap (a / 32) { sget { bytes := List.replicate 32 0xFF, req := false } (a / 32) r.1.dma.taps with req := false }
          else r.1
        match r.2 with
        | some (c, sp, x) => t.chHalt u k c sp x
        | none => t

/-- LATE_ERROR: the destination reports an error for the last beat after REMAIN has reached 0 (R350): what lies there is a free
value. -/
def doLateError (u : Fin 8) (s : Dev) : Dev :=
  match s.runner u with
  | none => s
  | some k => match (s.chan u k).move with
    | none => s
    | some m =>
      if m.done < m.len ∨ m.len = 0 then s
      else
        let b := (m.len - 1) % 32 + 1
        let a := m.dst + (m.len - b)
        let t := match m.dstSpace, clusterAt u a with
          | 1, some (c, d) => (List.range b).foldl (fun (x : Dev) i => let r := x.draw; r.2.rawStore c .dma (d + i) (Config.lateByte r.1)) s
          | _, _ => s
        t.chHalt u k .lateError m.dstSpace a

/-- DMA instructions (Table 15-4). -/
inductive DOp where
  | move (m : Move) (srcIx dstIx : Bool)
  | loop (count : Nat)
  | endloop
  | waitFlag (task flag : Nat) (clear : Bool)
  | waitReq (n : Nat)
  | sigTask (task flag : Nat)
  | sigHost
  | sigChan (k : Nat)
  | nop
  | end_
deriving DecidableEq, Repr

/-- An instruction of 128 bits; none halts with ARG (R342, R343). FLAG is not marked 0 for the kinds that do not use it. -/
def decodeDma (w : Nat) : Option DOp :=
  let f (lo n : Nat) : Nat := bits w lo n
  match f 124 4 with
  | 1 =>
    let sp := f 122 2
    let dp := f 120 2
    let sm := f 115 2
    let dm := f 113 2
    if sp = 3 ∨ dp = 3 ∨ sm > 1 ∨ dm > 1 then none
    else some (.move { srcSpace := sp, dstSpace := dp, swap := f 117 3, paced := bit w 112, src := f 48 48, dst := f 0 48, len := f 96 16, done := 0 }
      (sm == 1) (dm == 1))
  | 2 => if f 32 92 ≠ 0 then none else some (.loop (f 0 32))
  | 3 => if f 0 124 ≠ 0 then none else some .endloop
  | 4 =>
    if f 21 100 ≠ 0 then none
    else match f 122 2 with
      | 0 => some (.waitFlag (f 0 16) (f 16 5) (bit w 121))
      | 1 => if f 6 10 ≠ 0 then none else some (.waitReq (f 0 6))
      | _ => none
  | 5 =>
    if f 21 101 ≠ 0 then none
    else match f 122 2 with
      | 0 => some (.sigTask (f 0 16) (f 16 5))
      | 1 => if f 0 16 ≠ 0 then none else some .sigHost
      | 2 => if f 4 12 ≠ 0 then none else some (.sigChan (f 0 4))
      | _ => none
  | 6 => if f 0 124 ≠ 0 then none else some .nop
  | 7 => if f 0 124 ≠ 0 then none else some .end_
  | _ => none

/-- The address of instruction n of a channel's program, with its space. -/
def Dev.progAddr (s : Dev) (u k n : Nat) : Nat × Nat :=
  (s.get (R.DMA_u_CHk_PROG_HI_SPACE u k),
   (s.get (R.DMA_u_CHk_PROG_HI_ADDR u k) * 2 ^ 32 + (s.rd (R.DMA_u_CHk_PROG_LO u k)).toNat) / 16 * 16 + 16 * n)

/-- Instruction n fetched: the word, or FETCH (R342). host: the bytes of host memory from instruction n0 on. -/
def Dev.progFetch (s : Dev) (u k n0 n : Nat) (host : HostData) : Dev × Option Nat :=
  let p := s.progAddr u k n
  if p.1 = 0 then
    if p.2 ≥ 2 ^ 48 then (s, none)
    else match host with
    | .data b => (s, if 16 * (n - n0) < b.length then some (leAt b (16 * (n - n0)) 16) else none)
    | .pcieError => (s, none)
  else
    let r := s.dmaRead u 1 p.2 16 .pcieError
    match r.2 with
    | .inl v => (r.1, some (ofLe v))
    | .inr _ => (r.1, none)

/-- A channel with a MOVE whose last byte is issued goes on after it. -/
def Dev.moveEnd (s : Dev) (u k : Nat) : Dev :=
  let c := s.chan u k
  match c.move with
  | some _ => (s.setChan u k { c with move := none }).setChPc u k (s.chPc u k + 1)
  | none => s

/-- The running channel executes its next instruction where it is of the kind that sel accepts; body says its effect (R342, R349). -/
def Dev.dmaRun (s0 : Dev) (u : Fin 8) (host : HostData) (sel : DOp → Bool) (body : Dev → Nat → DOp → Dev) : Dev :=
  match s0.runner u with
  | none => s0
  | some k =>
    let busy := match (s0.chan u k).move with | some m => decide (m.done < m.len) | none => false
    if !s0.is (R.DMA_u_CHk_CFG_MODE u k) || busy then s0
    else
      let s1 := s0.moveEnd u k
      let n := s1.chPc u k
      let a := s1.progAddr u k n
      let cl := if a.1 = 1 then ((clusterAt u a.2).map (·.1)).toList else []
      let s := forEach cl s1 fun c t => t.access c cliTsk
      if cl.any fun c => !s.isUp c then forEach cl s0 fun c t => t.access c cliTsk
      else
        let r := s.progFetch u k n n host
        match r.2 with
        | none => r.1.chHalt u k .fetch a.1 a.2
        | some w => match decodeDma w with
          | none => r.1.chHalt u k .arg a.1 a.2
          | some i => if sel i then body r.1 k i else s0

/-- Execution goes on at the next instruction. -/
def Dev.chNext (s : Dev) (u k : Nat) : Dev := s.setChPc u k (s.chPc u k + 1)

/-- A halt with ARG at the present instruction. -/
def Dev.chArg (s : Dev) (u k : Nat) : Dev := let a := s.progAddr u k (s.chPc u k); s.chHalt u k .arg a.1 a.2

/-- MOVE: the transfer begins; a paced one waits for its request (R341, R343, R348, D4). -/
def doMove (u : Fin 8) (host : HostData) (s : Dev) : Dev :=
  s.dmaRun u host (fun i => match i with | .move _ _ _ => true | _ => false) fun t k i =>
    match i with
    | .move m sx dx =>
      let it := match (t.chan u k).loops with | (_, _, d) :: _ => d | [] => 0
      let m1 := { m with src := m.src + (if sx then it * m.len else 0), dst := m.dst + (if dx then it * m.len else 0) }
      (match t.moveBegin u k m1 with
      | .inr _ => t.chArg u k
      | .inl x =>
        if m1.len = 0 then x.moveEnd u k
        else if m1.paced ∧ !x.request m1.req then x.setCh u k .waiting else x)
    | _ => t

/-- Instructions skipped to the one after the matching ENDLOOP: each fetched and checked (R348). -/
def Dev.skipLoop (u k n0 : Nat) (host : HostData) : Nat → Nat → Nat → Dev → Dev
  | 0, n, _, s => (s.setChPc u k n).chArg u k
  | fuel + 1, n, depth, s =>
    let r := s.progFetch u k n0 n host
    let t := r.1.setChPc u k n
    match r.2 with
    | none => let a := t.progAddr u k n; t.chHalt u k .fetch a.1 a.2
    | some w => match decodeDma w with
      | none => t.chArg u k
      | some .endloop => if depth = 0 then t.setChPc u k (n + 1) else Dev.skipLoop u k n0 host fuel (n + 1) (depth - 1) t
      | some (.loop _) => Dev.skipLoop u k n0 host fuel (n + 1) (depth + 1) t
      | some _ => Dev.skipLoop u k n0 host fuel (n + 1) depth t

/-- LOOP (R345, R348). -/
def doLoop (u : Fin 8) (host : HostData) (s : Dev) : Dev :=
  s.dmaRun u host (fun i => match i with | .loop _ => true | _ => false) fun t k i =>
    match i with
    | .loop n =>
      let c := t.chan u k
      let pc := t.chPc u k
      if c.loops.length ≥ 4 then t.chArg u k
      else if n = 0 then Dev.skipLoop u k pc host 65536 (pc + 1) 0 (t.set (R.DMA_u_CHk_STATE_ZERO u k) 1)
      else (t.setChan u k { c with loops := (pc + 1, n, 0) :: c.loops }).chNext u k
    | _ => t

/-- ENDLOOP (R345). -/
def doEndloop (u : Fin 8) (host : HostData) (s : Dev) : Dev :=
  s.dmaRun u host (fun i => i == .endloop) fun t k _ =>
    let c := t.chan u k
    match c.loops with
    | [] => t.chArg u k
    | (pc, n, d) :: rest =>
      if d + 1 < n then (t.setChan u k { c with loops := (pc, n, d + 1) :: rest }).setChPc u k pc
      else (t.setChan u k { c with loops := rest }).chNext u k

/-- A task's flag is set. -/
def Dev.flagSet (s : Dev) (n f : Nat) : Bool := bit (s.task n).flags f

/-- A channel passes its WAIT on a flag. -/
def Dev.passFlag (s : Dev) (u k n f : Nat) (clear : Bool) : Dev :=
  let t := s.chNext u k
  if clear then t.clearFlags n (2 ^ f) else t

/-- WAIT_FLAG (R346, D4). -/
def doWaitFlag (u : Fin 8) (host : HostData) (s : Dev) : Dev :=
  s.dmaRun u host (fun i => match i with | .waitFlag _ _ _ => true | _ => false) fun t k i =>
    match i with
    | .waitFlag n f c =>
      if (t.task n).st = .free then t.chArg u k
      else if t.flagSet n f then t.passFlag u k n f c
      else (t.setChan u k { t.chan u k with wait := some (.flag n f c) }).setCh u k .waiting
    | _ => t

/-- WAIT_REQUEST (R346, D4). -/
def doWaitRequest (u : Fin 8) (host : HostData) (s : Dev) : Dev :=
  s.dmaRun u host (fun i => match i with | .waitReq _ => true | _ => false) fun t k i =>
    match i with
    | .waitReq n =>
      if t.request n then t.chNext u k else (t.setChan u k { t.chan u k with wait := some (.request n) }).setCh u k .waiting
    | _ => t

/-- WAIT_SATISFIED: what a WAITING channel waits for holds (D5). -/
def doWaitSatisfied (u : Fin 8) (s : Dev) : Dev :=
  match (List.range 16).find? fun k => s.chIs u k .waiting with
  | none => s
  | some k =>
    let c := s.chan u k
    let run (t : Dev) : Dev := (t.setChan u k { t.chan u k with wait := none }).setCh u k .running
    if !s.isUp domDma then s
    else match c.wait, c.move with
      | some (.flag n f cl), _ => if (s.task n).st ≠ .free ∧ s.flagSet n f then (run s).passFlag u k n f cl else s
      | some (.request n), _ => if s.request n then (run s).chNext u k else s
      | none, some m => if s.request m.req then run s else s
      | none, none => s

/-- SIGNAL_TASK (R347). -/
def doSignalTask (u : Fin 8) (host : HostData) (s : Dev) : Dev :=
  s.dmaRun u host (fun i => match i with | .sigTask _ _ => true | _ => false) fun t k i =>
    match i with
    | .sigTask n f => (t.chNext u k).setFlags n (2 ^ f)
    | _ => t

/-- The channel's EVENT bit (R347). -/
def Dev.chEvent (s : Dev) (u k : Nat) : Dev := s.raiseAt (R.DMA_u_IRQ_EVENT u) k

/-- SIGNAL_HOST (R347). -/
def doSignalHost (u : Fin 8) (host : HostData) (s : Dev) : Dev :=
  s.dmaRun u host (fun i => i == .sigHost) fun t k _ => (t.chNext u k).chEvent u k

/-- SIGNAL_CHANNEL (R347). -/
def doSignalChannel (u : Fin 8) (host : HostData) (s : Dev) : Dev :=
  s.dmaRun u host (fun i => match i with | .sigChan _ => true | _ => false) fun t k i =>
    match i with
    | .sigChan n => (t.chNext u k).chGo u n
    | _ => t

/-- NOP. -/
def doNop (u : Fin 8) (host : HostData) (s : Dev) : Dev :=
  s.dmaRun u host (fun i => i == .nop) fun t k _ => t.chNext u k

/-- A run ends (D6, D7). -/
def Dev.chEnd (s : Dev) (u k : Nat) : Dev :=
  let s1 := (s.count (R.DMA_u_CHk_RUNS_DONE u k) 1).setChan u k .empty
  let s2 := if s1.is (R.DMA_u_CHk_CFG_DONE_IRQ u k) then s1.chEvent u k else s1
  if s2.is (R.DMA_u_CHk_CFG_REPEAT u k) && !s2.draining (u + 1) then ((s2.setCh u k .ready).setChPc u k 0).revote
  else (s2.setCh u k .idle).revote

/-- DMA_END: END of a program, or the end of a register-mode transfer whose last byte is issued (R351, R352). -/
def doDmaEnd (u : Fin 8) (host : HostData) (s : Dev) : Dev :=
  match s.runner u with
  | none => s
  | some k =>
    if s.is (R.DMA_u_CHk_CFG_MODE u k) then s.dmaRun u host (fun i => i == .end_) fun t j _ => t.chEnd u j
    else match (s.chan u k).move with
      | some m => if m.done < m.len then s else (if s.is (R.DMA_u_CHk_CTL_IRQ u k) then s.chEvent u k else s).chEnd u k
      | none => s

/-- TAP_LATCH: the tap of TRBn takes the frame just read from its receive elastic store (R339). While the line source is not aligned
the store is read at this instant. -/
def doTapLatch (n : Fin 16) (s : Dev) : Dev :=
  if !bit (s.get R.TRB_ENABLE_EN) n || !s.isUp domTrb then s
  else
    let r := if s.aligned then (s, if s.trbBad n then aisFrame else (s.trbP n).lastRead) else s.trbRead n
    let old := r.1.trbTap n
    let t := if old.req then (r.1.count R.DMA_TAP_OVERRUN_COUNT 1).set R.DMA_TAP_OVERRUN_TRB n else r.1
    t.setTap n { bytes := padTo 32 r.2, req := true }

-- The commands of this file.

/-- CHANNEL_GO (R351). -/
def execChannelGo (u : Fin 8) (k : Fin 16) (v : Word) (s : State) : Host.Outcome State Fault Refusal := s.run (doChannelGo u k v)

/-- CHANNEL_STOP (R351). -/
def execChannelStop (u : Fin 8) (k : Fin 16) (v : Word) (s : State) : Host.Outcome State Fault Refusal := s.run (doChannelStop u k v)

/-- CHANNEL_CLEAR (R351). -/
def execChannelClear (u : Fin 8) (k : Fin 16) (v : Word) (s : State) : Host.Outcome State Fault Refusal := s.run (doChannelClear u k v)

/-- CHANNEL_START (R351). -/
def execChannelStart (u : Fin 8) (s : State) : Host.Outcome State Fault Refusal := s.run (doChannelStart u)

/-- DMA_BURST (R340). -/
def execDmaBurst (u : Fin 8) (host : HostData) (s : State) : Host.Outcome State Fault Refusal := s.run (doDmaBurst u host)

/-- LATE_ERROR (R350). -/
def execLateError (u : Fin 8) (s : State) : Host.Outcome State Fault Refusal := s.run (doLateError u)

/-- MOVE (R343). -/
def execMove (u : Fin 8) (host : HostData) (s : State) : Host.Outcome State Fault Refusal := s.run (doMove u host)

/-- LOOP (R345). -/
def execLoop (u : Fin 8) (host : HostData) (s : State) : Host.Outcome State Fault Refusal := s.run (doLoop u host)

/-- ENDLOOP (R345). -/
def execEndloop (u : Fin 8) (host : HostData) (s : State) : Host.Outcome State Fault Refusal := s.run (doEndloop u host)

/-- WAIT_FLAG (R346). -/
def execWaitFlag (u : Fin 8) (host : HostData) (s : State) : Host.Outcome State Fault Refusal := s.run (doWaitFlag u host)

/-- WAIT_REQUEST (R346). -/
def execWaitRequest (u : Fin 8) (host : HostData) (s : State) : Host.Outcome State Fault Refusal := s.run (doWaitRequest u host)

/-- WAIT_SATISFIED (R346). -/
def execWaitSatisfied (u : Fin 8) (s : State) : Host.Outcome State Fault Refusal := s.run (doWaitSatisfied u)

/-- SIGNAL_TASK (R347). -/
def execSignalTask (u : Fin 8) (host : HostData) (s : State) : Host.Outcome State Fault Refusal := s.run (doSignalTask u host)

/-- SIGNAL_HOST (R347). -/
def execSignalHost (u : Fin 8) (host : HostData) (s : State) : Host.Outcome State Fault Refusal := s.run (doSignalHost u host)

/-- SIGNAL_CHANNEL (R347). -/
def execSignalChannel (u : Fin 8) (host : HostData) (s : State) : Host.Outcome State Fault Refusal := s.run (doSignalChannel u host)

/-- NOP (R342). -/
def execNop (u : Fin 8) (host : HostData) (s : State) : Host.Outcome State Fault Refusal := s.run (doNop u host)

/-- DMA_END (R351). -/
def execDmaEnd (u : Fin 8) (host : HostData) (s : State) : Host.Outcome State Fault Refusal := s.run (doDmaEnd u host)

/-- TAP_LATCH (R339). -/
def execTapLatch (n : Fin 16) (s : State) : Host.Outcome State Fault Refusal := s.run (doTapLatch n)

end Sys2Proof.Machine
end

