-- ==== Sys2Proof/Machine/HostPath.lean ====
section
/-!
DEFINITION. Sys2Proof/Machine/HostPath.lean: the host frame path (15_dma_units.md R354 to R356).
-/
namespace Sys2Proof.Machine

/-- HPATH_CTL_WRITE: an enable bit that goes from 0 to 1 sets its ring's HEAD and TAIL to 0 (R354). -/
def doHpathCtlWrite (v : Word) (s : Dev) : Dev :=
  s.hostDo R.DMA_HPATH_CTL v fun t =>
    let rx := bit v.toNat 0 && !t.is R.DMA_HPATH_CTL_HRX_EN
    let tx := bit v.toNat 1 && !t.is R.DMA_HPATH_CTL_HTX_EN
    let t1 := if rx then (t.set R.DMA_HRX_HEAD_INDEX 0).set R.DMA_HRX_TAIL_INDEX 0 else t
    let t2 := if tx then (t1.set R.DMA_HTX_HEAD_INDEX 0).set R.DMA_HTX_TAIL_INDEX 0 else t1
    (t2.wr R.DMA_HPATH_CTL (v &&& 3)).revote

/-- HOST_RING_TAIL_WRITE: descriptors are posted; a TAIL not below the ring size is discarded (R354). -/
def doHostRingTailWrite (tx : Bool) (v : Word) (s : Dev) : Dev :=
  let a := if tx then R.DMA_HTX_TAIL else R.DMA_HRX_TAIL
  s.hostDo a v fun t =>
    let size := 2 ^ t.get (if tx then R.DMA_HTX_SIZE_LOG2 else R.DMA_HRX_SIZE_LOG2)
    let n := v.toNat % 4096
    if n < size then t.set (if tx then R.DMA_HTX_TAIL_INDEX else R.DMA_HRX_TAIL_INDEX) n else t

/-- A PCIe error on a ring: its enable bit is cleared. -/
def Dev.ringError (s : Dev) (en : Fld) : Dev := ((s.set en 0).raise R.DMA_HPATH_IRQ_PCIE_ERR).revote

/-- HOST_RX_DELIVER: the frame that egress H launches goes into the buffer of the descriptor at HEAD (R355). desc: what host memory
answers for the descriptor. -/
def doHostRxDeliver (desc : HostData) (s : Dev) : Dev :=
  match s.launching 17 with
  | none => s
  | some (f, _) =>
    let head := s.get R.DMA_HRX_HEAD_INDEX
    if !s.isUp domDma || !s.is R.DMA_HPATH_CTL_HRX_EN || head == s.get R.DMA_HRX_TAIL_INDEX then s
    else match desc with
      | .pcieError => s.ringError R.DMA_HPATH_CTL_HRX_EN
      | .data d =>
        let at_ := s.rd64 R.DMA_HRX_BASE_LO + 64 * head
        let big := decide (f.bytes.length > leAt d 8 2 % 16384)
        let back := [(0 : Byte)] ++ le 1 (b2n big) ++ le 2 f.bytes.length ++ le 2 f.queue ++ le 4 f.user ++ le 4 f.rx.ns ++ le 6 f.rx.sec ++
          [0, 0] ++ padTo 32 f.info
        let s1 := s.setLaunching 17 none
        let s2 := if big then s1.count R.DMA_HPATH_COUNTS_TOOBIG 1
          else (s1.emit (.hostWrite (leAt d 0 8) f.bytes)).countR R.DMA_HRX_FRAMES 1
        let s3 := s2.emit (.hostWrite (at_ + 0x0A) back)
        (s3.set R.DMA_HRX_HEAD_INDEX ((head + 1) % 2 ^ s.get R.DMA_HRX_SIZE_LOG2)).raise R.DMA_HPATH_IRQ_RX_DONE

/-- HOST_TX_FETCH: the frame of the TX descriptor at HEAD is taken and handed on, or refused (R356). data: the frame's bytes. -/
def doHostTxFetch (desc data : HostData) (s : Dev) : Dev :=
  let head := s.get R.DMA_HTX_HEAD_INDEX
  if !s.isUp domDma || !s.is R.DMA_HPATH_CTL_HTX_EN || head == s.get R.DMA_HTX_TAIL_INDEX || s.pwr.closed then s
  else
    let at_ := s.rd64 R.DMA_HTX_BASE_LO + 64 * head
    let back (t : Dev) (status : Nat) : Dev :=
      ((t.emit (.hostWrite (at_ + 0x26) ([0] ++ le 1 status))).set R.DMA_HTX_HEAD_INDEX ((head + 1) % 2 ^ s.get R.DMA_HTX_SIZE_LOG2)).raise
        R.DMA_HPATH_IRQ_TX_DONE
    match desc with
    | .pcieError => s.ringError R.DMA_HPATH_CTL_HTX_EN
    | .data d =>
      let n := leAt d 0x24 2
      match (if n = 0 ∨ n > 9744 then none else s.sendDescOf (padTo 64 (padTo 0x1C d))), data with
      | none, _ => back (s.count R.DMA_HPATH_COUNTS_TX_ARG 1) 1
      | some _, .pcieError => s.ringError R.DMA_HPATH_CTL_HTX_EN
      | some (p, x), .data b =>
        let fr := Frame.first_ clsHost 0 (padTo n b) s.now
        back ((s.send p x fr fr.metadata).countR R.DMA_HTX_FRAMES 1) 0

-- The commands of this file.

/-- HPATH_CTL_WRITE (R354). -/
def execHpathCtlWrite (v : Word) (s : State) : Host.Outcome State Fault Refusal := s.run (doHpathCtlWrite v)

/-- HOST_RING_TAIL_WRITE (R354). -/
def execHostRingTailWrite (tx : Bool) (v : Word) (s : State) : Host.Outcome State Fault Refusal := s.run (doHostRingTailWrite tx v)

/-- HOST_RX_DELIVER (R355). -/
def execHostRxDeliver (desc : HostData) (s : State) : Host.Outcome State Fault Refusal := s.run (doHostRxDeliver desc)

/-- HOST_TX_FETCH (R356). -/
def execHostTxFetch (desc data : HostData) (s : State) : Host.Outcome State Fault Refusal := s.run (doHostTxFetch desc data)

end Sys2Proof.Machine
end

