-- ==== Sys2Proof/Machine/TwinCore.lean ====
section
/-!
DEFINITION. Sys2Proof/Machine/TwinCore.lean: the twin role, mirror state, health, the switchover gap, promotion and demotion
(20_twin_pairs.md R431 to R433, R439, R440, R442, R444, R445, R449).
-/
namespace Sys2Proof.Machine

/-- Mirror states (TWN_STATUS.MIRROR). -/
def mDown : Nat := 0
def mSyncing : Nat := 1
def mSynced : Nat := 2
def mLapsed : Nat := 3

/-- The mirror state. -/
def Dev.mirrorState (s : Dev) : Nat := s.get R.TWN_STATUS_MIRROR

/-- The payload of a TWN_EVENT (Table 20-7). -/
def Dev.twnPayload (s : Dev) (code : Nat) : List Byte :=
  le 1 code ++ le 1 s.role.code ++ le 1 s.mirrorState ++ le 1 (s.get R.TWN_VERDICT_SOURCE) ++ le 2 (s.get R.TWN_VERDICT_SEQ) ++
    le 4 (s.rd R.TWN_LAST_GAP).toNat

/-- A TWN_EVENT with its bit of TWN_IRQ (R449). -/
def Dev.twnEvent (s : Dev) (code : Nat) : Dev :=
  let t := s.raise ⟨R.TWN_IRQ, code - 1, 1⟩
  t.event 0x1480 (t.twnPayload code)

/-- The mirror state replaced. -/
def Dev.setMirror (s : Dev) (m : Nat) : Dev := if s.mirrorState = m then s else (s.set R.TWN_STATUS_MIRROR m).twnEvent 4

/-- The twin role replaced; the Ethernet lanes of a standby may go dark (R444). -/
def Dev.setRole (s : Dev) (r : Role) : Dev :=
  if s.role = r then s else ((s.set R.TWN_STATUS_ROLE r.code).userLanesOut s).twnEvent 1

/-- HEALTH (R440); ARB_STAT is high while it is 1. -/
def Dev.health (s : Dev) : Bool :=
  s.is R.TWN_CFG_EN && !s.is R.TWN_CTL_UNHEALTHY && (s.sup.mode == .service || s.sup.mode == .standby) && s.img.fault == 0 &&
    (s.role != .standby || s.mirrorState == mSynced || s.mirrorState == mLapsed)

/-- The level on ARB_STAT (R440, R498). -/
def Dev.arbStat (s : Dev) : Bool := s.sup.inReset.isNone && s.health

/-- GPIO pin n drives a level, or is undriven (R501). -/
def Dev.gpioOut (s : Dev) (n : Nat) : Option Bool :=
  if s.pinsOff || s.role == .standby then none
  else if !bit (s.get R.PLT_GPIO_CTL_DIR) n then none
  else if s.twn.gapAt.isSome then some (bit s.twn.gpio n)
  else some (bit (s.get R.PLT_GPIO_CTL_OUT) n)

/-- The stamp digest (R433). -/
def Dev.stampDigest (s : Dev) : Nat :=
  crc32c ([9, 10, 11, 15].flatMap fun p => le 4 (s.rd (R.IMG_PITCH_STAMP p)).toNat)

/-- The switchover gap ends (R445). -/
def Dev.endGap (s : Dev) : Dev :=
  let s1 : Dev := { s with twn := { s.twn with gapDue := false, gapAt := none, gapBurst := false } }
  match s.twn.gapAt with
  | none => s1
  | some t =>
    let s2 : Dev := { s1 with sch := { s1.sch with gap := false }, trb := { s1.trb with isOver := false } }
    ((s2.setB R.TWN_STATUS_GAP false).wr R.TWN_LAST_GAP (BitVec.ofNat 32 (sat 32 ((s.ticks - t) / usTicks)))).twnEvent 3

/-- PN counters at promotion (R445): the floors and TWN_PN_SKIP are minima. -/
def Dev.liftPn (s : Dev) : Dev :=
  let skip := (s.rd R.TWN_PN_SKIP).toNat
  forEach (s.cph.slots.map (·.1)) s fun n t =>
    let x := t.slot n
    let f : Nat × Nat := sget (0, 0) n s.twn.floors
    t.setSlot n { x with pn := max x.pn (f.1 + skip), rpn := max x.rpn f.2 }

/-- VERDICT_ACTIVE takes effect (R445). -/
def Dev.promote (s : Dev) : Dev :=
  let s1 := (s.dropPending.liftPn).count R.TWN_COUNTS_SWITCHOVERS 1
  let s2 : Dev := { s1 with twn := { s1.twn with gapDue := true, gapBurst := false } }
  ((s2.setRole .active).trigger .verdictActive).settle.revote

/-- VERDICT_STANDBY takes effect (R444). -/
def Dev.demote (s : Dev) : Dev :=
  (((s.endGap.count R.TWN_COUNTS_DEMOTIONS 1).setRole .standby).trigger .verdictStandby).settle.revote

/-- A verdict that the checks of R441 passed takes effect (R442). -/
def Dev.verdictActs (s : Dev) (act : Bool) : Dev :=
  if act = (s.role == .active) then s else if act then s.promote else s.demote

/-- The gap begins at a downstream frame boundary (R445). -/
def Dev.startGap (s : Dev) : Dev :=
  let s1 : Dev := { s with twn := { s.twn with gapDue := false, gapAt := some s.ticks }, sch := { s.sch with gap := true } }
  (s1.setB R.TWN_STATUS_GAP true).twnEvent 2

/-- Withheld commits whose record satisfies f complete (R439). -/
def Dev.completeCommits (s : Dev) (f : Withheld → Bool) : Dev :=
  let l := s.twn.withheld.filter f
  let s1 : Dev := { s with twn := { s.twn with withheld := s.twn.withheld.filter fun w => !f w } }
  forEach l s1 fun w t => t.commitDone w.live w.prev

/-- TWN_ENABLE_WRITE: a write of TWN_CFG (R432). Bits 5:1 take writes only while EN is 0; ARBITER 0b11 is discarded (R8). -/
def Dev.twnCfg (s : Dev) (v : Nat) : Dev :=
  let en := bit v 0
  if !s.is R.TWN_CFG_EN then
    let s1 := ((s.setB R.TWN_CFG_PATH (bit v 1)).setB R.TWN_CFG_SYNC_COMMIT (bit v 4)).setB R.TWN_CFG_STBY_LINK (bit v 5)
    let s2 := if bits v 2 2 = 3 then s1 else s1.set R.TWN_CFG_ARBITER (bits v 2 2)
    if !en then s2
    else
      let s3 := (s2.set R.TWN_CFG_EN 1).wr R.TWN_MIRROR_TX 1
      let s4 : Dev := { s3 with twn := { s3.twn with
        sent := [], ack := 0, hello := none, shown := none, heardAt := none, bulk := none, floors := [], pnSent := [], gcl := [], withheld := [],
        first := true, gapDue := false, gapAt := none, gapBurst := false, peerAt := none, reg := [] } }
      ((((s4.wr R.TWN_MIRROR_ACK 0).set R.TWN_STATUS_PAIRED 0).setMirror mDown).setRole .standby).settle.revote
  else if en then s
  else
    let s1 := (s.set R.TWN_CFG_EN 0).endGap.completeCommits fun _ => true
    let s2 : Dev := { s1 with twn := { s1.twn with bulk := none, hello := none, heardAt := none, peerAt := none } }
    (((s2.set R.TWN_STATUS_PAIRED 0).setMirror mDown).setRole .none).settle.revote
def doTwnEnableWrite (v : Word) (s : Dev) : Dev := s.twnCfg v.toNat

/-- The host's or engines' read-only view of what TWN_STATUS computes (R440, R441, R443). -/
def Dev.refReach (s : Dev) : Bool := s.is R.TWN_CFG_EN && ((s.nodeOf (s.rd64 R.TWN_REF_SERIAL_LO)).isSome ||
  (s.rd64 R.TWN_REF_SERIAL_LO == s.serial && s.is R.ROP_CFG_REFEREE))
def Dev.twnStatus (s : Dev) : Word :=
  BitVec.ofNat 32 (putBits (putBits (putBits (s.rd R.TWN_STATUS).toNat R.TWN_STATUS_HEALTH.lo 1 (b2n s.health))
    R.TWN_STATUS_ARB_IN.lo 1 (b2n s.twn.arbIn)) R.TWN_STATUS_REF_REACH.lo 1 (b2n s.refReach))

-- The commands of this file.

/-- TWN_ENABLE_WRITE (R432). -/
def execTwnEnableWrite (v : Word) (s : State) : Host.Outcome State Fault Refusal := s.run (doTwnEnableWrite v)

end Sys2Proof.Machine
end

