-- ==== Sys2Proof/Machine/ImageCore.lean ====
section
/-!
DEFINITION. Sys2Proof/Machine/ImageCore.lean: how an image operation reports and how one ends without effect
(02_kregar_image_and_pitches.md R36, R38, R44, R45, R506).
-/
namespace Sys2Proof.Machine

/-- RESULT codes of Table 2-5 and after it. -/
inductive ImgRes where
  | success | mode | busy | length | fetch | header | mask | table | key | signature | epoch | interface | content | role
  | drainTimeout | preempted | fault | fuse | abandoned | noStore
deriving DecidableEq, Repr

/-- RESULT codes. -/
def ImgRes.code : ImgRes → Nat
  | .success => 0x00
  | .mode => 0x01
  | .busy => 0x02
  | .length => 0x03
  | .fetch => 0x04
  | .header => 0x05
  | .mask => 0x06
  | .table => 0x07
  | .key => 0x08
  | .signature => 0x09
  | .epoch => 0x0A
  | .interface => 0x0B
  | .content => 0x0C
  | .role => 0x0D
  | .drainTimeout => 0x0E
  | .preempted => 0x0F
  | .fault => 0x10
  | .fuse => 0x11
  | .abandoned => 0x12
  | .noStore => 0x13

/-- An image is active: its pitches run. -/
def Dev.imgActive (s : Dev) : Bool := !s.img.running.isEmpty

/-- IMG_STATUS.STATE replaced. -/
def Dev.imgState (s : Dev) (x : ImgState) : Dev := { s with img := { s.img with state := x } }.set R.IMG_STATUS_STATE x.code

/-- IMG_RESULT (Table 2-10). -/
def Dev.imgResult (s : Dev) (cmd : ImgCmd) (r : ImgRes) (pitches serial start : Nat) : Dev :=
  s.event 0x0280 (le 1 cmd.code ++ le 1 r.code ++ le 1 s.img.state.code ++ [0] ++ le 2 pitches ++ le 4 serial ++
    le 4 (sat 32 ((s.ticks - start) / usTicks)))

/-- A refusal at check 1 (R36): IMG_STATUS keeps the values of an operation that runs, and takes RESULT when none does. -/
def Dev.imgRefuse (s : Dev) (cmd : ImgCmd) (r : ImgRes) : Dev :=
  let s1 := if s.img.op.isSome then s else s.set R.IMG_STATUS_RESULT r.code
  (s1.raise R.IMG_IRQ_FAIL).imgResult cmd r (if s.img.op.isSome then s.get R.IMG_STATUS_PITCHES else 0) 0 s.ticks

/-- Frames held on their way to a queue are admitted, in order (Table 2-8, R44). -/
def Dev.releaseHeld (s : Dev) : Dev :=
  forEach s.sch.heldIn { s with sch := { s.sch with heldIn := [] } } fun f t => t.admitFrame f

/-- An operation ends with a result other than SUCCESS and nothing of it takes effect (R36, R38, R44, R49). What a drain held is
released, and a held host request is then evaluated (R44, R87). -/
def Dev.imgFail (s : Dev) (o : ImgOp) (r : ImgRes) : Dev :=
  let s1 := ({ s with img := { s.img with op := none } }.imgState (if s.imgActive then .active else .empty)).releaseHeld
  let s2 := (s1.set R.IMG_STATUS_RESULT r.code).set R.IMG_STATUS_PITCHES o.pitches
  ((s2.raise R.IMG_IRQ_FAIL).imgResult o.cmd r o.pitches o.serial o.start).evalHeld.settle

/-- A reload in DRAIN is abandoned: the pitches resume with their old content, and held work is released to them (R44, R45, R49). -/
def Dev.imgDrainEnds (s : Dev) (r : ImgRes) : Dev :=
  match s.img.op with
  | some o => if s.img.state = .drain then s.imgFail o r else s
  | none => s

/-- A reload that has left DRAIN and is not enabled holds a verdict (R49). -/
def Dev.verdictHeld (s : Dev) : Bool :=
  s.reloading && (s.img.state == .load || s.img.state == .reset || s.img.state == .enable)

/-- A verdict takes effect, or is held until ENABLE; promotion abandons a drain (R49). -/
def Dev.verdictApply (s : Dev) (act : Bool) : Dev :=
  if s.verdictHeld then { s with img := { s.img with heldVerdict := some act } }
  else if act ∧ s.role ≠ .active ∧ s.reloading ∧ s.img.state = .drain then (s.imgDrainEnds .preempted).verdictActs act
  else s.verdictActs act

end Sys2Proof.Machine
end

