-- ==== Sys2Proof/Machine/Twin.lean ====
section
/-!
DEFINITION. Sys2Proof/Machine/Twin.lean: mirror records sent and received, verdicts, the referee, the switchover gap, and rope
frames received (20_twin_pairs.md R433 to R447; 09_tributaries.md R205, R208; 19_rope_fabric.md R422, R423, R426, R427).
-/
namespace Sys2Proof.Machine

/-- The payload of a HELLO (Table 20-2), stamped now. -/
def Dev.helloPayload (s : Dev) (ack : Nat) : List Byte :=
  be 8 s.serial ++ be 8 s.partner ++ be 1 s.role.code ++ be 1 (b2n s.health) ++
    be 1 (b2n (s.is R.TWN_CFG_PATH) + 2 * s.get R.TWN_CFG_ARBITER) ++ be 1 s.mirrorState ++ be 4 ack ++ be 2 s.live ++
    be 4 s.stampDigest ++ be 1 s.act.st.code ++ be 2 s.tid ++ be 1 (match s.activePort with | some p => p.ix | none => 0) ++
    s.now.beBytes

/-- What a HELLO says. -/
def helloOf (b : List Byte) : Hello :=
  { serial := beAt b 0 8, partner := beAt b 8 8, role := beAt b 16 1, health := beAt b 17 1, path := beAt b 18 1 % 2,
    arbiter := beAt b 18 1 / 2 % 4, mirror := beAt b 19 1, ack := beAt b 20 4, live := beAt b 24 2, digest := beAt b 26 4,
    act := beAt b 30 1, tid := beAt b 31 2, port := beAt b 33 1 }

/-- Same PATH, ARBITER and stamp digest (R433, R441). -/
def Dev.sameSetup (s : Dev) (h : Hello) : Bool :=
  h.path == s.get R.TWN_CFG_PATH && h.arbiter == s.get R.TWN_CFG_ARBITER && h.digest == s.stampDigest

/-- A HELLO that leaves nothing different (R433). -/
def Dev.agrees (s : Dev) (h : Hello) : Bool := h.serial == s.partner && h.partner == s.serial && s.sameSetup h

/-- A mismatch stands for verdicts (R441). -/
def Dev.twnMismatch (s : Dev) : Bool :=
  match s.twn.shown with
  | some h => !s.sameSetup h
  | none => false

/-- A HELLO sent, with RESEND or without. -/
def Dev.sendHello (s : Dev) (ack : Nat) (resend : Bool) : Dev := s.mirrorSend mHello (s.helloPayload ack) resend

/-- MIRROR_HELLO_TIMER: every 1 ms while mirroring runs (Table 20-2, R448). -/
def doMirrorHelloTimer (s : Dev) : Dev :=
  if s.is R.TWN_CFG_EN && s.sup.mode.traffic then s.sendHello s.twn.ack false else s

/-- PN values of slots: slot, transmit PN, highest accepted PN; 56 to a record (Table 20-2). -/
def pnRecords : Nat → List (Nat × Nat × Nat) → List (List Byte)
  | 0, _ => []
  | _, [] => []
  | k + 1, l => ((l.take 56).flatMap fun x => be 2 x.1 ++ be 8 x.2.1 ++ be 8 x.2.2) :: pnRecords k (l.drop 56)

/-- The PN counters of the slots that hold a key. -/
def Dev.pnList (s : Dev) : List (Nat × Nat × Nat) := (s.cph.slots.filter fun x => x.2.cur.isSome).map fun x => (x.1, x.2.pn, x.2.rpn)

/-- PN records sent for slots. -/
def Dev.sendPn (s : Dev) (l : List (Nat × Nat × Nat)) : Dev :=
  let s1 := forEach (pnRecords 4096 l) s fun b t => t.mirror mPn b
  { s1 with twn := { s1.twn with pnSent := l.foldl (fun m x => sinsert x.1 (x.2.1, x.2.2) m) s1.twn.pnSent } }

/-- PN_ROUND: the slots used since the last PN record (R435). -/
def doPnRound (s : Dev) : Dev :=
  if s.is R.TWN_CFG_EN && s.role == .active then
    s.sendPn (s.pnList.filter fun x => sget (1, 0) x.1 s.twn.pnSent != (x.2.1, x.2.2))
  else s

/-- TRIB_RECORD_TIMER: the frames last sent from priority 5, 6 or 7, and the GPIO output levels (R435). -/
def doTribRecordTimer (s : Dev) : Dev :=
  s.mirror mTrib ((List.range 16).flatMap (fun n => padTo 32 (s.trbP n).last) ++
    be 1 ((List.range 8).map fun n => b2n (s.gpioOut n == some true) * 2 ^ n).sum)

/-- The gate list banks of an egress in a bulk: the active one with its start, then the pending one, committed or not. -/
def Dev.bulkGcl (s : Dev) (e : Nat) : Dev :=
  let pend := s.is (R.SCH_Ee_STATUS_PEND_COMMITTED e)
  let s1 := if sget 0 e s.sch.actLen = 0 then s else forEach (s.gclRecords e true 0) s fun b t => t.mirror mGcl b
  if s.get (R.SCH_Ee_GCL_CTL_LEN e) = 0 then s1
  else if pend then forEach (s1.gclRecords e false 0) s1 fun b t => t.mirror mGcl b
  else forEach (s1.gclRecords e false 2 ++ (s1.gclRecords e false 1).take 1) s1 fun b t => t.mirror mGcl b

/-- A bulk (Table 20-3): Thicket entries visible to LIVE, live Hedge rows, gate lists, blobs, PN floors, registration. -/
def Dev.sendBulk (s : Dev) : Dev :=
  let es := s.thk.slots.filterMap fun x => match x.2 with
    | some e => if vVisible e.birth e.death s.live then some (thkRecord 1 e.template e.key e.action) else none
    | none => none
  let rs := s.thk.rows.filterMap fun x => match x.2 with
    | some r => if vVisible r.birth r.death s.live then
        some (hedgeRecord r.index 0 r.key r.mask r.action (r.prio + 65536 * r.tmpl + 2 ^ 24 * r.tmplMask)) else none
    | none => none
  let s1 := (s.count R.TWN_MIRROR_COUNTS_RESYNCS 1).mirror mBulkBegin (be 2 s.live ++ be 4 (es.length + rs.length))
  let s2 := forEach rs (forEach es s1 fun b t => t.mirror mThkChange b) fun b t => t.mirror mHedge b
  let s3 := forEach (List.range 18) s2 fun e t => t.bulkGcl e
  let s4 := forEach s3.twn.blobs s3 fun x t => t.mirrorKey x.2.1 x.2.2
  ((s4.sendPn s4.pnList).mirrorReg).mirror mBulkEnd []

/-- The active twin sends a bulk and is SYNCING until the standby says SYNCED (X1, X4). -/
def Dev.startBulk (s : Dev) : Dev := (s.setMirror mSyncing).sendBulk

/-- A request to resend from a record on: the records held, or a bulk (X1, X3, X4, X6). -/
def Dev.resendFrom (s : Dev) (ack : Nat) : Dev :=
  let n := if ack + 1 = 2 ^ 32 then 1 else ack + 1
  if ack = 0 then s.startBulk
  else if n = (s.rd R.TWN_MIRROR_TX).toNat then s
  else if s.twn.sent.any (·.seq == n) then
    forEach (s.twn.sent.dropWhile (·.seq != n)) (s.count R.TWN_MIRROR_COUNTS_RESENDS 1) fun r t => t.mirrorPut r false
  else s.startBulk

/-- The standby asks for everything (X1): the next record it takes is a BULK_BEGIN. -/
def Dev.askBulk (s : Dev) : Dev :=
  let s1 : Dev := { s with twn := { s.twn with ack := 0, bulk := none } }
  (s1.setMirror mSyncing).sendHello 0 true

/-- A record out of order (X3). -/
def Dev.outOfOrder (s : Dev) : Dev :=
  if s.mirrorState = mSynced ∨ (s.mirrorState = mSyncing ∧ s.twn.bulk.isSome) then
    (s.count R.TWN_MIRROR_COUNTS_RESENDS 1).sendHello s.twn.ack true
  else s

/-- TWIN_PEER queued for the partner (R447), again in 1 s. -/
def Dev.queuePeer (s : Dev) (h : Hello) : Dev :=
  { s with
    act := { s.act with twinPeer := some (be 8 h.serial ++ (s.serialContent h.tid 0 h.port).drop 8) },
    twn := { s.twn with peerAt := some (s.ticks + secTicks) } }

/-- The partner is in LISTEN or SERIAL. -/
def Hello.seeks (h : Hello) : Bool := h.act == 1 || h.act == 2

/-- A HELLO that agrees, at the active twin: X1, X4, X6, the ACK and TWIN_PEER. -/
def Dev.helloActive (s : Dev) (h : Hello) (resend : Bool) : Dev :=
  let s1 := (s.wr R.TWN_MIRROR_ACK (BitVec.ofNat 32 h.ack)).completeCommits fun w => decide (seqSub h.ack w.seq < 2 ^ 31)
  let s2 := if h.role ≠ Role.standby.code then s1
    else if resend then
      (if s1.mirrorState = mDown then s1.setMirror mSyncing else if s1.mirrorState = mLapsed then s1.setMirror mSynced else s1).resendFrom h.ack
    else if s1.mirrorState = mDown then (if h.mirror = mSynced then s1.startBulk else s1.setMirror mSyncing)
    else if s1.mirrorState = mSyncing then (if h.mirror = mSynced then s1.setMirror mSynced else s1)
    else if s1.mirrorState = mLapsed then s1.setMirror mSynced
    else s1
  if !h.seeks then { s2 with twn := { s2.twn with peerAt := none } }
  else if s2.twn.peerAt.isNone then s2.queuePeer h
  else s2

/-- A HELLO that agrees, at the standby (X1, X6). -/
def Dev.helloStandby (s : Dev) (h : Hello) : Dev :=
  if h.role ≠ Role.active.code then s
  else if s.mirrorState = mDown then s.askBulk
  else if s.mirrorState = mLapsed then
    if s.twn.ack = 0 then s.askBulk else (s.setMirror mSynced).sendHello s.twn.ack true
  else s

/-- The content of a HELLO (R433, R439, R447, TWN_TIME_OFFSET). -/
def Dev.helloIn (s : Dev) (b : List Byte) (resend : Bool) : Dev :=
  let h := helloOf b
  let was := match s.twn.hello with | some x => s.agrees x | none => true
  let s1 : Dev := { s with twn := { s.twn with hello := some h, shown := if h.serial = s.partner then some h else s.twn.shown } }
  if s1.agrees h then
    let (k, s2) := s1.draw
    let s3 := (s2.set R.TWN_STATUS_PAIRED 1).wr R.TWN_TIME_OFFSET (Config.twinOffset k)
    match s3.role with
    | .active => s3.helloActive h resend
    | .standby => s3.helloStandby h
    | .none => s3
  else
    let s2 := if was then (s1.count R.TWN_MIRROR_COUNTS_MISMATCH 1).twnEvent 6 else s1
    (s2.set R.TWN_STATUS_PAIRED 0).setMirror mDown

/-- Changes staged for P are renamed to the version a mirrored commit carries (R436). -/
def Dev.restamp (s : Dev) (p v : Nat) : Dev :=
  let f (x : Nat) : Nat := if x = p then v else x
  if p = v then s
  else { s with thk := { s.thk with
    slots := s.thk.slots.map fun x => (x.1, x.2.map fun e => { e with birth := f e.birth, death := f e.death }),
    rows := s.thk.rows.map fun x => (x.1, x.2.map fun r => { r with birth := f r.birth, death := f r.death }) } }

/-- A mirrored commit (R436). -/
def Dev.mirroredCommit (s : Dev) (v : Nat) : Dev :=
  let prev := s.live
  let s1 := (((s.restamp s.pendVer v).set R.THK_VERSION_PREV prev).set R.THK_VERSION_LIVE v).count R.THK_COMMITS_COMMITS 1
  s1.commitDone v prev

/-- Gate list entries written into the pending bank of an egress. -/
def Dev.loadPending (s : Dev) (e len cycle : Nat) (b : List Byte) : Dev :=
  let s1 := (s.set (R.SCH_Ee_GCL_CTL_LEN e) len).wr (R.SCH_Ee_GCL_CYCLE e) (BitVec.ofNat 32 cycle)
  forEach (List.range (min 1024 (b.length / 4))) s1 fun i t => t.wr (R.SCH_Ee_GCLi e i) (BitVec.ofNat 32 (beAt b (4 * i) 4))

/-- A mirrored gate list record (R437). -/
def Dev.mirroredGcl (s : Dev) (b : List Byte) : Dev :=
  let e := beAt b 0 1
  let op := beAt b 1 1
  let held : List Byte := sget [] e s.twn.gcl
  let keep (l : List Byte) (t : Dev) : Dev := { t with twn := { t.twn with gcl := sset [] e l t.twn.gcl } }
  if e ≥ 18 then s
  else if op = 2 then keep (held ++ b.drop 18) s
  else if op = 1 then
    let t := if held.isEmpty then s else (keep [] s).loadPending e (beAt b 2 2) (beAt b 4 4) held
    t.set (R.SCH_Ee_STATUS_PEND_COMMITTED e) 0
  else
    let st : Tod := { sec := beAt b 8 6, ns := beAt b 14 4 }
    let t := (keep [] s).loadPending e (beAt b 2 2) (beAt b 4 4) (held ++ b.drop 18)
    let u := ((t.wr (R.SCH_Ee_START_NS e) (BitVec.ofNat 32 st.ns)).wr64 (R.SCH_Ee_START_SEC_LO e) st.sec).set
      (R.SCH_Ee_STATUS_PEND_COMMITTED e) 1
    if st.toNs ≤ u.nowNs then doGclStart (Fin.ofNat 18 e) (u.elapse 1) else u

/-- A mirrored INCR write or step (R437). -/
def Dev.mirroredTime (s : Dev) (b : List Byte) : Dev :=
  match beAt b 0 1 with
  | 0 =>
    let n := beAt b 1 12
    if 0x133627628 ≤ n ∧ n ≤ 0x134000000 then s.wr64 R.TMB_INCR_LO n else s
  | 1 =>
    let t := s.elapse 1
    let x : Int := t.tmb.time + (signed 48 (beAt b 1 8) * 1000000000 + signed 32 (beAt b 9 4)) * 2 ^ 32
    if x < 0 then t else t.applyStep (x.toNat % timeWrap)
  | 2 => (s.elapse 1).applyStep ((beAt b 1 8 % 2 ^ 48 * 1000000000 + beAt b 9 4) * 2 ^ 32)
  | _ => s

/-- A mirrored key command, with FORCE (R437); a key written anew leaves no floor of the old one. -/
def Dev.mirroredKey (s : Dev) (b : List Byte) : Dev :=
  let cmd := beAt b 0 4
  let n := bits cmd 16 12
  let drop (t : Dev) : Dev := { t with twn := { t.twn with floors := serase n t.twn.floors } }
  match cmd % 16 with
  | 1 => let r := s.unwrapTo (bits cmd 4 4) true n (slice b 5 (beAt b 4 1)); if r.2 = .ok then drop r.1 else r.1
  | 2 => drop (s.eraseOne n)
  | 3 => let t := s.eraseAll; { t with twn := { t.twn with floors := [] } }
  | _ => s

/-- PN floors recorded (R437). -/
def Dev.mirroredPn (s : Dev) (b : List Byte) : Dev :=
  forEach (List.range (b.length / 18)) s fun i t =>
    { t with twn := { t.twn with floors := sset (0, 0) (beAt b (18 * i) 2 % 4096) (beAt b (18 * i + 2) 8, beAt b (18 * i + 10) 8) t.twn.floors } }

/-- The partner's E1 frames and GPIO levels kept for the hold (R437). -/
def Dev.mirroredTrib (s : Dev) (b : List Byte) : Dev :=
  let t := forEach (List.range 16) s fun n t => t.modTrbP n fun x => { x with last := slice b (32 * n) 32 }
  { t with twn := { t.twn with gpio := beAt b 512 1 } }

/-- An ordinary record carried out (R436, R437). -/
def Dev.mirrorApply (s : Dev) (kind : Nat) (b : List Byte) : Dev :=
  if kind = mThkChange then (s.thkChange (beAt b 61 1) (beAt b 60 1) (slice b 0 40) (leAt b 40 20)).1
  else if kind = mThkCommit then s.mirroredCommit (beAt b 0 2)
  else if kind = mHedge then
    let i := beAt b 0 2 % 4096
    if beAt b 2 1 = 0 then (s.hedgeWrite i (slice b 3 40) (slice b 43 40) (leAt b 83 20) (beAt b 103 4)).1 else (s.hedgeClear i).1
  else if kind = mGcl then s.mirroredGcl b
  else if kind = mTime then s.mirroredTime b
  else if kind = mKey then s.mirroredKey b
  else if kind = mPn then s.mirroredPn b
  else if kind = mTrib then s.mirroredTrib b
  else if kind = mReg then { s with twn := { s.twn with reg := b } }
  else s

/-- An entry or row of a bulk, visible from LIVE on. -/
def Dev.bulkEntry (s : Dev) (kind : Nat) (b : List Byte) : Dev :=
  if kind = mThkChange then
    let t := beAt b 60 1 % 64
    if s.keyed t then (s.thkInsert { template := t, key := slice b 0 40, action := leAt b 40 20, birth := s.live, death := s.live }).1 else s
  else
    let i := beAt b 0 2 % 4096
    let cfg := beAt b 103 4
    let row : HRow := { index := i, tmpl := bits cfg 16 6, tmplMask := bits cfg 24 6, key := slice b 3 40, mask := slice b 43 40,
                        prio := cfg % 65536, action := leAt b 83 20, birth := s.live, death := s.live }
    s.setHrow (2 * i) (some row)

/-- BULK_BEGIN: Thicket, Hedge and pending set are emptied (R436, Table 20-3). -/
def Dev.bulkBegin (s : Dev) (b : List Byte) : Dev :=
  let s1 : Dev := { s with
    thk := { s.thk with slots := [], rows := [] }, twn := { s.twn with bulk := some (beAt b 2 4, []), gcl := [] } }
  (((s1.set R.THK_VERSION_LIVE (beAt b 0 2)).set R.THK_VERSION_PREV 0xFFFF).count R.TWN_MIRROR_COUNTS_RESYNCS 1).setMirror mSyncing

/-- BULK_END: the records held meanwhile are applied, and the mirror is SYNCED (X2). -/
def Dev.bulkEnd (s : Dev) : Dev :=
  match s.twn.bulk with
  | none => s
  | some (_, held) =>
    (forEach held { s with twn := { s.twn with bulk := none } } fun r t => t.mirrorApply r.kind r.payload).setMirror mSynced

/-- A record taken in order by the standby. Of a bulk, the entries and rows that BULK_BEGIN counts are its own; gate lists,
blobs, floors and registration act as they come, and every other record waits for BULK_END. -/
def Dev.mirrorTake (s : Dev) (seq kind : Nat) (b : List Byte) : Dev :=
  if kind = mBulkEnd then s.bulkEnd
  else match s.twn.bulk with
    | none => s.mirrorApply kind b
    | some (n, held) =>
      if (kind = mThkChange ∨ kind = mHedge) ∧ 0 < n then
        ({ s with twn := { s.twn with bulk := some (n - 1, held) } }).bulkEntry kind b
      else if kind = mGcl ∨ kind = mKey ∨ kind = mPn ∨ kind = mReg then s.mirrorApply kind b
      else { s with twn := { s.twn with bulk := some (n, held ++ [{ seq := seq, kind := kind, payload := b }]) } }

/-- The successor of a record number (Table 20-1). -/
def seqNext (n : Nat) : Nat := if n + 1 = 2 ^ 32 then 1 else n + 1

/-- A mirror record arrives, by either path (R434 to R437, X3). -/
def Dev.twinReceive (s0 : Dev) (kind seq flags : Nat) (b : List Byte) : Dev :=
  if !s0.is R.TWN_CFG_EN || !s0.sup.mode.traffic then s0
  else
    let s : Dev := { s0 with twn := { s0.twn with heardAt := some s0.ticks } }
    let setAck (t : Dev) : Dev := { t with twn := { t.twn with ack := seq } }
    let newer := seqSub seq s.twn.ack ≠ 0 && decide (seqSub seq s.twn.ack < 2 ^ 31)
    if kind = mHello then
      if s.role ≠ .standby then (setAck s).helloIn b (bit flags 0)
      else if seq = seqNext s.twn.ack then (setAck s).helloIn b (bit flags 0)
      else
        let t := s.helloIn b (bit flags 0)
        if newer && t.mirrorState == s.mirrorState then t.outOfOrder else t
    else if s.role ≠ .standby ∨ !s.is R.TWN_STATUS_PAIRED then s
    else if kind = mBulkBegin then (setAck s).bulkBegin b
    else if s.mirrorState = mDown ∨ s.mirrorState = mLapsed ∨ (s.mirrorState = mSyncing ∧ s.twn.bulk.isNone) then s
    else if seq = seqNext s.twn.ack then (setAck s).mirrorTake seq kind b
    else if newer then s.outOfOrder
    else s

/-- A record arrives on the mirror path that TWN_CFG.PATH selects; over T0 and T1 it is an access to their domain (R473). -/
def Dev.twinRx (s : Dev) (kind : Nat) (seq : BitVec 32) (flags : Nat) (b : List Byte) : Dev :=
  if s.is R.TWN_CFG_PATH then (if s.rop.running then s.twinReceive kind seq.toNat flags b else s)
  else if s.is (R.LAN_Gg_STATUS_UP 4) && s.isUp domTwin then (s.access domTwin cliTwn).twinReceive kind seq.toNat flags b
  else s

/-- MIRROR_HELLO (R433). -/
def doMirrorHello (seq : BitVec 32) (flags : BitVec 8) (b : List Byte) (s : Dev) : Dev := s.twinRx mHello seq flags.toNat b
/-- MIRROR_THK_CHANGE (R436). -/
def doMirrorThkChange (seq : BitVec 32) (b : List Byte) (s : Dev) : Dev := s.twinRx mThkChange seq 0 b
/-- MIRROR_THK_COMMIT (R436). -/
def doMirrorThkCommit (seq : BitVec 32) (b : List Byte) (s : Dev) : Dev := s.twinRx mThkCommit seq 0 b
/-- MIRROR_HEDGE (R436). -/
def doMirrorHedge (seq : BitVec 32) (b : List Byte) (s : Dev) : Dev := s.twinRx mHedge seq 0 b
/-- MIRROR_GCL (R437). -/
def doMirrorGcl (seq : BitVec 32) (b : List Byte) (s : Dev) : Dev := s.twinRx mGcl seq 0 b
/-- MIRROR_TIME (R437). -/
def doMirrorTime (seq : BitVec 32) (b : List Byte) (s : Dev) : Dev := s.twinRx mTime seq 0 b
/-- MIRROR_KEY (R437). -/
def doMirrorKey (seq : BitVec 32) (b : List Byte) (s : Dev) : Dev := s.twinRx mKey seq 0 b
/-- MIRROR_PN (R437). -/
def doMirrorPn (seq : BitVec 32) (b : List Byte) (s : Dev) : Dev := s.twinRx mPn seq 0 b
/-- MIRROR_TRIB (R437). -/
def doMirrorTrib (seq : BitVec 32) (b : List Byte) (s : Dev) : Dev := s.twinRx mTrib seq 0 b
/-- MIRROR_REG (R435). -/
def doMirrorReg (seq : BitVec 32) (b : List Byte) (s : Dev) : Dev := s.twinRx mReg seq 0 b
/-- BULK_BEGIN (R436). -/
def doBulkBegin (seq : BitVec 32) (b : List Byte) (s : Dev) : Dev := s.twinRx mBulkBegin seq 0 b
/-- BULK_END (R436). -/
def doBulkEnd (seq : BitVec 32) (s : Dev) : Dev := s.twinRx mBulkEnd seq 0 []

/-- MIRROR_TIMEOUT: no record from the partner for 500 µs (X5, X7). -/
def doMirrorTimeout (s : Dev) : Dev :=
  match s.twn.heardAt with
  | none => s
  | some t =>
    if !s.is R.TWN_CFG_EN || !s.sup.mode.traffic then s
    else
      let s1 := s.until_ (t + 500 * usTicks)
      let s2 := ({ s1 with twn := { s1.twn with heardAt := none, bulk := none } }).set R.TWN_STATUS_PAIRED 0
      if s2.mirrorState = mSynced then (s2.count R.TWN_MIRROR_COUNTS_LOSSES 1).setMirror mLapsed
      else if s2.mirrorState = mLapsed then s2
      else s2.setMirror mDown

/-- TWN_RESYNC: a write of TWN_CTL (X8). -/
def doTwnResync (v : Word) (s : Dev) : Dev :=
  let s1 := s.setB R.TWN_CTL_UNHEALTHY (bit v.toNat 0)
  if !bit v.toNat 1 || !s1.is R.TWN_CFG_EN || s1.twnMismatch || !s1.sup.mode.traffic then s1
  else match s1.role with
    | .active => s1.startBulk
    | .standby => s1.askBulk
    | .none => s1

/-- SYNC_COMMIT_TIMEOUT: 10 ms without the standby's ACK (R439). -/
def doSyncCommitTimeout (s : Dev) : Dev :=
  match (s.twn.withheld.map (·.until_)).min? with
  | none => s
  | some t =>
    let s1 := s.until_ t
    let s2 := s1.completeCommits fun w => decide (w.until_ ≤ s1.ticks)
    if s2.mirrorState = mSynced then s2.setMirror mDown else s2

/-- A verdict that fails the checks of R441. -/
def Dev.verdictIgnored (s : Dev) : Dev :=
  let s1 := (s.count R.TWN_COUNTS_IGNORED 1).raise R.TWN_IRQ_VERDICT_IGNORED
  s1.eventRated 0x1480 5 0 fun _ => s1.twnPayload 5

/-- A verdict from a source (1 ARB_IN, 2 referee, 3 head end) that names this module active or standby (R441, R442). -/
def Dev.verdict (s : Dev) (source : Nat) (seq : Option Nat) (mine act : Bool) : Dev :=
  let newer := match seq with
    | none => true
    | some q => s.twn.first || (let d := (q + 65536 - s.get R.TWN_VERDICT_SEQ) % 65536; decide (1 ≤ d) && decide (d ≤ 32767))
  if s.is R.TWN_CFG_EN && s.get R.TWN_CFG_ARBITER + 1 == source && mine && !s.twnMismatch && newer then
    let s1 := ((s.set R.TWN_VERDICT_SEQ (seq.getD 0)).set R.TWN_VERDICT_SOURCE source).setB R.TWN_VERDICT_ACTIVE act
    ({ s1 with twn := { s1.twn with first := false } }).verdictApply act
  else s.verdictIgnored

/-- ARB_IN_VERDICT: a level of ARB_IN held for 100 µs (R441). -/
def doArbInVerdict (level : Bool) (s : Dev) : Dev :=
  let s1 : Dev := { s with twn := { s.twn with arbIn := level } }
  if s1.is R.TWN_CFG_EN then s1.verdict 1 none true level else s1

/-- A referee frame's fields (Table 20-4). -/
def refPayload (typ a b sender role health active seq : Nat) : List Byte :=
  be 1 typ ++ be 8 a ++ be 8 b ++ be 8 sender ++ be 1 role ++ be 1 health ++ be 1 active ++ be 2 seq

/-- A referee VERDICT received (R441). -/
def Dev.refVerdictIn (s : Dev) (b : List Byte) : Dev :=
  let x := beAt b 1 8
  let y := beAt b 9 8
  let mine := (x == s.serial && y == s.partner) || (x == s.partner && y == s.serial)
  if s.is R.TWN_CFG_EN then
    s.verdict 2 (some (beAt b 28 2)) (mine && beAt b 17 8 == s.rd64 R.TWN_REF_SERIAL_LO) ((if beAt b 27 1 = 0 then x else y) == s.serial)
  else s.verdictIgnored

/-- A REPORT received by a referee (R443). -/
def Dev.refReportIn (s : Dev) (b : List Byte) : Dev :=
  let x := beAt b 1 8
  let y := beAt b 9 8
  let from_ := beAt b 17 8
  let r : RefReport := { at_ := s.ticks, role := beAt b 25 1, health := beAt b 26 1, seq := beAt b 28 2 }
  let put (p : RefPair) : RefPair := if from_ = x then { p with a := some r } else if from_ = y then { p with b := some r } else p
  if !s.is R.ROP_CFG_REFEREE then s
  else if s.twn.pairs.any (fun p => p.serialA == x && p.serialB == y) then
    { s with twn := { s.twn with pairs := s.twn.pairs.map fun p => if p.serialA = x ∧ p.serialB = y then put p else p } }
  else if s.twn.pairs.length ≥ 16 then s.count R.TWN_REF_STATUS_OVERFLOW 1
  else
    let l := s.twn.pairs ++ [put { serialA := x, serialB := y, active := none, seq := 0, a := none, b := none }]
    ({ s with twn := { s.twn with pairs := l } }).set R.TWN_REF_STATUS_PAIRS l.length

/-- A REFEREE payload handed to the TWN block (R423). -/
def Dev.refereeIn (s : Dev) (b : List Byte) : Dev :=
  if !s.sup.mode.traffic then s
  else match beAt b 0 1 with
    | 1 => s.refReportIn b
    | 2 => s.refVerdictIn b
    | _ => s

/-- A REFEREE frame to the module of a serial; one for itself is handled here (R423). -/
def Dev.refSend (s : Dev) (serial : Nat) (b : List Byte) : Dev :=
  if serial = s.serial then s.refereeIn b
  else match s.nodeOf serial with
    | none => s
    | some n => match s.route n with
      | none => s
      | some r => s.ropCtl r.primary kReferee n (s.get R.ROP_FAB_CFG_TTL) b

/-- REFEREE_REPORT_TIMER: every 1 ms a twin that uses a referee reports (R443). -/
def doRefereeReportTimer (s : Dev) : Dev :=
  if s.is R.TWN_CFG_EN && s.get R.TWN_CFG_ARBITER == 1 && s.refReach && s.rop.running then
    let a := min s.serial s.partner
    let b := max s.serial s.partner
    s.refSend (s.rd64 R.TWN_REF_SERIAL_LO) (refPayload 1 a b s.serial s.role.code (b2n s.health) 0 (s.get R.TWN_VERDICT_SEQ))
  else s

/-- REFEREE_REPORT_RX (R443). -/
def doRefereeReportRx (b : List Byte) (s : Dev) : Dev := if s.rop.running && beAt b 0 1 == 1 then s.refereeIn b else s

/-- REFEREE_VERDICT_RX (R441). -/
def doRefereeVerdictRx (b : List Byte) (s : Dev) : Dev := if s.rop.running && beAt b 0 1 == 2 then (s.refereeIn b).settle else s

/-- One pair evaluated (R443): fresh and ok as the rule's pseudo-code gives. -/
def RefPair.eval (p : RefPair) (now limit : Nat) : RefPair :=
  let fresh (x : Option RefReport) : Bool := match x with | some r => decide (now ≤ r.at_ + limit) | none => false
  let ok (x : Option RefReport) : Bool := fresh x && (match x with | some r => r.health == 1 | none => false)
  let active (x : Option RefReport) : Bool := fresh x && (match x with | some r => r.role == 1 | none => false)
  let seqOf (x : Option RefReport) : Nat := match x with | some r => r.seq | none => 0
  let next := (p.seq + 1) % 65536
  match p.active with
  | none =>
    if active p.a then { p with active := some 0, seq := max (seqOf p.a) (seqOf p.b) }
    else if active p.b then { p with active := some 1, seq := max (seqOf p.a) (seqOf p.b) }
    else if ok p.a then { p with active := some 0, seq := next }
    else if ok p.b then { p with active := some 1, seq := next }
    else p
  | some 0 => if !ok p.a && ok p.b then { p with active := some 1, seq := next } else p
  | some _ => if !ok p.b && ok p.a then { p with active := some 0, seq := next } else p

/-- The verdicts of a pair for the twins whose last report shows another role. -/
def Dev.pairVerdicts (s : Dev) (p : RefPair) : Dev :=
  match p.active with
  | none => s
  | some k =>
    let b := refPayload 2 p.serialA p.serialB s.serial s.role.code 0 k p.seq
    let tell (serial role : Nat) (x : Option RefReport) (t : Dev) : Dev :=
      match x with | some r => if r.role = role then t else t.refSend serial b | none => t
    tell p.serialB (if k = 1 then 1 else 2) p.b (tell p.serialA (if k = 0 then 1 else 2) p.a s)

/-- REFEREE_TICK: every 1 ms (R443). -/
def doRefereeTick (s : Dev) : Dev :=
  if !s.is R.ROP_CFG_REFEREE || !s.rop.running then s
  else
    let l := s.twn.pairs.map fun p => p.eval s.ticks (s.get R.TWN_REF_CFG_TIMEOUT * msTicks)
    (forEach l { s with twn := { s.twn with pairs := l } } fun p t => t.pairVerdicts p).settle

/-- GAP_START (R445). -/
def doGapStart (s : Dev) : Dev := if s.twn.gapDue && s.role == .active then s.startGap else s

/-- GAP_END (R445). -/
def doGapEnd (s : Dev) : Dev := if s.twn.gapAt.isSome && s.twn.gapBurst && s.sup.mode == .service then s.endGap else s

/-- GAP_LIMIT_EXPIRY (R445). -/
def doGapLimitExpiry (s : Dev) : Dev :=
  let ms := s.get R.TWN_GAP_LIMIT_MS
  match s.twn.gapAt with
  | some t => if ms = 0 then s else (s.until_ (t + ms * msTicks)).endGap
  | none => s

/-- TWIN_PEER_TIMER (R447). -/
def doTwinPeerTimer (s : Dev) : Dev :=
  match s.twn.peerAt, s.twn.hello with
  | some t, some h =>
    let s1 := s.until_ t
    if s1.role = .active ∧ h.seeks then s1.queuePeer h else { s1 with twn := { s1.twn with peerAt := none } }
  | _, _ => s

/-- E1_OUTPUT_FRAME, in reset too (R92, R205). -/
def doE1OutputFrame (n : Fin 16) (s : Dev) : Dev := if s.sup.inReset.isNone then s.trbOutput n s.sch.gap else s.trbInReset n

/-- HOLD_LIMIT: the gap exceeds TRB_HOLD_LIMIT (R208). -/
def doHoldLimit (s : Dev) : Dev :=
  let ms := s.get R.TRB_HOLD_LIMIT_MS
  match s.twn.gapAt with
  | some t =>
    if ms = 0 ∨ s.trb.isOver then s
    else
      let s1 := s.until_ (t + ms * msTicks)
      let s2 : Dev := { s1 with trb := { s1.trb with isOver := true } }
      forEach ((List.range 16).filter fun n => bit (s2.get R.TRB_ENABLE_EN) n) s2 fun n u => u.trbEvent n 6 true
  | none => s

/-- The mirror records of a rope frame, one after the other (R434). -/
def Dev.twinRecords (s : Dev) : Nat → List Byte → Dev
  | 0, _ => s
  | n + 1, b =>
    if b.length < 8 then s
    else (s.twinReceive (beAt b 4 1) (beAt b 0 4) (beAt b 5 1) (slice b 8 (beAt b 6 2))).twinRecords n (b.drop (8 + beAt b 6 2))

/-- A frame of the fabric for this module, by kind (R423, R426, R427). -/
def Dev.ropeLocal (s : Dev) (port : Nat) (f : List Byte) : Dev :=
  let b := ropBody f
  match hdrKind f with
  | 0 => s.ropeDeliver port (hdrBits f 100 10) b
  | 1 => s.relayDown (hdrBits f 70 16) (bit (beAt f 0 16) 69) b
  | 2 =>
    if s.is R.ROP_CFG_RELAY_SERVER then s.admitFrame { (default : QFrame) with bytes := b, queue := s.get R.ROP_RELAY_CFG_UPQ, rx := s.now }
    else s.count R.ROP_DROPS_RELAY 1
  | 3 => s.deliverRemote (hdrBits f 53 16)
      { kind := 2, flag := hdrBits f 48 5, src := beAt b 0 2, node := hdrBits f 100 10, payload := slice b 4 48 }
  | 6 => if s.is R.TWN_CFG_PATH then s.twinRecords (b.length / 8) b else s
  | 7 => s.refereeIn b
  | _ => s

/-- A frame in transit (R422): TTL falls, and it goes to the queue of its kind on its route, or straight out for REFEREE. -/
def Dev.ropeTransit (s : Dev) (f : List Byte) : Dev :=
  let kind := hdrKind f
  let dst := hdrBits f 110 10
  let ttl := hdrBits f 92 8
  let q := if kind = kMsg then s.get R.ROP_FAB_CFG_MSG_QIDX else if kind = kTwin then s.get R.ROP_FAB_CFG_TWIN_QIDX else hdrBits f 86 6
  if ttl ≤ 1 then s.count R.ROP_DROPS_TTL 1
  else
    let h := ropeHeader kind dst (hdrBits f 100 10) (ttl - 1) (hdrBits f 86 6) (hdrBits f 70 16) (bit (beAt f 0 16) 69) (hdrBits f 53 16)
      (hdrBits f 48 5)
    if kind = kReferee then
      match s.route dst with
      | some r => let x := h ++ ropBody f; s.ctlOut r.primary (x ++ fcs x)
      | none => s.countR R.ROP_NO_ROUTE 1
    else s.ropeOut dst q h { (default : QFrame) with bytes := ropBody f, rx := s.now }

/-- ROPE_FRAME_RX: a frame with header and FCS arrives on rope port n (R407, R422, R423); only an UP adjacency carries frames other than
HAIL and LSR (R411). -/
def doRopeFrameRx (n : Fin 8) (b : List Byte) (s : Dev) : Dev :=
  if !s.ropReceives n then s
  else
    let r := (s.access domRope cliFab).ropCheck b
    if !r.2 then r.1
    else if hdrKind b = kHail then (r.1.hailIn n (ropBody b)).settle
    else if hdrKind b = kLsr then (r.1.lsrIn n (ropBody b)).settle
    else if !r.1.is (R.ROP_Pn_STATUS_ADJ_UP n) then r.1
    else if r.1.draining 14 ∧ !(r.1.claimed && hdrBits b 110 10 == r.1.nodeId) then r.1
    else if r.1.claimed && hdrBits b 110 10 == r.1.nodeId then (r.1.ropeLocal n b).settle
    else r.1.ropeTransit b

-- The commands of this file.

/-- MIRROR_HELLO_TIMER (R433). -/
def execMirrorHelloTimer (s : State) : Host.Outcome State Fault Refusal := s.run (doMirrorHelloTimer)

/-- PN_ROUND (R435). -/
def execPnRound (s : State) : Host.Outcome State Fault Refusal := s.run (doPnRound)

/-- TRIB_RECORD_TIMER (R435). -/
def execTribRecordTimer (s : State) : Host.Outcome State Fault Refusal := s.run (doTribRecordTimer)

/-- MIRROR_HELLO (R433). -/
def execMirrorHello (seq : BitVec 32) (flags : BitVec 8) (b : List Byte) (s : State) : Host.Outcome State Fault Refusal := s.run (doMirrorHello seq flags b)

/-- MIRROR_THK_CHANGE (R436). -/
def execMirrorThkChange (seq : BitVec 32) (b : List Byte) (s : State) : Host.Outcome State Fault Refusal := s.run (doMirrorThkChange seq b)

/-- MIRROR_THK_COMMIT (R436). -/
def execMirrorThkCommit (seq : BitVec 32) (b : List Byte) (s : State) : Host.Outcome State Fault Refusal := s.run (doMirrorThkCommit seq b)

/-- MIRROR_HEDGE (R436). -/
def execMirrorHedge (seq : BitVec 32) (b : List Byte) (s : State) : Host.Outcome State Fault Refusal := s.run (doMirrorHedge seq b)

/-- MIRROR_GCL (R437). -/
def execMirrorGcl (seq : BitVec 32) (b : List Byte) (s : State) : Host.Outcome State Fault Refusal := s.run (doMirrorGcl seq b)

/-- MIRROR_TIME (R437). -/
def execMirrorTime (seq : BitVec 32) (b : List Byte) (s : State) : Host.Outcome State Fault Refusal := s.run (doMirrorTime seq b)

/-- MIRROR_KEY (R437). -/
def execMirrorKey (seq : BitVec 32) (b : List Byte) (s : State) : Host.Outcome State Fault Refusal := s.run (doMirrorKey seq b)

/-- MIRROR_PN (R437). -/
def execMirrorPn (seq : BitVec 32) (b : List Byte) (s : State) : Host.Outcome State Fault Refusal := s.run (doMirrorPn seq b)

/-- MIRROR_TRIB (R437). -/
def execMirrorTrib (seq : BitVec 32) (b : List Byte) (s : State) : Host.Outcome State Fault Refusal := s.run (doMirrorTrib seq b)

/-- MIRROR_REG (R435). -/
def execMirrorReg (seq : BitVec 32) (b : List Byte) (s : State) : Host.Outcome State Fault Refusal := s.run (doMirrorReg seq b)

/-- BULK_BEGIN (R436). -/
def execBulkBegin (seq : BitVec 32) (b : List Byte) (s : State) : Host.Outcome State Fault Refusal := s.run (doBulkBegin seq b)

/-- BULK_END (R436). -/
def execBulkEnd (seq : BitVec 32) (s : State) : Host.Outcome State Fault Refusal := s.run (doBulkEnd seq)

/-- MIRROR_TIMEOUT (R436). -/
def execMirrorTimeout (s : State) : Host.Outcome State Fault Refusal := s.run (doMirrorTimeout)

/-- TWN_RESYNC (R436). -/
def execTwnResync (v : Word) (s : State) : Host.Outcome State Fault Refusal := s.run (doTwnResync v)

/-- SYNC_COMMIT_TIMEOUT (R439). -/
def execSyncCommitTimeout (s : State) : Host.Outcome State Fault Refusal := s.run (doSyncCommitTimeout)

/-- ARB_IN_VERDICT (R441). -/
def execArbInVerdict (level : Bool) (s : State) : Host.Outcome State Fault Refusal :=
  s.always fun d => if d.sup.inReset.isNone then doArbInVerdict level d else { d with twn := { d.twn with arbIn := level } }

/-- REFEREE_REPORT_TIMER (R443). -/
def execRefereeReportTimer (s : State) : Host.Outcome State Fault Refusal := s.run (doRefereeReportTimer)

/-- REFEREE_REPORT_RX (R443). -/
def execRefereeReportRx (b : List Byte) (s : State) : Host.Outcome State Fault Refusal := s.run (doRefereeReportRx b)

/-- REFEREE_VERDICT_RX (R441). -/
def execRefereeVerdictRx (b : List Byte) (s : State) : Host.Outcome State Fault Refusal := s.run (doRefereeVerdictRx b)

/-- REFEREE_TICK (R443). -/
def execRefereeTick (s : State) : Host.Outcome State Fault Refusal := s.run (doRefereeTick)

/-- GAP_START (R445). -/
def execGapStart (s : State) : Host.Outcome State Fault Refusal := s.run (doGapStart)

/-- GAP_END (R445). -/
def execGapEnd (s : State) : Host.Outcome State Fault Refusal := s.run (doGapEnd)

/-- GAP_LIMIT_EXPIRY (R445). -/
def execGapLimitExpiry (s : State) : Host.Outcome State Fault Refusal := s.run (doGapLimitExpiry)

/-- TWIN_PEER_TIMER (R447). -/
def execTwinPeerTimer (s : State) : Host.Outcome State Fault Refusal := s.run (doTwinPeerTimer)

/-- E1_OUTPUT_FRAME (R205). -/
def execE1OutputFrame (n : Fin 16) (s : State) : Host.Outcome State Fault Refusal := s.always (doE1OutputFrame n)

/-- HOLD_LIMIT (R208). -/
def execHoldLimit (s : State) : Host.Outcome State Fault Refusal := s.run (doHoldLimit)

/-- ROPE_FRAME_RX (R422). -/
def execRopeFrameRx (n : Fin 8) (b : List Byte) (s : State) : Host.Outcome State Fault Refusal := s.run (doRopeFrameRx n b)

end Sys2Proof.Machine
end

