-- ==== Sys2Proof/Machine/Belay.lean ====
section
/-!
DEFINITION. Sys2Proof/Machine/Belay.lean: the belay receivers, received packets, windows and transmissions
(08_belay_channel.md R177 to R196).
-/
namespace Sys2Proof.Machine

/-- One symbol, 100 µs (R174), in ticks. -/
def symTicks : Nat := 83200

/-- What no register shows of a belay receiver. -/
def Dev.belP (s : Dev) : Port → BelPort
  | .a => s.bel.a
  | .b => s.bel.b
def Dev.setBelP (s : Dev) (p : Port) (x : BelPort) : Dev :=
  match p with
  | .a => { s with bel := { s.bel with a := x } }
  | .b => { s with bel := { s.bel with b := x } }

/-- Receiver states (BEL_x_STATUS.RX). -/
def bSearch : Nat := 0
def bPreamble : Nat := 1
def bData : Nat := 2
def bStopped : Nat := 3
def Dev.belRx (s : Dev) (p : Port) : Nat := s.get (R.BEL_x_STATUS_RX p.ix)

/-- The candidate dropped. -/
def Dev.dropCand (s : Dev) (p : Port) : Dev := (s.set (R.BEL_x_STATUS_CAND p.ix) 0).set (R.BEL_x_STRENGTH_CAND p.ix) 0

/-- The main correlator tracks a detection in PREAMBLE. -/
def Dev.belTrack (s : Dev) (p : Port) (phase strength since : Nat) : Dev :=
  (((s.setBelP p { s.belP p with since := since }).set (R.BEL_x_STATUS_RX p.ix) bPreamble).set (R.BEL_x_STATUS_PHASE p.ix) phase).set
    (R.BEL_x_STRENGTH_TRACK p.ix) (sat 8 strength)

/-- The main correlator tracks the candidate with its age. -/
def Dev.trackCand (s : Dev) (p : Port) : Dev :=
  (s.belTrack p (s.belP p).candPhase (s.get (R.BEL_x_STRENGTH_CAND p.ix)) (s.belP p).candSince).dropCand p

/-- SEARCH, with nothing tracked. -/
def Dev.belSearch (s : Dev) (p : Port) : Dev := (s.set (R.BEL_x_STATUS_RX p.ix) bSearch).set (R.BEL_x_STRENGTH_TRACK p.ix) 0

/-- "Take the candidate" (R185). -/
def Dev.takeCand (s : Dev) (p : Port) : Dev := if s.is (R.BEL_x_STATUS_CAND p.ix) then s.trackCand p else s.belSearch p

/-- A new downstream code abandons reception and restarts the receiver in SEARCH (R181). -/
def Dev.belCode (s : Dev) (p : Port) (code : Nat) : Dev :=
  if code > 1024 ∨ code = s.get (R.BEL_x_DS_CODE_CODE p.ix) then s
  else
    let t := s.set (R.BEL_x_DS_CODE_CODE p.ix) code
    if t.belRx p = bStopped then t else (t.dropCand p).belSearch p

/-- DS_CODE_WRITE (R181). -/
def doDsCodeWrite (p : Port) (v : Word) (s : Dev) : Dev := s.belCode p (v.toNat % 2048)

/-- Eight consecutive symbols at a phase, by their strength, are a preamble (R183). -/
def Dev.preambleSeen (s : Dev) (symbols : List Nat) : Bool :=
  symbols.length == 8 && symbols.all fun x => decide (s.get R.BEL_CFG_ACQ_TH ≤ x)

/-- The last 32 symbol decisions at a tracked phase are a sync word (R183). -/
def Dev.syncSeen (s : Dev) (word : BitVec 32) : Bool :=
  decide (popcount 32 (word.toNat ^^^ belaySync) ≤ s.get R.BEL_CFG_SYNC_TOL)

/-- PREAMBLE_DETECT: eight symbols at a phase, and the strength estimated from them on; the re-acquisition correlator detects a
preamble (R183, R184, B1, B4). -/
def doPreambleDetect (p : Port) (phase : Nat) (x : PreambleIn) (s : Dev) : Dev :=
  let i := p.ix
  let rx := s.belRx p
  let ph := phase % 1024
  let near := let d := (ph + 1024 - s.get (R.BEL_x_STATUS_PHASE i)) % 1024; decide (d ≤ 2) || decide (1022 ≤ d)
  if rx = bStopped ∨ !s.preambleSeen x.symbols then s
  else if rx = bSearch then s.belTrack p ph x.strength s.ticks
  else if near then s
  else if s.is (R.BEL_x_STATUS_CAND i) ∧ sat 8 x.strength < s.get (R.BEL_x_STRENGTH_CAND i) + 12 then s
  else
    let t := ((s.setBelP p { s.belP p with candPhase := ph, candSince := s.ticks }).set (R.BEL_x_STATUS_CAND i) 1).set
      (R.BEL_x_STRENGTH_CAND i) (sat 8 x.strength)
    if rx = bPreamble ∧ s.get (R.BEL_x_STRENGTH_TRACK i) + 12 ≤ sat 8 x.strength then
      (t.count (R.BEL_x_ACQ_COUNTS_REACQ_SWITCH i) 1).trackCand p
    else t

/-- SYNC_WORD_DETECT: 32 symbol decisions at a phase, with the strength latched over them (R182, B2, B7, B8). A candidate whose sync word comes while
the main correlator is in PREAMBLE is no longer in its preamble and is dropped. -/
def doSyncWordDetect (p : Port) (phase : Nat) (x : SyncIn) (s : Dev) : Dev :=
  let i := p.ix
  let ph := phase % 1024
  let rx := s.belRx p
  let isCand := s.is (R.BEL_x_STATUS_CAND i) && (s.belP p).candPhase == ph
  if !s.syncSeen x.word then s
  else if rx = bPreamble ∧ ph = s.get (R.BEL_x_STATUS_PHASE i) then
    (s.set (R.BEL_x_STATUS_RX i) bData).set (R.BEL_x_STRENGTH_TRACK i) (sat 8 x.strength)
  else if !isCand then s
  else if rx = bData then
    if s.get (R.BEL_x_STRENGTH_TRACK i) + s.get R.BEL_CFG_CAPTURE_TH ≤ sat 8 x.strength then
      (((s.trackCand p).set (R.BEL_x_STATUS_RX i) bData).set (R.BEL_x_STRENGTH_TRACK i) (sat 8 x.strength)).count
        (R.BEL_x_ACQ_COUNTS_CAPTURED i) 1
    else (s.dropCand p).count (R.BEL_x_ACQ_COUNTS_NOT_CAPTURED i) 1
  else s.dropCand p

/-- PREAMBLE_TIMEOUT: 96 symbols without sync word (B3). -/
def doPreambleTimeout (p : Port) (s : Dev) : Dev :=
  if s.belRx p = bPreamble then
    (((s.until_ ((s.belP p).since + 96 * symTicks)).count (R.BEL_x_ACQ_COUNTS_FALSE_ACQ p.ix) 1).takeCand p)
  else s

/-- CANDIDATE_DROP: a candidate shows no sync word within 96 symbols (R184). -/
def doCandidateDrop (p : Port) (s : Dev) : Dev :=
  if s.is (R.BEL_x_STATUS_CAND p.ix) then (s.until_ ((s.belP p).candSince + 96 * symTicks)).dropCand p else s

/-- LEN of a belay header (R178). -/
def belLen (h : Nat) : Nat := bits h 2 6

/-- The header among decoded bits (R178). -/
def belHeader (l : List Bool) : Nat := ofBits (l.take 16)

/-- A header that says more than 32 bytes ends reception (B5). -/
def Dev.badHeader (s : Dev) (p : Port) : Dev := (s.count (R.BEL_x_RX_COUNTS_BAD_HDR p.ix) 1).takeCand p

/-- BELAY_HEADER: the coded symbols received so far have let the decoder decide the header (R176, B5). -/
def doBelayHeader (p : Port) (soft : List (Fin 8)) (s : Dev) : Dev :=
  let l := viterbiSoFar soft
  if s.belRx p = bData ∧ 16 ≤ l.length ∧ 32 < belLen (belHeader l) then s.badHeader p else s

/-- A BEL_EVENT (Table 8-6). -/
def Dev.belEvent (s : Dev) (p : Nat) (code strength tree : Nat) (detail : List Byte) : Dev :=
  s.event 0x0780 (le 1 p ++ le 1 code ++ le 1 strength ++ le 2 tree ++ padTo 8 detail)

/-- An event of a port with its bit of BEL_IRQ (R196). -/
def Dev.belPortEvent (s : Dev) (p : Port) (code strength tree : Nat) (detail : List Byte) : Dev :=
  (s.raiseAt (match p with | .a => R.BEL_IRQ_PORT_A | .b => R.BEL_IRQ_PORT_B) (code - 1)).belEvent p.ix code strength tree detail

/-- An accepted BEACON (R186, R191, R192). -/
def Dev.beacon (s : Dev) (p : Port) (b : List Byte) (strength : Nat) : Dev :=
  let i := p.ix
  let tree := beAt b 0 2
  let seq := beAt b 2 2
  let again := s.is (R.BEL_x_BEACON_AGE_VALID i) && s.get (R.BEL_x_BEACON_SEQ i) == seq
  let s1 := (((s.setBelP p { s.belP p with beaconAt := s.ticks }).set (R.BEL_x_BEACON_TREE_ID i) tree).set (R.BEL_x_BEACON_SEQ i) seq).set
    (R.BEL_x_BEACON_AGE_VALID i) 1
  let s2 := s1.set (R.BEL_x_BEACON_AGE_MAIN_ON i) (beAt b 4 1 % 2)
  let s3 := if s2.is (R.BEL_x_STATUS_BEACON_LOST i) then
      (s2.set (R.BEL_x_STATUS_BEACON_LOST i) 0).belPortEvent p 2 strength tree []
    else s2
  if again ∨ beAt b 7 2 = 0 then s3
  else
    let w : BelWin := { start := s3.ticks + beAt b 5 2 * symTicks, len := beAt b 7 2, first := beAt b 9 2, last := beAt b 11 2,
                        port := p, active := s3.activePort == some p }
    { s3 with bel := { s3.bel with win := some w } }

/-- An accepted WAKE (R187). -/
def Dev.belWake (s : Dev) (p : Port) (b : List Byte) (strength : Nat) : Dev :=
  let tree := beAt b 0 2
  let tid := beAt b 2 2 % 1024
  let serial := beAt b 4 8
  if (tid = 1023 ∨ tid = s.tid) ∧ (tree = 0xFFFF ∨ tree = s.get R.ACT_TREE_TREE_ID ∨ s.tid = 0x3FF) ∧ (serial = 0 ∨ serial = s.serial) then
    let t := (s.count (R.BEL_x_TYPE_COUNTS_WAKE p.ix) 1).belPortEvent p 3 strength tree []
    if t.is R.MOD_WAKE_EN_BELAY then t.fire .wakeBelay else t
  else s

/-- A RESCUE handed to ACT, which keeps it in LOST where it names this module (R170, R188). -/
def Dev.belRescue (s : Dev) (p : Port) (b : List Byte) (strength : Nat) : Dev :=
  let h : Hint := { tree := beAt b 8 2, tid := beAt b 10 2 % 1024, eqd := beAt b 12 4, tdmBase := beAt b 16 2,
                    grantId := beAt b 18 2 % 4096, withdrawn := bit (beAt b 20 1) 0 }
  let t := (s.count (R.BEL_x_TYPE_COUNTS_RESCUE p.ix) 1).belPortEvent p 4 strength h.tree (le 2 h.tid ++ slice b 20 1)
  let t := if s.act.st = .lost ∧ beAt b 0 8 = s.serial then
      (match p with
        | .a => { t with act := { t.act with hintA := some h } }
        | .b => { t with act := { t.act with hintB := some h } } : Dev)
    else t
  t.settle

/-- An accepted TREE_MERGE (R189). -/
def Dev.belMerge (s : Dev) (p : Port) (b : List Byte) (strength : Nat) : Dev :=
  let i := p.ix
  let code := beAt b 4 2
  let t := (s.count (R.BEL_x_TYPE_COUNTS_MERGE i) 1).belPortEvent p 5 strength (beAt b 0 2) (le 2 (beAt b 2 2) ++ le 2 code)
  let n := beAt b 6 2
  if n = 0 then ((t.setBelP p { t.belP p with merge := none }).set (R.BEL_x_STATUS_MERGE_PEND i) 0).belCode p code
  else (t.setBelP p { t.belP p with merge := some (t.ticks + n * symTicks, code) }).set (R.BEL_x_STATUS_MERGE_PEND i) 1

/-- MERGE_EFFECT: the new downstream code is loaded (R189). -/
def doMergeEffect (p : Port) (s : Dev) : Dev :=
  match (s.belP p).merge with
  | none => s
  | some (t, code) =>
    let s1 := s.until_ t
    ((s1.setBelP p { s1.belP p with merge := none }).set (R.BEL_x_STATUS_MERGE_PEND p.ix) 0).belCode p code

/-- An accepted TWIN_VERDICT, handed to the TWN block (R190, R441). -/
def Dev.belVerdict (s : Dev) (p : Port) (b : List Byte) (strength : Nat) : Dev :=
  let x := beAt b 2 8
  let y := beAt b 10 8
  let act := beAt b 18 1
  let seq := beAt b 19 2
  let t := (s.count (R.BEL_x_TYPE_COUNTS_VERDICT p.ix) 1).belPortEvent p 6 strength (beAt b 0 2) (le 1 act ++ le 2 seq)
  let mine := t.activePort == some p && ((x == t.serial && y == t.partner) || (x == t.partner && y == t.serial))
  t.verdict 3 (some seq) mine ((if act = 0 then x else y) == t.serial)

/-- LEN of the downstream types (Table 8-2). -/
def belTypeLen : Nat → Option Nat
  | 0x00 => some 0
  | 0x01 => some 17
  | 0x02 => some 16
  | 0x03 => some 25
  | 0x04 => some 12
  | 0x05 => some 25
  | _ => none

/-- A packet with a good CRC processed (R179, R180, R186 to R190): header, payload, latched strength. -/
def Dev.belPacket (s : Dev) (p : Port) (h : Nat) (b : List Byte) (strength : Nat) : Dev :=
  let i := p.ix
  let typ := bits h 8 8
  if belTypeLen typ ≠ some b.length then s.count (R.BEL_x_RX_COUNTS_BAD_TYPE i) 1
  else if typ = 0 then s
  else match s.lmmKey with
    | none => s.count (R.BEL_x_AUTH_COUNTS_KEY_ABSENT i) 1
    | some key =>
      let body := b.take (b.length - 4)
      if slice (aesCmac key (be 2 h ++ body)) 0 4 ≠ b.drop (b.length - 4) then s.count (R.BEL_x_AUTH_COUNTS_MIC_FAIL i) 1
      else match typ with
        | 1 => s.beacon p b strength
        | 2 => s.belWake p b strength
        | 3 => s.belRescue p b strength
        | 4 =>
          if beAt b 4 2 > 1024 then s.count (R.BEL_x_RX_COUNTS_BAD_TYPE i) 1
          else if beAt b 0 2 = s.get (R.BEL_x_BEACON_TREE_ID i) ∧ s.is (R.BEL_x_BEACON_AGE_VALID i) then s.belMerge p b strength
          else s
        | _ =>
          if (beAt b 2 8 = s.serial ∨ beAt b 10 8 = s.serial) ∧ beAt b 0 2 = s.get (R.BEL_x_BEACON_TREE_ID i) then
            s.belVerdict p b strength
          else s

/-- A packet whose last coded symbol is decoded, from its header to its CRC (B6). -/
def Dev.belayDecoded (s : Dev) (p : Port) (b : List Byte) : Dev :=
  let i := p.ix
  let h := beAt b 0 2
  let strength := s.get (R.BEL_x_STRENGTH_TRACK i)
  if b.length = 4 + belLen h ∧ hec (b.take (b.length - 2)) = beAt b (b.length - 2) 2 then
    ((((s.count (R.BEL_x_RX_COUNTS_PACKETS i) 1).set (R.BEL_x_STRENGTH_LAST i) strength).takeCand p).belPacket p h
      (slice b 2 (belLen h)) strength)
  else (s.count (R.BEL_x_RX_COUNTS_CRC_FAIL i) 1).takeCand p

/-- BELAY_PACKET_END: the soft decisions of the coded part, to its last symbol (R176, B5, B6); the tail is no byte of the packet. -/
def doBelayPacketEnd (p : Port) (soft : List (Fin 8)) (s : Dev) : Dev :=
  let l := viterbi soft
  if s.belRx p ≠ bData then s
  else if 32 < belLen (belHeader l) then s.badHeader p
  else s.belayDecoded p (bytesOf l ((l.length - 6) / 8))

/-- BEACON_LOSS: no BEACON accepted for BEL_BEACON_LOSS ms (R186). -/
def doBeaconLoss (p : Port) (s : Dev) : Dev :=
  let i := p.ix
  let ms := s.get R.BEL_BEACON_LOSS_MS
  if ms = 0 ∨ s.is (R.BEL_x_STATUS_BEACON_LOST i) ∨ s.belRx p = bStopped then s
  else
    let t := s.until_ ((s.belP p).beaconAt + ms * msTicks)
    (t.set (R.BEL_x_STATUS_BEACON_LOST i) 1).belPortEvent p 1 0 (t.get (R.BEL_x_BEACON_TREE_ID i)) []

/-- STATUS_REQ: BEL_CTL.STATUS_REQ written 1 (R193). -/
def doStatusReq (s : Dev) : Dev := s.queueStatus

/-- The STATUS packet's header and payload with its MIC (Table 8-2). -/
def Dev.statusPacket (s : Dev) (p : Port) (key : List Byte) : List Byte :=
  let b := be 2 (0x40 * 256 + 20 * 4) ++ be 8 s.serial ++ be 2 s.tid ++ be 1 s.act.st.code ++ be 1 s.sup.mode.code ++ be 1 p.ix ++
    be 1 (s.get (R.BEL_x_STRENGTH_LAST p.ix)) ++ be 2 (s.get R.ACT_TREE_TREE_ID)
  b ++ slice (aesCmac key b) 0 4

/-- The terminal may use the window, but for its code being legal (R191). -/
def Dev.belEligible (s : Dev) (w : BelWin) : Bool :=
  let code := s.get R.ACT_TREE_BELAY_CODE
  w.active && s.activePort == some w.port && decide (w.first ≤ code) && decide (code ≤ w.last) && s.tid != 0x3FF &&
    (s.sup.mode == .acquire || s.sup.mode == .range || s.sup.mode == .service || s.sup.mode == .island) &&
    !s.lineSilent && !s.standby && s.lfe.switching.isNone && s.is R.BEL_CTL_TX_EN

/-- A belay packet leaves in the window (R193, R194), 20 dB below the launch target: not where the transmitter is inhibited, unlocked
or latched off. -/
def Dev.belSend (s : Dev) (p : Port) (body : List Byte) (status : Bool) : Dev :=
  if !s.txReady p then s.count (R.LFE_x_TX_COUNTS_INHIBITED p.ix) 1
  else
    let n := 172 + 16 * (body.length - 2)
    let pkt := body ++ be 2 (hec body)
    let t := (s.setLfeP p { s.lfeP p with sending := true }).count R.BEL_TX_COUNTS_SENT 1
    let x : Bel := { t.bel with tx := some (p, s.ticks + n * symTicks, status), queued := t.bel.queued && !status }
    { t with bel := x }.emit (.belay p.ix (s.get R.ACT_TREE_BELAY_CODE) ((s.get (R.LFE_x_TX_POWER_TARGET p.ix) : Int) - 200) (belaySymbols pkt))

/-- BELAY_WINDOW_START: the pending window starts (R191 to R193). -/
def doBelayWindowStart (s0 : Dev) : Dev :=
  match s0.bel.win with
  | none => s0
  | some w =>
    let s := s0.until_ w.start
    let bad := decide (1024 < s.get R.ACT_TREE_BELAY_CODE)
    let s1 := ({ s with bel := { s.bel with win := none } } : Dev).when bad fun t => t.count R.BEL_TX_COUNTS_CODE_BAD 1
    if s1.bel.tx.isSome then s1.count R.BEL_TX_COUNTS_WIN_SKIPPED 1
    else if bad || !s1.belEligible w then s1
    else
      let short := s1.count R.BEL_TX_COUNTS_WIN_SHORT 1
      match (if s1.bel.queued then s1.lmmKey else none) with
      | some key => if w.len < 492 then short else s1.belSend w.port (s1.statusPacket w.port key) true
      | none =>
        if !s1.is R.BEL_CTL_KA_EN then s1
        else if w.len < 172 then short
        else s1.belSend w.port [0, 0] false

/-- BELAY_TX_END: the transmission ends (R194); a STATUS sent is reported. -/
def doBelayTxEnd (s : Dev) : Dev :=
  match s.bel.tx with
  | none => s
  | some (p, t, status) =>
    let s1 := s.until_ t
    let s2 : Dev := { s1 with bel := { s1.bel with tx := none } }
    let s3 := s2.setLfeP p { s2.lfeP p with sending := false }
    (if status then (s3.raise R.BEL_IRQ_STATUS_SENT).belEvent p.ix 7 (s3.get (R.BEL_x_STRENGTH_LAST p.ix)) (s3.get R.ACT_TREE_TREE_ID) [] else s3).settle

/-- BEL_TX_STATUS and BEL_x_BEACON_AGE as they read (R186, R192, R193). -/
def Dev.belTxStatus (s : Dev) : Word :=
  BitVec.ofNat 32 (b2n s.bel.queued + 2 * b2n s.bel.win.isSome + 4 * b2n s.bel.tx.isSome +
    2 ^ 16 * (match s.bel.win with | some w => sat 16 ((w.start - s.ticks) / symTicks) | none => 0))
def Dev.beaconAge (s : Dev) (p : Port) : Word :=
  let valid := s.is (R.BEL_x_BEACON_AGE_VALID p.ix)
  BitVec.ofNat 32 ((if valid then sat 16 ((s.ticks - (s.belP p).beaconAt) / msTicks) else 0xFFFF) +
    2 ^ 16 * s.get (R.BEL_x_BEACON_AGE_MAIN_ON p.ix) + 2 ^ 17 * b2n valid)

-- The commands of this file.

/-- DS_CODE_WRITE (R181). -/
def execDsCodeWrite (p : Port) (v : Word) (s : State) : Host.Outcome State Fault Refusal := s.run (doDsCodeWrite p v)

/-- PREAMBLE_DETECT (R183). -/
def execPreambleDetect (p : Port) (phase : Nat) (x : PreambleIn) (s : State) : Host.Outcome State Fault Refusal :=
  s.run (doPreambleDetect p phase x)

/-- SYNC_WORD_DETECT (R185). -/
def execSyncWordDetect (p : Port) (phase : Nat) (x : SyncIn) (s : State) : Host.Outcome State Fault Refusal :=
  s.run (doSyncWordDetect p phase x)

/-- PREAMBLE_TIMEOUT (R185). -/
def execPreambleTimeout (p : Port) (s : State) : Host.Outcome State Fault Refusal := s.run (doPreambleTimeout p)

/-- CANDIDATE_DROP (R184). -/
def execCandidateDrop (p : Port) (s : State) : Host.Outcome State Fault Refusal := s.run (doCandidateDrop p)

/-- BELAY_HEADER (R185). -/
def execBelayHeader (p : Port) (soft : List (Fin 8)) (s : State) : Host.Outcome State Fault Refusal := s.run (doBelayHeader p soft)

/-- MERGE_EFFECT (R189). -/
def execMergeEffect (p : Port) (s : State) : Host.Outcome State Fault Refusal := s.run (doMergeEffect p)

/-- BELAY_PACKET_END (R185). -/
def execBelayPacketEnd (p : Port) (soft : List (Fin 8)) (s : State) : Host.Outcome State Fault Refusal := s.run (doBelayPacketEnd p soft)

/-- BEACON_LOSS (R186). -/
def execBeaconLoss (p : Port) (s : State) : Host.Outcome State Fault Refusal := s.run (doBeaconLoss p)

/-- STATUS_REQ (R193). -/
def execStatusReq (s : State) : Host.Outcome State Fault Refusal := s.run (doStatusReq)

/-- BELAY_WINDOW_START (R193). -/
def execBelayWindowStart (s : State) : Host.Outcome State Fault Refusal := s.run (doBelayWindowStart)

/-- BELAY_TX_END (R194). -/
def execBelayTxEnd (s : State) : Host.Outcome State Fault Refusal := s.run (doBelayTxEnd)

end Sys2Proof.Machine
end

