-- ==== Sys2Proof/Machine/MemInteg.lean ====
section
/-!
DEFINITION. Sys2Proof/Machine/MemInteg.lean: the scrubber, the tracker, pitons by the host, periodic and full BIST, the error
log (21_memory_integrity.md R452, R457 to R468), and content restored from the section store (02 R35, 22 R475).
-/
namespace Sys2Proof.Machine

/-- Content of a section in the section store, empty where none is held (R35). -/
def Dev.stored (s : Dev) (pitch kind unit : Nat) : List Byte :=
  match s.img.store.find? fun x => x.1.pitch == pitch && x.1.kind == kind && x.1.unit == unit with
  | some x => x.1.content
  | none => []

/-- Every stored section of a pitch matches its digest (R35). -/
def Dev.storeOk (s : Dev) (p : Nat) : Bool := s.img.store.all fun x => x.1.pitch != p || sha384 x.1.content == x.2

/-- A pitch stands in FAULT and runs no longer (R35, R41). -/
def Dev.pitchDown (s : Dev) (p : Nat) : Dev :=
  { s with
    decls := serase p s.decls
    img := { s.img with fault := setBit s.img.fault p, running := s.img.running.filter (·.pitch != p) } }

/-- A stored section whose digest does not match puts its pitch in FAULT (R35). -/
def Dev.storeCheck (s : Dev) (p : Nat) : Dev := if s.storeOk p then s else (s.pitchDown p).raise R.IMG_IRQ_FAULT

/-- Instruction RAM and shared RAM of a cluster as their sections give them (R28), after the check of their digests; RAM that cannot be
restored is left empty (R35). -/
def Dev.restoreCluster (s : Dev) (c : Nat) (shared : Bool) : Dev :=
  let x := s.cluster c
  let p := c / 4 + 1
  let from_ (kind base size : Nat) := if s.storeOk p then stable base ((s.stored p kind (c % 4)).take size) else []
  (s.setCluster c { x with
    iram := from_ 2 0 131072
    shared := if shared then from_ 3 0x10000 262144 else x.shared }).storeCheck p

/-- Dirty pages of a cluster written back; its page cache stays, clean, or is emptied (R291, R293). -/
def Dev.flushPages (s : Dev) (c : Nat) (empty : Bool) : Dev :=
  let x := s.cluster c
  (s.setCluster c { x with pcache := if empty then [] else x.pcache.map fun p => (p.1, false) }).count (R.ENG_c_PCACHE_WRITEBACKS c)
    (x.pcache.filter (·.2)).length

/-- Local scratch of the engines of a cluster zero-filled. -/
def Dev.clearScratch (s : Dev) (c : Nat) : Dev :=
  { s with engs := s.engs.map fun e => if e.1 / 16 = c then (e.1, { e.2 with scratch := [] }) else e }

/-- Errors of instances that f selects are gone: their words were written anew. keep leaves uncorrectable ones. -/
def Dev.clearErrs (s : Dev) (f keep : Nat → Bool) : Dev :=
  let ue (e : Nat) : Bool := synClass (rowSyn e) (colSyn e) == .uncorrectable
  { s with mem := { s.mem with
    errs := s.mem.errs.filter fun x => !f (x.1 / 65536) || (keep (x.1 / 65536) && ue x.2),
    pitons := s.mem.pitons.map fun x =>
      if !f (x.1 / 8) || (keep (x.1 / 8) && (x.2.poison || ue x.2.errs)) then x else (x.1, { x.2 with errs := 0, poison := false }) } }

/-- The scrubber, the tracker and periodic BIST run for a pitch (R468). -/
def Dev.memRuns (s : Dev) (pitch : Nat) : Bool := s.sup.mode.traffic || (s.sup.mode == .config && pitch == 0)

/-- The domain of an instance is powered. -/
def Dev.instUp (s : Dev) (i : Nat) : Bool := match Config.instDomain i with | some d => s.isUp d | none => true

/-- The tracker after a scrub read that found data bit b in error, or none (R460). -/
def Dev.track (s : Dev) (k : Nat) (b : Option Nat) : Dev :=
  let here (x : Suspect) : Bool := x.inst == k / 65536 && x.addr == k % 65536
  let l := s.mem.suspects.filter fun x => !here x || some x.bit == b
  match b with
  | none => { s with mem := { s.mem with suspects := l } }
  | some n =>
    let old := l.find? fun x => here x && x.bit == n
    let rest := l.filter fun x => !(here x && x.bit == n)
    let x : Suspect := { inst := k / 65536, addr := k % 65536, bit := n, count := (match old with | some y => y.count | none => 0) + 1 }
    let th := s.get R.MEM_PITON_CFG_CE_TH
    if th ≠ 0 ∧ th ≤ x.count then { s with mem := { s.mem with suspects := rest } }.placePiton srcTracker k
    else { s with mem := { s.mem with suspects := rest.drop (rest.length + 1 - 64) ++ [x] } }

/-- SCRUB_READ: the scrubber reads a word; flips are bits that changed in the SRAM since it was last accessed; last ends the pass
(R457, R460). -/
def doScrubRead (inst : Fin 2304) (addr : Fin 65536) (flips : BitVec 80) (last : Bool) (s : Dev) : Dev :=
  let k := 65536 * (inst : Nat) + addr
  if !s.is R.MEM_CTL_SCRUB_EN || !s.memRuns (Config.instPitch inst) || !s.instUp inst || decide (Config.instWords inst ≤ addr) then s
  else
    let s1 := (s.setErrs k (s.errsOf k ^^^ flips.toNat)).set R.MEM_SCRUB_STATUS_INSTANCE inst
    let e := s1.errsOf k
    let s2 := match synClass (rowSyn e) (colSyn e) with
      | .clean => s1.track k none
      | .data b => (s1.memCorrect srcScrub k).track k (some b)
      | .check _ => (s1.memCorrect srcScrub k).track k none
      | .uncorrectable =>
        if s1.mem.logged.contains k then s1
        else let t := s1.memUe srcScrub k; { t with mem := { t.mem with logged := t.mem.logged ++ [k] } }
    if last then { s2 with mem := { s2.mem with logged := [] } }.set R.MEM_SCRUB_STATUS_PASSES (s2.get R.MEM_SCRUB_STATUS_PASSES + 1) else s2

/-- PITON_ADD: a host write of MEM_PITON_ADD (R461). -/
def doPitonAdd (v : Word) (s : Dev) : Dev :=
  let i := bits v.toNat 16 12
  let a := v.toNat % 65536
  if i > 2303 ∨ Config.instWords i ≤ a then s else s.placePiton srcHost (65536 * i + a)

/-- The present slice, and its kinds (Table 21-3). -/
def Dev.slice (s : Dev) : Nat := s.get R.MEM_STATUS_SLICE

/-- Domain and pitch of a slice. -/
def sliceDomain (n : Nat) : Option Nat := if n < 32 then some n else if n < 48 then some domThk else (Config.sliceDomain n).map (·.val)
def slicePitch (n : Nat) : Nat := if n < 32 then n / 4 + 1 else if n < 48 then 10 else Config.slicePitch n

/-- The next slice in the order; a full cycle counts. -/
def Dev.nextSlice (s : Dev) : Dev :=
  let t := s.set R.MEM_STATUS_BIST 0
  if t.slice ≥ 2399 then (t.set R.MEM_STATUS_SLICE 0).wr R.MEM_BIST_CYCLES (t.rd R.MEM_BIST_CYCLES + 1)
  else t.set R.MEM_STATUS_SLICE (t.slice + 1)

/-- A slice is isolated: no dispatch to a cluster and requests to its engines, lookups of a bank through the miss queue. -/
def Dev.isolate (s : Dev) (n : Nat) : Dev :=
  if n < 32 then
    let busy := (List.range 16).filter fun e => let x := s.eng (16 * n + e); (x.st == .running || x.st == .stalled) && !s.tsk.requests.any (·.1 == 16 * n + e)
    forEach busy ({ s with tsk := { s.tsk with fenced := if s.tsk.fenced.contains n then s.tsk.fenced else s.tsk.fenced ++ [n] } } : Dev)
      fun e t => t.askLeave (16 * n + e) 65536
  else if n < 48 then
    { s with thk := { s.thk with heldBanks := if s.thk.heldBanks.contains (n - 32) then s.thk.heldBanks else s.thk.heldBanks ++ [n - 32] } }
  else s

/-- A slice is returned. -/
def Dev.release (s : Dev) (n : Nat) : Dev :=
  let s1 : Dev := { s with mem := { s.mem with fenced := s.mem.fenced.filter (· != n) } }
  if n < 32 then
    { s1 with tsk := { s1.tsk with fenced := s1.tsk.fenced.filter (· != n), requests := s1.tsk.requests.filter fun r => !(r.2.1 == 65536 && r.1 / 16 == n) } }
  else if n < 48 then { s1 with thk := { s1.thk with heldBanks := s1.thk.heldBanks.filter (· != n - 32) } }
  else s1

/-- A slice that was not tested goes back, unless it stays isolated from an earlier test. -/
def Dev.letGo (s : Dev) (n : Nat) : Dev := if s.mem.fenced.contains n then s else s.release n

/-- A slice holds an instance that is restored from the section store (IMAGE of Table 21-3). -/
def imageSlice (n : Nat) : Bool := (List.range 2304).any fun i => Config.instSlice i == n && Config.instImage i

/-- The content of a slice after its reinitialisation (Table 21-3), with the digest check of R35 where it comes from an image. -/
def Dev.reinit (s : Dev) (n : Nat) : Dev :=
  let s1 := s.clearErrs (fun i => Config.instSlice i == n) fun i => !Config.instImage i && (n < 32 || (48 ≤ n && Config.sliceBacked n))
  if n < 32 then (s1.restoreCluster n false).flushPages n true
  else if n < 48 then { s1 with thk := { s1.thk with cached := s1.thk.cached.filter fun b => b % 16 != n - 32 } }
  else if !s1.storeOk (Config.slicePitch n) && imageSlice n then s1.storeCheck (Config.slicePitch n)
  else s1

/-- A running slice is abandoned (R465). -/
def Dev.bistAbandon (s : Dev) : Dev :=
  if s.get R.MEM_STATUS_BIST = 0 ∨ s.mem.full then s
  else
    let n := s.slice
    let s1 := if s.get R.MEM_STATUS_BIST = 2 then s.reinit n else s
    ((s1.letGo n).count R.MEM_BIST_COUNTS_ABANDONED 1).nextSlice

/-- BIST may go on with the present slice (R465). -/
def Dev.bistMay (s : Dev) : Bool := s.is R.MEM_CTL_BIST_EN && s.pwr.coord == .run && s.memRuns (slicePitch s.slice) && !s.draining (slicePitch s.slice)

/-- BIST_SLICE_START: INTERVAL ms after the last start (R462, R465). -/
def doBistSliceStart (s : Dev) : Dev :=
  let n := s.slice
  if s.get R.MEM_STATUS_BIST ≠ 0 ∨ !s.is R.MEM_CTL_BIST_EN ∨ s.pwr.coord ≠ .run ∨ !s.memRuns 0 then s
  else
    let s1 := s.until_ (s.mem.lastSlice + s.get R.MEM_BIST_CFG_INTERVAL * msTicks)
    let s2 : Dev := { s1 with mem := { s1.mem with lastSlice := s1.ticks, isolSince := s1.ticks } }
    if !s2.bistMay then s2.nextSlice
    else if (match sliceDomain n with | some d => !s2.isUp d | none => false) then (s2.count R.MEM_BIST_COUNTS_ASLEEP 1).nextSlice
    else (s2.set R.MEM_STATUS_BIST 1).isolate n

/-- The isolation condition of Table 21-3; the cells of an EMPTY group hold no frame. -/
def Dev.isolated (s : Dev) (n : Nat) : Bool :=
  if n < 32 then !s.clusterHolds n && (List.range 16).all fun k => s.get (R.DMA_u_CHk_STATE_STATE (n / 4) k) != 2
  else n < 48 || Config.sliceBacked n || s.allFrames.all fun f => f.words.all fun k => Config.instSlice (k / 65536) != n

/-- BIST_ISOLATED (R463). -/
def doBistIsolated (s : Dev) : Dev :=
  if s.get R.MEM_STATUS_BIST ≠ 1 then s
  else if !s.bistMay then s.bistAbandon
  else if s.isolated s.slice then s.set R.MEM_STATUS_BIST 2
  else s

/-- BIST_ISOLATE_TIMEOUT (R463). -/
def doBistIsolateTimeout (s : Dev) : Dev :=
  if s.get R.MEM_STATUS_BIST ≠ 1 then s
  else if !s.bistMay then s.bistAbandon
  else
    let s1 := s.until_ (s.mem.isolSince + s.get R.MEM_BIST_CFG_ISOLATE_LIMIT * msTicks)
    ((s1.count R.MEM_BIST_COUNTS_SKIPPED 1).memEvent R.MEM_IRQ_SLICE_SKIPPED 6 srcBist 0x7F 0 s1.slice |>.letGo s.slice).nextSlice

/-- A failing word: logged, reported, and a piton requested (R464). -/
def Dev.bistFail (s : Dev) (k bit : Nat) : Dev :=
  let sl := Config.instSlice (k / 65536)
  ((s.memLog 5 srcBist bit k 0 0).memEvent R.MEM_IRQ_BIST_FAIL 5 srcBist bit k sl).placePiton srcBist k

/-- A failing spare word: its piton word is BAD, and a valid one moves to the next free spare (R459). -/
def Dev.spareFail (s : Dev) (i p : Nat) : Dev :=
  let x := s.piton i p
  let s1 := s.setPiton i p { x with valid := false, bad := true }
  if !x.valid then s1
  else
    let k := 65536 * i + x.addr
    let s2 := if x.poison then s1 else { s1 with mem := { s1.mem with errs := sset 0 k x.errs s1.mem.errs } }
    let s3 := s2.placePiton srcBist k
    match s3.anchor k with
    | some q => if x.poison then s3.setPiton i q { s3.piton i q with poison := true } else s3
    | none => s3

/-- The failures of a test taken for the instances that f selects: words with their first failing bit, and spare words. -/
def Dev.bistFails (s : Dev) (f : Nat → Bool) (fails : List FailBit) (spares : List SpareRef) : Dev × Bool :=
  let ws := fails.filter fun x => f (x.1 / 65536) && decide (x.1 / 65536 < 2304) && decide (x.1 % 65536 < Config.instWords (x.1 / 65536))
  let ps := spares.filter fun x => f x.1
  (forEach ws (forEach ps s fun x t => t.spareFail x.1 x.2) fun x t => t.bistFail x.1 x.2, !ws.isEmpty || !ps.isEmpty)

/-- BIST_TEST_DONE: the March test of the slice, or of the device in TEST, completes; fails names words as 65,536 × instance +
address with their first failing bit, spares the failing spare words (R464, R466). -/
def doBistTestDone (fails : List FailBit) (spares : List SpareRef) (s : Dev) : Dev :=
  if s.get R.MEM_STATUS_BIST ≠ 2 then s
  else if s.mem.full then
    let r := s.bistFails (fun _ => true) fails spares
    let t := forEach (List.range 2400) { r.1 with mem := { r.1.mem with full := false } } fun n u => u.reinit n
    ((t.set R.MEM_BIST_RUN_DONE 1).setB R.MEM_BIST_RUN_PASS (!r.2)).set R.MEM_STATUS_BIST 0
  else if !s.bistMay then s.bistAbandon
  else
    let n := s.slice
    let r := s.bistFails (fun i => Config.instSlice i == n) fails spares
    let left := fails.any fun x => Config.instSlice (x.1 / 65536) == n && (r.1.anchor x.1).isNone
    let t := (r.1.reinit n).count R.MEM_BIST_COUNTS_FAILED (b2n r.2)
    if n < 48 ∧ left ∧ t.is R.MEM_CTL_FENCE then
      let u : Dev := { t with mem := { t.mem with fenced := if t.mem.fenced.contains n then t.mem.fenced else t.mem.fenced ++ [n] } }
      (u.memEvent R.MEM_IRQ_FENCED 7 srcBist 0x7F 0 n).nextSlice
    else ((t.release n).count R.MEM_BIST_COUNTS_DONE 1).nextSlice

/-- BIST_RUN: MEM_BIST_RUN.GO in TEST (R466). -/
def doBistRun (v : Word) (s : Dev) : Dev :=
  if !bit v.toNat 0 || s.sup.mode != .test then s
  else (({ s with mem := { s.mem with full := true } }.set R.MEM_BIST_RUN_DONE 0).set R.MEM_BIST_RUN_PASS 0).set R.MEM_STATUS_BIST 2

/-- A write of MEM_CTL: without FENCE the held slices return, without BIST_EN a running slice is abandoned (R464, R465). -/
def Dev.memCtl (s : Dev) (v : Nat) : Dev :=
  let s1 := ((s.setB R.MEM_CTL_SCRUB_EN (bit v 0)).setB R.MEM_CTL_BIST_EN (bit v 1)).setB R.MEM_CTL_FENCE (bit v 2)
  let s2 := if bit v 2 then s1 else forEach s1.mem.fenced s1 fun n t => t.release n
  if bit v 1 then s2 else s2.bistAbandon

/-- LOG_POP: the oldest entry goes into MEM_LOG0 to MEM_LOG2 (R452). -/
def doLogPop (s : Dev) : Dev :=
  match s.mem.log with
  | [] => s.set R.MEM_LOG0_VALID 0
  | e :: rest =>
    let t : Dev := { s with mem := { s.mem with log := rest } }
    ((t.wr R.MEM_LOG0 (BitVec.ofNat 32 (e.inst + 2 ^ 12 * e.kind + 2 ^ 16 * e.source + 2 ^ 20 * e.bit + 2 ^ 31))).wr R.MEM_LOG1
      (BitVec.ofNat 32 (e.addr + 2 ^ 16 * e.row + 2 ^ 24 * e.col))).wr R.MEM_LOG2 (BitVec.ofNat 32 e.ns)

/-- Registers of the MEM block that are computed on a read. -/
def Dev.memStatus (s : Dev) : Word :=
  BitVec.ofNat 32 (putBits (putBits (s.rd R.MEM_STATUS).toNat R.MEM_STATUS_DEGRADED.lo 1 (b2n (!s.mem.degraded.isEmpty)))
    R.MEM_STATUS_FENCED.lo 1 (b2n (!s.mem.fenced.isEmpty)))
def Dev.pitonStatus (s : Dev) : Word :=
  BitVec.ofNat 32 ((s.mem.pitons.filter fun x => x.2.valid).length + 2 ^ 16 * s.mem.degraded.length)
def Dev.instStatus (s : Dev) : Word :=
  let i := s.get R.MEM_INST_SEL_INSTANCE
  let n (f : Piton → Bool) : Nat := ((List.range 8).filter fun p => f (s.piton i p)).length
  BitVec.ofNat 32 (n (·.valid) + 16 * n (·.bad) + 2 ^ 8 * b2n (s.mem.degraded.contains i) +
    2 ^ 9 * b2n (s.mem.fenced.contains (Config.instSlice i)) + 2 ^ 16 * (Config.instSlice i % 4096))
def Dev.instPiton (s : Dev) : Word :=
  let x := s.piton (s.get R.MEM_INST_SEL_INSTANCE) (s.get R.MEM_INST_SEL_PITON)
  BitVec.ofNat 32 (x.addr + 2 ^ 29 * b2n x.poison + 2 ^ 30 * b2n x.bad + 2 ^ 31 * b2n x.valid)

-- The commands of this file.

/-- SCRUB_READ (R457). -/
def execScrubRead (inst : Fin 2304) (addr : Fin 65536) (flips : BitVec 80) (last : Bool) (s : State) : Host.Outcome State Fault Refusal := s.run (doScrubRead inst addr flips last)

/-- PITON_ADD (R461). -/
def execPitonAdd (v : Word) (s : State) : Host.Outcome State Fault Refusal := s.run (doPitonAdd v)

/-- BIST_SLICE_START (R462). -/
def execBistSliceStart (s : State) : Host.Outcome State Fault Refusal := s.run (doBistSliceStart)

/-- BIST_ISOLATED (R463). -/
def execBistIsolated (s : State) : Host.Outcome State Fault Refusal := s.run (doBistIsolated)

/-- BIST_ISOLATE_TIMEOUT (R463). -/
def execBistIsolateTimeout (s : State) : Host.Outcome State Fault Refusal := s.run (doBistIsolateTimeout)

/-- BIST_TEST_DONE (R464). -/
def execBistTestDone (fails : List FailBit) (spares : List SpareRef) (s : State) : Host.Outcome State Fault Refusal := s.run (doBistTestDone fails spares)

/-- BIST_RUN (R466). -/
def execBistRun (v : Word) (s : State) : Host.Outcome State Fault Refusal := s.run (doBistRun v)

/-- LOG_POP (R452). -/
def execLogPop (s : State) : Host.Outcome State Fault Refusal := s.run (doLogPop)

end Sys2Proof.Machine
end

