-- ==== Sys2Proof/Machine/PwrCore.lean ====
section
/-!
DEFINITION. Sys2Proof/Machine/PwrCore.lean: domains that drain, stop and retain; access holds; host votes; BIVOUAC entry, its
commit and its refusal; BIVOUAC exit; ALL_ON (22_power_domains.md R470 to R484, Tables 22-1 to 22-5; 04 R93).
-/
namespace Sys2Proof.Machine

/-- Refusal reasons (R481). -/
def whyTasks : Nat := 1
def whyDma : Nat := 2
def whyFront : Nat := 3
def whyThk : Nat := 4
def whyLaunch : Nat := 6
def whyLine : Nat := 7

/-- A task is READY, or an engine holds one (R335). -/
def Dev.tasksBlock (s : Dev) : Bool := s.engs.any (fun e => e.2.st != .idle) || s.tsk.tasks.any fun x => x.2.st == .ready

/-- A frame is being launched on one of the egresses. -/
def Dev.launchesAny (s : Dev) (es : List Nat) : Bool := es.any fun e => (s.launching e).isSome

/-- The reason of the work that blocks a drop of domain d, 0 where none does (Table 22-1, R481). Cipher frames and Thicket
operations are whole steps here, so that 0x5 does not arise and 0x4 arises from the miss queue alone. -/
def Dev.blockReason (s : Dev) (d : Nat) : Nat :=
  if d < 32 then (if s.clusterHolds d || (s.pwr.coord == .entering && s.tasksBlock) then whyTasks else 0)
  else if d = 32 then (if s.transmits .a then whyLine else 0)
  else if d = 33 then (if s.transmits .b then whyLine else 0)
  else if d = domUsr then
    (if s.frontUsed ≠ 0 then whyFront else if s.launchesAny (List.range 9 ++ [17]) then whyLaunch else 0)
  else if d = domRope then (if s.launchesAny ((List.range 8).map (· + 9)) then whyLaunch else 0)
  else if d = domThk then (if s.thk.missQ.isEmpty then 0 else whyThk)
  else if d = domDma then (if s.dmaActive then whyDma else 0)
  else 0

/-- DOMAIN_STOP: a draining domain stops when no blocking work is left; a drop that waits is counted once (P3, P4). -/
def doDomainStop (dom : Fin 43) (s : Dev) : Dev :=
  let d : Nat := dom
  if s.dom d ≠ .draining then s
  else if s.blockReason d ≠ 0 then
    if bit s.pwr.refusedOnce d then s
    else ({ s with pwr := { s.pwr with refusedOnce := setBit s.pwr.refusedOnce d } }).countR R.PWR_DOM_REFUSE 1
  else
    let s1 := if d < 32 then s.flushPages d false else s
    let s2 : Dev := if s.pwr.coord = .entering then { s1 with tsk := { s1.tsk with onDie := [] } } else s1
    let s3 := (s2.setDom d .stopping).lanesSleep d
    if d = 32 then s3.portOff .a else if d = 33 then s3.portOff .b else s3

/-- Registers marked V that f selects return to their reset value (R11). -/
def Dev.resetV (s : Dev) (f : Nat → Bool) : Dev :=
  { s with regs := s.regs.filter fun x => !(f x.1 && (match regRow x.1 with | some r => r.vmark | none => false)) }

/-- A domain's SRAM loses its power (R475); the RAM of a cluster is restored at its next wake (Table 4-7). -/
def Dev.powerOff (s : Dev) (d : Nat) : Dev :=
  let s1 :=
    if d < 32 then
      let t := (s.clearScratch d).setCluster d { s.cluster d with pcache := [], iram := [], shared := [] }
      { t with pwr := { t.pwr with blank := setBit t.pwr.blank d } }
    else if d = domThk then { s with thk := { s.thk with cached := [] } }
    else if d = domTrb then { s with trb := { s.trb with ports := [] } }
    else s
  (s1.clearErrs (fun i => (Config.instDomain i).map (·.val) == some d) fun _ => false).resetV fun a => domOf a == some d

/-- The RAM of a cluster that was OFF is restored from the section store before it is ready (R475, R482). -/
def Dev.wakeRestore (s : Dev) (d : Nat) : Dev :=
  if bit s.pwr.blank d then ({ s with pwr := { s.pwr with blank := clrBit s.pwr.blank d } } : Dev).restoreCluster d true else s

/-- DOMAIN_RETAIN: power is switched (P6); in BIVOUAC the domain is OFF (R475). -/
def doDomainRetain (dom : Fin 43) (s : Dev) : Dev :=
  let d : Nat := dom
  let t := if d = domTrb then s.tapsSleep else s
  if s.dom d ≠ .stopping then s
  else if s.pwr.coord = .bivouac then ((t.powerOff d).setDom d .off).revote
  else (t.setDom d .retain).revote

/-- A held host access waits for domain d. -/
def Dev.waitsFor (s : Dev) (d : Nat) : Bool :=
  (s.hif.waiting.any fun x => match x with
    | .read a _ => domOf a == some d
    | .write a _ => domOf a == some d) ||
  [Path.pcie, .inBand, .remote].any fun p => match (s.path p).inbox with
    | m :: _ => m.addrs.any fun a => domOf a == some d
    | [] => false

/-- The hold of a domain that ends first, none where its access has not completed. -/
def Dev.firstHold (s : Dev) (d : Nat) : Option Hold :=
  let l := s.pwr.holds.filter fun h => h.dom == d && !(h.client == cliHost && s.waitsFor d)
  l.foldl (fun x h => match x with
    | none => some h
    | some y => if h.until_ < y.until_ then some h else x) none

/-- ACCESS_HOLD_EXPIRY: PWR_LINGER after the last access the hold ends (R473). -/
def doAccessHoldExpiry (dom : Fin 43) (s : Dev) : Dev :=
  match s.firstHold dom with
  | none => s
  | some h =>
    let t := s.until_ h.until_
    { t with pwr := { t.pwr with holds := t.pwr.holds.filter (· != h) } }.revote

/-- VOTE_HOST_WRITE: the host's votes; in force outside BIVOUAC (R472, R483). HI is written first (R3). -/
def Dev.voteWrite (s : Dev) (lo : Word) : Dev :=
  let h := s.highFor R.PWR_VOTE_HOST_HI
  (((s.dropHeld R.PWR_VOTE_HOST_HI).wr R.PWR_VOTE_HOST_HI (h &&& 0x7FF)).wr R.PWR_VOTE_HOST_LO lo).revote
def doVoteHostWrite (lo : Word) (s : Dev) : Dev := s.voteWrite lo

/-- Every domain of R480 step 3 is in RETAIN. -/
def Dev.allRetain (s : Dev) : Bool := stopOrder.all fun d => s.dom d == .retain

/-- What no register shows of the powered-off line framers, tributaries, lanes and Ethernet ports starts anew. -/
def Dev.offHidden (s : Dev) : Dev :=
  let t := (s.framerHunt .a).framerHunt .b
  { t with
    lan := []
    mac := t.mac.map fun x => (x.1, { x.2 with pauseWait := none, pauseEnd := none, pauseTx := none }) }

/-- The mirror is down while the module is in BIVOUAC (R436). -/
def Dev.mirrorAsleep (s : Dev) : Dev :=
  if !s.is R.TWN_CFG_EN then s
  else
    let t : Dev := { s with twn := { s.twn with heardAt := none, bulk := none } }
    (t.set R.TWN_STATUS_PAIRED 0).setMirror mDown

/-- ENTRY_COMMIT: no task is READY (R335); SRAMs switch off, DRAM enters self-refresh, M16 completes (R480 step 4). -/
def doEntryCommit (s : Dev) : Dev :=
  if s.pwr.coord ≠ .entering ∨ !s.allRetain ∨ s.tasksBlock then s
  else
    let s1 : Dev := { s with sup := { s.sup with regAtBivouac := s.registered } }
    let s2 := forEach stopOrder (s1.bistAbandon.actLost false).offHidden fun d t => (t.powerOff d).setDom d .off
    let s3 := (s2.resetV fun _ => true).setDom domDram .retain
    let s4 : Dev := { s3 with pwr := { s3.pwr with coord := .bivouac, held := none }, mem := { s3.mem with logged := [] } }
    let s5 := ((s4.pwrReq .enter 1 0x3F 0).pwrEvent 1 0x3F 0).mirrorAsleep
    (s5.set R.MOD_PACE_STATUS_SETTING 680).endTransit

/-- The first domain in the order of R480 that has not stopped for blocking work, and its reason; where every cluster sleeps, a READY task
refuses for the first cluster that it may use, or for cluster 0 (R335). -/
def Dev.refuser (s : Dev) : Option (Nat × Nat) :=
  let task := if s.tasksBlock then some ((s.readyList.flatMap fun x => s.usable x.2).head?.getD 0, whyTasks) else none
  (stopOrder.filterMap fun d => if s.dom d != .retain && s.blockReason d ≠ 0 then some (d, s.blockReason d) else none).head?.orElse fun _ => task

/-- ENTRY_LIMIT_EXPIRY: a domain that still has blocking work refuses, and entry is undone (R481). -/
def doEntryLimitExpiry (s : Dev) : Dev :=
  let n := s.get R.PWR_ENTRY_LIMIT_MS
  if s.pwr.coord ≠ .entering ∨ n = 0 then s
  else
    let t := s.until_ (s.pwr.reqStart + n * msTicks)
    match t.refuser with
    | none => t
    | some (d, why) =>
      let t1 : Dev := { t with pwr := { t.pwr with coord := .run, withdrawn := false, closed := false, held := none } }
      ((t1.revote.pwrReq .enter 4 d why).pwrEvent 3 d why).refuseTransit

-- The commands of this file.

/-- DOMAIN_STOP (R474). -/
def execDomainStop (dom : Fin 43) (s : State) : Host.Outcome State Fault Refusal := s.run (doDomainStop dom)

/-- DOMAIN_RETAIN (R474). -/
def execDomainRetain (dom : Fin 43) (s : State) : Host.Outcome State Fault Refusal := s.run (doDomainRetain dom)

/-- ACCESS_HOLD_EXPIRY (R473). -/
def execAccessHoldExpiry (dom : Fin 43) (s : State) : Host.Outcome State Fault Refusal := s.run (doAccessHoldExpiry dom)

/-- VOTE_HOST_WRITE (R483). -/
def execVoteHostWrite (lo : Word) (s : State) : Host.Outcome State Fault Refusal := s.run (doVoteHostWrite lo)

/-- ENTRY_COMMIT (R480). -/
def execEntryCommit (s : State) : Host.Outcome State Fault Refusal := s.run (doEntryCommit)

/-- ENTRY_LIMIT_EXPIRY (R481). -/
def execEntryLimitExpiry (s : State) : Host.Outcome State Fault Refusal := s.run (doEntryLimitExpiry)

end Sys2Proof.Machine
end

