-- ==== Sys2Proof/Machine/Supervisor.lean ====
section
/-!
DEFINITION. Sys2Proof/Machine/Supervisor.lean: resets, the supervisor's watchdogs, supplies and pace loop, wake edges, LEDs, the
acquisition limit, and the ends of timed transitions (04_modes_startup_reset.md R78, R83, R88 to R100; 22 R482, R484; 23
R497, R498, R501).
-/
namespace Sys2Proof.Machine

/-- A reset of kind k resets registers of a scope (R9). -/
def Scope.resetBy : Scope → ResetKind → Bool
  | .por, k => k == .powerOn
  | .hard, k => k != .soft
  | .soft, _ => true
  | .pitch, _ => true

/-- Registers that a reset of kind k keeps. -/
def Dev.keptRegs (s : Dev) (k : ResetKind) : List (Nat × Word) :=
  s.regs.filter fun x => match regRow x.1 with
    | some r => !(r.scope.resetBy k)
    | none => false

/-- What a SOFT reset keeps of the image (R35, R511). -/
def Img.afterSoft (x : Img) : Img :=
  { Img.init with staging := x.staging, store := x.store, storeValid := x.storeValid, storeEpoch := x.storeEpoch, storeSerial := x.storeSerial }

/-- What a SOFT reset keeps of the timebase: time, elapsed counts and the second that had its pulse; with WIDTH back at 0, PPS_OUT is
low (R281, R282). -/
def Tmb.afterSoft (x : Tmb) : Tmb :=
  { Tmb.init with time := x.time, run := x.run, ppsDone := x.ppsDone }

/-- Loops of the line ports end with TEST (R120). -/
def Dev.endLoops (s : Dev) : List Out := [Port.a, Port.b].flatMap fun p => if s.looped p then [Out.lineLoop p.ix false] else []

/-- What a reset ends on the pins: a pulse of PPS_OUT (R281), what the lanes send (R403), and, HARD or wider, transmissions of the line ports (R92). -/
def Dev.cutOutputs (s : Dev) (soft : Bool) : List Out :=
  (if s.ppsPin = some true then [Out.ppsOut false] else []) ++
    ((List.range 18).filterMap fun i => if s.laneTx i = .idle then none else some (Out.lane i .idle false)) ++ if soft then [] else [Port.a, Port.b].flatMap fun p => if s.transmits p then [Out.txCut p.ix] else []

/-- A reset of kind k begins: every operation, task and frame in flight ends unreported (R91, R92, Table 4-6); cause is a bit of
PLT_RESET_CAUSE. -/
def Dev.beginReset (s : Dev) (k : ResetKind) (cause : Nat) : Dev :=
  let i := Dev.init
  let soft := k == .soft
  let o := s.endLoops ++ s.cutOutputs soft ++ s.out
  let b : BelPort := { BelPort.init with since := s.ticks, beaconAt := s.ticks }
  { i with
    regs := s.keptRegs k
    ticks := s.ticks
    free := s.free
    lastRead := s.lastRead
    out := o
    sup := { i.sup with
      modeSince := s.ticks, inReset := some k, released := soft, booted := false, causes := setBit s.sup.causes cause,
      gpioExt := s.sup.gpioExt, heartbeat := s.sup.heartbeat }
    img := if soft then s.img.afterSoft else i.img
    hif := { i.hif with
      journal := [], pcie := .init, inBand := .init, remote := .init
      msix := if soft then s.hif.msix else []
      pba := if soft then s.hif.pba else 0
      link := if soft then s.hif.link else none
      cfg := if soft then s.hif.cfg else .init }
    trb := { i.trb with applied := soft && s.trb.applied }
    cph := if soft then { s.cph with keks := [], blob := [] } else i.cph
    tmb := if soft then s.tmb.afterSoft else i.tmb
    twn := { i.twn with arbIn := s.twn.arbIn }
    mem := { i.mem with
      errs := if soft then s.mem.errs else []
      pitons := if soft then s.mem.pitons else []
      degraded := if soft then s.mem.degraded else []
      lastSlice := s.ticks }
    bel := { i.bel with a := b, b := b } }

/-- PCIe training ends where the link is down (R53). -/
def Dev.trainLink (s : Dev) : Dev :=
  match s.hif.link with
  | some _ => s
  | none => let r := s.draw; { r.2 with hif := { r.2.hif with link := some (LinkState.trained r.1) } }

/-- BOOT_DONE: the reset ends in CONFIG by M1, with RESET_NOTICE as message 0 (R68, R90); the heartbeat's period, suspended in a
SOFT reset too, starts in full (R96). -/
def Dev.bootDone (s : Dev) : Dev :=
  match s.sup.inReset with
  | some k =>
    if !s.sup.released then s
    else
      let n := (s.rd R.HIF_BOOT_COUNT).toNat + 1
      let s1 := (s.wr R.HIF_BOOT_COUNT (BitVec.ofNat 32 n)).wr R.PLT_RESET_CAUSE (s.rd R.PLT_RESET_CAUSE ||| BitVec.ofNat 32 s.sup.causes)
      let s2 : Dev := { s1.trainLink with
        sup := { s1.sup with
          inReset := none, booted := true, causes := 0, heartbeat := if k == .soft then s1.ticks else s1.sup.heartbeat } }
      let s3 := s2.event 0x0182 (le 4 ((s2.rd R.HIF_BOOT_COUNT).toNat) ++ le 1 k.code)
      let s4 := (s3.trigger .reset).settle
      { s4 with sup := { s4.sup with hostWdog := s4.wdogFull } }
  | none => s

/-- RESET_RELEASE: every rail has been good for 20 ms and RST_N is high; the heartbeat's period starts in full (R96, R97). -/
def Dev.resetRelease (s : Dev) : Dev :=
  if !s.sup.running ∨ s.sup.released ∨ s.sup.inReset.isNone then s
  else
    let t := s.set R.PLT_SUPPLY_RAIL_OK 31
    { t with sup := { t.sup with released := true, heartbeat := t.ticks } }

/-- RST_N_LOW: a HARD reset (R497, Table 4-5). -/
def Dev.rstLow (s : Dev) : Dev := if s.sup.running then s.beginReset .hard 1 else s

/-- BROWNOUT: a HARD reset that names its rail (R97). -/
def Dev.brownout (s : Dev) (rail : Nat) : Dev :=
  if !s.sup.running then s
  else (((s.beginReset .hard 4).set R.PLT_RESET_CAUSE_RAIL rail).set (R.PLT_SUPPLY_RAIL_OK.at rail) 0)

/-- A PLT_EVENT (Table 4-9). -/
def Dev.pltEvent (s : Dev) (code : Nat) : Dev := s.event 0x0080 (le 1 code)

/-- AC_FAIL: mains loss is reported and does not reset the module (R98). -/
def Dev.acFail (s : Dev) : Dev :=
  if !s.sup.running ∨ !s.is R.PLT_SUPPLY_AC_OK then s
  else
    let t := s.set R.PLT_SUPPLY_AC_OK 0
    if s.sup.inReset.isSome then t else (t.raise R.PLT_IRQ_AC_FAIL).pltEvent 1

/-- AC_RESTORED: mains is valid again; during a reset only PLT_SUPPLY shows it (R98). -/
def Dev.acRestored (s : Dev) : Dev :=
  if !s.sup.running ∨ s.is R.PLT_SUPPLY_AC_OK then s
  else
    let t := s.set R.PLT_SUPPLY_AC_OK 1
    if s.sup.inReset.isSome then t else (t.raise R.PLT_IRQ_AC_RESTORED).pltEvent 2

/-- SUPERVISOR_STOPPED: the bulk falls below 120 V after its brown-out, with mains absent (R98). -/
def Dev.supStopped (s : Dev) : Dev :=
  if s.sup.running ∧ s.sup.inReset.isSome ∧ !s.sup.released ∧ !s.is R.PLT_SUPPLY_AC_OK ∧ s.get (R.PLT_SUPPLY_RAIL_OK.at 0) = 0 then
    { s with sup := { s.sup with running := false } }
  else s

/-- POWER_APPLIED: supply is applied to a module whose supervisor does not run; a power-on reset starts (Table 4-5). -/
def Dev.powerApplied (s : Dev) : Dev :=
  if s.sup.running then s
  else
    let t := { s with sup := { s.sup with causes := 0 } }.beginReset .powerOn 0
    (t.set R.PLT_SUPPLY_AC_OK 1).set R.PLT_SUPPLY_RAIL_OK 0

/-- WATCHDOG_PLATFORM: 500 ms since the last heartbeat; suspended while the device is held in reset (R94, R96). -/
def Dev.wdogPlatform (s : Dev) : Dev :=
  if s.sup.running ∧ s.sup.released ∧ s.sup.inReset ≠ some .soft then
    (s.until_ (s.sup.heartbeat + 500 * msTicks)).beginReset .hard 3
  else s

/-- A SOFT reset that waited for the wake from BIVOUAC, or that EXIT_TEST asked for, begins (R88, M19). -/
def Dev.resetDue (s : Dev) : Dev :=
  match s.sup.softPending with
  | some test => if s.sup.mode ≠ .bivouac ∧ s.sup.transit.isNone then s.beginReset .soft (if test then 6 else 5) else s
  | none => s

/-- SOFT_RESET: a write of PLT_RESET with its key; in BIVOUAC the module wakes first (R88). -/
def doSoftReset (v : Word) (s : Dev) : Dev :=
  if bits v.toNat 16 16 ≠ 0x534F then s
  else if s.sup.mode = .bivouac then ({ s with sup := { s.sup with softPending := some false } }.fire .wakeHost)
  else s.beginReset .soft 5

/-- A host request by register or message, and the reset that EXIT_TEST leads to (R79, M19). -/
def Dev.modReq (s : Dev) (r : HeldReq) : Dev × ReqResult := s.hostReq r

/-- The request that a REQ code names (MOD_REQ). -/
def reqOf : Nat → Option Req
  | 1 => some .bivouac
  | 2 => some .wake
  | 3 => some .test
  | 4 => some .exitTest
  | 5 => some .cancel
  | _ => none

/-- A write of MOD_REQ; an unlisted REQ is discarded (R8). -/
def Dev.modReqWrite (s : Dev) (v : Nat) : Dev :=
  match reqOf (bits v 0 4) with
  | some r => (s.modReq { req := r, key := bits v 16 16, src := .register }).1.resetDue
  | none => s

/-- ACQ_LIMIT_EXPIRY: MOD_ACQ_LIMIT after ACQUIRE was entered (R78). -/
def doAcqLimitExpiry (s : Dev) : Dev :=
  let n := s.get R.MOD_ACQ_LIMIT_MS
  if s.sup.mode ≠ .acquire ∨ n = 0 then s else (s.until_ (s.sup.acqSince + n * msTicks)).fire .acqLimit

/-- ACQ_LIMIT_WRITE: the limit is re-timed from the same entry instant; one already exceeded raises ACQ_LIMIT at once. -/
def doAcqLimitWrite (v : Word) (s : Dev) : Dev :=
  let n := bits v.toNat 0 16
  let t := s.set R.MOD_ACQ_LIMIT_MS n
  if t.sup.mode = .acquire ∧ n ≠ 0 ∧ t.sup.acqSince + n * msTicks ≤ t.ticks then t.fire .acqLimit else t

/-- The level that the outside drives on a GPIO pin. -/
def Dev.setGpio (s : Dev) (pin : Nat) (level : Bool) : Dev :=
  { s with sup := { s.sup with gpioExt := putBits s.sup.gpioExt pin 1 (b2n level) } }

/-- GPIO_WAKE_EDGE: an edge on a pin; an enabled one raises WAKE_GPIO (R78, MOD_WAKE_EN). -/
def doGpioWakeEdge (pin : Fin 8) (falling : Bool) (s : Dev) : Dev :=
  let t := s.setGpio pin (!falling)
  if !bit (s.get R.MOD_WAKE_EN_GPIO) pin || bit (s.get R.MOD_WAKE_EN_EDGE) pin != falling then t
  else
    let waking := t.sup.transit.isSome && t.pwr.coord == .exiting
    let old := if t.sup.heldTrig.contains .wakeGpio then t.sup.wakePins else 0
    let u : Dev := if waking then t else { t with sup := { t.sup with wakePins := setBit old pin } }
    u.fire .wakeGpio

/-- PACE_COMPARE: the loop moves the core voltage by 5 mV towards the target (R99); target 0 holds it at 0.68 V (R100). -/
def doPaceCompare (reading : BitVec 16) (s : Dev) : Dev :=
  if s.sup.mode = .bivouac then s
  else
    let r := reading.toNat
    let target := s.get R.MOD_PACE_TARGET_TARGET
    let v := s.get R.MOD_PACE_STATUS_SETTING
    let s1 := s.set R.MOD_PACE_STATUS_MEASURED r
    if target = 0 then
      (((s1.set R.MOD_PACE_STATUS_SETTING 680).set R.MOD_PACE_STATUS_SAT_HIGH 0).set R.MOD_PACE_STATUS_SAT_LOW 0)
    else
      let n := if r < target then min 850 (v + 5) else if 100 * r > 102 * target then max 680 (v - 5) else v
      let hi := decide (n = 850 ∧ r < target)
      let lo := decide (n = 680 ∧ r > target)
      let rose := (hi && !s.is R.MOD_PACE_STATUS_SAT_HIGH) || (lo && !s.is R.MOD_PACE_STATUS_SAT_LOW)
      let s2 := ((s1.set R.MOD_PACE_STATUS_SETTING n).setB R.MOD_PACE_STATUS_SAT_HIGH hi).setB R.MOD_PACE_STATUS_SAT_LOW lo
      if rose then (s2.raise R.MOD_IRQ_PACE_SAT).pltEvent 4 else s2

/-- WDOG_KICK: the pair 0x5A5A, 0xA5A5 is a kick; another pattern counts as BAD (R94, R95). -/
def doWdogKick (v : Word) (s : Dev) : Dev :=
  let p := bits v.toNat 0 16
  let second := s.is R.PLT_WDOG_STATUS_EXPECT
  if p = (if second then 0xA5A5 else 0x5A5A) then
    let t := s.setB R.PLT_WDOG_STATUS_EXPECT (!second)
    if second then { t with sup := { t.sup with hostWdog := if t.sup.hostWdog.isSome then t.wdogFull else none } } else t
  else s.count R.PLT_WDOG_STATUS_BAD 1

/-- WDOG_CFG_WRITE: a non-zero HOST_TIMEOUT arms the host source with a full period, 0 disables it (R94, R96). -/
def doWdogCfgWrite (v : Word) (s : Dev) : Dev :=
  let n := bits v.toNat 0 14
  if n ≠ 0 ∧ (n < 100 ∨ 10000 < n) then s
  else
    let t := (s.set R.PLT_WDOG_CFG_HOST_TIMEOUT n).set R.PLT_WDOG_STATUS_EXPECT 0
    { t with sup := { t.sup with hostWdog := if t.sup.mode = .bivouac ∨ t.sup.mode = .test then none else t.wdogFull } }

/-- WDOG_WARN: half of the host period has passed without a kick (R95). -/
def doWdogWarn (s : Dev) : Dev :=
  match s.sup.hostWdog with
  | some e =>
    if s.sup.wdogWarned = some e then s
    else
      let t := s.until_ (e - s.get R.PLT_WDOG_CFG_HOST_TIMEOUT * msTicks / 2)
      ({ t with sup := { t.sup with wdogWarned := some e } }.raise R.PLT_IRQ_WDOG_WARN).pltEvent 3
  | none => s

/-- WATCHDOG_HOST: the host period expires (R94). -/
def doWatchdogHost (s : Dev) : Dev :=
  match s.sup.hostWdog with
  | some e => (s.until_ e).beginReset .hard 2
  | none => s

/-- PLATFORM_HEARTBEAT_KICK (R94). -/
def doPlatformHeartbeatKick (s : Dev) : Dev := { s with sup := { s.sup with heartbeat := s.ticks } }

/-- The line source's front end is ready for the end of BIVOUAC (R482). -/
def Dev.sourceUp (s : Dev) : Bool :=
  match s.sourcePort with
  | some p => s.isUp (domLfe p)
  | none => true

/-- EXIT_DONE: DRAM, USR, THK and the line source's front end are ready and every cluster is restored (R482); timed
frames whose T passed meanwhile are late (R263). -/
def doExitDone (s : Dev) : Dev :=
  if s.pwr.coord ≠ .exiting ∨ !(s.isUp domDram && s.isUp domUsr && s.isUp domThk && s.sourceUp) then s
  else
    let d := s.pwr.doms.map fun x => if x = .off then DomSt.retain else x
    let s0 := forEach (List.range 32) s fun c t => t.wakeRestore c
    let s1 : Dev := { s0 with pwr := { s0.pwr with coord := .run, doms := d, held := none } }
    let s2 := ((s1.pwrReq .exit 1 0x3F 0).pwrEvent 2 0x3F 0).set R.MOD_PACE_STATUS_SETTING 750
    s2.latePassed.endTransit.revote.resetDue

/-- ALL_ON_DONE: every domain is ready and M3 completes (R484). -/
def doAllOnDone (s : Dev) : Dev :=
  match s.sup.transit with
  | some t => if t.row = 3 ∧ s.pwr.allOn ∧ s.allUp then s.finishAllOn.resetDue else s
  | none => s


/-- What an LED drive shows: off, on, or blinking at 1 Hz. -/
inductive Led where
  | off | on | blink
deriving DecidableEq, Repr

/-- LED_PWR_N, LED_LINE_N, LED_ROPE_N and LED_TWIN_N as 0 to 3 (R498, R501, PLT_LED). -/
def Dev.led (s : Dev) (n : Nat) : Led :=
  if s.pinsOff then .off
  else match bits (s.rd R.PLT_LED).toNat (2 * n) 2 with
    | 1 => .off
    | 2 => .on
    | 3 => .blink
    | _ => match n with
      | 0 => if s.sup.mode = .bivouac then .blink else .on
      | 1 => if s.sup.mode = .service then .on
          else if s.sup.mode = .acquire ∨ s.sup.mode = .range ∨ s.sup.mode = .island then .blink else .off
      | 2 => if (List.range 8).any (fun p => s.is (R.ROP_Pn_STATUS_ADJ_UP p)) then .on else .off
      | _ => match s.role with
        | .active => .on
        | .standby => .blink
        | .none => .off

/-- The level on a GPIO pin: what the module drives, else what the outside drives (PLT_GPIO_IN). -/
def Dev.gpioIn (s : Dev) : Nat :=
  ((List.range 8).map fun n => b2n ((s.gpioOut n).getD (bit s.sup.gpioExt n)) * 2 ^ n).sum

/-- POWER_APPLIED (R91). -/
def execPowerApplied (s : State) : Host.Outcome State Fault Refusal := s.always Dev.powerApplied

/-- RESET_RELEASE (R89). -/
def execResetRelease (s : State) : Host.Outcome State Fault Refusal := s.always Dev.resetRelease

/-- BOOT_DONE (R90). -/
def execBootDone (s : State) : Host.Outcome State Fault Refusal := s.always Dev.bootDone

/-- RST_N_LOW (R497). -/
def execRstNLow (s : State) : Host.Outcome State Fault Refusal := s.always Dev.rstLow

/-- WATCHDOG_PLATFORM (R94). -/
def execWatchdogPlatform (s : State) : Host.Outcome State Fault Refusal := s.always Dev.wdogPlatform

/-- BROWNOUT (R97). -/
def execBrownout (rail : Fin 5) (s : State) : Host.Outcome State Fault Refusal := s.always fun d => d.brownout rail

/-- AC_FAIL (R98). -/
def execAcFail (s : State) : Host.Outcome State Fault Refusal := s.always Dev.acFail

/-- AC_RESTORED (R98). -/
def execAcRestored (s : State) : Host.Outcome State Fault Refusal := s.always Dev.acRestored

/-- SUPERVISOR_STOPPED (R98). -/
def execSupervisorStopped (s : State) : Host.Outcome State Fault Refusal := s.always Dev.supStopped

-- The commands of this file.

/-- SOFT_RESET (R91). -/
def execSoftReset (v : Word) (s : State) : Host.Outcome State Fault Refusal := s.run (doSoftReset v)

/-- ACQ_LIMIT_EXPIRY (R78). -/
def execAcqLimitExpiry (s : State) : Host.Outcome State Fault Refusal := s.run (doAcqLimitExpiry)

/-- ACQ_LIMIT_WRITE (R78). -/
def execAcqLimitWrite (v : Word) (s : State) : Host.Outcome State Fault Refusal := s.run (doAcqLimitWrite v)

/-- GPIO_WAKE_EDGE (R78). -/
def execGpioWakeEdge (pin : Fin 8) (falling : Bool) (s : State) : Host.Outcome State Fault Refusal :=
  s.always fun d => if d.sup.inReset.isNone then doGpioWakeEdge pin falling d else d.setGpio pin (!falling)

/-- PACE_COMPARE (R99). -/
def execPaceCompare (reading : BitVec 16) (s : State) : Host.Outcome State Fault Refusal := s.run (doPaceCompare reading)

/-- WDOG_KICK (R94). -/
def execWdogKick (v : Word) (s : State) : Host.Outcome State Fault Refusal := s.run (doWdogKick v)

/-- WDOG_CFG_WRITE (R96). -/
def execWdogCfgWrite (v : Word) (s : State) : Host.Outcome State Fault Refusal := s.run (doWdogCfgWrite v)

/-- WDOG_WARN (R95). -/
def execWdogWarn (s : State) : Host.Outcome State Fault Refusal := s.run (doWdogWarn)

/-- WATCHDOG_HOST (R94). -/
def execWatchdogHost (s : State) : Host.Outcome State Fault Refusal := s.run (doWatchdogHost)

/-- PLATFORM_HEARTBEAT_KICK (R94). -/
def execPlatformHeartbeatKick (s : State) : Host.Outcome State Fault Refusal := s.run (doPlatformHeartbeatKick)

/-- EXIT_DONE (R482). -/
def execExitDone (s : State) : Host.Outcome State Fault Refusal := s.run (doExitDone)

/-- ALL_ON_DONE (R484). -/
def execAllOnDone (s : State) : Host.Outcome State Fault Refusal := s.run (doAllOnDone)

end Sys2Proof.Machine
end

