-- ==== Sys2Proof/Machine/HostRead.lean ====
section
/-!
DEFINITION. Sys2Proof/Machine/HostRead.lean: what registers and windows of BAR0 read as (00_scope.md R3 to R7, 03 R54, R55 and
Table 3-2; the register descriptions of spec/02 to spec/23).
-/
namespace Sys2Proof.Machine

/-- Which of n registers at a stride an address names. -/
def nth (a base stride n : Nat) : Option Nat :=
  if decide (base ≤ a) && (a - base) % stride == 0 && decide ((a - base) / stride < n) then some ((a - base) / stride) else none

/-- The word that holds a number. -/
def w32 (n : Nat) : Word := BitVec.ofNat 32 n

/-- A mask of the indices below n that satisfy f. -/
def maskOf (n : Nat) (f : Nat → Bool) : Nat := ((List.range n).map fun i => b2n (f i) * 2 ^ i).sum

/-- The low or the high word of a number, by the offset of a pair. -/
def halfOf (n i : Nat) : Word := w32 (n / 2 ^ (32 * i))

/-- State of a pitch as IMG_PITCH_STATE shows it. -/
def Dev.pitchCode (s : Dev) (p : Nat) : Nat :=
  if bit s.img.fault p then 3
  else match s.img.op with
    | some o => if !bit o.pitches p then 0
      else (match s.img.state with | .drain => 1 | .load | .reset | .enable => 2 | _ => 0)
    | none => 0

/-- Registers of PLT, HIF, IMG and MOD that other state decides. -/
def Dev.viewCore (s : Dev) (fz : Fuses) (a : Nat) : Option Word :=
  if a = R.PLT_WDOG_STATUS then
    some (w32 (putBits (putBits (s.rd a).toNat 0 14 (match s.sup.hostWdog with | some e => (e - s.ticks) / msTicks | none => 0)) 15 1
      (b2n s.sup.hostWdog.isSome)))
  else if a = R.PLT_GPIO_IN then some (w32 s.gpioIn)
  else if a = R.HIF_STATUS then
    some (w32 ((match s.hif.link with | some l => l.speed + 4 * l.width | none => 0) + 16 * b2n (s.is R.HIF_CTL_H2D_EN) + 32 * b2n (s.is R.HIF_CTL_D2H_EN && s.ringFull) +
      64 * b2n (s.is R.HIF_IB_PEER_HI_VALID) + 128 * b2n s.rmUp))
  else if a = R.IMG_PITCH_STATE then some (w32 ((List.range 16).map fun p => s.pitchCode p * 4 ^ p).sum)
  else if a = R.IMG_EPOCH then some (w32 (fz.epoch + 2 ^ 16 * fz.advances))
  else if a = R.IMG_KEYS then some (w32 (putBits (s.rd a).toNat 4 4 fz.revoked))
  else if a = R.MOD_STATUS then
    some (w32 (s.sup.mode.code + 2 ^ 4 * s.sup.prevMode.code + 2 ^ 8 * s.sup.lastTrigger + 2 ^ 16 * s.role.code +
      2 ^ 18 * b2n s.sup.transit.isSome + 2 ^ 19 * b2n s.registered + 2 ^ 20 * b2n s.sup.heldReq.isSome))
  else if a = R.MOD_MODE_TIME then some (w32 (sat 32 ((s.ticks - s.sup.modeSince) / msTicks)))
  else none

/-- Registers of LFE, ACT, BEL and TRB that other state decides. -/
def Dev.viewLine (s : Dev) (a : Nat) : Option Word :=
  if a = R.LFE_SEL then some (w32 (putBits (s.rd a).toNat 2 1 (b2n (s.activePort == some .b))))
  else if a = R.ACT_STATUS then some s.actStatus
  else if a = R.BEL_TX_STATUS then some s.belTxStatus
  else if a = R.BEL_x_BEACON_AGE 0 then some (s.beaconAge .a)
  else if a = R.BEL_x_BEACON_AGE 1 then some (s.beaconAge .b)
  else if a = R.TRB_IRQ then some (w32 (maskOf 16 fun n => s.rd (R.TRB_n_EVENTS n) &&& s.rd R.TRB_IRQ_EN != 0))
  else none

/-- Thicket slots in the partition of a template (THK_TMPLn_OCC). -/
def Dev.tmplOcc (s : Dev) (t : Nat) : Nat :=
  let f := 4096 * s.get (R.THK_TMPLn_CFG_BASE t)
  (s.thk.slots.filter fun x => decide (f ≤ x.1) && decide (x.1 < f + 4096 * s.get (R.THK_TMPLn_CFG_SIZE t))).length

/-- Registers of PRS and THK that other state decides. -/
def Dev.viewThk (s : Dev) (a : Nat) : Option Word :=
  if a = R.PRS_STATUS then
    some (match s.decl 9 with | some d => w32 (d.profiles.length + 2 ^ 16 * d.selUser.length) | none => 0)
  else if a = R.THK_VERSION then some (w32 (s.live + 2 ^ 16 * s.prevVer.getD 0xFFFF))
  else if a = R.THK_HOLDERS then some (w32 (match s.prevVer with | some v => sat 24 (s.holders v) | none => 0))
  else if a = R.THK_PENDING then some (w32 s.pendCount)
  else if a = R.THK_OCCUPANCY then some (w32 s.thk.slots.length)
  else if a = R.THK_MISSQ then some (w32 (putBits (s.rd a).toNat 0 13 s.thk.missQ.length))
  else (nth a (R.THK_TMPLn_OCC 0) 8 64).map fun t => w32 (s.tmplOcc t)

/-- A token count in whole bytes, two's complement. -/
def Bucket.word (b : Bucket) : Word := w32 (unsigned 32 (b.tokens / byteUnits))

/-- The selected policer. -/
def Dev.selPol (s : Dev) : Policer := s.policer (s.get R.SCH_POL_SEL_INDEX)

/-- Bytes queued for an egress, in KiB rounded up (SCH_Ee_BACKLOG). -/
def Dev.backlogKib (s : Dev) (e : Nat) : Nat := (((List.range 8).map fun c => s.backlog e c).sum + 1023) / 1024

/-- Registers of SCH that other state decides. -/
def Dev.viewSch (s : Dev) (a : Nat) : Option Word :=
  if a = R.SCH_STATUS then some (w32 (putBits (s.rd a).toNat 1 1 (b2n (decide (s.sharedFree ≤ 0)))))
  else if a = R.SCH_FRONT_USED then some (w32 s.frontUsed)
  else if a = R.SCH_DEEP_USED then some (w32 s.deepUsed)
  else if a = R.SCH_SHARED_FREE then some (w32 s.sharedFree.toNat)
  else if a = R.SCH_POL_RATE then some (w32 s.selPol.rate)
  else if a = R.SCH_POL_CFG then some (w32 (s.selPol.burst + 2 ^ 24 * b2n s.selPol.monitor))
  else if a = R.SCH_POL_TOKENS then some (s.refill s.selPol.rate s.selPol.burst s.selPol.bucket).word
  else if a = R.SCH_POL_OUT then some (w32 s.selPol.out)
  else if a < 0xB30000 then (nth a (R.SCH_Qn_DEPTH 0) 16 8192).map fun q => w32 (s.usedQ q)
  else if a < 0xB50000 then (nth a (R.SCH_SHn_TOKENS 0) 16 8192).map fun q => (s.shaper q).word
  else if a < 0xB60000 then (nth a (R.SCH_PSp_TOKENS 0) 16 64).map fun p => (s.portShaper p).word
  else if a < 0xB80000 then
    match nth a (R.SCH_Ee_STATUS 0) 256 18 with
    | some e => some (w32 (putBits (putBits (s.rd a).toNat 0 1 (b2n (s.egressDown e))) 16 13 (s.timedOf e).length))
    | none => (nth a (R.SCH_Ee_BACKLOG 0) 256 18).map fun e => w32 (s.backlogKib e)
  else if (a - 0xB80000) / 8192 = 0 ∨ (a - 0xB80000) / 8192 = 17 then some 0
  else none

/-- Seconds and nanoseconds that TMB_TIME_NS and TMB_TIME_SEC show: the latched ones, else the present ones (R269). -/
def Dev.timeShown (s : Dev) : Nat × Nat := s.tmb.timeLatch.getD (s.now.ns, s.now.sec)

/-- Registers of TMB and ENG that other state decides. -/
def Dev.viewEng (s : Dev) (a : Nat) : Option Word :=
  if a = R.TMB_TIME_NS then some (w32 s.timeShown.1)
  else if a = R.TMB_TIME_SEC_LO then some (w32 s.timeShown.2)
  else if a = R.TMB_TIME_SEC_HI then some (w32 (s.timeShown.2 / 2 ^ 32))
  else if a = R.TMB_TXS_LEVEL then some (w32 (s.tmb.txs.length + 2 ^ 16 * s.tmb.nextId))
  else if a = R.ENG_STATUS then some (w32 (maskOf 32 fun c => s.pitchUsed (c / 4 + 1)))
  else if a = R.ENG_TRAP_PEND then some (w32 (maskOf 32 fun c => s.is (R.ENG_c_TRAP_VALID c)))
  else if a = R.ENG_MSG_POOL then some (w32 s.msgPool)
  else if a < R.ENG_c_STATUS 0 then none
  else
    let c := (a - R.ENG_c_STATUS 0) / 256
    let o := (a - R.ENG_c_STATUS 0) % 256
    if c ≥ 32 then none
    else if o = 0 then
      some (w32 (maskOf 16 (fun e => (s.eng (16 * c + e)).st != .idle) + 2 ^ 16 * b2n (!s.isUp c) + 2 ^ 17 * b2n (s.tsk.fenced.contains c)))
    else if o = 8 then some (w32 (s.cluster c).pages)
    else if o = 12 then some (w32 (s.cluster c).allocs.length)
    else (nth o 0x40 4 16).map fun e =>
      let x := s.eng (16 * c + e)
      w32 (x.task + 2 ^ 16 * x.st.code + 2 ^ 20 * x.ops.length)

/-- READY tasks and engines that hold a task, of those that f selects by pitch. -/
def Dev.tskLoad (s : Dev) (f : Nat → Bool) : Nat :=
  (s.tsk.tasks.filter fun x => x.2.st == .ready && f x.2.pitch).length +
    2 ^ 17 * (s.engs.filter fun e => e.2.st != .idle && f (e.1 / 64 + 1)).length

/-- Registers of TSK and DMA that other state decides. -/
def Dev.viewTsk (s : Dev) (a : Nat) : Option Word :=
  if a = R.TSK_STATUS then some (w32 (s.tskLoad fun _ => true))
  else if a = R.TSK_CTX then
    let n := (s.tsk.tasks.filter fun x => x.2.ctx.isSome).length
    some (w32 (s.tsk.onDie.length + 2 ^ 10 * (n - s.tsk.onDie.length)))
  else match nth a (R.TSK_PITCH 0) 4 8 with
    | some p => some (w32 (s.tskLoad fun q => q == p + 1))
    | none => match nth a 0xE40000 4 65536 with
      | some i => some (w32 ((sget (0 : BitVec 128) (i / 4) s.tsk.trace).toNat / 2 ^ (32 * (i % 4))))
      | none => (nth a (R.DMA_u_STATUS 0) 4096 8).map fun u =>
        w32 ((match s.holder u with | some k => k + 16 | none => 0) + 2 ^ 16 * maskOf 16 fun k => s.chIs u k .ready)

/-- The selected slot of the slot window. -/
def Dev.selSlot (s : Dev) : Nat := s.get R.CPH_SLOT_SEL_INDEX

/-- Registers of CPH that other state decides. -/
def Dev.viewCph (s : Dev) (a : Nat) : Option Word :=
  let n := s.selSlot
  let x := s.slot n
  if a = R.CPH_STATUS then
    some (w32 (maskOf 16 (fun i => s.cph.keks.any (·.1.index == i)) + 2 ^ 17 * b2n (s.isUp domCphD) + 2 ^ 18 * b2n (s.isUp domCphU)))
  else if a = R.CPH_SLOT_INFO then
    some (w32 ((match x.cur with | some k => k.kind + 16 * k.an | none => 0) + 8 * b2n x.prev.isSome + 2 ^ 16 * x.gen))
  else if a = R.CPH_SLOT_HOLDERS then some (w32 (sat 24 (s.prevHolders n)))
  else if a = R.CPH_SLOT_PN_LO then some (halfOf x.pn 0)
  else if a = R.CPH_SLOT_PN_HI then some (halfOf x.pn 1)
  else if a = R.CPH_SLOT_RPN_LO then some (halfOf x.rpn 0)
  else if a = R.CPH_SLOT_RPN_HI then some (halfOf x.rpn 1)
  else if a = R.CPH_SLOT_REPLAY then some (w32 x.window)
  else if a = R.CPH_FLOW_SLOT then some (w32 (sget 0 (s.get R.CPH_FLOW_SEL_INDEX) s.cph.flowMap))
  else if a = R.CPH_SLOTS_USED then some (w32 (s.cph.slots.filter fun y => y.2.cur.isSome).length)
  else none

/-- Quanta left on the pause timer of a port, rounded up, or the value that waits (MAC_En_PAUSE_RX). -/
def Dev.pauseRemain (s : Dev) (n : Nat) : Nat :=
  let p := s.macP n
  match p.pauseWait, p.pauseEnd with
  | some v, _ => v + 2 ^ 16
  | none, some t =>
    let r := s.egressRate (n + 1)
    let q := 512 * r.2 * 2 ^ 32
    ((t - s.tmb.run) * r.1 + q - 1) / q
  | none, none => 0

/-- Registers of MAC, LAN and ROP that other state decides. -/
def Dev.viewPort (s : Dev) (a : Nat) : Option Word :=
  if a = R.MAC_STATUS then
    some (w32 (maskOf 8 (fun n => s.is (R.MAC_En_STATUS_LINK n)) + 2 ^ 8 * maskOf 8 fun n => s.is (R.MAC_En_STATUS_PAUSED n)))
  else if a = R.LAN_STATUS then some (w32 (maskOf 18 fun i => s.laneSt i == lsUp))
  else if a = R.ROP_ROUTE then
    some (match s.route (s.get R.ROP_ROUTE_SEL_ID) with
      | some r => w32 (r.primary + 8 * b2n r.alt.isSome + 16 * r.alt.getD 0 + 2 ^ 7 + 2 ^ 8 * r.cost)
      | none => 0)
  else if a = R.ROP_ROUTE_SERIAL_LO ∨ a = R.ROP_ROUTE_SERIAL_HI then
    some (halfOf (match s.inUse.find? fun r => r.id == s.get R.ROP_ROUTE_SEL_ID with | some r => r.serial | none => 0)
      (if a = R.ROP_ROUTE_SERIAL_LO then 0 else 1))
  else (nth a (R.MAC_En_PAUSE_RX 0) 256 8).map fun n => w32 (s.pauseRemain n)

/-- Registers of TWN, MEM and PWR that other state decides. -/
def Dev.viewPwr (s : Dev) (a : Nat) : Option Word :=
  if a = R.TWN_STATUS then some s.twnStatus
  else if a = R.MEM_STATUS then some s.memStatus
  else if a = R.MEM_PITON_STATUS then some s.pitonStatus
  else if a = R.MEM_INST_STATUS then some s.instStatus
  else if a = R.MEM_INST_PITON then some s.instPiton
  else if a = R.MEM_LOG_POP then some (w32 (putBits (s.rd a).toNat 16 5 s.mem.log.length))
  else if a = R.PWR_STATUS then
    some (w32 (s.pwr.coord.code + 4 * b2n (s.pwr.readWakes != 0) + 8 * b2n s.pwr.held.isSome))
  else if a = R.PWR_UP_LO ∨ a = R.PWR_UP_HI then some (halfOf (maskOf domCount s.isUp) ((a - R.PWR_UP_LO) / 4))
  else if a = R.PWR_HOLD_LO ∨ a = R.PWR_HOLD_HI then some (halfOf (maskOf domCount s.held) ((a - R.PWR_HOLD_LO) / 4))
  else (nth a (R.PWR_VOTE_LO_c 0) 4 12).map fun i => halfOf (s.voteMask (i / 2)) (i % 2)

/-- What a register that other state decides reads as, none for a register that is stored. -/
def Dev.view (s : Dev) (fz : Fuses) (a : Nat) : Option Word :=
  match a / 2 ^ 20 with
  | 0 | 1 | 2 | 3 => s.viewCore fz a
  | 4 | 5 | 6 | 7 | 8 => s.viewLine a
  | 9 | 10 => s.viewThk a
  | 11 => s.viewSch a
  | 12 | 13 => s.viewEng a
  | 14 | 15 => s.viewTsk a
  | 16 => s.viewCph a
  | 17 | 18 | 19 => s.viewPort a
  | _ => s.viewPwr a

/-- What the register at an address shows now. -/
def Dev.regView (s : Dev) (fz : Fuses) (a : Nat) : Word := (s.view fz a).getD (s.rd a)

/-- Bits of a register that show a measurement the spec gives no value for. -/
def Dev.measuredBits (s : Dev) (a : Nat) : Nat :=
  let port (p : Port) : Nat :=
    let ready := s.powered p && s.is (R.LFE_x_STATUS_READY p.ix)
    if a = R.LFE_x_LASER p.ix then (if s.tecRuns p then 0xFFFF0000 else 0)
    else if a = R.LFE_x_TEC p.ix then (if s.tecRuns p then 0xFFFF0000 else 0)
    else if a = R.LFE_x_EYE p.ix then (if ready then 0xFFFFFF else 0)
    else 0
  if a = R.PLT_CORE_MV then 0x3FF
  else if a = R.PLT_TEMP then 0xFFFF
  else if a / 2 ^ 20 = 4 then port .a + port .b
  else 0

/-- The shadow of a high word, if an unused one stands (R3). -/
def Dev.shadow (s : Dev) (hi : Nat) : Option Word := (s.shadows.find? (·.1 == hi)).map (·.2)
def Dev.dropShadow (s : Dev) (hi : Nat) : Dev := { s with shadows := s.shadows.filter (·.1 != hi) }

/-- A read of a register whose row is r: its value, and the side effects of the read (R3, R4). -/
def Dev.readRow (s : Dev) (fz : Fuses) (r : RegRow) (a : Nat) : Dev × Word :=
  let v := s.regView fz a
  match r.part with
  | .lo => ({ s.dropShadow (a + r.pairOff) with shadows := (a + r.pairOff, s.regView fz (a + r.pairOff)) :: (s.dropShadow (a + r.pairOff)).shadows }, v)
  | .hi => (s.dropShadow a, (s.shadow a).getD v)
  | .none =>
    let m := s.measuredBits a
    let k := s.free
    let s1 := if r.rc = 0 then s else s.wr a (s.rd a &&& ~~~(w32 r.rc))
    if m = 0 then (s1, v) else (s1.draw.2, (v &&& ~~~(w32 m)) ||| (Config.measured a k &&& w32 m))

/-- Registers whose read does more: TMB time, line and PPS captures (R269, R273, R275), and counters of a selected policer. -/
def Dev.readReg (s : Dev) (fz : Fuses) (r : RegRow) (a : Nat) : Dev × Word :=
  if a = R.TMB_TIME_FRAC then (s.latchTime, s.timeFrac)
  else if a = R.TMB_LINE_DEV then (s.latchLine, s.rd a)
  else if a = R.TMB_PPS_IN_NS then (s.latchPps, s.rd a)
  else if a = R.TMB_TIME_SEC_LO ∨ a = R.TMB_TIME_SEC_HI then (s, s.regView fz a)
  else if a = R.SCH_POL_OUT then (s.setPolicer (s.get R.SCH_POL_SEL_INDEX) { s.selPol with out := 0 }, s.regView fz a)
  else s.readRow fz r a

/-- The word that bytes hold. -/
def wordOf (l : List Byte) : Word := w32 (ofLe l)

/-- An address in the window of a cluster: the cluster, and what lies there (Table 13-3). -/
inductive Win where
  | iram (o : Nat) | shared (a : Nat) | scratch (e a : Nat)
deriving DecidableEq, Repr

/-- Table 13-3. -/
def winOf (o : Nat) : Option Win :=
  if o < 0x20000 then some (.iram o)
  else if 0x40000 ≤ o ∧ o < 0x80000 then some (.shared (o - 0x40000 + 0x10000))
  else if 0x80000 ≤ o ∧ o < 0xC0000 then some (.scratch ((o - 0x80000) / 0x4000) ((o - 0x80000) % 0x4000))
  else none

/-- The window that a BAR0 address lies in: cluster and content; none where unmapped (R288). -/
def Dev.window (s : Dev) (a : Nat) : Option (Nat × Win) :=
  if a < 0x2000000 ∨ 0x4000000 ≤ a then none
  else
    let c := (a - 0x2000000) / 0x100000
    if !s.pitchUsed (c / 4 + 1) then none else (winOf ((a - 0x2000000) % 0x100000)).map fun w => (c, w)

/-- Who reads or writes a window's data memory. -/
def Win.who (c : Nat) : Win → Who
  | .scratch e _ => .hostEng (16 * c + e)
  | _ => .host

/-- Its address as engines see it. -/
def Win.addr : Win → Nat
  | .iram o => o
  | .shared a => a
  | .scratch _ a => a

/-- A window word read; one that cannot be corrected reads a free value (Table 21-2, R467). -/
def Dev.readWin (s : Dev) (c : Nat) (w : Win) (a : Nat) : Dev × Word :=
  let lost (t : Dev) : Dev × Word := let r := t.draw; (r.2, Config.measured a r.1)
  match w with
  | .iram o =>
    let r := s.memRead srcHost (Config.codeWord c (8 * (o / 8)))
    match r.2 with
    | some x => (r.1, wordOf (List.zipWith (fun (b : Byte) i => b ^^^ flipByte x (o + i)) (sbytes (s.cluster c).iram o 4) (List.range 4)))
    | none => lost r.1
  | _ => match s.dataRead c (w.who c) w.addr 4 0 with
    | .ok t v => (t, wordOf v)
    | .err t _ => lost t
    | .fill t _ => lost t

/-- A read of a BAR0 address whose domain takes accesses: the value, with its side effects (R54, R55). -/
def Dev.readNow (s : Dev) (fz : Fuses) (a : Nat) : Dev × Word :=
  if a % 4 ≠ 0 then (s.raise R.HIF_ERR_UNMAPPED, 0)
  else if 0x1700000 ≤ a ∧ a < 0x1700200 then (s, s.msixWord ((a - 0x1700000) / 4))
  else if a = 0x1701000 then (s, w32 s.hif.pba)
  else if a = 0x1701004 then (s, 0)
  else match s.window a, regRow a with
    | some (c, w), _ => s.readWin c w a
    | none, some r => s.readReg fz r a
    | none, none => (s.raise R.HIF_ERR_UNMAPPED, 0)

/-- A read of BAR0: a word; or, at an address within a word, the bytes from there on (one at an odd address, else two), with the effects of
a read of the whole word (R54; the row of a read gives no width, DESIGN CHOICE). -/
def Dev.readAt (s : Dev) (fz : Fuses) (a : Nat) : Dev × Word :=
  let r := s.readNow fz (a / 4 * 4)
  (r.1, if a % 4 = 0 then r.2 else w32 (bits r.2.toNat (8 * (a % 4)) (if a % 2 = 1 then 8 else 16)))

/-- The BAR0 address holds something. -/
def Dev.mapped (s : Dev) (a : Nat) : Bool :=
  a % 4 == 0 && ((decide (0x1700000 ≤ a) && decide (a < 0x1700200)) || a == 0x1701000 || a == 0x1701004 || (s.window a).isSome ||
    (regRow a).isSome)

end Sys2Proof.Machine
end

