-- ==== Sys2Proof/Machine/HostWrite.lean ====
section
/-!
DEFINITION. Sys2Proof/Machine/HostWrite.lean: what a host write to BAR0 does (00_scope.md R3 to R8, 03 R54, R55, R62 to R66; the
register descriptions of spec/03 to spec/23). IMG_CMD is Machine/Image.lean's.
-/
namespace Sys2Proof.Machine

/-- The word a register holds after a write: its writable bits take the value, and a field whose encoding its table does not
list keeps the one it had (R4, R7, R8). -/
def RegRow.merge (r : RegRow) (old v : Word) : Word :=
  r.legal.foldl (fun w f => if f.2.2.any fun x => decide (x.1 ≤ bits v.toNat f.1 f.2.1) && decide (bits v.toNat f.1 f.2.1 ≤ x.2) then w
    else w32 (putBits w.toNat f.1 f.2.1 (bits old.toNat f.1 f.2.1))) ((old &&& ~~~(w32 r.rw)) ||| (v &&& w32 r.rw))

/-- A register whose bits are causes of an interrupt vector. -/
def causeReg (a : Nat) : Bool := (vecRegs (vecOf a)).any (·.1 == a)

/-- Bits written 1 to a W1C register cleared (R4, R56). -/
def Dev.clearBits (s : Dev) (a : Nat) (v : Word) : Dev := if causeReg a then s.clearCause a v else s.wr a (s.rd a &&& ~~~v)

/-- A write of a register by its access codes: a high word is held for its low word (R3); an enable bit may signal (R56). -/
def Dev.plainWrite (s : Dev) (r : RegRow) (a : Nat) (v : Word) : Dev :=
  match r.part with
  | .hi => if r.rw = 0 then s else { s with heldHigh := (a, v) :: (s.dropHeld a).heldHigh }
  | .lo =>
    let hi := a + r.pairOff
    if r.rw = 0 then s
    else
      let h := match regRow hi with | some q => q.merge (s.rd hi) (s.highFor hi) | none => s.rd hi
      ((s.dropHeld hi).wr hi h).wr a (r.merge (s.rd a) v)
  | .none =>
    let t := if r.w1c = 0 then s else s.clearBits a (v &&& w32 r.w1c)
    if r.rw = 0 then t else (t.irq (vecOf a) fun u => u.wr a (r.merge (u.rd a) v)).unpend (vecOf a)

/-- The same for the register at an address. -/
def Dev.plain (s : Dev) (a : Nat) (v : Word) : Dev :=
  match regRow a with
  | some r => s.plainWrite r a v
  | none => s.raise R.HIF_ERR_UNMAPPED

/-- Host memory that a fetch reads where its command carries no data: n bytes from an address. -/
def hostBytes (a k n : Nat) : List Byte := (List.range n).map fun i => Config.hostByte (a + i) k

/-- HIF_CTL_WRITE: an enable that goes from 0 to 1 sets its ring's HEAD and TAIL to 0; the D2H ring then begins with the next
message (R62, R64). -/
def doHifCtlWrite (v : Word) (s : Dev) : Dev :=
  let h2d := bit v.toNat 0 && !s.is R.HIF_CTL_H2D_EN
  let d2h := bit v.toNat 1 && !s.is R.HIF_CTL_D2H_EN
  let s1 := if h2d then (s.set R.HIF_H2D_HEAD_INDEX 0).set R.HIF_H2D_TAIL_INDEX 0 else s
  let s2 := if d2h then
      ({ s1 with hif := { s1.hif with phase := true, pcie := { s1.hif.pcie with next := s1.nextSeq, replay := none } } }.set
        R.HIF_D2H_HEAD_INDEX 0).set R.HIF_D2H_TAIL_INDEX 0
    else s1
  (s2.wr R.HIF_CTL (v &&& 0x3F)).pump

/-- Entries of the H2D ring that are posted and not fetched (R63). -/
def Dev.h2dPosted (s : Dev) : Nat := (s.get R.HIF_H2D_TAIL_INDEX + s.h2dSize - s.get R.HIF_H2D_HEAD_INDEX) % s.h2dSize

/-- Entries fetched in order from HEAD, as far as they are posted (R63). -/
def Dev.h2dFetch (s : Dev) (entries : List (List Byte)) : Dev :=
  let l := entries.take s.h2dPosted
  { s with hif := { s.hif with pcie := { s.hif.pcie with inbox := s.hif.pcie.inbox ++ l.map HMsg.ofBytes } } }.set R.HIF_H2D_HEAD_INDEX
    ((s.get R.HIF_H2D_HEAD_INDEX + l.length) % s.h2dSize)

/-- A write of HIF_H2D_TAIL, and the fetch of what is posted; entries: what host memory holds (R63). -/
def Dev.h2dTail (s : Dev) (v : Word) (entries : Dev → List (List Byte)) : Dev :=
  let n := v.toNat % 4096
  if s.h2dSize ≤ n then s.raise R.HIF_ERR_TAIL_RANGE
  else
    let t := s.set R.HIF_H2D_TAIL_INDEX n
    if t.is R.HIF_CTL_H2D_EN then t.h2dFetch (entries t) else t

/-- H2D_TAIL_WRITE: entries that are posted and not among those given are fetched later (R63). -/
def doH2dTailWrite (v : Word) (entries : List (BitVec 512)) (s : Dev) : Dev := s.h2dTail v fun _ => entries.map fun e => le 64 e.toNat

/-- The same by a register write: what host memory holds is a free value. -/
def Dev.h2dTailFree (s : Dev) (v : Word) : Dev :=
  let (k, t) := s.draw
  t.h2dTail v fun u => (List.range u.h2dPosted).map fun i =>
    hostBytes (u.rd64 R.HIF_H2D_BASE_LO + 64 * ((u.get R.HIF_H2D_HEAD_INDEX + i) % u.h2dSize)) k 64

/-- H2D_FETCH_ERROR: a PCIe error as a posted entry is fetched (R63). -/
def doH2dFetchError (s : Dev) : Dev :=
  if !s.is R.HIF_CTL_H2D_EN ∨ s.h2dPosted = 0 then s else (s.set R.HIF_CTL_H2D_EN 0).raise R.HIF_ERR_H2D_FETCH

/-- D2H_HEAD_WRITE: from the present HEAD to TAIL, else discarded (R64). -/
def doD2hHeadWrite (v : Word) (s : Dev) : Dev :=
  let n := v.toNat % 4096
  let size := s.d2hSize
  let head := s.get R.HIF_D2H_HEAD_INDEX
  if n < size ∧ (n + size - head) % size ≤ (s.get R.HIF_D2H_TAIL_INDEX + size - head) % size then s.set R.HIF_D2H_HEAD_INDEX n
  else s.raise R.HIF_ERR_HEAD_RANGE

/-- D2H_RING_RESUME: writing resumes at the oldest unwritten message that the journal holds (R65). -/
def doD2hRingResume (s : Dev) : Dev := s.pumpRing

/-- COALESCE_TIMER_EXPIRY: TIME µs after the first message not signalled (R66). -/
def doCoalesceTimerExpiry (s : Dev) : Dev :=
  let n := s.get R.HIF_D2H_COAL_TIME
  if n = 0 ∨ s.hif.unsignalled = 0 then s else (s.until_ (s.hif.firstUnsignalled + n * usTicks)).raiseRing

/-- An MSI-X table word written; an unmasked vector that is pending is signalled (PCI Express Base 3.0, PRESUMED). -/
def Dev.msixWrite (s : Dev) (i : Nat) (v : Word) : Dev :=
  let t := s.setMsixWord i (if i % 4 = 3 then v &&& 1 else v)
  let n := i / 4
  if i % 4 = 3 ∧ !bit v.toNat 0 ∧ bit t.hif.pba n then { t with hif := { t.hif with pba := clrBit t.hif.pba n } }.signal n else t

/-- A write to a cluster window (R288, R454). -/
def Dev.winWrite (s : Dev) (c : Nat) (w : Win) (v : Word) : Dev :=
  match w with
  | .iram _ => (s.countR R.ENG_WIN_WRITES 1).raise R.ENG_IRQ_WIN_WRITE
  | _ => match s.dataWrite c (w.who c) w.addr (le 4 v.toNat) false 0 with
    | .ok t _ => t
    | .err t _ => t
    | .fill t _ => t

/-- Writes to PLT, HIF and MOD that act. -/
def Dev.writeCore (s : Dev) (a : Nat) (v : Word) : Dev :=
  if a = R.PLT_RESET then doSoftReset v s
  else if a = R.PLT_WDOG_CFG then doWdogCfgWrite v s
  else if a = R.PLT_WDOG_KICK then doWdogKick v s
  else if a = R.HIF_CTL then doHifCtlWrite v s
  else if a = R.HIF_H2D_TAIL then s.h2dTailFree v
  else if a = R.HIF_D2H_HEAD then doD2hHeadWrite v s
  else if (a = R.HIF_H2D_BASE_LO ∨ a = R.HIF_H2D_BASE_HI ∨ a = R.HIF_H2D_SIZE) ∧ s.is R.HIF_CTL_H2D_EN then s
  else if (a = R.HIF_D2H_BASE_LO ∨ a = R.HIF_D2H_BASE_HI ∨ a = R.HIF_D2H_SIZE) ∧ s.is R.HIF_CTL_D2H_EN then s
  else if a = R.MOD_REQ then s.modReqWrite v.toNat
  else if a = R.MOD_ACQ_LIMIT then doAcqLimitWrite v s
  else s.plain a v

/-- A write of LFE_x_CTL: the settings, then ROGUE_CLR and CAL_START (R109, R115). -/
def Dev.lfeCtl (s : Dev) (p : Port) (v : Word) : Dev :=
  let t := s.plain (R.LFE_x_CTL p.ix) v
  let u := if bit v.toNat 3 then let r := t.draw; doRogueClr p (Config.rogueLight r.1) r.2 else t
  (if bit v.toNat 4 then doCalStart p u else u).settle

/-- A write of LFE_x_TEST: discarded outside TEST; LOOP closes or opens the loop (R120). -/
def Dev.lfeTest (s : Dev) (p : Port) (v : Word) : Dev :=
  if s.sup.mode ≠ .test then s
  else
    let t := s.plain (R.LFE_x_TEST p.ix) v
    if t.looped p = s.looped p then t else t.emit (.lineLoop p.ix (t.looped p))

/-- Writes to LFE, LFR, ACT, BEL and TRB that act. -/
def Dev.writeLine (s : Dev) (a : Nat) (v : Word) : Dev :=
  let n := v.toNat
  if a = R.LFE_SEL then doPortSelect (if bit n 2 then .b else .a) (s.plain a v)
  else if a = R.LFE_x_CTL 0 then s.lfeCtl .a v
  else if a = R.LFE_x_CTL 1 then s.lfeCtl .b v
  else if a = R.LFE_x_TEST 0 then s.lfeTest .a v
  else if a = R.LFE_x_TEST 1 then s.lfeTest .b v
  else if a = R.LFR_DS_CFG then doDsCfgWrite v s
  else if a = R.ACT_CTL then (let t := doSnEnWrite (bit n 0) s; if bit n 1 then doActRestart t else t)
  else if a = R.BEL_CTL then (let t := s.plain a v; if bit n 2 then doStatusReq t else t)
  else if a = R.BEL_x_DS_CODE 0 then doDsCodeWrite .a v s
  else if a = R.BEL_x_DS_CODE 1 then doDsCodeWrite .b v s
  else if a = R.TRB_ENABLE then (s.plain a v).tapsKept
  else match nth a (R.TRB_n_CFG 0) 64 16 with
    | some k => (s.plain a (if s.sup.mode = .test then v else w32 (putBits n 9 2 (bits (s.rd a).toNat 9 2)))).trbCfgWritten s k
    | none => s.plain a v

/-- THK_OP (Table 10-5); an operation not listed is discarded. -/
def Dev.thkOpWrite (s : Dev) (n : Nat) : Dev :=
  let t := bits n 4 6
  let i := bits n 16 12
  match bits n 0 4 with
  | 1 => s.thkHost 1 t
  | 2 => s.thkHost 2 t
  | 3 => s.thkHost 3 t
  | 4 => s.thkLookup t (bit n 10)
  | 5 => doHedgeWrite (Fin.ofNat 4096 i) s
  | 6 => doHedgeClear (Fin.ofNat 4096 i) s
  | _ => s

/-- Records of a batch that a register write starts: what host memory holds is a free value. -/
def Dev.batchFree (s : Dev) (v : Word) : Dev :=
  let (k, t) := s.draw
  doThkBatch v ((List.range (v.toNat % 2 ^ 20)).map fun i => some (BitVec.ofNat 512 (ofLe (hostBytes (t.rd64 R.THK_BATCH_LO + 64 * i) k 64)))) t

/-- Writes to THK that act. -/
def Dev.writeThk (s : Dev) (a : Nat) (v : Word) : Dev :=
  if a = R.THK_OP then s.thkOpWrite v.toNat
  else if a = R.THK_COMMIT then (if bit v.toNat 1 then doThkAbort s else if bit v.toNat 0 then doCommitGo s else s)
  else if a = R.THK_BATCH_CMD then s.batchFree v
  else s.plain a v

/-- Writes of SCH_Ee registers: a committed list holds its entries, cycle and base; ABORT beside COMMIT acts alone (R255). -/
def Dev.writeEgress (s : Dev) (e o : Nat) (a : Nat) (v : Word) : Dev :=
  let held := s.is (R.SCH_Ee_STATUS_PEND_COMMITTED e)
  if o = 0x10 then
    let t := s.plain a v
    if bit v.toNat 13 then t.gclAbort e else if bit v.toNat 12 then t.gclCommit e else t
  else if (o = 0x14 ∨ o = 0x18 ∨ o = 0x1C ∨ o = 0x20) ∧ held then s
  else s.plain a v

/-- Writes to SCH that act. -/
def Dev.writeSch (s : Dev) (a : Nat) (v : Word) : Dev :=
  if a = R.SCH_POL_RATE then s.tokenRate .policer v
  else if a = R.SCH_POL_CFG then s.tokenBurst .policer v
  else if a < R.SCH_Qn_CFG 0 then s.plain a v
  else if a < R.SCH_SHn_RATE 0 then 
    match nth a (R.SCH_Qn_RESV 0) 16 8192, nth a (R.SCH_Qn_CFG 0) 16 8192 with
    | some q, _ => s.resvWrite q v
    | none, some q => (s.plain a v).retag q
    | none, none => s.plain a v
  else if a < R.SCH_PSp_RATE 0 then
    let n := Fin.ofNat 8192 ((a - R.SCH_SHn_RATE 0) / 16)
    match (a - R.SCH_SHn_RATE 0) % 16 with
    | 0 => s.tokenRate (.shaper n) v
    | 4 => s.tokenBurst (.shaper n) v
    | _ => s.plain a v
  else if a < R.SCH_Ee_CFG 0 then
    match nth a (R.SCH_PSp_RATE 0) 16 64, nth a (R.SCH_PSp_CFG 0) 16 64 with
    | some p, _ => s.tokenRate (.portShaper (Fin.ofNat 64 p)) v
    | none, some p => s.tokenBurst (.portShaper (Fin.ofNat 64 p)) v
    | none, none => s.plain a v
  else if a < R.SCH_Ee_GCLi 0 0 then
    let e := (a - R.SCH_Ee_CFG 0) / 256
    if e < 18 then s.writeEgress e ((a - R.SCH_Ee_CFG 0) % 256) a v else s.plain a v
  else
    let e := (a - R.SCH_Ee_GCLi 0 0) / 8192
    if e = 0 ∨ e = 17 ∨ s.is (R.SCH_Ee_STATUS_PEND_COMMITTED e) then s else s.plain a v

/-- TSK_CMD; a command not listed is discarded. -/
def Dev.tskCmd (s : Dev) (n : Nat) : Dev :=
  match bits n 0 4 with
  | 1 => doTskWrite s
  | 2 => doTskRead s
  | 3 => doTskFree s
  | 4 => doTskSetFlags s
  | 5 => doTskClearFlags s
  | 6 => doTaskRestart s
  | _ => s

/-- Writes to TMB, ENG and TSK that act. -/
def Dev.writeTsk (s : Dev) (a : Nat) (v : Word) : Dev :=
  if a = R.TMB_INCR_LO then doIncrWrite v s
  else if a = R.TMB_ADJ_CTL then s.adjCtl v
  else if a = R.TMB_LINE_CFG then (s.plain a v).lineWinWritten
  else if a = R.TMB_REF_CFG then (s.plain a v).refWinWritten
  else if a = R.TMB_PPS_CFG then (s.plain a v).ppsHeld
  else if a = R.TMB_TXS_POP then (if bit v.toNat 0 then doTxsPop s else s)
  else if a = R.TSK_CMD then s.tskCmd v.toNat
  else if a = R.TSK_TRACE_CFG then (let t := s.plain a v; if bit v.toNat 0 then t.set R.TSK_TRACE_CFG_FROZEN 0 else t)
  else s.plain a v

/-- A write of a channel's CTL: STOP acts and GO beside it is discarded; CLEAR (R351). -/
def Dev.chCtl (s : Dev) (u k : Nat) (v : Word) : Dev :=
  let t := s.ctlFields u k v
  let t := if bit v.toNat 12 then t.chStop u k else if bit v.toNat 0 then t.chGo u k else t
  if bit v.toNat 13 then t.chClear u k else t

/-- Writes to DMA that act. -/
def Dev.writeDma (s : Dev) (a : Nat) (v : Word) : Dev :=
  if a = R.DMA_HPATH_CTL then doHpathCtlWrite v s
  else if a = R.DMA_HRX_TAIL then doHostRingTailWrite false v s
  else if a = R.DMA_HTX_TAIL then doHostRingTailWrite true v s
  else if (a = R.DMA_HRX_BASE_LO ∨ a = R.DMA_HRX_BASE_HI ∨ a = R.DMA_HRX_SIZE) ∧ s.is R.DMA_HPATH_CTL_HRX_EN then s
  else if (a = R.DMA_HTX_BASE_LO ∨ a = R.DMA_HTX_BASE_HI ∨ a = R.DMA_HTX_SIZE) ∧ s.is R.DMA_HPATH_CTL_HTX_EN then s
  else if a < R.DMA_u_STATUS 0 then s.plain a v
  else
    let u := (a - R.DMA_u_STATUS 0) / 4096
    let o := (a - R.DMA_u_STATUS 0) % 4096
    if u ≥ 8 ∨ o < 0x100 ∨ o ≥ 0x500 then s.plain a v
    else
      let k := (o - 0x100) / 64
      match (o - 0x100) % 64 with
      | 0x0C => s.chCtl u k v
      | 0x18 | 0x1C | 0x20 => if s.chIs u k .idle then s.plain a v else s
      | _ => s.plain a v

/-- A write of CPH_CMD; a command not listed is discarded. Whether a known-answer test passes is a free value. -/
def Dev.cphCmd (s : Dev) (n : Nat) : Dev :=
  let slot := Fin.ofNat 4096 (bits n 16 12)
  match bits n 0 4 with
  | 1 => doUnwrap (Fin.ofNat 16 (bits n 4 4)) (bit n 8) slot s
  | 2 => doErase slot s
  | 3 => doEraseAll s
  | 4 => let (k, t) := s.draw; doKat (bit (Config.measured R.CPH_CMD k).toNat 0) t
  | _ => s

/-- Writes to CPH that act. -/
def Dev.writeCph (s : Dev) (a : Nat) (v : Word) : Dev :=
  if a = R.CPH_CMD then s.cphCmd v.toNat
  else if a = R.CPH_SLOT_REPLAY then
    if s.selSlot < 4096 then s.setSlot s.selSlot { s.slot s.selSlot with window := v.toNat } else s
  else if a = R.CPH_FLOW_SLOT then
    let f := s.get R.CPH_FLOW_SEL_INDEX
    if f = 65535 then s else { s with cph := { s.cph with flowMap := sset 0 f (v &&& 0x8FFF).toNat s.cph.flowMap } }
  else match nth a (R.CPH_BLOB 0) 4 18 with
    | some i => { s with cph := { s.cph with blob := sset 0 i v s.cph.blob } }
    | none => s.plain a v

/-- Queues of each rope egress (K of R416). -/
def Dev.ropeK (s : Dev) : Nat := (s.queuesOf 9).length

/-- ROP_FAB_CFG: queue indices of K or above are discarded. -/
def Dev.fabCfg (s : Dev) (v : Word) : Dev :=
  let t := s.plain R.ROP_FAB_CFG v
  let t := if bits v.toNat 8 6 < s.ropeK then t else t.set R.ROP_FAB_CFG_MSG_QIDX (s.get R.ROP_FAB_CFG_MSG_QIDX)
  if bits v.toNat 16 6 < s.ropeK then t else t.set R.ROP_FAB_CFG_TWIN_QIDX (s.get R.ROP_FAB_CFG_TWIN_QIDX)

/-- ROP_RELAY_CFG: a queue of another egress than U, and a queue index of K or above, are discarded. -/
def Dev.relayCfg (s : Dev) (v : Word) : Dev :=
  let t := s.plain R.ROP_RELAY_CFG v
  let t := if s.get (R.SCH_Qn_CFG_EGRESS (bits v.toNat 0 13)) = 0 then t else t.set R.ROP_RELAY_CFG_UPQ (s.get R.ROP_RELAY_CFG_UPQ)
  if bits v.toNat 16 6 < s.ropeK then t else t.set R.ROP_RELAY_CFG_QIDX (s.get R.ROP_RELAY_CFG_QIDX)

/-- A write of LAN_x_TEST: discarded outside TEST; INJECT acts at once, and a checker that is set or cleared starts from nothing (R404). -/
def Dev.laneTest (s : Dev) (i : Nat) (v : Word) : Dev :=
  if s.sup.mode ≠ .test then s
  else
    let t := s.plain (R.LAN_x_TEST i) v
    let u := if t.is (R.LAN_x_TEST_CHK i) = s.is (R.LAN_x_TEST_CHK i) then t
      else (t.setLane i { t.lane i with prbs := default }).set (R.LAN_x_STATUS_PRBS_LOCK i) 0
    let w := u.laneOut s i
    if bit v.toNat 7 ∧ w.is (R.LAN_x_TEST_GEN i) then w.emit (.laneInject i) else w

/-- Writes to MAC, LAN and ROP that act. -/
def Dev.writePort (s : Dev) (a : Nat) (v : Word) : Dev :=
  if a = R.ROP_CTL then (if bit v.toNat 0 then s.rebind else s)
  else if a = R.ROP_FAB_CFG then s.fabCfg v
  else if a = R.ROP_RELAY_CFG then s.relayCfg v
  else if a / 2 ^ 20 = 17 then
    match nth a (R.MAC_En_PAUSE_TX 0) 256 8 with
    | some n => s.pauseTxWrite n v
    | none => s.plain a v
  else if a / 2 ^ 20 = 18 then
    match nth a (R.LAN_Gg_CTL 0) 16 5, nth a (R.LAN_x_CTL 0) 128 18, nth a (R.LAN_x_TEST 0) 128 18 with
    | some g, _, _ => if g = 4 ∧ 1 < v.toNat % 4 then s else (s.plain a v).trackGroup g
    | _, some i, _ =>
      let t := s.plain a v
      (if t.is (R.LAN_x_CTL_TX_INVERT i) = s.is (R.LAN_x_CTL_TX_INVERT i) then t else t.laneOut s i).laneSleep i
    | _, _, some i => s.laneTest i v
    | _, _, _ => s.plain a v
  else match nth a (R.ROP_Pn_CFG 0) 64 8 with
    | some n =>
      let t := s.plain a v
      if t.get (R.ROP_Pn_CFG_COST n) = s.get (R.ROP_Pn_CFG_COST n) then t else t.originate
    | none => s.plain a v

/-- Writes to TWN, MEM and PWR that act. -/
def Dev.writePwr (s : Dev) (a : Nat) (v : Word) : Dev :=
  if a = R.TWN_CFG then s.twnCfg v.toNat
  else if a = R.TWN_CTL then doTwnResync v s
  else if (a = R.TWN_PARTNER_SERIAL_LO ∨ a = R.TWN_PARTNER_SERIAL_HI ∨ a = R.TWN_REF_SERIAL_LO ∨ a = R.TWN_REF_SERIAL_HI) ∧ s.is R.TWN_CFG_EN
    then s
  else if a = R.MEM_CTL then s.memCtl v.toNat
  else if a = R.MEM_BIST_RUN then doBistRun v s
  else if a = R.MEM_PITON_ADD then doPitonAdd v s
  else if a = R.MEM_LOG_POP then (if bit v.toNat 0 then doLogPop s else s)
  else if a = R.PWR_VOTE_HOST_LO then s.voteWrite v
  else s.plain a v

/-- IMG_CMD where the block alone is concerned: an operation runs, and the command is refused (R36). -/
def Dev.imgCmdBusy (s : Dev) (n : Nat) : Dev :=
  match bits n 0 4 with
  | 1 => s.imgRefuse .loadFull .busy
  | 2 => s.imgRefuse .loadPartial .busy
  | 3 => s.imgRefuse .reloadRetained .busy
  | 5 => s.imgRefuse .advanceEpoch .busy
  | 6 => s.imgRefuse .revokeKey .busy
  | _ => s

/-- A write of a register takes effect. -/
def Dev.writeReg (s : Dev) (a : Nat) (v : Word) : Dev :=
  match a / 2 ^ 20 with
  | 0 | 1 | 3 => s.writeCore a v
  | 2 => if a = R.IMG_CMD then s.imgCmdBusy v.toNat else s.plain a v
  | 4 | 5 | 6 | 7 | 8 => s.writeLine a v
  | 9 => s.plain a v
  | 10 => s.writeThk a v
  | 11 => s.writeSch a v
  | 12 | 13 | 14 => s.writeTsk a v
  | 15 => s.writeDma a v
  | 16 => s.writeCph a v
  | 17 | 18 | 19 => s.writePort a v
  | _ => s.writePwr a v

/-- A write to BAR0 takes effect (R54, R55, Table 3-2). -/
def Dev.writeNow (s : Dev) (a : Nat) (v : Word) : Dev :=
  if a % 4 ≠ 0 then s.raise R.HIF_ERR_UNMAPPED
  else if 0x1700000 ≤ a ∧ a < 0x1700200 then s.msixWrite ((a - 0x1700000) / 4) v
  else if a = 0x1701000 ∨ a = 0x1701004 then s
  else match s.window a, regRow a with
    | some (c, w), _ => s.winWrite c w v
    | none, some _ => s.writeReg a v
    | none, none => s.raise R.HIF_ERR_UNMAPPED

-- The commands of this file.

/-- HIF_CTL_WRITE (R62). -/
def execHifCtlWrite (v : Word) (s : State) : Host.Outcome State Fault Refusal := s.run (doHifCtlWrite v)

/-- H2D_TAIL_WRITE (R63). -/
def execH2dTailWrite (v : Word) (entries : List (BitVec 512)) (s : State) : Host.Outcome State Fault Refusal := s.run (doH2dTailWrite v entries)

/-- H2D_FETCH_ERROR (R63). -/
def execH2dFetchError (s : State) : Host.Outcome State Fault Refusal := s.run (doH2dFetchError)

/-- D2H_HEAD_WRITE (R64). -/
def execD2hHeadWrite (v : Word) (s : State) : Host.Outcome State Fault Refusal := s.run (doD2hHeadWrite v)

/-- D2H_RING_RESUME (R65). -/
def execD2hRingResume (s : State) : Host.Outcome State Fault Refusal := s.run (doD2hRingResume)

/-- COALESCE_TIMER_EXPIRY (R66). -/
def execCoalesceTimerExpiry (s : State) : Host.Outcome State Fault Refusal := s.run (doCoalesceTimerExpiry)

end Sys2Proof.Machine
end

