-- ==== Sys2Proof/Machine/ImageCheck.lean ====
section
/-!
DEFINITION. Sys2Proof/Machine/ImageCheck.lean: the image format and checks 4 to 13 of Table 2-5 (02_kregar_image_and_pitches.md R25
to R31, R35 to R37, R48), with the structure limits of the owning chapters (10 R213 to R217, R220; 11 R244; 13 R290; 14 R318; 16 R366, R508; 17 R375; 18 R389;
19 R409).
-/
namespace Sys2Proof.Machine

/-- A section descriptor (Table 2-3), and whether its reserved bytes are 0. -/
structure Desc where
  pitch : Nat
  kind : Nat
  unit : Nat
  off : Nat
  len : Nat
  stamp : Nat
  depends : Nat
  expect : List Nat
  clean : Bool
deriving DecidableEq, Repr

/-- The descriptor that starts at byte o of an image. -/
def Desc.ofBytes (b : List Byte) (o : Nat) : Desc :=
  { pitch := leAt b o 1, kind := leAt b (o + 1) 1, unit := leAt b (o + 2) 1, off := leAt b (o + 4) 4, len := leAt b (o + 8) 4,
    stamp := leAt b (o + 12) 4, depends := leAt b (o + 16) 2, expect := (List.range 16).map fun d => leAt b (o + 32 + 4 * d) 4,
    clean := leAt b (o + 3) 1 == 0 && (slice b (o + 18) 14).all (· == 0) }

/-- The section table of an image (R26). -/
def imgDescs (b : List Byte) : List Desc := (List.range (leAt b 0x0C 2)).map fun i => Desc.ofBytes b (256 + 96 * i)

/-- A section with its content. -/
def Desc.section (b : List Byte) (d : Desc) : Section :=
  { pitch := d.pitch, kind := d.kind, unit := d.unit, stamp := d.stamp, depends := d.depends, expect := d.expect,
    content := slice b d.off d.len }

/-- Section kinds of Table 2-3. -/
def secStructure : Nat := 1
def secCode : Nat := 2
def secData : Nat := 3
def secTable : Nat := 4
def secKeys : Nat := 5

/-- Section kinds that a pitch allows (Table 2-1). -/
def kindAllowed (pitch kind : Nat) : Bool :=
  kind == secStructure || ((kind == secCode || kind == secData) && decide (1 ≤ pitch) && decide (pitch ≤ 8)) ||
    (kind == secTable && pitch == 10) || (kind == secKeys && pitch == 15)

/-- Check 4: header (Table 2-2). -/
def headerOk (b : List Byte) : Bool :=
  slice b 0 4 == [0x4B, 0x52, 0x47, 0x31] && leAt b 4 2 == 1 && leAt b 6 2 == 256 && leAt b 0x10 4 == 0x5120 &&
    decide (1 ≤ leAt b 0x0C 2) && decide (leAt b 0x0C 2 ≤ 64) && (slice b 0x48 184).all (· == 0) && decide (leAt b 0x0E 2 < 2)

/-- Check 5: lengths. -/
def lengthOk (b : List Byte) (len : Nat) : Bool := leAt b 8 4 == len && decide (0x100 + 96 * leAt b 0x0C 2 + 200 ≤ len)

/-- The pitches that a section table names. -/
def pitchesOf (l : List Desc) : Nat := ((List.range 256).map fun p => b2n (l.any (·.pitch == p)) * 2 ^ p).sum

/-- Check 6: FLAGS.PARTIAL and PITCH_MASK. -/
def maskOk (b : List Byte) (part : Bool) : Bool :=
  let m := leAt b 0x16 2
  (leAt b 0x0E 2 == 1) == part && m == pitchesOf (imgDescs b) && (if part then m != 0 && m % 2 == 0 else m == 0xFFFF)

/-- One descriptor of check 7: kind, unit, reserved bytes, EXPECT, offset and length (R28). -/
def descOk (tableEnd limit : Nat) (d : Desc) : Bool :=
  kindAllowed d.pitch d.kind && d.clean &&
    (if d.kind = secCode ∨ d.kind = secData then decide (d.unit < 4) else d.unit == 0) &&
    ((List.range 16).all fun i => bit d.depends i || d.expect.getD i 0 == 0) &&
    (if d.len = 0 then d.off == 0 else d.off % 64 == 0 && decide (tableEnd ≤ d.off) && decide (d.off + d.len ≤ limit)) &&
    decide (d.kind ≠ secCode ∨ d.len ≤ 131072) && decide (d.kind ≠ secData ∨ d.len ≤ 262144)

/-- Two sections do not overlap. -/
def apart (x y : Desc) : Bool := x.len == 0 || y.len == 0 || decide (x.off + x.len ≤ y.off) || decide (y.off + y.len ≤ x.off)

/-- A property of every two different places of a list. -/
def pairwise (f : Desc → Desc → Bool) : List Desc → Bool
  | [] => true
  | x :: xs => xs.all (f x) && pairwise f xs

/-- Check 7: the section table. At most one section of a kind per pitch and unit; one STRUCTURE per pitch present. -/
def tableOk (b : List Byte) (len : Nat) : Bool :=
  let l := imgDescs b
  l.all (descOk (256 + 96 * l.length) (len - 200)) && pairwise (fun x y => x.pitch != y.pitch || x.kind != y.kind || x.unit != y.unit) l &&
    pairwise apart l && l.all fun x => l.any fun y => y.pitch == x.pitch && y.kind == secStructure

/-- The trailer's parts (Table 2-4). -/
def trailerAt (len : Nat) : Nat := len - 200
def keySlotOf (b : List Byte) (len : Nat) : Nat := leAt b (trailerAt len) 1
def publicKeyOf (b : List Byte) (len : Nat) : List Byte := slice b (trailerAt len + 4) 97

/-- A fused key slot (IMG_KEYS.FUSED). -/
def slotFused (n : Nat) : Bool := bit (Config.fuse R.IMG_KEYS).toNat n

/-- Check 8: the key slot and its digest (R30). -/
def imgKeyOk (fz : Fuses) (b : List Byte) (len : Nat) : Bool :=
  let n := keySlotOf b len
  decide (n ≤ 3) && leAt b (trailerAt len + 1) 3 == 0 && leAt b (trailerAt len + 101) 3 == 0 && slotFused n && !bit fz.revoked n &&
    sha384 (publicKeyOf b len) == Config.fusedDigest n

/-- Check 9: the signature over the first IMAGE_LEN − 96 bytes (R27, R30). -/
def imgSignatureOk (b : List Byte) (len : Nat) : Bool :=
  ecdsaVerify (publicKeyOf b len) (b.take (len - 96)) (slice b (trailerAt len + 104) 48) (slice b (trailerAt len + 152) 48)

/-- The stamp of a pitch: of the image where it has the pitch, else of the running device (R29). -/
def Dev.stampOf (s : Dev) (l : List Desc) (p : Nat) : Nat :=
  match l.find? (·.pitch == p) with
  | some d => d.stamp
  | none => (s.rd (R.IMG_PITCH_STAMP p)).toNat

/-- Check 11: interface stamps in both directions (R29). -/
def Dev.interfaceOk (s : Dev) (l : List Desc) : Bool :=
  (l.all fun x => l.all fun y => x.pitch != y.pitch || (x.stamp == y.stamp && x.depends == y.depends)) &&
    (l.all fun x => (List.range 16).all fun d => !bit x.depends d || x.expect.getD d 0 == s.stampOf l d) &&
    s.img.running.all fun q => l.any (·.pitch == q.pitch) ||
      (List.range 16).all fun p => !(bit q.depends p && l.any (·.pitch == p)) || q.expect.getD p 0 == s.stampOf l p

/-- The image value of a register: of the pitches declared, the reset value where none gives one. -/
def declReg (ds : List (Nat × Decl)) (a : Nat) : Nat :=
  match (ds.flatMap (·.2.regs)).find? (·.1 == a) with
  | some x => x.2.toNat
  | none => (regReset a).toNat
def declFld (ds : List (Nat × Decl)) (f : Fld) : Nat := bits (declReg ds f.reg) f.lo f.w

/-- The numbers of a list differ. -/
def distinct (l : List Nat) : Bool := l.eraseDups.length == l.length

/-- An extraction lies in the window of a parse unit, and in the metadata block where it reads that (R213, R216). -/
def Extraction.ok (x : Extraction) : Bool :=
  decide (x.off ≤ 255) && decide (1 ≤ x.len) && decide (x.len ≤ 16) && (!x.fromMeta || decide (x.off + x.len ≤ 32))

/-- A check has the form of R217. -/
def Check.ok (c : Check) : Bool :=
  decide (c.i < 16) && decide (c.mask < 65536) && [1, 2, 4, 8].contains c.mul && decide (-32768 ≤ c.add) && decide (c.add ≤ 32767) &&
    (match c.b with | .field j => decide (j < 16) | _ => true)

/-- R213 to R217: profiles, their extractions and checks, the template each names, and the selection tables. -/
def parseLimits (ds : List (Nat × Decl)) : Bool :=
  ds.all fun d =>
    distinct (d.2.profiles.map (·.number)) &&
    (d.2.profiles.all fun p => decide (p.number < 64) && decide (p.fields.length ≤ 16) && p.fields.all Extraction.ok &&
      decide (p.checks.length ≤ 4) && p.checks.all Check.ok && decide (p.template < 64) && declFld ds (R.THK_TMPLn_CFG_DEFINED p.template) == 1) &&
    ([d.2.selLine, d.2.selUser].all fun l => decide (l.length ≤ 256) && l.all fun x =>
      decide (x.profile < 64) && d.2.profiles.any (·.number == x.profile) && (x.sel ++ x.selMask).all (decide <| · < 65536)) &&
    (List.range 6).all fun c => decide (declFld ds (R.PRS_SEL_OFF_SEL1 c) ≤ 254) && decide (declFld ds (R.PRS_SEL_OFF_SEL2 c) ≤ 254)

/-- Bytes of key pieces in all. -/
def piecesLen (l : List Piece) : Nat := (l.map (·.count)).sum

/-- R220: at most 16 pieces a key; the Thicket pieces of a template total KLEN bytes, at most 40, and its Hedge pieces at most 40. -/
def pieceLimits (ds : List (Nat × Decl)) : Bool :=
  let ts := ds.flatMap (·.2.templates)
  distinct (ts.map (·.number)) && (ts.all fun t => decide (t.number < 64) && decide (t.thicket.length ≤ 16) && decide (t.hedge.length ≤ 16) &&
    (t.thicket ++ t.hedge).all (fun p => decide (p.field < 16) && decide (p.first + p.count ≤ 16)) && decide (piecesLen t.hedge ≤ 40)) &&
  (List.range 64).all fun n => decide (declFld ds (R.THK_TMPLn_CFG_KLEN n) ≤ 40) &&
    piecesLen ((ts.find? (·.number == n)).map (·.thicket) |>.getD []) == declFld ds (R.THK_TMPLn_CFG_KLEN n)

/-- R220: SIZE is 0 with KLEN 0 and at least 1 otherwise; partitions lie within the 256 units of the Thicket, do not overlap and total
at most 256 units. -/
def templateLimits (ds : List (Nat × Decl)) : Bool :=
  let klen (t : Nat) := declFld ds (R.THK_TMPLn_CFG_KLEN t)
  let base (t : Nat) := declFld ds (R.THK_TMPLn_CFG_BASE t)
  let size (t : Nat) := declFld ds (R.THK_TMPLn_CFG_SIZE t)
  let ts := List.range 64
  (ts.all fun t => (klen t == 0) == (size t == 0) && decide (base t + size t ≤ 256)) && decide ((ts.map size).sum ≤ 256) &&
    ts.all fun t => ts.all fun u => decide (u ≤ t) || size t == 0 || size u == 0 || decide (base t + size t ≤ base u) ||
      decide (base u + size u ≤ base t)

/-- R244: no class of U or H is GATED, and a class of an egress is covered by at most one port shaper. -/
def gateLimits (ds : List (Nat × Decl)) : Bool :=
  let egress (p : Nat) := declFld ds (R.SCH_PSp_ASSIGN_EGRESS p)
  let classes (p : Nat) := declFld ds (R.SCH_PSp_ASSIGN_CLASSES p)
  let ps := (List.range 64).filter fun p => classes p != 0
  declFld ds (R.SCH_Ee_CFG_GATED 0) == 0 && declFld ds (R.SCH_Ee_CFG_GATED 17) == 0 &&
    ps.all fun p => ps.all fun q => decide (q ≤ p) || egress p != egress q || classes p &&& classes q == 0

/-- R318: a declared task has a descriptor of its own, a non-zero CMASK and an ENTRY that is a multiple of 4. -/
def taskLimits (ds : List (Nat × Decl)) : Bool :=
  distinct (ds.flatMap fun d => d.2.tasks.map (·.task)) && ds.all fun d => d.2.tasks.all fun t =>
    decide (t.task < 65536) && t.cmask != 0 && decide (t.cmask < 16) && t.entry % 4 == 0 && t.succ.length == 4

/-- R290: page quotas total at most 1,048,576 pages. -/
def quotaLimits (ds : List (Nat × Decl)) : Bool := decide (((List.range 32).map fun c => declReg ds (R.ENG_c_QUOTA c)).sum ≤ 1048576)

/-- R375: 100GBASE-R on E0 or E4 alone, with the other ports of its group OFF. -/
def portLimits (ds : List (Nat × Decl)) : Bool :=
  let typ (n : Nat) := declFld ds (R.MAC_En_CFG_TYPE n)
  (List.range 8).all fun n => decide (typ n ≤ 4) && (typ n != 4 || n % 4 == 0) && (n % 4 == 0 || typ (n / 4 * 4) != 4 || typ n == 0)

/-- R374, R389, Tables 17-1 and 18-1: uses, rates (those of the port type on an Ethernet lane), clocking and bonding of the five lane groups. -/
def laneLimits (ds : List (Nat × Decl)) : Bool :=
  let use (i : Nat) := declFld ds (R.LAN_x_CFG_USE i)
  let rate (i : Nat) := declFld ds (R.LAN_x_CFG_RATE i)
  let lanes (g : Nat) := (List.range (if g = 4 then 2 else 4)).map (4 * g + ·)
  let bonded (g : Nat) := declFld ds (R.LAN_Gg_CFG_BONDED g) == 1
  let emb (g : Nat) := declFld ds (R.LAN_Gg_CFG_CLOCK g) == 1
  let typ (n : Nat) := declFld ds (R.MAC_En_CFG_TYPE n)
  let portType (g i : Nat) := if typ (4 * g) = 4 then 4 else typ i
  let eth (g : Nat) := !emb g && (bonded g == (typ (4 * g) == 4)) && (lanes g).all fun i =>
    if use i = 0 then portType g i == 0
    else use i == 1 && (if portType g i = 0 then rate i == 1 || rate i == 2 else rate i == (if portType g i = 1 then 1 else 2))
  let fab (g u : Nat) := (lanes g).all fun i => use i == 0 || (use i == u && rate i != 0 &&
    (lanes g).all fun j => (use j == 0 && !bonded g) || rate j == rate i)
  eth 0 && eth 1 && fab 2 2 && fab 3 2 && fab 4 3 && (bonded 4 || (lanes 4).all fun i => use i == 0)

/-- R409: with the fabric enabled, P0 to P7 have the same number of queues, 1 to 64, with the same classes in the same order. -/
def ropeLimits (ds : List (Nat × Decl)) : Bool :=
  let set (e : Nat) : List Nat :=
    ((List.range 8192).filter fun q => declFld ds (R.SCH_Qn_CFG_EGRESS q) == e).map fun q => declFld ds (R.SCH_Qn_CFG_CLASS q)
  declFld ds R.ROP_CFG_EN == 0 ||
    (decide (1 ≤ (set 9).length) && decide ((set 9).length ≤ 64) && (List.range 8).all fun n => set (9 + n) == set 9)

/-- KEK_i of the counter-mode KDF under the root (R365): blocks 1 and 2. -/
def kekOf (d : KekDecl) : List Byte :=
  let block (j : Nat) := aesCmac Config.rootKey (le 1 j ++ [0x4E, 0x56, 0x4B, 0x45, 0x4B] ++ le 1 d.index ++ padTo 16 d.label ++ [0x01, 0x00])
  block 1 ++ block 2

/-- The KEKs that a pitch 15 enables. -/
def keksOf (d : Decl) : List (KekDecl × List Byte) := d.keks.map fun k => (k, kekOf k)

/-- What the content of a STRUCTURE, TABLE or KEYS section says: its default where the section has LENGTH 0 (R28), none where it is
not of the Pelost format (R509). -/
def structureIn (p : Nat) (c : List Byte) : Option Decl := if c.isEmpty then some (Config.defaultStructure p) else Config.structureOf p c
def tableIn (c : List Byte) : Option (List TableEntry) := if c.isEmpty then some [] else Config.tableOf c
def keysIn (c : List Byte) : Option (List KeyBlob) := if c.isEmpty then some [] else Config.keysOf c

/-- The declarations of an image's STRUCTURE sections; none where one is not of the Pelost format (R509). -/
def imgDecls (secs : List Section) : Option (List (Nat × Decl)) :=
  (secs.filter (·.kind == secStructure)).mapM fun x => (structureIn x.pitch x.content).map fun d => (x.pitch, d)

/-- The content of a section of an image, empty where it has none. -/
def contentOf (secs : List Section) (pitch kind unit : Nat) : List Byte :=
  match secs.find? fun x => x.pitch == pitch && x.kind == kind && x.unit == unit with
  | some x => x.content
  | none => []

/-- Check 12: content (R25, R366 and the structure limits). Limits over several pitches take the running pitches for those that
the image does not have. -/
def Dev.contentOk (s : Dev) (secs : List Section) : Bool :=
  match imgDecls secs with
  | none => false
  | some ds =>
    let all := ds ++ s.decls.filter fun x => !ds.any (·.1 == x.1)
    parseLimits all && pieceLimits all && templateLimits all && gateLimits all && taskLimits all && quotaLimits all && portLimits all && laneLimits all && ropeLimits all &&
      (ds.all fun d => d.2.used || decide (d.1 = 0) || decide (8 < d.1) || !secs.any fun x => x.pitch == d.1 && x.kind != secStructure) &&
      (secs.all fun x => x.kind != secTable || (tableIn x.content).isSome) &&
      secs.all fun x => x.kind != secKeys || match keysIn x.content with
        | none => false
        | some l =>
          let t : Dev := { s with cph := { s.cph with keks := match ds.find? (·.1 == 15) with | some d => keksOf d.2 | none => [] } }
          l.all fun k => match t.checkBlob k.kek k.slot k.blob with | .ok _ => true | .error _ => false

/-- Checks 4 to 13 of Table 2-5 in order over the image's bytes: the first that fails. -/
def Dev.imgChecks (s : Dev) (fz : Fuses) (o : ImgOp) (b : List Byte) : Option ImgRes :=
  let l := imgDescs b
  if !headerOk b then some .header
  else if !lengthOk b o.len then some .length
  else if !maskOk b (o.cmd == .loadPartial) then some .mask
  else if !tableOk b o.len then some .table
  else if !imgKeyOk fz b o.len then some .key
  else if !imgSignatureOk b o.len then some .signature
  else if leAt b 0x14 2 < fz.epoch then some .epoch
  else if !s.interfaceOk l then some .interface
  else if !s.contentOk (l.map (Desc.section b)) then some .content
  else if o.cmd = .loadPartial ∧ bit (leAt b 0x16 2) 13 ∧ s.role = .active ∧ !o.force then some .role
  else none

/-- What the header and the section table say of an operation. -/
def ImgOp.read (o : ImgOp) (b : List Byte) : ImgOp :=
  { o with
    pitches := leAt b 0x16 2
    serial := leAt b 0x18 4
    epoch := leAt b 0x14 2
    signer := keySlotOf b o.len
    sections := (imgDescs b).map (Desc.section b) }

end Sys2Proof.Machine
end

