-- ==== Sys2Proof/Machine/Image.lean ====
section
/-!
DEFINITION. Sys2Proof/Machine/Image.lean: the commands of IMG_CMD, loading, reload phases and what each pitch does when it is
drained and enabled (02_kregar_image_and_pitches.md R31 to R50, R506, R511; Tables 2-5 to 2-8; 10 R237; 11 R264; 12; 13 R315; 14
R336; 16 R365, R372; 17 R387; 18 R403; 19 R429; 05 R116; 07 Table 7-5).
-/
namespace Sys2Proof.Machine

/-- The pitch of the PITCH-scope registers at a BAR0 address (R10). -/
def pitchOwner (a : Nat) : Option Nat :=
  match a / 2 ^ 20 with
  | 9 => some 9
  | 10 => some 10
  | 11 => some 11
  | 13 => if a < R.ENG_c_STATUS 0 then none else some ((a - R.ENG_c_STATUS 0) / 0x400 + 1)
  | 15 => if a < R.DMA_u_STATUS 0 ∨ R.DMA_u_STATUS 8 ≤ a then none else some ((a - R.DMA_u_STATUS 0) / 0x1000 + 1)
  | 17 | 18 => some 12
  | 19 => some 14
  | _ => none

/-- A PITCH-scope register of pitch p. -/
def pitchReg (p a : Nat) : Bool := pitchOwner a == some p && (match regRow a with | some r => r.scope == .pitch | none => false)

/-- The pitch that owns the register at a BAR0 address: what Table 2-1 gives each pitch, by register block (DEDUCED: the table names
what a pitch owns, and no register). -/
def ownerOf (a : Nat) : Nat :=
  match pitchOwner a with
  | some p => p
  | none =>
    if a ≥ 0x2000000 then (a - 0x2000000) / 2 ^ 22 + 1
    else match a / 2 ^ 20 with
      | 4 | 5 | 6 | 7 | 8 => 13
      | 16 => 15
      | 20 => 14
      | _ => 0

/-- PITCH registers of pitch p return to their reset value, which is the image's where the register's table says so (R10). -/
def Dev.pitchRegs (s : Dev) (p : Nat) (d : Decl) : Dev :=
  let t : Dev := { s with regs := s.regs.filter fun x => !pitchReg p x.1 }
  forEach (d.regs.filter fun x => pitchReg p x.1) t fun x u => u.wr x.1 x.2

/-- Tasks of engine pitch p at RESET: with a changed stamp its descriptors go and the STRUCTURE's are written (R318, R336), none over
a descriptor in use by another pitch (R25). -/
def Dev.tasksReload (s : Dev) (p : Nat) (d : Decl) (same : Bool) : Dev :=
  if same then s
  else
    let l := s.tsk.tasks.filter fun x => x.2.pitch == p && x.2.st != .free
    let n := (l.filter fun x => x.2.st == .ready || !x.2.posts.isEmpty).length
    let t := forEach l (s.countR R.IMG_TASKS_DISCARDED n) fun x u =>
      (((u.dropPosts x.1).dropRequests x.1).dropCtx x.1).setTask x.1 .free
    let new := if d.used then d.tasks.filter (fun x => (t.task x.task).st == .free) else []
    if new.isEmpty then t else (forEach new t fun x u => u.putTask x.task { x with pitchOf := p }).reeval (new.map (·.task))

/-- Clusters of an engine pitch at RESET: instruction and shared RAM from CODE and DATA, pages freed, page caches and scratch cleared,
and its DMA unit reset (Table 2-8, R315, D12). -/
def Dev.engPitch (s : Dev) (p : Nat) (d : Decl) (secs : List Section) (same : Bool) : Dev :=
  let cs := (List.range 4).map (4 * (p - 1) + ·)
  let s1 := forEach cs s fun c t =>
    (t.setCluster c { Cluster.empty with
      iram := stable 0 ((contentOf secs p secCode (c % 4)).take 131072)
      shared := stable 0x10000 ((contentOf secs p secData (c % 4)).take 262144) }).clearScratch c
  let s2 := s1.clearErrs (fun i => (Config.instPitch i).val == p) fun _ => false
  let s3 : Dev := { s2 with dma := { s2.dma with chans := sclear (16 * (p - 1)) (16 * p) s2.dma.chans, kib := serase (p - 1) s2.dma.kib } }
  s3.tasksReload p d same

/-- What was to be committed next is to be committed one version later. -/
def Dev.shiftPending (s : Dev) : Dev :=
  let p := s.pendVer
  let f (v : Nat) : Nat := if v = p then vNext p else v
  { s with thk := { s.thk with
    slots := s.thk.slots.map fun x => (x.1, x.2.map fun e => { e with birth := f e.birth, death := f e.death })
    rows := s.thk.rows.map fun x => (x.1, x.2.map fun r => { r with birth := f r.birth, death := f r.death }) } }

/-- A preloaded entry, visible from version v on; it replaces an entry of its key. -/
def Dev.addTable (s : Dev) (v : Nat) (x : TableEntry) : Dev :=
  let k := padTo 40 x.key
  let fresh : TEntry := { template := x.template, key := k, action := x.action, birth := v, death := v }
  match s.findEntry x.template k v with
  | some (n, e) =>
    if e.birth = v then s.setTslot n (some fresh) else ((s.setTslot n (some { e with death := v })).thkInsert fresh).1
  | none => (s.thkInsert fresh).1

/-- The definition of a partition is the same in two STRUCTURE sections of pitch 10. -/
def samePartition (o d : Decl) (t : Nat) : Bool :=
  declReg [(10, o)] (R.THK_TMPLn_CFG t) == declReg [(10, d)] (R.THK_TMPLn_CFG t) &&
    o.templates.find? (·.number == t) == d.templates.find? (·.number == t)

/-- Thicket partitions at RESET: those defined as before keep their entries, the others are empty (Table 2-8, R237). -/
def Dev.partitions (s : Dev) (old : Option Decl) (d : Decl) : Dev :=
  let kept (t : Nat) : Bool := match old with | some o => samePartition o d t | none => false
  { s with thk := { s.thk with
    cached := []
    slots := s.thk.slots.filter fun x => match x.2 with | some e => kept e.template | none => false } }

/-- A reload of pitch 9 or 10 acts as one commit, on which a held commit may follow (Table 2-8, R47, R237); a full image starts at
version 1 with its TABLE entries. -/
def Dev.thkEnable (s : Dev) (part : Bool) (table : List TableEntry) : Dev :=
  if part then (forEach table s.shiftPending fun x t => t.addTable s.pendVer x).commitNow
  else forEach table (s.set R.THK_VERSION_LIVE 1) fun x t => t.addTable 1 x

/-- Entries of the image's active gate list of egress e. -/
def declGates (d : Decl) (e : Nat) : Nat :=
  ((d.regs.filterMap fun x => if x.2 = 0 then none else (nth x.1 (R.SCH_Ee_ACTi e 0) 4 1024).map (· + 1)).max?).getD 0

/-- Pitch 11 at ENABLE: buckets start anew, reserved cells are the image's, and its default active lists start under R254 (R264). -/
def Dev.schPitch (s : Dev) (d : Decl) : Dev :=
  let s1 : Dev := { s with sch := { s.sch with shapers := [], portShapers := [], actLen := [], actStart := [], actBase := [] } }
  let s2 := s1.set R.SCH_RESV_TOTAL_CELLS ((List.range 8192).map fun q => s1.get (R.SCH_Qn_RESV_CELLS q)).sum
  forEach ((List.range 16).map (· + 1)) s2 fun e t =>
    let cycle := (t.rd (R.SCH_Ee_ACT_CYCLE e)).toNat
    if cycle = 0 then t
    else
      let st := Tod.ofNs (gclStartFrom (t.pendBase e).toNs cycle (t.nowNs + t.get R.SCH_ADMIN_LEAD_US * 1000))
      let u : Dev := { t with sch := { t.sch with
        actLen := sset 0 e (declGates d e) t.sch.actLen, actStart := sset default e st t.sch.actStart
        actBase := sset default e (t.pendBase e) t.sch.actBase } }
      (u.gateNow e |>.wr (R.SCH_Ee_START_NS e) (BitVec.ofNat 32 st.ns)).wr64 (R.SCH_Ee_START_SEC_LO e) st.sec

/-- Pitch 12 at RESET: lanes and ports whose settings differ go down (Table 2-8, R387, R403, S13). -/
def Dev.lanePitch (s : Dev) (old : Option Decl) (d : Decl) : Dev :=
  match old with
  | none => s
  | some o =>
    let diff (a : Nat) : Bool := declReg [(12, o)] a != declReg [(12, d)] a
    let typ (n : Nat) : Bool := declFld [(12, o)] (R.MAC_En_CFG_TYPE n) != declFld [(12, d)] (R.MAC_En_CFG_TYPE n)
    let s1 := forEach (List.range 18) s fun i t =>
      if diff (R.LAN_x_CFG i) || diff (R.LAN_Gg_CFG (groupOf i)) || (decide (i < 8) && (typ i || typ (4 * groupOf i))) then
        (((t.set (R.LAN_x_STATUS_TX_AWAKE i) 0).laneOut t i).set (R.LAN_x_STATUS_RX_AWAKE i) 0).laneTo i lsOff
      else t
    forEach (List.range 8) s1 fun n t => if diff (R.MAC_En_CFG n) then doLinkChange (Fin.ofNat 8 n) false false false false t else t

/-- A port is enabled by a pitch 13. -/
def Decl.port (d : Decl) : Port → Bool
  | .a => d.lineA
  | .b => d.lineB

/-- Pitch 13 at RESET and ENABLE: ports, line source (R116), framers and tributary map (Table 2-8). -/
def Dev.linePitch (s : Dev) (d : Decl) (part : Bool) : Dev :=
  let stays := part && (match s.sourcePort, d.source with | some p, .line _ => d.port p | _, _ => false)
  let src := if stays then s.get R.LFE_STATUS_SOURCE else match d.source with
    | .line p => p.ix
    | .relay => 2
    | .none => 3
  let s1 := (s.discardLine.set R.LFE_STATUS_ENABLED (b2n d.lineA + 2 * b2n d.lineB)).set R.LFE_STATUS_SOURCE src
  let s2 := (((s1.framerHunt .a).framerHunt .b).dropUpstream).actLost true
  { s2 with trb := { s2.trb with applied := true } }

/-- Pitch 15 at ENABLE: KEKs derived, slots kept or erased, blobs unwrapped with FORCE (Table 2-8, R365, R372). -/
def Dev.keyPitch (s : Dev) (d : Decl) (blobs : List KeyBlob) (same : Bool) : Dev :=
  let s1 := if same then s else s.eraseAll
  let s2 : Dev := { s1 with cph := { s1.cph with keks := keksOf d } }
  forEach blobs s2 fun k t => (t.unwrapTo k.kek true k.slot k.blob).1

/-- The stamp of a pitch among sections. -/
def stampIn (secs : List Section) (p : Nat) : Option Nat := (secs.find? (·.pitch == p)).map (·.stamp)

/-- What one pitch does at RESET. -/
def Dev.pitchReset (s : Dev) (p : Nat) (old : Option Decl) (d : Decl) (secs : List Section) (part same : Bool) : Dev :=
  if 1 ≤ p ∧ p ≤ 8 then s.engPitch p d secs same
  else if p = 10 then s.partitions old d
  else if p = 11 then s.schPitch d
  else if p = 12 then s.lanePitch old d
  else if p = 13 then s.linePitch d part
  else if p = 14 then s.ropClear
  else if p = 15 then s.keyPitch d ((keysIn (contentOf secs 15 secKeys 0)).getD []) same
  else s

/-- The stamp of a pitch is unchanged: at a reload, that of the running pitch; at a full image, pitch 15's in the section store
(Table 2-8, R372). -/
def Dev.sameStamp (s : Dev) (part : Bool) (secs : List Section) (p : Nat) : Bool :=
  if part then stampIn secs p == some (s.rd (R.IMG_PITCH_STAMP p)).toNat
  else p == 15 && s.img.storeValid && stampIn (s.img.store.map (·.1)) 15 == stampIn secs 15

/-- The section store with the sections of applied pitches in place of those they had (R35). -/
def storeWith (st : List (Section × List Byte)) (secs : List Section) : List (Section × List Byte) :=
  st.filter (fun x => !secs.any (·.pitch == x.1.pitch)) ++ secs.map fun x => (x, sha384 x.content)

/-- LOAD, RESET and ENABLE of the pitches of a mask, together (R40, R42, R46, Table 2-7): registers and content, then stamps, and the
image's initial settings, in registers that the pitch owns (R25); ingress held for pitch 11 is then admitted (Table 2-8). -/
def Dev.imgApply (s : Dev) (o : ImgOp) (mask : Nat) : Dev :=
  let part := o.cmd == .loadPartial
  let secs := o.sections.filter fun x => bit mask x.pitch
  let ds := (imgDecls secs).getD []
  let find (p : Nat) : Option Decl := (ds.find? (·.1 == p)).map (·.2)
  let ps := (List.range 16).filter fun p => bit mask p
  let s1 := forEach ps s fun p t => match find p with
    | some d =>
      let u := t.pitchRegs p d
      let v : Dev := { u with decls := sinsert p d (serase p u.decls) }
      v.pitchReset p (s.decl p) d secs part (s.sameStamp part secs p)
    | none => t
  let s2 := forEach ps s1 fun p t => t.wr (R.IMG_PITCH_STAMP p) (BitVec.ofNat 32 ((stampIn secs p).getD 0))
  let s3 : Dev := { s2 with img := { s2.img with
    running := s2.img.running.filter (fun x => !bit mask x.pitch) ++ secs
    store := storeWith (if part then s2.img.store else []) secs
    storeValid := true
    fault := ps.foldl clrBit s2.img.fault
    op := none
    state := .active } }
  let table := (tableIn (contentOf secs 10 secTable 0)).getD []
  let s4 := if bit mask 9 || bit mask 10 then s3.thkEnable part (if bit mask 10 then table else []) else s3
  (forEach ps s4 fun p t => match find p with
    | some d => forEach (d.init.filter fun x => ownerOf x.1 == p) t fun x u => u.writeNow x.1 x.2
    | none => t).releaseHeld

/-- How an operation is reported at its end (R36, R506): RELOAD_RETAINED carries no image. -/
def Dev.imgEnd (s : Dev) (o : ImgOp) (r : ImgRes) : Dev :=
  let s1 := ((s.imgState s.img.state).set R.IMG_STATUS_RESULT r.code).set R.IMG_STATUS_PITCHES o.pitches
  let s2 := s1.raise (if r = .success then R.IMG_IRQ_DONE else R.IMG_IRQ_FAIL)
  let own := o.cmd != .reloadRetained
  s2.imgResult o.cmd r (if own then o.pitches else 0) (if own then o.serial else 0) o.start

/-- What follows an operation: a held verdict, a held host request (R49, R50). -/
def Dev.imgAfter (s : Dev) : Dev :=
  let s1 := match s.img.heldVerdict with
    | some act => ({ s with img := { s.img with heldVerdict := none } } : Dev).verdictActs act
    | none => s
  s1.settle.evalHeld.settle.revote

/-- A full image, loaded or retained, becomes ACTIVE (R31, R40). -/
def Dev.fullActive (s : Dev) (o : ImgOp) : Dev :=
  let s1 := s.imgApply o 0xFFFF
  let s2 := (s1.wr R.IMG_ACTIVE_SERIAL (BitVec.ofNat 32 o.serial)).set R.IMG_RUN_EPOCH_EPOCH o.epoch
  let s3 := if o.cmd = .loadFull then s2.set R.IMG_KEYS_SIGNER o.signer else s2
  let s4 : Dev := { s3 with img := { s3.img with storeEpoch := o.epoch, storeSerial := o.serial } }
  (((s4.imgEnd o .success).trigger .imageActive).settle).imgAfter

/-- Pitch p enters FAULT as a full image is applied: no pitch is enabled (R41). -/
def Dev.fullFault (s : Dev) (o : ImgOp) (p : Nat) : Dev :=
  let s1 : Dev := { s with img := { s.img with op := none, state := .fault, fault := setBit s.img.fault p } }
  ((s1.imgEnd o .fault).raise R.IMG_IRQ_FAULT).imgAfter

/-- A reload is enabled (Table 2-7); a pitch that could not be written stays in FAULT and the others are enabled. -/
def Dev.partActive (s : Dev) (o : ImgOp) (failed : Option Nat) : Dev :=
  let mask := match failed with | some p => clrBit o.pitches p | none => o.pitches
  let s1 := s.imgApply o mask
  let s2 := s1.wr R.IMG_LAST_DURATION (BitVec.ofNat 32 (sat 32 ((s.ticks - o.drainStart) / usTicks)))
  match failed with
  | none => (s2.imgEnd o .success).imgAfter
  | some p =>
    (((s2.pitchDown p).imgEnd o .fault).raise R.IMG_IRQ_FAULT).imgAfter

/-- The pitch of a stored section whose digest does not match (R35). -/
def Dev.storeBad (s : Dev) : Option Nat :=
  (s.img.store.find? fun x => sha384 x.1.content != x.2).map (·.1.pitch)

/-- PITCH_LOAD_DONE: the pitches of the operation are written, or one met an uncorrectable memory error (R40, R41, Table 2-7). -/
def doPitchLoadDone (failed : Option (Fin 16)) (s : Dev) : Dev :=
  match s.img.op with
  | none => s
  | some o =>
    if s.img.state ≠ .load then s
    else
      let bad : Option Nat := match failed with
        | some p => if bit o.pitches p then some (p : Nat) else none
        | none => if o.cmd = .reloadRetained then s.storeBad else none
      if o.cmd = .loadPartial then s.partActive o bad
      else match bad with
        | some p => s.fullFault o p
        | none => s.fullActive o

/-- DRAIN begins (Table 2-8): a memory test of a drained pitch ends (R465), pitch 13 leaves its line (A10, A16, A17, PITCH13), and a
relay client seeks anew (Y8). -/
def Dev.imgDrain (s : Dev) (o : ImgOp) : Dev :=
  let s1 := ({ s with img := { s.img with op := some { o with drainStart := s.ticks } } } : Dev).imgState .drain
  let s2 := if bit o.pitches (slicePitch s1.slice) then s1.bistAbandon else s1
  let s3 := if s2.relay && (bit o.pitches 13 || bit o.pitches 14) then (s2.set R.ROP_RELAY_STATUS_STATE 0).set R.ROP_RELAY_STATUS_SERVER 0 else s2
  let s4 :=
    if !bit o.pitches 13 then s3
    else
      let t := if s3.sameStamp true o.sections 13 then s3.actLost false else s3.clearRecord.setAct .idle
      t.trigger .pitch13
  s4.settle

/-- The image in staging is checked, and its operation goes on to LOAD or DRAIN, or ends (R34, R36, R43). -/
def Dev.imgStaged (s : Dev) (fz : Fuses) (o : ImgOp) : Dev :=
  let b := sbytes s.img.staging 0 o.len
  let r := o.read b
  match s.imgChecks fz o b with
  | some x => s.imgFail r x
  | none =>
    let t := s.set R.IMG_STATUS_PITCHES r.pitches
    if o.cmd = .loadPartial then t.imgDrain r
    else ({ t with img := { t.img with op := some r } } : Dev).imgState .load

/-- A load starts: check 2, then the fetch, or the checks on what staging holds (R33). -/
def Dev.imgStart (s : Dev) (fz : Fuses) (cmd : ImgCmd) (source force : Bool) : Dev :=
  let len := (s.rd R.IMG_LEN).toNat
  let o : ImgOp := { cmd := cmd, source := source, force := force, len := len, pitches := 0, serial := 0, epoch := 0, signer := 0,
                     start := s.ticks, drainStart := 0, sections := [] }
  if len < 552 ∨ 268435456 < len ∨ (!source ∧ s.rd64 R.IMG_SRC_LO % 64 ≠ 0) then s.imgFail o .length
  else
    let t := ({ s with img := { s.img with op := some o } } : Dev).set R.IMG_STATUS_PITCHES 0
    if source then t.imgStaged fz o else t.imgState .fetch

/-- The modes of Table 2-6. -/
def Dev.imgMode (s : Dev) : ImgCmd → Bool
  | .loadFull | .reloadRetained => s.sup.mode == .config && !s.imgActive && s.img.state != .fault
  | .loadPartial => s.sup.mode.traffic
  | .abandon => true
  | .advanceEpoch | .revokeKey => s.sup.mode != .test

/-- Check 1 (R36, R37, R39): the refusal, none where the command starts. -/
def Dev.imgRefusal (s : Dev) (cmd : ImgCmd) : Option ImgRes :=
  if !s.imgMode cmd then some .mode
  else if s.img.op.isSome then some .busy
  else if cmd = .reloadRetained ∧ !s.img.storeValid then some .noStore
  else none

/-- A command behind check 1. -/
def Dev.imgTry (s : Dev) (cmd : ImgCmd) (f : Dev → Dev) : Dev :=
  match s.imgRefusal cmd with
  | some r => s.imgRefuse cmd r
  | none => f s

/-- RELOAD_RETAINED: the pitches are written from the section store (R41). -/
def Dev.imgRetained (s : Dev) : Dev :=
  let o : ImgOp := { cmd := .reloadRetained, source := false, force := false, len := 0, pitches := 0xFFFF, serial := s.img.storeSerial,
                     epoch := s.img.storeEpoch, signer := 0, start := s.ticks, drainStart := 0, sections := s.img.store.map (·.1) }
  (({ s with img := { s.img with op := some o } } : Dev).set R.IMG_STATUS_PITCHES 0xFFFF).imgState .load

/-- ABANDON during FETCH and DRAIN acts; at any other instant it is discarded (R38, R45). -/
def doAbandon (s : Dev) : Dev :=
  match s.img.op with
  | none => s
  | some o =>
    if s.img.state = .fetch then s.imgFail o .abandoned
    else if s.img.state = .drain then s.imgDrainEnds .drainTimeout
    else s

/-- A fuse command ends: RESULT, PITCHES 0, its interrupt and event. -/
def Dev.fuseEnd (s : Dev) (cmd : ImgCmd) (r : ImgRes) : Dev :=
  let s1 := (s.set R.IMG_STATUS_RESULT r.code).set R.IMG_STATUS_PITCHES 0
  (s1.raise (if r = .success then R.IMG_IRQ_DONE else R.IMG_IRQ_FAIL)).imgResult cmd r 0 0 s.ticks

/-- The KEY of ADVANCE_EPOCH and REVOKE_KEY. -/
def fuseKey : Nat := 0x4550

/-- ADVANCE_EPOCH may burn its fuse (R31). -/
def State.mayAdvance (s : State) : Bool :=
  decide (s.fuses.epoch < s.dev.get R.IMG_RUN_EPOCH_EPOCH) && decide (s.fuses.advances < 64)

/-- Revocation bits with one more slot revoked. -/
def State.revokedWith (s : State) (slot : Nat) : Nat := setBit s.fuses.revoked slot

/-- REVOKE_KEY leaves a fused, unrevoked slot (R32). -/
def State.mayRevoke (s : State) (slot : Nat) : Bool := (List.range 4).any fun n => slotFused n && !bit (s.revokedWith slot) n

/-- A fuse command: discarded with a wrong KEY, refused at check 1, with result FUSE, or its fuse burns (R31, R32, R37). -/
def State.fuseCmd (s : State) (cmd : ImgCmd) (key : Nat) (may : Bool) (f : Fuses) : State :=
  if key ≠ fuseKey then s
  else match s.dev.imgRefusal cmd with
    | some r => { s with dev := s.dev.imgRefuse cmd r }
    | none =>
      if may then { s with fuses := f, dev := s.dev.fuseEnd cmd .success } else { s with dev := s.dev.fuseEnd cmd .fuse }

/-- ADVANCE_EPOCH (R31). -/
def State.advance (s : State) (key : Nat) : State :=
  s.fuseCmd .advanceEpoch key s.mayAdvance { s.fuses with epoch := s.dev.get R.IMG_RUN_EPOCH_EPOCH, advances := s.fuses.advances + 1 }

/-- REVOKE_KEY (R32). -/
def State.revoke (s : State) (slot key : Nat) : State :=
  s.fuseCmd .revokeKey key (s.mayRevoke slot) { s.fuses with revoked := s.revokedWith slot }

/-- f applied to the block, with the fuses at hand. -/
def State.onDev (s : State) (f : Fuses → Dev → Dev) : State := { s with dev := f s.fuses s.dev }

/-- A write of IMG_CMD (Table 2-6); an encoding not listed is discarded (R8). -/
def State.imgCmd (s : State) (v : Nat) : State :=
  match bits v 0 4 with
  | 1 => s.onDev fun fz d => d.imgTry .loadFull fun t => t.imgStart fz .loadFull (bit v 4) (bit v 5)
  | 2 => s.onDev fun fz d => d.imgTry .loadPartial fun t => t.imgStart fz .loadPartial (bit v 4) (bit v 5)
  | 3 => s.onDev fun _ d => d.imgTry .reloadRetained Dev.imgRetained
  | 4 => s.onDev fun _ d => doAbandon d
  | 5 => s.advance (bits v 16 16)
  | 6 => s.revoke (bits v 12 2) (bits v 16 16)
  | _ => s

/-- IMAGE_FETCH_DONE: the fetch ends (check 3), and what it read stands in staging (R33). -/
def Dev.imgFetched (s : Dev) (fz : Fuses) (r : FetchEnd) : Dev :=
  match s.img.op with
  | none => s
  | some o =>
    if s.img.state ≠ .fetch then s
    else match r with
      | .data b =>
        ({ s with img := { s.img with staging := swrite 0 (padTo o.len b) s.img.staging } } : Dev).imgStaged fz o
      | .pcieError | .uncorrectable => s.imgFail o .fetch

/-- A posted item holds a frame. -/
def PostItem.isFrame (i : PostItem) : Bool := i.frame.isSome

/-- Clusters of an engine pitch. -/
def pitchClusters (p : Nat) : List Nat := (List.range 4).map (4 * (p - 1) + ·)

/-- A task of engine pitch p keeps a drain in progress: it runs, waits, or holds a context (R336). -/
def Task.inFlight (t : Task) : Bool := t.st == .running || t.st == .waiting || t.ctx.isSome

/-- Nothing remains in flight in pitch p (Table 2-8). A packet is in flight for pitches 9 and 10 as long as it holds a version, so that
none meets new rules under an old version (R42, R230, R232). -/
def Dev.drained (s : Dev) (p : Nat) : Bool :=
  let parse := !(s.prs.line ++ s.prs.user).any (·.second) &&
    s.thk.missQ.all fun m => match m.who with | .frame _ _ _ _ _ => false | .engine _ _ | .gone _ => true
  if 1 ≤ p ∧ p ≤ 8 then
    !(s.tsk.tasks.any fun x => x.2.pitch == p && x.2.inFlight) &&
      !(s.engs.any fun e => (pitchClusters p).contains (e.1 / 16) && e.2.st != .idle) && (s.holder (p - 1)).isNone
  else if p = 9 ∨ p = 10 then parse && !s.versionFrames.any Frame.holds
  else if p = 11 then parse && s.allFrames.isEmpty && !(List.range 18).any fun e => (s.launching e).isSome
  else if p = 13 then !(s.lfeP .a).sending && !(s.lfeP .b).sending
  else true

/-- Nothing remains in flight in any pitch of a mask. -/
def Dev.drainedAll (s : Dev) (mask : Nat) : Bool := (List.range 16).all fun p => !bit mask p || s.drained p

/-- DRAIN ends and LOAD begins (Table 2-7). -/
def Dev.drainEnd (s : Dev) : Dev := s.imgState .load

/-- DRAIN_DONE: nothing remains in flight (R44). -/
def doDrainDone (s : Dev) : Dev :=
  match s.img.op with
  | some o => if s.img.state = .drain ∧ s.drainedAll o.pitches then s.drainEnd else s
  | none => s

/-- A task in flight is discarded at a forced expiry: IDLE, without its context (R336). -/
def Dev.dropTask (s : Dev) (n : Nat) : Dev :=
  let s1 := match s.engineOf n with
    | some e => let t := s.discardOps e; t.setEng e { Eng.idle with scratch := (t.eng e).scratch }
    | none => s
  let s2 := (s1.dropRequests n).dropCtx n
  ((s2.setTask n { s2.task n with st := .idle, wait := none }).count R.IMG_FORCED_DROPS_TASKS 1).reeval [n]

/-- Frames in task and engine contexts that hold a version are discarded (R44). -/
def Dev.dropHolders (s : Dev) : Dev :=
  let holds (i : PostItem) : Bool := match i.frame with | some f => f.holds | none => false
  let ctx (x : PktCtx) : PktCtx := match x.item with | some i => if holds i then .empty else x | none => x
  let n := (s.versionFrames.filter Frame.holds).length
  ({ s with
    tsk := { s.tsk with tasks := s.tsk.tasks.map fun t =>
      (t.1, { t.2 with posts := t.2.posts.filter (!holds ·), ctx := t.2.ctx.map fun c => { c with pkt := ctx c.pkt } }) }
    engs := s.engs.map fun e => (e.1, { e.2 with pkt := ctx e.2.pkt }) } : Dev).count R.IMG_FORCED_DROPS_PACKETS n

/-- Work in flight of pitch p is discarded and counted (R44, R336, D9). -/
def Dev.dropFlight (s : Dev) (p : Nat) : Dev :=
  let packets (t : Dev) : Dev :=
    let q := t.thk.missQ.filter fun m => match m.who with | .frame _ _ _ _ _ => false | .engine _ _ | .gone _ => true
    let n := t.thk.missQ.length - q.length
    let m := ((t.prs.line ++ t.prs.user).filter (·.second)).length
    ({ t with
      thk := { t.thk with missQ := q }
      prs := { line := t.prs.line.filter (!·.second), user := t.prs.user.filter (!·.second) } } : Dev).count R.IMG_FORCED_DROPS_PACKETS (n + m)
  if 1 ≤ p ∧ p ≤ 8 then
    let l := (s.tsk.tasks.filter fun x => x.2.pitch == p && x.2.inFlight).map (·.1)
    let t := forEach l s fun n u => u.dropTask n
    match t.holder (p - 1) with
    | some k => t.chStop (p - 1) k
    | none => t
  else if p = 9 ∨ p = 10 then (packets s).dropHolders
  else if p = 11 then
    let t := packets s
    let n := t.allFrames.length
    ({ t with sch := { t.sch with queues := [], fifos := [], timed := [], launching := [], headTag := [] } } : Dev).count
      R.IMG_FORCED_DROPS_PACKETS n
  else s

/-- DRAIN_LIMIT_EXPIRY: IMG_DRAIN_LIMIT after DRAIN began (R44). -/
def doDrainLimitExpiry (s : Dev) : Dev :=
  let n := s.get R.IMG_DRAIN_LIMIT_LIMIT
  match s.img.op with
  | none => s
  | some o =>
    if s.img.state ≠ .drain ∨ n = 0 then s
    else
      let t := s.until_ (o.drainStart + n * usTicks)
      if t.drainedAll o.pitches then t.drainEnd
      else if o.force then (forEach ((List.range 16).filter fun p => bit o.pitches p) t fun p u => u.dropFlight p).drainEnd.revote
      else t.imgDrainEnds .drainTimeout

/-- A command that acts on the fuses too, outside a reset. -/
def State.runAll (s : State) (f : State → State) : Host.Outcome State Fault Refusal :=
  .next (if s.dev.sup.inReset.isNone then f s else s)

/-- The word of IMG_CMD. -/
def imgWord (cmd : ImgCmd) (source force : Bool) (slot key : Nat) : Nat :=
  cmd.code + 16 * b2n source + 32 * b2n force + 4096 * slot + 65536 * key

/-- LOAD_FULL (R40). -/
def execLoadFull (source : Bool) (s : State) : Host.Outcome State Fault Refusal := s.runAll fun t => t.imgCmd (imgWord .loadFull source false 0 0)

/-- LOAD_PARTIAL (R42). -/
def execLoadPartial (source force : Bool) (s : State) : Host.Outcome State Fault Refusal :=
  s.runAll fun t => t.imgCmd (imgWord .loadPartial source force 0 0)

/-- RELOAD_RETAINED (R39, R41). -/
def execReloadRetained (s : State) : Host.Outcome State Fault Refusal := s.runAll fun t => t.imgCmd (imgWord .reloadRetained false false 0 0)

/-- ADVANCE_EPOCH (R31). -/
def execAdvanceEpoch (key : BitVec 16) (s : State) : Host.Outcome State Fault Refusal := s.runAll fun t => t.advance key.toNat

/-- REVOKE_KEY (R32). -/
def execRevokeKey (slot : Fin 4) (key : BitVec 16) (s : State) : Host.Outcome State Fault Refusal := s.runAll fun t => t.revoke slot key.toNat

/-- IMAGE_FETCH_DONE (R33). -/
def execImageFetchDone (r : FetchEnd) (s : State) : Host.Outcome State Fault Refusal :=
  s.runAll fun t => t.onDev fun fz d => d.imgFetched fz r

-- The commands of this file.

/-- PITCH_LOAD_DONE (R43). -/
def execPitchLoadDone (failed : Option (Fin 16)) (s : State) : Host.Outcome State Fault Refusal := s.run (doPitchLoadDone failed)

/-- ABANDON (R38). -/
def execAbandon (s : State) : Host.Outcome State Fault Refusal := s.run (doAbandon)

/-- DRAIN_DONE (R44). -/
def execDrainDone (s : State) : Host.Outcome State Fault Refusal := s.run (doDrainDone)

/-- DRAIN_LIMIT_EXPIRY (R44). -/
def execDrainLimitExpiry (s : State) : Host.Outcome State Fault Refusal := s.run (doDrainLimitExpiry)

end Sys2Proof.Machine
end

