-- ==== Sys2Proof/Machine/Host.lean ====
section
/-!
DEFINITION. Sys2Proof/Machine/Host.lean: the messages of the host on its three paths: the procedure of R58, HELLO, REPLAY, SNAPSHOT,
REG_READ, REG_WRITE, IMG_XFER, MODE_REQ, TASK_MSG and TSK_FLAGS (03_host_link_and_recovery.md R57 to R61, R69 to R71, R510; 04
R78, R79, R101; 13 R316; 14 R321; 22 R478).
-/
namespace Sys2Proof.Machine

/-- Types of host-to-device messages (Tables 3-6, 4-8, 13-10, 14-4). -/
def tHello : Nat := 0x0101
def tReplay : Nat := 0x0102
def tSnapshot : Nat := 0x0103
def tRegRead : Nat := 0x0104
def tRegWrite : Nat := 0x0105
def tImgXfer : Nat := 0x0106
def tModeReq : Nat := 0x0301
def tTaskMsg : Nat := 0x0D01
def tTskFlags : Nat := 0x0E01

/-- Whether a type is one of them, and whether a LEN is right for it (R510). -/
def typeKnown (t : Nat) : Bool := [tHello, tReplay, tSnapshot, tRegRead, tRegWrite, tImgXfer, tModeReq, tTaskMsg, tTskFlags].contains t
def lenOk (t n : Nat) : Bool :=
  if t = tHello ∨ t = tSnapshot then n == 0
  else if t = tReplay then n == 6
  else if t = tRegRead then n == 5
  else if t = tRegWrite then decide (8 ≤ n) && decide (n ≤ 52) && n % 4 == 0
  else if t = tImgXfer then decide (5 ≤ n) && decide (n ≤ 52)
  else if t = tModeReq then n == 3
  else if t = tTskFlags then n == 8
  else n == 52

/-- The last accepted number of a path. -/
def lastSeqReg : Path → Nat
  | .pcie => R.HIF_H2D_LAST_SEQ
  | .inBand => R.HIF_H2D_LAST_SEQ_IB
  | .remote => R.HIF_H2D_LAST_SEQ_RM
def Dev.lastSeq (s : Dev) (p : Path) : Nat := (s.rd (lastSeqReg p)).toNat

/-- A command is to be executed (R58): it is the next of its path, of a known type and a right length. -/
def Dev.executes (s : Dev) (p : Path) (m : HMsg) : Bool :=
  typeKnown m.typ && lenOk m.typ m.len && (m.typ == tHello || seqSub m.seq (s.lastSeq p) == 1)

/-- f applied to the block alone. -/
def State.onD (s : State) (f : Dev → Dev) : State := { s with dev := f s.dev }

/-- The procedure of R58 for a command taken from its path; f executes and answers it. -/
def State.decide (s : State) (p : Path) (m : HMsg) (f : State → State) : State :=
  let last := s.dev.lastSeq p
  let d := seqSub m.seq last
  let go (t : State) : State :=
    if !typeKnown m.typ then t.onD fun x => x.ack p m.seq .type []
    else if !lenOk m.typ m.len then t.onD fun x => x.ack p m.seq .length []
    else f t
  if m.typ = tHello then go s
  else if d = 1 then go (s.onD fun t => t.wr (lastSeqReg p) (BitVec.ofNat 32 m.seq))
  else if d = 0 ∨ 2 ^ 31 ≤ d then s.onD fun t => t.ack p m.seq .duplicate []
  else s.onD fun t => t.nack p m.seq ((last + 1) % 2 ^ 32)

/-- The oldest command of a path leaves it. -/
def Dev.popMsg (s : Dev) (p : Path) : Dev := s.setPath p { s.path p with inbox := (s.path p).inbox.drop 1 }

/-- Commands of unknown types at the head of a path are answered. -/
def State.skipUnknown (s : State) (p : Path) : State :=
  iter (fun t => match (t.dev.path p).inbox with
    | m :: _ => if typeKnown m.typ then none else some ((t.onD fun d => d.popMsg p).decide p m id)
    | [] => none) (s.dev.path p).inbox.length s

/-- Accesses that a REG_READ or REG_WRITE waits for begin (R473, R478). -/
def Dev.accessAll (s : Dev) (l : List Nat) : Dev := forEach l s fun a t => t.accessAddr a

/-- The oldest command of a path, where it is of a type and mine selects it: decided, unless it waits for its domains. -/
def State.message (s : State) (p : Path) (typ : Nat) (mine : HMsg → Bool) (f : HMsg → State → State) : State :=
  let t := s.skipUnknown p
  match (t.dev.path p).inbox with
  | [] => t
  | m :: _ =>
    if m.typ ≠ typ ∨ (lenOk typ m.len ∧ !mine m) then t
    else if t.dev.executes p m then
      let u := t.onD fun d => d.accessAll m.addrs
      if m.addrs.all u.dev.addrUp then (u.onD fun d => d.popMsg p).decide p m (f m) else u
    else (t.onD fun d => d.popMsg p).decide p m (f m)

/-- HELLO: the bounds of the path; it asks a module in BIVOUAC to wake (R58, R78). -/
def Dev.hello (s : Dev) (p : Path) (m : HMsg) : Dev :=
  let t := if s.is R.MOD_WAKE_EN_HOST then s.fire .wakeHost else s
  t.ack p m.seq .ok (le 4 (t.lastSeq p + 1) ++ le 4 t.nextSeq ++ le 4 t.oldest ++ le 4 (t.rd R.HIF_BOOT_COUNT).toNat ++ le 1 t.sup.mode.code)

/-- A path sends a replay, or snapshot parts. -/
def Dev.pathBusy (s : Dev) (p : Path) : Bool := (s.path p).replay.isSome || (s.path p).snap.isSome

/-- Numbers of a range that the journal holds. -/
def Dev.heldRange (s : Dev) (first count : Nat) : Nat :=
  ((List.range count).filter fun i => (s.journalAt ((first + i) % 2 ^ 32)).isSome).length

/-- REPLAY (R69): the ACK, then the replayed messages, then live ones. -/
def Dev.replay (s : Dev) (p : Path) (m : HMsg) : Dev :=
  let first := leAt m.payload 0 4
  let count := leAt m.payload 4 2
  if s.pathBusy p then s.ack p m.seq .busy []
  else if count > 4096 then s.ack p m.seq .argument []
  else
    let n := s.heldRange first count
    let t := if count = 0 then s else s.setPath p { s.path p with replay := some (first, count, (s.nextSeq + 1) % 2 ^ 32) }
    t.ack p m.seq (if n = count then .ok else .partial_) (le 4 s.oldest ++ le 2 n)

/-- A snapshot record (Table 3-7). -/
def snapRec (tag : Nat) (b : List Byte) : List Byte := le 2 tag ++ le 2 b.length ++ padTo ((b.length + 3) / 4 * 4) b

/-- The low n bytes of what a register shows. -/
def Dev.snapReg (s : Dev) (fz : Fuses) (n a : Nat) : List Byte := le n (s.regView fz a).toNat
def Dev.snapRegs (s : Dev) (fz : Fuses) (l : List Nat) : List Byte := l.flatMap (s.snapReg fz 4)

/-- The records of every block that has state to report, each as its chapter gives it. -/
def Dev.snapRecords (s : Dev) (fz : Fuses) : List Byte :=
  let r := s.snapRegs fz
  let h := s.snapReg fz 2
  snapRec 0x0101 (r [R.HIF_H2D_LAST_SEQ, R.HIF_H2D_LAST_SEQ_IB, R.HIF_H2D_LAST_SEQ_RM]) ++
  snapRec 0x0201 (r [R.IMG_STATUS, R.IMG_ACTIVE_SERIAL, R.IMG_RUN_EPOCH]) ++
  snapRec 0x0301 (le 1 s.sup.mode.code ++ le 1 s.role.code ++ le 1 s.sup.lastTrigger ++ [0] ++ le 2 (s.get R.MOD_PACE_TARGET_TARGET) ++
    le 2 (s.get R.MOD_PACE_STATUS_SETTING)) ++
  snapRec 0x0401 (r [R.LFE_STATUS] ++ h (R.LFE_x_STATUS 0) ++ h (R.LFE_x_STATUS 1)) ++
  snapRec 0x0501 (r [R.LFR_x_STATUS 0, R.LFR_x_STATUS 1]) ++
  snapRec 0x0601 (r [R.ACT_STATUS, R.ACT_EQD, R.ACT_TREE, R.ACT_TDM_BASE]) ++
  snapRec 0x0701 (r [R.BEL_x_STATUS 0, R.BEL_x_STATUS 1, R.BEL_x_BEACON 0, R.BEL_x_BEACON 1]) ++
  snapRec 0x0801 ((List.range 16).flatMap fun n => h (R.TRB_n_STATUS n)) ++
  snapRec 0x0A01 (r [R.THK_VERSION, R.THK_HOLDERS, R.THK_PENDING, R.THK_OCCUPANCY]) ++
  snapRec 0x0B01 (r [R.SCH_FRONT_USED, R.SCH_DEEP_USED, R.SCH_SHARED_FREE]) ++
  snapRec 0x0C01 (r [R.TMB_STATUS, R.TMB_INCR_LO, R.TMB_INCR_HI, R.TMB_TXS_LEVEL]) ++
  snapRec 0x0D01 (r [R.ENG_TRAP_PEND, R.ENG_MSG_POOL]) ++
  snapRec 0x0E01 (r [R.TSK_STATUS, R.TSK_TRACE_NEXT, R.TSK_CTX]) ++
  snapRec 0x0F01 ((List.range 8).flatMap fun u => le 2 (maskOf 16 fun k => s.chIs u k .halted)) ++
  snapRec 0x1001 (r [R.CPH_STATUS, R.CPH_SLOTS_USED]) ++
  snapRec 0x1101 (r [R.MAC_STATUS] ++ le 4 ((List.range 8).map fun n => s.get (R.MAC_En_CFG_CT_STEP n) * 16 ^ n).sum) ++
  snapRec 0x1201 (r [R.LAN_STATUS] ++ (List.range 4).flatMap fun g => s.snapReg fz 1 (R.LAN_Gg_STATUS g)) ++
  snapRec 0x1301 (r [R.ROP_STATUS, R.ROP_RELAY_STATUS]) ++
  snapRec 0x1401 (r [R.TWN_STATUS, R.TWN_VERDICT]) ++
  snapRec 0x1501 (r [R.MEM_STATUS, R.MEM_PITON_STATUS]) ++
  snapRec 0x1601 (r [R.PWR_UP_LO, R.PWR_UP_HI])

/-- The snapshot at point S (Table 3-7, R70). -/
def Dev.snapshot (s : Dev) (fz : Fuses) : List Byte :=
  let l := s.snapRecords fz
  [0x53, 0x4E, 0x50, 0x31] ++ le 4 (32 + l.length) ++ le 4 s.nextSeq ++ le 4 (s.rd R.HIF_BOOT_COUNT).toNat ++ le 1 s.sup.mode.code ++
    List.replicate 15 0 ++ l

/-- SNAP_PART messages of a snapshot, each carrying S in SEQ (R71). -/
def snapParts (pt : Nat) (b : List Byte) : List (List Byte) :=
  let n := (b.length + 47) / 48
  (List.range n).map fun i =>
    let d := (b.drop (48 * i)).take 48
    le 4 pt ++ le 2 0x0183 ++ le 1 (4 + d.length) ++ [0] ++ le 4 0 ++ padTo 52 (le 2 i ++ le 2 n ++ d)

/-- SNAPSHOT (R70, R71); err: a PCIe error as the buffer is written. -/
def Dev.takeSnapshot (s : Dev) (fz : Fuses) (p : Path) (err : Bool) (m : HMsg) : Dev :=
  let b := s.snapshot fz
  if s.pathBusy p then s.ack p m.seq .busy []
  else match p with
    | .pcie =>
      if err then (s.raise R.HIF_ERR_SNAP_WRITE).ack p m.seq .argument []
      else (s.emit (.hostWrite (s.rd64 R.HIF_SNAP_BASE_LO) b)).ack p m.seq .ok (le 4 b.length)
    | _ =>
      let l := snapParts s.nextSeq b
      (s.setPath p { s.path p with snap := some (s.nextSeq, l.length, l) }).ack p m.seq .ok (le 4 b.length)

/-- Registers read in order, with the effects of R54 and R55. -/
def Dev.readAll (s : Dev) (fz : Fuses) (l : List Nat) : Dev × List Byte :=
  l.foldl (fun (x : Dev × List Byte) a => let r := x.1.readNow fz a; (r.1, x.2 ++ le 4 r.2.toNat)) (s, [])

/-- REG_READ (R60). -/
def Dev.regRead (s : Dev) (fz : Fuses) (p : Path) (m : HMsg) : Dev :=
  if leAt m.payload 4 1 > 12 then s.ack p m.seq .argument []
  else let r := s.readAll fz m.addrs; r.1.ack p m.seq .ok r.2

/-- A register write that takes effect now, IMG_CMD included. -/
def State.writeNow (s : State) (a : Nat) (v : Word) : State := if a = R.IMG_CMD then s.imgCmd v.toNat else s.onD fun d => d.writeNow a v

/-- The words of a REG_WRITE with their addresses. -/
def HMsg.writes (m : HMsg) : List (Nat × Word) := (List.range m.addrs.length).map fun i => (m.addrs.getD i 0, w32 (leAt m.payload (4 + 4 * i) 4))

/-- A path may write registers (R60). -/
def Dev.mayWrite (s : Dev) : Path → Bool
  | .pcie => true
  | .inBand => s.is R.HIF_CTL_IB_WRITE
  | .remote => s.is R.HIF_CTL_RM_WRITE

/-- Words written in order, then the answer; before a write that resets the device, which ends the command, the answer is given
(R59, R60, R92). -/
def State.writeAll (p : Path) (seq : Nat) : List (Nat × Word) → State → State
  | [], s => s.onD fun d => d.ack p seq .ok []
  | x :: l, s =>
    if (s.writeNow x.1 x.2).dev.sup.inReset.isNone then State.writeAll p seq l (s.writeNow x.1 x.2)
    else (s.onD fun d => d.ack p seq .ok []).writeNow x.1 x.2

/-- REG_WRITE (R60). -/
def State.regWrite (s : State) (p : Path) (m : HMsg) : State :=
  if !s.dev.mayWrite p then s.onD fun d => d.ack p m.seq .path [] else State.writeAll p m.seq m.writes s

/-- IMG_XFER (R61). -/
def Dev.imgXfer (s : Dev) (p : Path) (m : HMsg) : Dev :=
  let o := leAt m.payload 0 4
  let b := (m.payload.take m.len).drop 4
  if s.img.op.isSome ∧ s.img.state ≠ .fetch then s.ack p m.seq .mode []
  else if o + b.length > 268435456 then s.ack p m.seq .argument []
  else ({ s with img := { s.img with staging := swrite o b s.img.staging } } : Dev).ack p m.seq .ok []

/-- MODE_REQ (R79, R101); an unlisted REQ is ARGUMENT. -/
def Dev.modeMsg (s : Dev) (p : Path) (m : HMsg) : Dev :=
  match reqOf (leAt m.payload 0 1) with
  | none => s.ack p m.seq .argument []
  | some r =>
    let x := s.modReq { req := r, key := leAt m.payload 1 2, src := .message p }
    (x.1.ack p m.seq .ok (le 1 x.2.code)).resetDue

/-- A host request by the register: a write of MOD_REQ. -/
def Dev.modeReg (s : Dev) (r : Req) (key : Nat) : Dev := s.modReqWrite (r.code + 2 ^ 16 * key)

/-- TASK_MSG (R316); a FLAG above 31 is ARGUMENT. -/
def Dev.taskMsg (s : Dev) (p : Path) (m : HMsg) : Dev :=
  let flag := leAt m.payload 2 1
  if flag > 31 then s.ack p m.seq .argument []
  else
    let r := s.deliver (leAt m.payload 0 2) { kind := 1, flag := flag, src := 0xFFFF, node := 0x3FF, payload := Sys2Proof.Machine.slice m.payload 4 48 }
    r.1.ack p m.seq .ok (le 1 r.2)

/-- TSK_FLAGS (R321); an OP not listed is ARGUMENT. -/
def Dev.tskFlags (s : Dev) (p : Path) (m : HMsg) : Dev :=
  let n := leAt m.payload 0 2
  let f := leAt m.payload 4 4
  match leAt m.payload 2 1 with
  | 0 => (s.setFlags n f).ack p m.seq .ok (le 1 TskRes.ok.code)
  | 1 => (s.clearFlags n f).ack p m.seq .ok (le 1 TskRes.ok.code)
  | _ => s.ack p m.seq .argument []

/-- A message row whose meaning acts on the block alone. -/
def State.devMsg (s : State) (p : Path) (typ : Nat) (mine : HMsg → Bool) (f : Fuses → HMsg → Dev → Dev) : State :=
  s.message p typ mine fun m t => t.onD (f t.fuses m)

/-- HELLO (R58). -/
def execHello (p : Path) (s : State) : Host.Outcome State Fault Refusal :=
  s.runAll fun t => t.devMsg p tHello (fun _ => true) fun _ m d => d.hello p m

/-- REPLAY (R69). -/
def execReplay (p : Path) (s : State) : Host.Outcome State Fault Refusal :=
  s.runAll fun t => t.devMsg p tReplay (fun _ => true) fun _ m d => d.replay p m

/-- SNAPSHOT (R70). -/
def execSnapshot (p : Path) (err : Bool) (s : State) : Host.Outcome State Fault Refusal :=
  s.runAll fun t => t.devMsg p tSnapshot (fun _ => true) fun fz m d => d.takeSnapshot fz p err m

/-- REG_READ (R60). -/
def execRegRead (p : Path) (s : State) : Host.Outcome State Fault Refusal :=
  s.runAll fun t => t.devMsg p tRegRead (fun _ => true) fun fz m d => d.regRead fz p m

/-- REG_WRITE (R60). -/
def execRegWrite (p : Path) (s : State) : Host.Outcome State Fault Refusal :=
  s.runAll fun t => t.message p tRegWrite (fun _ => true) fun m u => u.regWrite p m

/-- IMG_XFER (R61). -/
def execImgXfer (p : Path) (s : State) : Host.Outcome State Fault Refusal :=
  s.runAll fun t => t.devMsg p tImgXfer (fun _ => true) fun _ m d => d.imgXfer p m

/-- A MODE_REQ message with this REQ, or with one that is not listed. -/
def HMsg.asks (m : HMsg) (r : Req) : Bool := match reqOf (leAt m.payload 0 1) with | some q => q == r | none => true

/-- A host request by either source. -/
def State.modeReq (s : State) (src : ReqSrc) (r : Req) (key : Nat) : State :=
  match src with
  | .register => s.onD fun d => d.modeReg r key
  | .message p => s.devMsg p tModeReq (fun m => m.asks r) fun _ m d => d.modeMsg p m

/-- MODE_REQ_BIVOUAC (R79). -/
def execModeReqBivouac (src : ReqSrc) (s : State) : Host.Outcome State Fault Refusal := s.runAll fun t => t.modeReq src .bivouac 0

/-- MODE_REQ_WAKE (R78). -/
def execModeReqWake (src : ReqSrc) (s : State) : Host.Outcome State Fault Refusal := s.runAll fun t => t.modeReq src .wake 0

/-- MODE_REQ_TEST (R83). -/
def execModeReqTest (src : ReqSrc) (key : BitVec 16) (s : State) : Host.Outcome State Fault Refusal :=
  s.runAll fun t => t.modeReq src .test key.toNat

/-- MODE_REQ_EXIT_TEST (R83). -/
def execModeReqExitTest (src : ReqSrc) (s : State) : Host.Outcome State Fault Refusal := s.runAll fun t => t.modeReq src .exitTest 0

/-- MODE_REQ_CANCEL (R87). -/
def execModeReqCancel (src : ReqSrc) (s : State) : Host.Outcome State Fault Refusal := s.runAll fun t => t.modeReq src .cancel 0

/-- TASK_MSG (R316). -/
def execTaskMsg (p : Path) (s : State) : Host.Outcome State Fault Refusal :=
  s.runAll fun t => t.devMsg p tTaskMsg (fun _ => true) fun _ m d => d.taskMsg p m

/-- TSK_FLAGS_SET (R321). -/
def execTskFlagsSet (p : Path) (s : State) : Host.Outcome State Fault Refusal :=
  s.runAll fun t => t.devMsg p tTskFlags (fun m => leAt m.payload 2 1 != 1) fun _ m d => d.tskFlags p m

/-- TSK_FLAGS_CLEAR (R321). -/
def execTskFlagsClear (p : Path) (s : State) : Host.Outcome State Fault Refusal :=
  s.runAll fun t => t.devMsg p tTskFlags (fun m => leAt m.payload 2 1 != 0) fun _ m d => d.tskFlags p m

end Sys2Proof.Machine
end

