-- ==== Sys2Proof/Machine/HostAccess.lean ====
section
/-!
DEFINITION. Sys2Proof/Machine/HostAccess.lean: host reads and writes of BAR0 over PCIe: access codes, 64-bit pairs, narrow and unmapped
accesses, accesses that wait for a sleeping domain, domains that become ready, reads that time out (00_scope.md R3, R4; 03 R54,
R55; 22 R474 to R478, R485).
-/
namespace Sys2Proof.Machine

/-- A host read completes: the value, with its side effects (R54). -/
def State.readDone (s : State) (a : Nat) : State := s.onDev fun fz d => let r := d.readAt fz a; r.1.answerRead a r.2

/-- A host read: at once where its domain is up and no write is held before it, else it waits at most 1 ms (R55, R476, R477). -/
def State.hostRead (s : State) (a : Nat) : State :=
  if !s.dev.mapped (a / 4 * 4) then s.readDone a
  else
    let t := s.onD fun d => d.accessAddr a
    if t.dev.addrUp a ∧ t.dev.heldWrites = 0 then t.readDone a
    else t.onD fun d => { d with hif := { d.hif with waiting := d.hif.waiting ++ [.read a (d.ticks + msTicks)] } }

/-- A host write: at once where it is taken, else it waits until its domain is ready (R54, R55, R477); one that is not aligned writes parts
of two words and is narrow to each (DEDUCED from R54). -/
def State.hostWrite (s : State) (a : Nat) (v : Word) : State :=
  if !s.dev.mapped (a / 4 * 4) then s.onD fun d => d.raise R.HIF_ERR_UNMAPPED
  else if a % 4 ≠ 0 then s.onD fun d => d.raise R.HIF_ERR_WIDTH
  else
    let t := s.onD fun d => d.accessAddr a
    if t.dev.takesWrite a then t.writeNow a v
    else t.onD fun d => { d with hif := { d.hif with waiting := d.hif.waiting ++ [.write a v] } }

/-- The first waiting access that can proceed, and the others: writes in arrival order, a read behind every earlier write and
past reads that still wait (R476, R477). -/
def readyAccess (up : Nat → Bool) : List HostAcc → Option (HostAcc × List HostAcc)
  | [] => none
  | .write a v :: l => if up a then some (.write a v, l) else none
  | .read a n :: l => if up a then some (.read a n, l) else (readyAccess up l).map fun x => (x.1, .read a n :: x.2)

/-- A waiting access proceeds; its hold runs from its completion (R473). -/
def State.proceed (s : State) (x : HostAcc) (rest : List HostAcc) : State :=
  let t := s.onD fun d => { d with hif := { d.hif with waiting := rest } }
  match x with
  | .read a _ => (t.onD fun d => d.accessAddr a).readDone a
  | .write a v => (t.onD fun d => d.accessAddr a).writeNow a v

/-- Waiting accesses proceed in arrival order, at most n of them (P8, R477). -/
def State.serve : Nat → State → State
  | 0, s => s
  | n + 1, s => match readyAccess s.dev.addrUp s.dev.hif.waiting with
    | none => s
    | some (x, rest) => State.serve n (s.proceed x rest)

/-- Domain d is UP: its wake is counted and timed (P8, PWR_WAKES, PWR_LAST_WAKE). -/
def Dev.domainUp (s : Dev) (d : Nat) : Dev :=
  let start := sget 0 d s.pwr.wakeStart
  let t := ((s.wakeRestore d).setDom d .up).countR R.PWR_WAKES 1
  let u : Dev := { t with pwr := { t.pwr with wakeStart := serase d t.pwr.wakeStart, readWakes := clrBit t.pwr.readWakes d } }
  (u.set R.PWR_LAST_WAKE_DOMAIN d).set R.PWR_LAST_WAKE_US (sat 24 ((s.ticks - start) / usTicks))

/-- DOMAIN_READY: a waking domain is ready, where DRAM is up for those that need it; stalled accesses proceed (R471, R474 P8). -/
def State.domainReady (s : State) (d : Nat) : State :=
  if s.dev.dom d ≠ .waking ∨ (needsDram d ∧ !s.dev.isUp domDram) then s
  else
    let t := s.onD fun x => x.domainUp d
    (State.serve t.dev.hif.waiting.length t).onD Dev.revote

/-- The reads among waiting accesses end with the first one. -/
def firstRead : List HostAcc → Option ((Nat × Nat) × List HostAcc)
  | [] => none
  | .read a n :: l => some ((a, n), l)
  | x :: l => (firstRead l).map fun r => (r.1, x :: r.2)

/-- HOST_TIMEOUT is journalled at most once a second (R485). -/
def Dev.timeoutEvent (s : Dev) (dom : Nat) : Dev :=
  if s.pwr.lastTimeout.any fun t => s.ticks < t + secTicks then s.raise R.PWR_IRQ_HOST_TIMEOUT
  else ({ s with pwr := { s.pwr with lastTimeout := some s.ticks } } : Dev).pwrEvent 5 dom 0

/-- HOST_READ_TIMEOUT: 1 ms after it arrived the oldest waiting read completes with all ones and no side effect, and a wake of its
domain goes on under its hold (R476). -/
def doHostReadTimeout (s : Dev) : Dev :=
  match firstRead s.hif.waiting with
  | none => s
  | some ((a, due), rest) =>
    let t := s.until_ due
    let t1 : Dev := ({ t with hif := { t.hif with waiting := rest } } : Dev).accessAddr a
    let t2 : Dev := match domOf a with
      | some d => if t1.isUp d then t1 else { t1 with pwr := { t1.pwr with readWakes := setBit t1.pwr.readWakes d } }
      | none => t1
    ((t2.countR R.PWR_HOST_TIMEOUTS 1).timeoutEvent ((domOf a).getD 0x3F)).answerRead a 0xFFFFFFFF

/-- NARROW_WRITE: a write of less than 32 bits to a register is discarded (R54). -/
def doNarrowWrite (addr : Nat) (s : Dev) : Dev :=
  if s.mapped (addr / 4 * 4) then s.raise R.HIF_ERR_WIDTH else s.raise R.HIF_ERR_UNMAPPED

/-- UNMAPPED_ACCESS: a read answers 0, a write is discarded (R55). -/
def doUnmappedAccess (addr : Nat) (write : Bool) (s : Dev) : Dev :=
  if s.mapped (addr / 4 * 4) then s
  else if write then s.raise R.HIF_ERR_UNMAPPED
  else (s.raise R.HIF_ERR_UNMAPPED).answerRead addr 0

/-- LOW_WORD_READ (R3). -/
def execLowWordRead (addr : Nat) (s : State) : Host.Outcome State Fault Refusal := s.runAll fun t => t.hostRead addr

/-- HIGH_WORD_READ (R3). -/
def execHighWordRead (addr : Nat) (s : State) : Host.Outcome State Fault Refusal := s.runAll fun t => t.hostRead addr

/-- HIGH_WORD_WRITE (R3). -/
def execHighWordWrite (addr : Nat) (v : Word) (s : State) : Host.Outcome State Fault Refusal := s.runAll fun t => t.hostWrite addr v

/-- RC_READ (R4, R5). -/
def execRcRead (addr : Nat) (s : State) : Host.Outcome State Fault Refusal := s.runAll fun t => t.hostRead addr

/-- REGISTER_WRITE (R4, R7, R8). -/
def execRegisterWrite (addr : Nat) (v : Word) (s : State) : Host.Outcome State Fault Refusal := s.runAll fun t => t.hostWrite addr v

/-- DOMAIN_READY (R474). -/
def execDomainReady (dom : Fin 43) (s : State) : Host.Outcome State Fault Refusal := s.runAll fun t => t.domainReady dom

-- The commands of this file.

/-- HOST_READ_TIMEOUT (R476). -/
def execHostReadTimeout (s : State) : Host.Outcome State Fault Refusal := s.run (doHostReadTimeout)

/-- NARROW_WRITE (R54). -/
def execNarrowWrite (addr : Nat) (s : State) : Host.Outcome State Fault Refusal := s.run (doNarrowWrite addr)

/-- UNMAPPED_ACCESS (R55). -/
def execUnmappedAccess (addr : Nat) (write : Bool) (s : State) : Host.Outcome State Fault Refusal := s.run (doUnmappedAccess addr write)

end Sys2Proof.Machine
end

