-- ==== Sys2Proof/Machine/Dispatch.lean ====
section
/-! DEFINITION. Sys2Proof/Machine/Dispatch.lean: every command and its meaning. -/
namespace Sys2Proof.Machine

/-- The effect of a command on everything but the queue. -/
def exec (i : Instr) (s : State) : Host.Outcome State Fault Refusal :=
  match i with
  | .lowWordRead addr => Sys2Proof.Machine.execLowWordRead addr s
  | .highWordRead addr => Sys2Proof.Machine.execHighWordRead addr s
  | .highWordWrite addr v => Sys2Proof.Machine.execHighWordWrite addr v s
  | .rcRead addr => Sys2Proof.Machine.execRcRead addr s
  | .registerWrite addr v => Sys2Proof.Machine.execRegisterWrite addr v s
  | .narrowWrite addr => Sys2Proof.Machine.execNarrowWrite addr s
  | .unmappedAccess addr write => Sys2Proof.Machine.execUnmappedAccess addr write s
  | .loadFull source => Sys2Proof.Machine.execLoadFull source s
  | .loadPartial source force => Sys2Proof.Machine.execLoadPartial source force s
  | .reloadRetained => Sys2Proof.Machine.execReloadRetained s
  | .abandon => Sys2Proof.Machine.execAbandon s
  | .advanceEpoch key => Sys2Proof.Machine.execAdvanceEpoch key s
  | .revokeKey slot key => Sys2Proof.Machine.execRevokeKey slot key s
  | .imageFetchDone r => Sys2Proof.Machine.execImageFetchDone r s
  | .drainDone => Sys2Proof.Machine.execDrainDone s
  | .drainLimitExpiry => Sys2Proof.Machine.execDrainLimitExpiry s
  | .pitchLoadDone failed => Sys2Proof.Machine.execPitchLoadDone failed s
  | .hifCtlWrite v => Sys2Proof.Machine.execHifCtlWrite v s
  | .h2dTailWrite v entries => Sys2Proof.Machine.execH2dTailWrite v entries s
  | .h2dFetchError => Sys2Proof.Machine.execH2dFetchError s
  | .d2hHeadWrite v => Sys2Proof.Machine.execD2hHeadWrite v s
  | .hello p => Sys2Proof.Machine.execHello p s
  | .replay p => Sys2Proof.Machine.execReplay p s
  | .snapshot p err => Sys2Proof.Machine.execSnapshot p err s
  | .regRead p => Sys2Proof.Machine.execRegRead p s
  | .regWrite p => Sys2Proof.Machine.execRegWrite p s
  | .imgXfer p => Sys2Proof.Machine.execImgXfer p s
  | .d2hRingResume => Sys2Proof.Machine.execD2hRingResume s
  | .coalesceTimerExpiry => Sys2Proof.Machine.execCoalesceTimerExpiry s
  | .ibFrameReceive n frame => Sys2Proof.Machine.execIbFrameReceive n frame s
  | .modeReqBivouac src => Sys2Proof.Machine.execModeReqBivouac src s
  | .modeReqWake src => Sys2Proof.Machine.execModeReqWake src s
  | .modeReqTest src key => Sys2Proof.Machine.execModeReqTest src key s
  | .modeReqExitTest src => Sys2Proof.Machine.execModeReqExitTest src s
  | .modeReqCancel src => Sys2Proof.Machine.execModeReqCancel src s
  | .acqLimitExpiry => Sys2Proof.Machine.execAcqLimitExpiry s
  | .acqLimitWrite v => Sys2Proof.Machine.execAcqLimitWrite v s
  | .gpioWakeEdge pin falling => Sys2Proof.Machine.execGpioWakeEdge pin falling s
  | .paceCompare reading => Sys2Proof.Machine.execPaceCompare reading s
  | .powerApplied => Sys2Proof.Machine.execPowerApplied s
  | .resetRelease => Sys2Proof.Machine.execResetRelease s
  | .bootDone => Sys2Proof.Machine.execBootDone s
  | .softReset v => Sys2Proof.Machine.execSoftReset v s
  | .rstNLow => Sys2Proof.Machine.execRstNLow s
  | .wdogKick v => Sys2Proof.Machine.execWdogKick v s
  | .wdogCfgWrite v => Sys2Proof.Machine.execWdogCfgWrite v s
  | .wdogWarn => Sys2Proof.Machine.execWdogWarn s
  | .watchdogHost => Sys2Proof.Machine.execWatchdogHost s
  | .watchdogPlatform => Sys2Proof.Machine.execWatchdogPlatform s
  | .brownout rail => Sys2Proof.Machine.execBrownout rail s
  | .acFail => Sys2Proof.Machine.execAcFail s
  | .acRestored => Sys2Proof.Machine.execAcRestored s
  | .losOn p power => Sys2Proof.Machine.execLosOn p power s
  | .losOff p rx => Sys2Proof.Machine.execLosOff p rx s
  | .lol p => Sys2Proof.Machine.execLol p s
  | .lolClear p => Sys2Proof.Machine.execLolClear p s
  | .overloadOn p power => Sys2Proof.Machine.execOverloadOn p power s
  | .overloadOff p power => Sys2Proof.Machine.execOverloadOff p power s
  | .portReady p eq taps => Sys2Proof.Machine.execPortReady p eq taps s
  | .offsetCal p => Sys2Proof.Machine.execOffsetCal p s
  | .calStart p => Sys2Proof.Machine.execCalStart p s
  | .fullCalDone p eq taps => Sys2Proof.Machine.execFullCalDone p eq taps s
  | .tecLockChange p lock temp => Sys2Proof.Machine.execTecLockChange p lock temp s
  | .tecFault p => Sys2Proof.Machine.execTecFault p s
  | .rogueDetect p => Sys2Proof.Machine.execRogueDetect p s
  | .rogueClr p light => Sys2Proof.Machine.execRogueClr p light s
  | .portSelect p => Sys2Proof.Machine.execPortSelect p s
  | .autoSwitch => Sys2Proof.Machine.execAutoSwitch s
  | .switchComplete => Sys2Proof.Machine.execSwitchComplete s
  | .holdExpiry => Sys2Proof.Machine.execHoldExpiry s
  | .psyncHuntMatch p pos => Sys2Proof.Machine.execPsyncHuntMatch p pos s
  | .psyncCandidateMiss p pos => Sys2Proof.Machine.execPsyncCandidateMiss p pos s
  | .downstreamFrame p f => Sys2Proof.Machine.execDownstreamFrame p f s
  | .defectWindowEnd p => Sys2Proof.Machine.execDefectWindowEnd p s
  | .dsCfgWrite v => Sys2Proof.Machine.execDsCfgWrite v s
  | .upstreamFrameStart => Sys2Proof.Machine.execUpstreamFrameStart s
  | .upstreamBurst power biasMax => Sys2Proof.Machine.execUpstreamBurst power biasMax s
  | .rangeTimeout => Sys2Proof.Machine.execRangeTimeout s
  | .resumeWaitExpiry => Sys2Proof.Machine.execResumeWaitExpiry s
  | .snEnWrite v => Sys2Proof.Machine.execSnEnWrite v s
  | .actRestart => Sys2Proof.Machine.execActRestart s
  | .preambleDetect p phase x => Sys2Proof.Machine.execPreambleDetect p phase x s
  | .syncWordDetect p phase x => Sys2Proof.Machine.execSyncWordDetect p phase x s
  | .preambleTimeout p => Sys2Proof.Machine.execPreambleTimeout p s
  | .candidateDrop p => Sys2Proof.Machine.execCandidateDrop p s
  | .belayHeader p soft => Sys2Proof.Machine.execBelayHeader p soft s
  | .belayPacketEnd p soft => Sys2Proof.Machine.execBelayPacketEnd p soft s
  | .mergeEffect p => Sys2Proof.Machine.execMergeEffect p s
  | .beaconLoss p => Sys2Proof.Machine.execBeaconLoss p s
  | .belayWindowStart => Sys2Proof.Machine.execBelayWindowStart s
  | .belayTxEnd => Sys2Proof.Machine.execBelayTxEnd s
  | .statusReq => Sys2Proof.Machine.execStatusReq s
  | .dsCodeWrite p v => Sys2Proof.Machine.execDsCodeWrite p v s
  | .e1InputFrame n b => Sys2Proof.Machine.execE1InputFrame n b s
  | .e1LosOn n => Sys2Proof.Machine.execE1LosOn n s
  | .e1OutputFrame n => Sys2Proof.Machine.execE1OutputFrame n s
  | .e1DsWindow n => Sys2Proof.Machine.execE1DsWindow n s
  | .holdLimit => Sys2Proof.Machine.execHoldLimit s
  | .parseFrame user => Sys2Proof.Machine.execParseFrame user s
  | .bucketFetchDone b bad => Sys2Proof.Machine.execBucketFetchDone b bad s
  | .insert t => Sys2Proof.Machine.execInsert t s
  | .replace t => Sys2Proof.Machine.execReplace t s
  | .delete t => Sys2Proof.Machine.execDelete t s
  | .lookup t view => Sys2Proof.Machine.execLookup t view s
  | .hedgeWrite k => Sys2Proof.Machine.execHedgeWrite k s
  | .hedgeClear k => Sys2Proof.Machine.execHedgeClear k s
  | .thkBatch v recs => Sys2Proof.Machine.execThkBatch v recs s
  | .commitGo => Sys2Proof.Machine.execCommitGo s
  | .commitRelease => Sys2Proof.Machine.execCommitRelease s
  | .thkAbort => Sys2Proof.Machine.execThkAbort s
  | .holderAged => Sys2Proof.Machine.execHolderAged s
  | .walkerVisit => Sys2Proof.Machine.execWalkerVisit s
  | .deepToFrontCopy q => Sys2Proof.Machine.execDeepToFrontCopy q s
  | .classFifoFill e c => Sys2Proof.Machine.execClassFifoFill e c s
  | .launchSelect e => Sys2Proof.Machine.execLaunchSelect e s
  | .frameLaunchDone e => Sys2Proof.Machine.execFrameLaunchDone e s
  | .gateTick e => Sys2Proof.Machine.execGateTick e s
  | .gclCommit e => Sys2Proof.Machine.execGclCommit e s
  | .gclAbort e => Sys2Proof.Machine.execGclAbort e s
  | .gclStart e => Sys2Proof.Machine.execGclStart e s
  | .timedLaunch e => Sys2Proof.Machine.execTimedLaunch e s
  | .resvWrite q v => Sys2Proof.Machine.execResvWrite q v s
  | .tokenRateWrite b v => Sys2Proof.Machine.execTokenRateWrite b v s
  | .tokenBurstWrite b v => Sys2Proof.Machine.execTokenBurstWrite b v s
  | .incrWrite v => Sys2Proof.Machine.execIncrWrite v s
  | .timeFracRead => Sys2Proof.Machine.execTimeFracRead s
  | .stepAdd => Sys2Proof.Machine.execStepAdd s
  | .stepSet => Sys2Proof.Machine.execStepSet s
  | .lineWindowEnd => Sys2Proof.Machine.execLineWindowEnd s
  | .lineDevRead => Sys2Proof.Machine.execLineDevRead s
  | .refWindowEnd elapsed gap => Sys2Proof.Machine.execRefWindowEnd elapsed gap s
  | .ppsInEdge => Sys2Proof.Machine.execPpsInEdge s
  | .ppsInRead => Sys2Proof.Machine.execPpsInRead s
  | .ppsOutRise => Sys2Proof.Machine.execPpsOutRise s
  | .ppsOutFall => Sys2Proof.Machine.execPpsOutFall s
  | .txsPop => Sys2Proof.Machine.execTxsPop s
  | .add e => Sys2Proof.Machine.execAdd e s
  | .sub e => Sys2Proof.Machine.execSub e s
  | .and_ e => Sys2Proof.Machine.execAnd e s
  | .or_ e => Sys2Proof.Machine.execOr e s
  | .xor_ e => Sys2Proof.Machine.execXor e s
  | .sll e => Sys2Proof.Machine.execSll e s
  | .srl e => Sys2Proof.Machine.execSrl e s
  | .sra e => Sys2Proof.Machine.execSra e s
  | .slt e => Sys2Proof.Machine.execSlt e s
  | .sltu e => Sys2Proof.Machine.execSltu e s
  | .mul e => Sys2Proof.Machine.execMul e s
  | .mulhu e => Sys2Proof.Machine.execMulhu e s
  | .rev e => Sys2Proof.Machine.execRev e s
  | .revh e => Sys2Proof.Machine.execRevh e s
  | .clz e => Sys2Proof.Machine.execClz e s
  | .popc e => Sys2Proof.Machine.execPopc e s
  | .addi e => Sys2Proof.Machine.execAddi e s
  | .andi e => Sys2Proof.Machine.execAndi e s
  | .ori e => Sys2Proof.Machine.execOri e s
  | .xori e => Sys2Proof.Machine.execXori e s
  | .slli e => Sys2Proof.Machine.execSlli e s
  | .srli e => Sys2Proof.Machine.execSrli e s
  | .srai e => Sys2Proof.Machine.execSrai e s
  | .slti e => Sys2Proof.Machine.execSlti e s
  | .sltiu e => Sys2Proof.Machine.execSltiu e s
  | .bext e => Sys2Proof.Machine.execBext e s
  | .bins e => Sys2Proof.Machine.execBins e s
  | .lui e => Sys2Proof.Machine.execLui e s
  | .jal e => Sys2Proof.Machine.execJal e s
  | .jalr e => Sys2Proof.Machine.execJalr e s
  | .beq e => Sys2Proof.Machine.execBeq e s
  | .bne e => Sys2Proof.Machine.execBne e s
  | .blt e => Sys2Proof.Machine.execBlt e s
  | .bge e => Sys2Proof.Machine.execBge e s
  | .bltu e => Sys2Proof.Machine.execBltu e s
  | .bgeu e => Sys2Proof.Machine.execBgeu e s
  | .lb e => Sys2Proof.Machine.execLb e s
  | .lbu e => Sys2Proof.Machine.execLbu e s
  | .lh e => Sys2Proof.Machine.execLh e s
  | .lhu e => Sys2Proof.Machine.execLhu e s
  | .lw e => Sys2Proof.Machine.execLw e s
  | .sb e => Sys2Proof.Machine.execSb e s
  | .sh e => Sys2Proof.Machine.execSh e s
  | .sw e => Sys2Proof.Machine.execSw e s
  | .lbp e => Sys2Proof.Machine.execLbp e s
  | .lhp e => Sys2Proof.Machine.execLhp e s
  | .lwp e => Sys2Proof.Machine.execLwp e s
  | .sbp e => Sys2Proof.Machine.execSbp e s
  | .shp e => Sys2Proof.Machine.execShp e s
  | .swp e => Sys2Proof.Machine.execSwp e s
  | .aadd e => Sys2Proof.Machine.execAadd e s
  | .aand e => Sys2Proof.Machine.execAand e s
  | .aor e => Sys2Proof.Machine.execAor e s
  | .aswap e => Sys2Proof.Machine.execAswap e s
  | .acas e => Sys2Proof.Machine.execAcas e s
  | .fence e => Sys2Proof.Machine.execFence e s
  | .end_ e => Sys2Proof.Machine.execEnd e s
  | .yieldpt e => Sys2Proof.Machine.execYieldpt e s
  | .evwaitAny e => Sys2Proof.Machine.execEvwaitAny e s
  | .evwaitAll e => Sys2Proof.Machine.execEvwaitAll e s
  | .evset e => Sys2Proof.Machine.execEvset e s
  | .evclr e => Sys2Proof.Machine.execEvclr e s
  | .evget e => Sys2Proof.Machine.execEvget e s
  | .tsr e => Sys2Proof.Machine.execTsr e s
  | .tsrh e => Sys2Proof.Machine.execTsrh e s
  | .pnext e => Sys2Proof.Machine.execPnext e s
  | .pnew e => Sys2Proof.Machine.execPnew e s
  | .phead e => Sys2Proof.Machine.execPhead e s
  | .plen e => Sys2Proof.Machine.execPlen e s
  | .psend e => Sys2Proof.Machine.execPsend e s
  | .precirc e => Sys2Proof.Machine.execPrecirc e s
  | .pdrop e => Sys2Proof.Machine.execPdrop e s
  | .tlkp e => Sys2Proof.Machine.execTlkp e s
  | .top e => Sys2Proof.Machine.execTop e s
  | .tcommit e => Sys2Proof.Machine.execTcommit e s
  | .asyncComplete e => Sys2Proof.Machine.execAsyncComplete e s
  | .msendTask e => Sys2Proof.Machine.execMsendTask e s
  | .msendHost e => Sys2Proof.Machine.execMsendHost e s
  | .msendNode e => Sys2Proof.Machine.execMsendNode e s
  | .mrecv e => Sys2Proof.Machine.execMrecv e s
  | .palloc e => Sys2Proof.Machine.execPalloc e s
  | .pfree e => Sys2Proof.Machine.execPfree e s
  | .crc32c e => Sys2Proof.Machine.execCrc32c e s
  | .crc32 e => Sys2Proof.Machine.execCrc32 e s
  | .crc16 e => Sys2Proof.Machine.execCrc16 e s
  | .pageFillDone c page bad => Sys2Proof.Machine.execPageFillDone c page bad s
  | .windowWrite c o v => Sys2Proof.Machine.execWindowWrite c o v s
  | .taskMsg p => Sys2Proof.Machine.execTaskMsg p s
  | .dispatch => Sys2Proof.Machine.execDispatch s
  | .preemptSwitch => Sys2Proof.Machine.execPreemptSwitch s
  | .tskWrite => Sys2Proof.Machine.execTskWrite s
  | .tskRead => Sys2Proof.Machine.execTskRead s
  | .tskFree => Sys2Proof.Machine.execTskFree s
  | .tskSetFlags => Sys2Proof.Machine.execTskSetFlags s
  | .tskClearFlags => Sys2Proof.Machine.execTskClearFlags s
  | .taskRestart => Sys2Proof.Machine.execTaskRestart s
  | .tskFlagsSet p => Sys2Proof.Machine.execTskFlagsSet p s
  | .tskFlagsClear p => Sys2Proof.Machine.execTskFlagsClear p s
  | .channelGo u k v => Sys2Proof.Machine.execChannelGo u k v s
  | .channelStop u k v => Sys2Proof.Machine.execChannelStop u k v s
  | .channelClear u k v => Sys2Proof.Machine.execChannelClear u k v s
  | .channelStart u => Sys2Proof.Machine.execChannelStart u s
  | .move u host => Sys2Proof.Machine.execMove u host s
  | .dmaBurst u host => Sys2Proof.Machine.execDmaBurst u host s
  | .lateError u => Sys2Proof.Machine.execLateError u s
  | .loop u host => Sys2Proof.Machine.execLoop u host s
  | .endloop u host => Sys2Proof.Machine.execEndloop u host s
  | .waitFlag u host => Sys2Proof.Machine.execWaitFlag u host s
  | .waitRequest u host => Sys2Proof.Machine.execWaitRequest u host s
  | .waitSatisfied u => Sys2Proof.Machine.execWaitSatisfied u s
  | .signalTask u host => Sys2Proof.Machine.execSignalTask u host s
  | .signalHost u host => Sys2Proof.Machine.execSignalHost u host s
  | .signalChannel u host => Sys2Proof.Machine.execSignalChannel u host s
  | .nop u host => Sys2Proof.Machine.execNop u host s
  | .dmaEnd u host => Sys2Proof.Machine.execDmaEnd u host s
  | .tapLatch n => Sys2Proof.Machine.execTapLatch n s
  | .hpathCtlWrite v => Sys2Proof.Machine.execHpathCtlWrite v s
  | .hostRingTailWrite tx v => Sys2Proof.Machine.execHostRingTailWrite tx v s
  | .hostRxDeliver desc => Sys2Proof.Machine.execHostRxDeliver desc s
  | .hostTxFetch desc data => Sys2Proof.Machine.execHostTxFetch desc data s
  | .unwrap kek force n => Sys2Proof.Machine.execUnwrap kek force n s
  | .erase n => Sys2Proof.Machine.execErase n s
  | .eraseAll => Sys2Proof.Machine.execEraseAll s
  | .kat pass => Sys2Proof.Machine.execKat pass s
  | .macRxFrame n b code overrun corrected uncorrectable => Sys2Proof.Machine.execMacRxFrame n b code overrun corrected uncorrectable s
  | .pauseTimerExpiry n => Sys2Proof.Machine.execPauseTimerExpiry n s
  | .pauseTxGo n v => Sys2Proof.Machine.execPauseTxGo n v s
  | .underrun n sent => Sys2Proof.Machine.execUnderrun n sent s
  | .lpiEnter n => Sys2Proof.Machine.execLpiEnter n s
  | .lpiExit n => Sys2Proof.Machine.execLpiExit n s
  | .rxLpiChange n on => Sys2Proof.Machine.execRxLpiChange n on s
  | .linkChange n lock fec localFault remoteFault => Sys2Proof.Machine.execLinkChange n lock fec localFault remoteFault s
  | .laneCalDone k => Sys2Proof.Machine.execLaneCalDone k s
  | .laneLosOn k => Sys2Proof.Machine.execLaneLosOn k s
  | .laneLosOff k => Sys2Proof.Machine.execLaneLosOff k s
  | .laneCdrLocked k => Sys2Proof.Machine.execLaneCdrLocked k s
  | .cdrLockLoss k => Sys2Proof.Machine.execCdrLockLoss k s
  | .blockLock x => Sys2Proof.Machine.execBlockLock x s
  | .laneMarker k m complemented arrival => Sys2Proof.Machine.execLaneMarker k m complemented arrival s
  | .checkTimeout k => Sys2Proof.Machine.execCheckTimeout k s
  | .failTimeout k => Sys2Proof.Machine.execFailTimeout k s
  | .lockLoss k headers => Sys2Proof.Machine.execLockLoss k headers s
  | .fillerAdjust k level => Sys2Proof.Machine.execFillerAdjust k level s
  | .laneWakeDone k tx => Sys2Proof.Machine.execLaneWakeDone k tx s
  | .ropeFrameRx n b => Sys2Proof.Machine.execRopeFrameRx n b s
  | .hailTimer n => Sys2Proof.Machine.execHailTimer n s
  | .hailRx n b => Sys2Proof.Machine.execHailRx n b s
  | .hailTimeout n => Sys2Proof.Machine.execHailTimeout n s
  | .lsrRx n b => Sys2Proof.Machine.execLsrRx n b s
  | .lsrRefresh => Sys2Proof.Machine.execLsrRefresh s
  | .lsrAgeOut => Sys2Proof.Machine.execLsrAgeOut s
  | .nodeClaim => Sys2Proof.Machine.execNodeClaim s
  | .routeCompute => Sys2Proof.Machine.execRouteCompute s
  | .rebind => Sys2Proof.Machine.execRebind s
  | .twnEnableWrite v => Sys2Proof.Machine.execTwnEnableWrite v s
  | .mirrorHello seq flags b => Sys2Proof.Machine.execMirrorHello seq flags b s
  | .mirrorHelloTimer => Sys2Proof.Machine.execMirrorHelloTimer s
  | .mirrorThkChange seq b => Sys2Proof.Machine.execMirrorThkChange seq b s
  | .mirrorThkCommit seq b => Sys2Proof.Machine.execMirrorThkCommit seq b s
  | .mirrorHedge seq b => Sys2Proof.Machine.execMirrorHedge seq b s
  | .mirrorGcl seq b => Sys2Proof.Machine.execMirrorGcl seq b s
  | .mirrorTime seq b => Sys2Proof.Machine.execMirrorTime seq b s
  | .mirrorKey seq b => Sys2Proof.Machine.execMirrorKey seq b s
  | .mirrorPn seq b => Sys2Proof.Machine.execMirrorPn seq b s
  | .mirrorTrib seq b => Sys2Proof.Machine.execMirrorTrib seq b s
  | .mirrorReg seq b => Sys2Proof.Machine.execMirrorReg seq b s
  | .bulkBegin seq b => Sys2Proof.Machine.execBulkBegin seq b s
  | .bulkEnd seq => Sys2Proof.Machine.execBulkEnd seq s
  | .pnRound => Sys2Proof.Machine.execPnRound s
  | .tribRecordTimer => Sys2Proof.Machine.execTribRecordTimer s
  | .mirrorTimeout => Sys2Proof.Machine.execMirrorTimeout s
  | .twnResync v => Sys2Proof.Machine.execTwnResync v s
  | .syncCommitTimeout => Sys2Proof.Machine.execSyncCommitTimeout s
  | .arbInVerdict level => Sys2Proof.Machine.execArbInVerdict level s
  | .refereeReportTimer => Sys2Proof.Machine.execRefereeReportTimer s
  | .refereeReportRx b => Sys2Proof.Machine.execRefereeReportRx b s
  | .refereeTick => Sys2Proof.Machine.execRefereeTick s
  | .refereeVerdictRx b => Sys2Proof.Machine.execRefereeVerdictRx b s
  | .gapStart => Sys2Proof.Machine.execGapStart s
  | .gapEnd => Sys2Proof.Machine.execGapEnd s
  | .gapLimitExpiry => Sys2Proof.Machine.execGapLimitExpiry s
  | .twinPeerTimer => Sys2Proof.Machine.execTwinPeerTimer s
  | .scrubRead inst addr flips last => Sys2Proof.Machine.execScrubRead inst addr flips last s
  | .pitonAdd v => Sys2Proof.Machine.execPitonAdd v s
  | .bistSliceStart => Sys2Proof.Machine.execBistSliceStart s
  | .bistIsolated => Sys2Proof.Machine.execBistIsolated s
  | .bistIsolateTimeout => Sys2Proof.Machine.execBistIsolateTimeout s
  | .bistTestDone fails spares => Sys2Proof.Machine.execBistTestDone fails spares s
  | .bistRun v => Sys2Proof.Machine.execBistRun v s
  | .logPop => Sys2Proof.Machine.execLogPop s
  | .accessHoldExpiry dom => Sys2Proof.Machine.execAccessHoldExpiry dom s
  | .domainStop dom => Sys2Proof.Machine.execDomainStop dom s
  | .domainRetain dom => Sys2Proof.Machine.execDomainRetain dom s
  | .domainReady dom => Sys2Proof.Machine.execDomainReady dom s
  | .hostReadTimeout => Sys2Proof.Machine.execHostReadTimeout s
  | .voteHostWrite lo => Sys2Proof.Machine.execVoteHostWrite lo s
  | .entryCommit => Sys2Proof.Machine.execEntryCommit s
  | .entryLimitExpiry => Sys2Proof.Machine.execEntryLimitExpiry s
  | .exitDone => Sys2Proof.Machine.execExitDone s
  | .allOnDone => Sys2Proof.Machine.execAllOnDone s
  | .platformHeartbeatKick => Sys2Proof.Machine.execPlatformHeartbeatKick s
  | .adaptationUpdate p ctle steps => Sys2Proof.Machine.execAdaptationUpdate p ctle steps s
  | .laneAdaptationUpdate k ctle steps => Sys2Proof.Machine.execLaneAdaptationUpdate k ctle steps s
  | .linePrbsLockChange p lock errors => Sys2Proof.Machine.execLinePrbsLockChange p lock errors s
  | .lanePrbsLockChange k received last => Sys2Proof.Machine.execLanePrbsLockChange k received last s
  | .e1LosOff n => Sys2Proof.Machine.execE1LosOff n s
  | .supervisorStopped => Sys2Proof.Machine.execSupervisorStopped s

end Sys2Proof.Machine
end

