-- ==== Sys2Proof/Safety.lean ====
section
/-!
DEFINITION. Sys2Proof/Safety.lean: what a step may never do, and what a command leaves unchanged, in the terms the statements use.
-/
namespace Sys2Proof.Machine

/-- Fuses only burn: the epoch and the advances made never fall, and a revocation bit once set stays set (R31, R32). -/
def Fuses.onlyBurn (before after : Fuses) : Prop :=
  before.epoch ≤ after.epoch ∧ before.advances ≤ after.advances ∧ ∀ k, bit before.revoked k = true → bit after.revoked k = true

/-- The device is not held in reset: commands other than the supervisor's act (R89, R92). -/
def State.runs (s : State) : Prop := s.dev.sup.inReset = none

/-- The parts of the block. -/
inductive Part where
  | regs | ticks | free | lastRead | shadows | heldHigh | out | sup | img | hif | pwr | lfe | lfr | act | cph | sch
  | thk | tsk | engs | clusters | rate | decls | tmb | trb | prs | rop | mac | twn | lan | mem | dma | bel
deriving DecidableEq, Repr

/-- A part is the same in two states of the block. -/
def Dev.agree (s t : Dev) : Part → Prop
  | .regs => t.regs = s.regs
  | .ticks => t.ticks = s.ticks
  | .free => t.free = s.free
  | .lastRead => t.lastRead = s.lastRead
  | .shadows => t.shadows = s.shadows
  | .heldHigh => t.heldHigh = s.heldHigh
  | .out => t.out = s.out
  | .sup => t.sup = s.sup
  | .img => t.img = s.img
  | .hif => t.hif = s.hif
  | .pwr => t.pwr = s.pwr
  | .lfe => t.lfe = s.lfe
  | .lfr => t.lfr = s.lfr
  | .act => t.act = s.act
  | .cph => t.cph = s.cph
  | .sch => t.sch = s.sch
  | .thk => t.thk = s.thk
  | .tsk => t.tsk = s.tsk
  | .engs => t.engs = s.engs
  | .clusters => t.clusters = s.clusters
  | .rate => t.rate = s.rate
  | .decls => t.decls = s.decls
  | .tmb => t.tmb = s.tmb
  | .trb => t.trb = s.trb
  | .prs => t.prs = s.prs
  | .rop => t.rop = s.rop
  | .mac => t.mac = s.mac
  | .twn => t.twn = s.twn
  | .lan => t.lan = s.lan
  | .mem => t.mem = s.mem
  | .dma => t.dma = s.dma
  | .bel => t.bel = s.bel

/-- Every part but those listed is the same. -/
def Dev.changesOnly (s t : Dev) (l : List Part) : Prop := ∀ p, p ∉ l → s.agree t p

/-- Every register but those listed reads the same word. -/
def Dev.regsBut (s t : Dev) (l : List Nat) : Prop := ∀ a, a ∉ l → t.rd a = s.rd a

/-- Registers that sending a message may change: the journal's bounds, TAIL, HIF_ERR and the skip counters of the host link; and what
the queueing of an in-band frame counts and reports. -/
def msgReg (a : Nat) : Bool :=
  [R.HIF_D2H_NEXT_SEQ, R.HIF_JOURNAL_OLDEST, R.HIF_D2H_TAIL, R.HIF_ERR, R.HIF_SKIP_RING, R.HIF_SKIP_PATHS_IB.reg, R.SCH_NO_EGRESS,
    R.IMG_DRAIN_DROPS, R.SCH_IRQ, R.SCH_STATUS, R.MEM_HEALED, R.MEM_LOG_POP_LOST.reg].contains a ||
  (decide (0xb00060 ≤ a) && decide (a < 0xb00080)) ||
  (decide (0xb10000 ≤ a) && decide (a < 0xb30000) && decide (a % 16 = 12)) ||
  (decide (0xb60000 ≤ a) && decide (a < 0xb61200) && decide (0x38 ≤ a % 256) && decide (a % 256 ≤ 0x44))

/-- Parts that sending a message may change: journal and paths, the queue of an in-band frame and the words of its cells, the tunnel of the
remote path. -/
def msgParts : List Part := [.regs, .hif, .out, .free, .sch, .act, .rate, .mem]

/-- Of memory integrity nothing changed but the error log and words that were healed (R453). -/
def Dev.Healed (s t : Dev) : Prop :=
  { t.mem with errs := s.mem.errs, pitons := s.mem.pitons, log := s.mem.log } = s.mem ∧ ∀ k, t.errsOf k = s.errsOf k ∨ t.errsOf k = 0

/-- What sending messages leaves of the host link: commands that wait, held accesses, the MSI-X table, the link and its configuration
space, the tag of the peer's frames. -/
def Hif.kept (h : Hif) :
    List (List HMsg) × Option (Nat × List Byte) × List (Nat × Word) × List HostAcc × Option LinkState × PcieCfg × Nat :=
  ([h.pcie.inbox, h.inBand.inbox, h.remote.inbox], h.tunnelHalf, h.msix, h.waiting, h.link, h.cfg, h.peerTci)

/-- What sending messages leaves: every part but msgParts, of activation all but the tunnel, of the host link what Hif.kept names,
every register of another block. -/
structure Dev.Sends (s t : Dev) : Prop where
  parts : s.changesOnly t msgParts
  act : { t.act with tunnel := s.act.tunnel } = s.act
  hif : t.hif.kept = s.hif.kept
  mem : s.Healed t
  regs : ∀ a, msgReg a = false → t.rd a = s.rd a

/-- A command changed nothing but the parts and the registers listed, and, where m says that it sends messages, what sending them
changes. -/
structure Dev.Frame (m : Bool) (ps : List Part) (rs : List Nat) (s t : Dev) : Prop where
  parts : s.changesOnly t (ps ++ if m then msgParts else [.regs])
  act : Part.act ∈ ps ∨ { t.act with tunnel := s.act.tunnel } = s.act
  hif : Part.hif ∈ ps ∨ t.hif.kept = s.hif.kept
  mem : Part.mem ∈ ps ∨ s.Healed t
  regs : ∀ a, a ∉ rs → (m && msgReg a) = false → t.rd a = s.rd a

/-- No cell of a queued frame, and no cache line of a bucket, holds a word in error. -/
def Dev.clean (s : Dev) (f : QFrame) : Prop := ∀ k, k ∈ Config.cellWords f.queue f.rx → s.errsOf k = 0
def Dev.cleanBucket (s : Dev) (b : Nat) : Prop := ∀ k, k ∈ Config.bucketWords b → s.errsOf k = 0

/-- A host write to a is taken at once and starts no access hold: it lies in AON, or in a domain that is up while PWR_LINGER is 0; fewer
than 64 writes wait (R473, R477). -/
def Dev.open_ (s : Dev) (a : Nat) : Prop := s.addrUp a = true ∧ (domOf a = none ∨ s.get R.PWR_LINGER_US = 0) ∧ s.heldWrites < 64

/-- Registers whose read does more than answer and clear RC bits: the time of day and its captures (R269, R273, R275), and the count of
the selected policer. -/
def latching : List Nat := [R.TMB_TIME_FRAC, R.TMB_LINE_DEV, R.TMB_PPS_IN_NS, R.TMB_TIME_SEC_LO, R.TMB_TIME_SEC_HI, R.SCH_POL_OUT]

/-- Registers whose write does what their access codes say and nothing more, from several blocks; those of PRS are such too. -/
def plainRegs : List Nat := [R.PLT_IRQ, R.HIF_ERR, R.HIF_ERR_EN, R.HIF_D2H_COAL_TIME.reg, R.HIF_SNAP_BASE_LO, R.HIF_SNAP_BASE_LO + 4,
  R.HIF_IB_MAC_LO, R.HIF_IB_MAC_LO + 4, R.IMG_LEN, R.IMG_SRC_LO, R.IMG_SRC_LO + 4, R.IMG_IRQ, R.MOD_IRQ, R.MOD_PACE_TARGET_TARGET.reg,
  R.MOD_WAKE_EN_HOST.reg, R.LFE_IRQ, R.LFE_IRQ_EN, R.ACT_IRQ, R.BEL_IRQ, R.THK_IRQ, R.SCH_IRQ, R.TMB_IRQ, R.TSK_IRQ, R.CPH_IRQ, R.MAC_IRQ,
  R.LAN_IRQ, R.ROP_IRQ, R.TWN_IRQ, R.MEM_IRQ, R.PWR_IRQ, R.PWR_LINGER_US.reg]

/-- Registers of the registration record (Table 7-5, R166). -/
def recordRegs : List Nat :=
  [R.ACT_STATUS_TID.reg, R.ACT_TDM_BASE_BASE.reg, R.ACT_TREE, R.ACT_EQD_EQD.reg, R.ACT_GRANT_COUNT_COUNT.reg] ++
    (List.range 32).map fun n => (R.ACT_GRANT_ID_ID n).reg

/-- Registers that a record put on the mirror may change (R434, R435). -/
def mirrorRegs : List Nat := [R.TWN_MIRROR_TX, R.ROP_NO_ROUTE, R.ROP_DROPS_QUEUE.reg]

/-- The block after a reset of kind k began in s: it is held in reset, nothing is journalled or in flight, and every register of a
scope that the reset covers reads its reset value, every other one as before, but those listed (R9, R91, R92). -/
structure Dev.ResetFrom (k : ResetKind) (rs : List Nat) (s d : Dev) : Prop where
  held : d.sup.inReset = some k
  notBooted : d.sup.booted = false
  journal : d.hif.journal = []
  engines : d.engs = []
  tasks : d.tsk.tasks = []
  queues : d.sch.queues = []
  waiting : d.hif.waiting = []
  regs : ∀ a r, a ∉ rs → regRow a = some r → d.rd a = if r.scope.resetBy k then regReset a else s.rd a

/-- An image operation has ended in s with result r and nothing of it took effect (R36, R44): u is the block with no operation, whose
frames held for queues are then admitted; d is what RESULT, the interrupt and the event add. The parts ps changed too. -/
structure Dev.ImgEnds (r : Nat) (ps : List Part) (s u d : Dev) : Prop where
  op : u.img.op = none
  state : u.img.state = if s.img.running = [] then .empty else .active
  before : Dev.Frame false ([.img] ++ ps) [R.IMG_STATUS_STATE.reg] s u
  result : d.get R.IMG_STATUS_RESULT = r
  irq : d.is R.IMG_IRQ_FAIL = true
  after : Dev.Frame true [] [R.IMG_STATUS_STATE.reg, R.IMG_IRQ] u.releaseHeld d

/-- A frame that egress e sends as it stands: no cipher, no stamp, not oversize for E, its cells readable (R251). -/
structure Dev.Plain (s : Dev) (e : Nat) (f : QFrame) : Prop where
  cipher : f.cipher = 0
  stamp : f.tsMode = 0
  clean : s.clean f
  size : 1 ≤ e → e ≤ 8 → f.bytes.length + 4 ≤ s.get (R.MAC_En_CFG_MAX_FRAME (e - 1))

/-- Frame f occupies egress e and is counted; of the launch stage, and the parts ps, something else changed too (R251). -/
structure Dev.Launched (s : Dev) (e : Nat) (f : QFrame) (ps : List Part) (d : Dev) : Prop where
  launching : d.launching e = some (f, if 1 ≤ e ∧ e ≤ 8 then s.get (R.MAC_En_CFG_CT_STEP (e - 1)) else 5)
  count : (d.rd (R.SCH_Ee_FRAMES e)).toNat = min ((s.rd (R.SCH_Ee_FRAMES e)).toNat + 1) (2 ^ 32 - 1)
  frame : Dev.Frame false ([.sch] ++ ps) [R.SCH_Ee_FRAMES e] s d

/-- The state after a command is d for the block, and the queue and the fuses as before. -/
def answers (c : Instr) (s : State) (d : Dev) : Prop := exec c s = .next { s with dev := d }

/-- The command m is the oldest that path p took, rest stand behind it, and it is to be executed (R58): a known type, a right length,
and HELLO or the next number; the registers it names can be reached at once. -/
structure Dev.Executes (s : Dev) (p : Path) (m : HMsg) (rest : List HMsg) : Prop where
  queue : (s.path p).inbox = m :: rest
  known : typeKnown m.typ = true
  length : lenOk m.typ m.len = true
  next : m.typ = tHello ∨ seqSub m.seq (s.lastSeq p) = 1
  range : m.seq < 2 ^ 32
  awake : ∀ a, a ∈ m.addrs → s.open_ a

/-- The command m has left path p, and its number is the last accepted one but for HELLO (R58). -/
structure Dev.Taken (s d : Dev) (p : Path) (m : HMsg) (rest : List HMsg) : Prop where
  queue : (d.path p).inbox = rest
  last : d.lastSeq p = if m.typ = tHello then s.lastSeq p else m.seq
  others : ∀ q, q ≠ p → d.path q = s.path q
  journal : d.hif.journal = s.hif.journal
  frame : Dev.Frame false [.hif] [lastSeqReg p] s d

/-- Engine e, running in a cluster that is up, with no store held in the merge buffer, is at the instruction i: its word is clean, and
no register it names is pending (R285, R301, R308). -/
structure Dev.Fetches (s : Dev) (e : Fin 512) (i : Ins) : Prop where
  running : (s.eng e).st = .running
  up : s.isUp (e.val / 16) = true
  merged : (s.eng e).held = none
  clean : s.errsOf (Config.codeWord (e.val / 16) (8 * ((s.eng e).pc / 8))) = 0
  word : decodeEng (ofLe (sbytes (s.cluster (e.val / 16)).iram (s.eng e).pc 4)) = some i
  free : i.touches.any (s.eng e).pendingRegs.contains = false

/-- The word at which engine e stands. -/
def Dev.wordAt (s : Dev) (e : Fin 512) : Nat := ofLe (sbytes (s.cluster (e.val / 16)).iram (s.eng e).pc 4)

/-- PC + 4. -/
def Eng.pcNext (x : Eng) : Nat := (x.pc + 4) % 131072

/-- n bytes from a can be read or written by engine e at once: mapped, their pages cached, their protected words clean. -/
structure Dev.Reaches (s : Dev) (e : Fin 512) (a n : Nat) : Prop where
  mapped : s.unmapped (e.val / 16) (.engine e) a n = none
  cached : s.uncached (e.val / 16) a n = []
  clean : ∀ b, b ∈ wordsOf a n → s.errsOf (wordKey (e.val / 16) (.engine e) b) = 0

/-- An engine once its instruction is complete: one that a pre-emption waits for starts no further one (R327). -/
def Eng.after (x : Eng) (s : Dev) (e : Nat) : Eng :=
  if s.tsk.requests.any (fun r => r.1 == e && !r.2.2) = true ∧ x.st = .running then { x with st := .leaving } else x

/-- Engine e has completed an instruction and stands as x, but for its scratch where mem says so: RETIRED counts it in units of 1,024;
the other engines are as before; so is all else but the parts and registers listed. Where mem, the cluster's memories and page cache
may have changed. -/
structure Dev.Retires (m mem : Bool) (ps : List Part) (rs : List Nat) (s : Dev) (e : Fin 512) (x : Eng) (d : Dev) : Prop where
  engine : (if mem = true then { d.eng e with scratch := x.scratch } else d.eng e) = x.after s e
  others : ∀ f, f ≠ e.val → d.eng f = s.eng f
  cluster : ∀ k, k ≠ e.val / 16 → d.cluster k = s.cluster k
  memory : mem = false → d.cluster (e.val / 16) = { s.cluster (e.val / 16) with retired := (d.cluster (e.val / 16)).retired }
  kept : (d.cluster (e.val / 16)).iram = (s.cluster (e.val / 16)).iram ∧ (d.cluster (e.val / 16)).allocs = (s.cluster (e.val / 16)).allocs
  count : if (s.cluster (e.val / 16)).retired = 1023
    then (d.cluster (e.val / 16)).retired = 0 ∧
      (d.rd (R.ENG_c_RETIRED (e.val / 16))).toNat = min ((s.rd (R.ENG_c_RETIRED (e.val / 16))).toNat + 1) (2 ^ 32 - 1)
    else (d.cluster (e.val / 16)).retired = (s.cluster (e.val / 16)).retired + 1 ∧
      d.rd (R.ENG_c_RETIRED (e.val / 16)) = s.rd (R.ENG_c_RETIRED (e.val / 16))
  frame : Dev.Frame m ([.engs, .clusters] ++ ps) (R.ENG_c_RETIRED (e.val / 16) :: rs) s d

/-- The command c makes engine e complete an instruction that changes the engine alone, which then stands as x. -/
def engDoes (s : State) (c : Instr) (e : Fin 512) (x : Eng) : Prop := ∃ d : Dev, answers c s d ∧ Dev.Retires false false [] [] s.dev e x d

/-- The bytes that engine e reads are as before, but the list v from address a on. -/
def Dev.Stored (s : Dev) (e : Fin 512) (a : Nat) (v : List Byte) (d : Dev) : Prop := ∀ b,
  d.rawBytes (e.val / 16) (.engine e) b 1 =
    if a ≤ b ∧ b < a + v.length then [v.getD (b - a) 0] else s.rawBytes (e.val / 16) (.engine e) b 1

/-- Channel k holds unit u of the DMA and stands at the instruction i of its program, with no MOVE under way; f is the block once a
finished MOVE is left and the instruction is fetched (R342, R347, R349). -/
structure Dev.Executing (s f : Dev) (u : Fin 8) (k : Nat) (host : HostData) (i : DOp) : Prop where
  running : s.runner u = some k
  program : s.is (R.DMA_u_CHk_CFG_MODE u k) = true
  issued : ∀ m, (s.chan u k).move = some m → m.len ≤ m.done
  awake : ∀ c d, (s.progAddr u k ((s.moveEnd u k).chPc u k)).1 = 1 →
    clusterAt u (s.progAddr u k ((s.moveEnd u k).chPc u k)).2 = some (c, d) → s.isUp c = true ∧ s.get R.PWR_LINGER_US = 0
  fetched : ∃ w, (s.moveEnd u k).progFetch u k ((s.moveEnd u k).chPc u k) ((s.moveEnd u k).chPc u k) host = (f, some w) ∧ decodeDma w = some i

/-- n bytes from address d of cluster c can be read or written by a DMA unit at once: mapped, cached, clean. -/
structure Dev.DmaReaches (s : Dev) (c d n : Nat) : Prop where
  up : s.isUp c = true
  mapped : s.unmapped c .dma d n = none
  cached : s.uncached c d n = []
  clean : ∀ b, b ∈ wordsOf d n → s.errsOf (wordKey c .dma b) = 0

/-- The mirror path that TWN_CFG.PATH selects carries records (R434). -/
def Dev.mirrorPath (s : Dev) : Bool :=
  if s.is R.TWN_CFG_PATH then s.rop.running else s.is (R.LAN_Gg_STATUS_UP 4) && s.isUp domTwin

/-- The block as a mirror record finds it: over T0 and T1 the record is an access to their domain (R473). -/
def Dev.mirrorAt (s : Dev) : Dev := if s.is R.TWN_CFG_PATH then s else s.access domTwin cliTwn

/-- Mirror records reach the paired standby twin. -/
structure Dev.MirrorAtStandby (s : Dev) : Prop where
  path : s.mirrorPath = true
  enabled : s.mirrorAt.is R.TWN_CFG_EN = true
  traffic : s.mirrorAt.sup.mode.traffic = true
  standby : s.mirrorAt.role = .standby
  paired : s.mirrorAt.is R.TWN_STATUS_PAIRED = true

/-- A mirror record numbered n, with nothing of a bulk, reaches the standby twin in order while the mirror is SYNCED (R434, R436). -/
structure Dev.MirrorInOrder (s : Dev) (n : Nat) : Prop where
  at_ : s.MirrorAtStandby
  synced : s.mirrorAt.mirrorState = mSynced
  bulk : s.mirrorAt.twn.bulk = none
  next : n = seqNext s.mirrorAt.twn.ack

/-- A frame for the fabric is good and arrives on a running port (R407). -/
structure Dev.RopeGood (s : Dev) (n : Fin 8) (b : List Byte) : Prop where
  receives : s.ropReceives n = true
  length : 20 ≤ b.length
  version : hdrBits b 124 4 = 1
  kind : hdrKind b < 8
  header : hec (b.take 14) = beAt b 14 2
  frame : b.drop (b.length - 4) = fcs (b.take (b.length - 4))

end Sys2Proof.Machine
end

