-- ==== Sys2Proof/WellFormed.lean ====
section
/-!
DEFINITION. Sys2Proof/WellFormed.lean: the operands that a command can carry: what the interfaces of spec/02 to spec/22 can deliver.
exec is total on all operands; a command outside these bounds is one that no interface of the block delivers.
-/
namespace Sys2Proof
open Machine

/-- BAR0 has 64 MiB (Table 3-2). -/
def inBar0 (a : Nat) : Bool := decide (a < 0x4000000)

/-- A frame has a byte at least, and its length fits LEN of a packet header (Table 6-2). -/
def frameLen (n : Nat) : Bool := decide (0 < n) && decide (n ≤ 16383)

/-- A position of a downstream frame at which the hunt looks: an even bit position (R123, R126). -/
def framePos (n : Nat) : Bool := decide (n < 13312000) && decide (n % 2 = 0)

/-- A phase of the spreading code (08: 1,024 code phases). -/
def codePhase (n : Nat) : Bool := decide (n < 1024)

/-- The coded part of a belay packet with a payload of at most 32 bytes: two symbols for each bit of header, payload, CRC and tail
(Table 8-1, R178). -/
def belayLen (n : Nat) : Bool := decide (76 ≤ n) && decide (n ≤ 588) && (n - 76) % 16 == 0

/-- A page of the virtual space (Table 13-1). -/
def virtualPage (n : Nat) : Bool := decide (0x10000 ≤ n) && decide (n < 0x100000)

/-- A failing bit of a protected word: 64 data and 16 check bits (21). -/
def failWf (x : FailBit) : Bool := decide (x.1 < 2304 * 65536) && decide (x.2 < 80)

/-- What a read of host memory returns: at most a maximum frame. -/
def Machine.HostData.wf : HostData → Bool
  | .data b => decide (b.length ≤ 16383)
  | .pcieError => true

/-- A fetched image fits the staging area of 256 MiB (R33). -/
def Machine.FetchEnd.wf : FetchEnd → Bool
  | .data b => decide (b.length ≤ 268435456)
  | .pcieError => true
  | .uncorrectable => true

/-- A downstream frame: 64 header bytes, codewords of 16,384 bits numbered below 812 (Table 6-1). -/
def Machine.DsFrame.wf (f : DsFrame) : Bool :=
  decide (f.header.length = 64) &&
    f.cws.all fun w => decide (w.index < 812) && decide (w.word < 2 ^ 16384) && w.est.all fun x => decide (x < 2 ^ 16384)

/-- The operands are ones that the interfaces deliver. -/
def Instr.wf : Instr → Bool
  | .lowWordRead addr => inBar0 addr
  | .highWordRead addr => inBar0 addr
  | .highWordWrite addr _ => inBar0 addr
  | .rcRead addr => inBar0 addr
  | .registerWrite addr _ => inBar0 addr
  | .narrowWrite addr => inBar0 addr
  | .unmappedAccess addr _ => inBar0 addr
  | .imageFetchDone r => r.wf
  | .h2dTailWrite _ entries => decide (entries.length ≤ 4095)
  | .ibFrameReceive _ frame => frameLen frame.length
  | .psyncHuntMatch _ pos => framePos pos
  | .psyncCandidateMiss _ pos => framePos pos
  | .downstreamFrame _ f => f.wf
  | .preambleDetect _ phase x => codePhase phase && x.symbols.length == 8
  | .syncWordDetect _ phase _ => codePhase phase
  | .belayPacketEnd _ soft => belayLen soft.length
  | .thkBatch _ recs => decide (recs.length < 2 ^ 20)
  | .pageFillDone _ page _ => virtualPage page
  | .move _ host => host.wf
  | .dmaBurst _ host => host.wf
  | .loop _ host => host.wf
  | .endloop _ host => host.wf
  | .waitFlag _ host => host.wf
  | .waitRequest _ host => host.wf
  | .signalTask _ host => host.wf
  | .signalHost _ host => host.wf
  | .signalChannel _ host => host.wf
  | .nop _ host => host.wf
  | .dmaEnd _ host => host.wf
  | .hostRxDeliver desc => desc.wf
  | .hostTxFetch desc data => desc.wf && data.wf
  | .macRxFrame _ b _ _ _ _ => frameLen b.length
  | .underrun _ sent => decide (sent ≤ 9744)
  | .ropeFrameRx _ b => frameLen b.length
  | .hailRx _ b => frameLen b.length
  | .lsrRx _ b => frameLen b.length
  | .bistTestDone fails _ => fails.all failWf
  | .adaptationUpdate _ _ steps => decide (steps.length = 5)
  | .laneAdaptationUpdate _ _ steps => decide (steps.length = 12)
  | .loadFull _ | .loadPartial _ _ | .reloadRetained | .abandon | .advanceEpoch _ | .revokeKey _ _ | .drainDone | .drainLimitExpiry
  | .pitchLoadDone _ | .hifCtlWrite _ | .h2dFetchError | .d2hHeadWrite _ | .hello _ | .replay _ | .snapshot _ _ | .regRead _ | .regWrite _
  | .imgXfer _ | .d2hRingResume | .coalesceTimerExpiry | .modeReqBivouac _ | .modeReqWake _ | .modeReqTest _ _ | .modeReqExitTest _
  | .modeReqCancel _ | .acqLimitExpiry | .acqLimitWrite _ | .gpioWakeEdge _ _ | .paceCompare _ | .powerApplied | .resetRelease | .bootDone
  | .softReset _ | .rstNLow | .wdogKick _ | .wdogCfgWrite _ | .wdogWarn | .watchdogHost | .watchdogPlatform | .brownout _ | .acFail
  | .acRestored | .losOn _ _ | .losOff _ _ | .lol _ | .lolClear _ | .overloadOn _ _ | .overloadOff _ _ | .portReady _ _ _ | .offsetCal _
  | .calStart _ | .fullCalDone _ _ _ | .tecLockChange _ _ _ | .tecFault _ | .rogueDetect _ | .rogueClr _ _ | .portSelect _ | .autoSwitch
  | .switchComplete | .holdExpiry | .defectWindowEnd _ | .dsCfgWrite _ | .upstreamFrameStart | .upstreamBurst _ _ | .rangeTimeout
  | .resumeWaitExpiry | .snEnWrite _ | .actRestart | .preambleTimeout _ | .candidateDrop _ | .belayHeader _ _ | .mergeEffect _
  | .beaconLoss _ | .belayWindowStart | .belayTxEnd | .statusReq | .dsCodeWrite _ _ | .e1InputFrame _ _ | .e1LosOn _ | .e1OutputFrame _
  | .e1DsWindow _ | .holdLimit | .parseFrame _ | .bucketFetchDone _ _ | .insert _ | .replace _ | .delete _ | .lookup _ _ | .hedgeWrite _
  | .hedgeClear _ | .commitGo | .commitRelease | .thkAbort | .holderAged | .walkerVisit | .deepToFrontCopy _ | .classFifoFill _ _
  | .launchSelect _ | .frameLaunchDone _ | .gateTick _ | .gclCommit _ | .gclAbort _ | .gclStart _ | .timedLaunch _ | .resvWrite _ _
  | .tokenRateWrite _ _ | .tokenBurstWrite _ _ | .incrWrite _ | .timeFracRead | .stepAdd | .stepSet | .lineWindowEnd | .lineDevRead
  | .refWindowEnd _ _ | .ppsInEdge | .ppsInRead | .ppsOutRise | .ppsOutFall | .txsPop | .add _ | .sub _ | .and_ _ | .or_ _ | .xor_ _
  | .sll _ | .srl _ | .sra _ | .slt _ | .sltu _ | .mul _ | .mulhu _ | .rev _ | .revh _ | .clz _ | .popc _ | .addi _ | .andi _ | .ori _
  | .xori _ | .slli _ | .srli _ | .srai _ | .slti _ | .sltiu _ | .bext _ | .bins _ | .lui _ | .jal _ | .jalr _ | .beq _ | .bne _ | .blt _
  | .bge _ | .bltu _ | .bgeu _ | .lb _ | .lbu _ | .lh _ | .lhu _ | .lw _ | .sb _ | .sh _ | .sw _ | .lbp _ | .lhp _ | .lwp _ | .sbp _
  | .shp _ | .swp _ | .aadd _ | .aand _ | .aor _ | .aswap _ | .acas _ | .fence _ | .end_ _ | .yieldpt _ | .evwaitAny _ | .evwaitAll _
  | .evset _ | .evclr _ | .evget _ | .tsr _ | .tsrh _ | .pnext _ | .pnew _ | .phead _ | .plen _ | .psend _ | .precirc _ | .pdrop _
  | .tlkp _ | .top _ | .tcommit _ | .asyncComplete _ | .msendTask _ | .msendHost _ | .msendNode _ | .mrecv _ | .palloc _ | .pfree _
  | .crc32c _ | .crc32 _ | .crc16 _ | .windowWrite _ _ _ | .taskMsg _ | .dispatch | .preemptSwitch | .tskWrite | .tskRead | .tskFree
  | .tskSetFlags | .tskClearFlags | .taskRestart | .tskFlagsSet _ | .tskFlagsClear _ | .channelGo _ _ _ | .channelStop _ _ _
  | .channelClear _ _ _ | .channelStart _ | .lateError _ | .waitSatisfied _ | .tapLatch _ | .hpathCtlWrite _ | .hostRingTailWrite _ _
  | .unwrap _ _ _ | .erase _ | .eraseAll | .kat _ | .pauseTimerExpiry _ | .pauseTxGo _ _ | .lpiEnter _ | .lpiExit _ | .rxLpiChange _ _
  | .linkChange _ _ _ _ _ | .laneCalDone _ | .laneLosOn _ | .laneLosOff _ | .laneCdrLocked _ | .cdrLockLoss _ | .blockLock _
  | .laneMarker _ _ _ _ | .checkTimeout _ | .failTimeout _ | .lockLoss _ _ | .fillerAdjust _ _ | .laneWakeDone _ _ | .hailTimer _
  | .hailTimeout _ | .lsrRefresh | .lsrAgeOut | .nodeClaim | .routeCompute | .rebind | .twnEnableWrite _ | .mirrorHello _ _ _
  | .mirrorHelloTimer | .mirrorThkChange _ _ | .mirrorThkCommit _ _ | .mirrorHedge _ _ | .mirrorGcl _ _ | .mirrorTime _ _ | .mirrorKey _ _
  | .mirrorPn _ _ | .mirrorTrib _ _ | .mirrorReg _ _ | .bulkBegin _ _ | .bulkEnd _ | .pnRound | .tribRecordTimer | .mirrorTimeout
  | .twnResync _ | .syncCommitTimeout | .arbInVerdict _ | .refereeReportTimer | .refereeReportRx _ | .refereeTick | .refereeVerdictRx _
  | .gapStart | .gapEnd | .gapLimitExpiry | .twinPeerTimer | .scrubRead _ _ _ _ | .pitonAdd _ | .bistSliceStart | .bistIsolated
  | .bistIsolateTimeout | .bistRun _ | .logPop | .accessHoldExpiry _ | .domainStop _ | .domainRetain _ | .domainReady _ | .hostReadTimeout
  | .voteHostWrite _ | .entryCommit | .entryLimitExpiry | .exitDone | .allOnDone | .platformHeartbeatKick | .linePrbsLockChange _ _ _
  | .lanePrbsLockChange _ _ _ | .e1LosOff _ | .supervisorStopped => true

end Sys2Proof
end

