-- ==== Sys2Proof/Certificates/Slice0/Obligations.lean ====
section
/-!
DEFINITION. Sys2Proof/Certificates/Slice0/Obligations.lean: the statements for the provers. answers c s d says that the command c in
the state s answers a next state in which the block is d and the queue and the fuses are as before.
-/
open Sys2Proof Sys2Proof.Machine

/-- A step takes the command at the front of the queue and runs it on the rest. -/
def Obligations.StepRunsFront : Prop := ∀ (s : State) (c : Instr) (rest : List Instr),
  s.pending = c :: rest → step s = exec c { s with pending := rest }

/-- On an empty queue one tick of the clock passes, and the time of day with it: the model's choice (log entry 1). -/
def Obligations.IdleIsATick : Prop := ∀ (s : State), s.pending = [] →
  ∃ d : Dev, step s = .next { s with dev := d } ∧ d.ticks = s.dev.ticks + 1 ∧ Dev.Frame false [.ticks, .tmb] [] s.dev d

/-- Every command answers a next state: none stops the block, none touches the queue, and none but those that may write IMG_CMD
touches the fuses. -/
def Obligations.EveryCommandAnswers : Prop := ∀ (c : Instr) (s : State),
  ∃ t, exec c s = .next t ∧ t.pending = s.pending ∧
    ((∀ k, c ≠ .advanceEpoch k) → (∀ n k, c ≠ .revokeKey n k) → (∀ a v, c ≠ .registerWrite a v) → (∀ a v, c ≠ .highWordWrite a v) →
      (∀ p, c ≠ .regWrite p) → (∀ n, c ≠ .domainReady n) → t.fuses = s.fuses)

/-- While the device is held in reset, every command leaves everything as it is, but the supervisor's and the levels that the outside
drives on pins (R9, R89, R92). -/
def Obligations.ResetHoldsCommands : Prop := ∀ (c : Instr) (s : State), s.dev.sup.inReset ≠ none →
  c ≠ .powerApplied → c ≠ .bootDone → c ≠ .resetRelease → c ≠ .rstNLow → (∀ r, c ≠ .brownout r) → c ≠ .watchdogPlatform →
  c ≠ .supervisorStopped → c ≠ .acFail → c ≠ .acRestored → (∀ p f, c ≠ .gpioWakeEdge p f) → (∀ l, c ≠ .arbInVerdict l) →
  exec c s = .next s

/-- No step lowers the fused epoch or the count of advances, or clears a revocation bit (R31, R32). -/
def Obligations.FusesOnlyBurn : Prop := ∀ (s t : State), step s = .next t → Fuses.onlyBurn s.fuses t.fuses

/-- The state after reset (R68, R90): nothing waits; the block is in CONFIG with an empty image; the journal holds RESET_NOTICE as
message 0 and, by the model's reading of R101, the MODE_CHANGE of M1; registers read their reset values but those of the supplies, the
next number, the boot count, the transitions and MOD_IRQ. -/
def Obligations.ResetState : Prop :=
  State.reset.pending = [] ∧ State.reset.runs ∧ State.reset.dev.sup.mode = .config ∧ State.reset.dev.img.state = .empty ∧
    State.reset.dev.hif.journal.map (·.typ) = [0x0182, 0x0380] ∧ State.reset.dev.hif.journal.map (·.seq) = [0, 1] ∧
    (∀ a, a ∉ [R.PLT_SUPPLY, R.HIF_D2H_NEXT_SEQ, R.HIF_BOOT_COUNT, R.MOD_TRANSITIONS, R.MOD_IRQ] → State.reset.dev.rd a = regReset a)

/-- Reads of registers (R3, R4, R54): LOW_WORD_READ, HIGH_WORD_READ, RC_READ. A read of a low word latches the high word; the next read
of the high word answers it once; a read of any other register answers what it shows and clears its RC bits. Registers whose reads latch
more than that, and those that show a measurement, are left to other clauses. A read within a word has the effects of a read of the word
and answers the bytes from there on.
Its clauses rest on the model's choices in log entries 31, 32 where those speak of its commands. -/
def Obligations.RegisterReads : Prop := ∀ (s : State) (a : Nat) (r : RegRow), s.runs → regRow a = some r → a % 4 = 0 → a < 0x1700000 →
  s.dev.open_ a → s.dev.heldWrites = 0 → a ∉ latching →
  (r.part = .lo → ∃ d : Dev, answers (.lowWordRead a) s d ∧ d.lastRead = s.dev.regView s.fuses a ∧
    d.shadow (a + r.pairOff) = some (s.dev.regView s.fuses (a + r.pairOff)) ∧
    Dev.Frame false [.lastRead, .shadows, .out] [] s.dev d) ∧
  (∀ v, r.part = .hi → s.dev.shadow a = some v → ∃ d : Dev, answers (.highWordRead a) s d ∧ d.lastRead = v ∧ d.shadow a = none ∧
    Dev.Frame false [.lastRead, .shadows, .out] [] s.dev d) ∧
  (r.part = .hi → s.dev.shadow a = none → ∃ d : Dev, answers (.highWordRead a) s d ∧ d.lastRead = s.dev.regView s.fuses a ∧
    Dev.Frame false [.lastRead, .shadows, .out] [] s.dev d) ∧
  (r.part = .none → s.dev.measuredBits a = 0 → ∃ d : Dev, answers (.rcRead a) s d ∧ d.lastRead = s.dev.regView s.fuses a ∧
    d.rd a = s.dev.rd a &&& ~~~(w32 r.rc) ∧ Dev.Frame false [.lastRead, .out] [a] s.dev d) ∧
  (∀ o, r.part = .none → s.dev.measuredBits a = 0 → 1 ≤ o → o ≤ 3 → s.dev.open_ (a + o) → ∃ d : Dev, answers (.rcRead (a + o)) s d ∧
    d.lastRead = BitVec.ofNat 32 ((s.dev.regView s.fuses a).toNat / 2 ^ (8 * o) % (if o = 2 then 2 ^ 16 else 2 ^ 8)) ∧
    d.rd a = s.dev.rd a &&& ~~~(w32 r.rc) ∧ Dev.Frame false [.lastRead, .out] [a] s.dev d)

/-- A read that cannot be answered at once (R55, R476): of an address that holds nothing it answers 0 and counts as unmapped; of a
register in a domain that sleeps, or behind a held write, it waits for at most 1 ms; HOST_READ_TIMEOUT then answers all ones.
Its clauses rest on the model's choices in log entries 32, 34, 89 where those speak of its commands. -/
def Obligations.ReadsThatWait : Prop := ∀ (s : State), s.runs →
  (∀ a, s.dev.mapped (a / 4 * 4) = false → ∃ d : Dev, answers (.rcRead a) s d ∧ d.lastRead = 0 ∧ d.is R.HIF_ERR_UNMAPPED = true ∧
    Dev.Frame true [.lastRead] [R.HIF_ERR] s.dev d) ∧
  (∀ a x, s.dev.mapped (a / 4 * 4) = true → domOf a = some x → s.dev.dom x ∈ [.waking, .stopping, .retain, .off] ∨ s.dev.heldWrites ≠ 0 →
    ∃ d : Dev, answers (.rcRead a) s d ∧ d.hif.waiting = s.dev.hif.waiting ++ [.read a (s.dev.ticks + msTicks)] ∧ d.lastRead = s.dev.lastRead ∧
      Dev.Frame false [.hif, .pwr] [] s.dev d) ∧
  (∀ a due rest, firstRead s.dev.hif.waiting = some ((a, due), rest) → ∃ d : Dev, answers .hostReadTimeout s d ∧ d.lastRead = 0xFFFFFFFF ∧
    d.ticks = max s.dev.ticks due ∧ d.hif.waiting = rest ∧
    (d.rd R.PWR_HOST_TIMEOUTS).toNat = min ((s.dev.rd R.PWR_HOST_TIMEOUTS).toNat + 1) (2 ^ 32 - 1) ∧ d.is R.PWR_IRQ_HOST_TIMEOUT = true ∧
    Dev.Frame true [.lastRead, .pwr, .ticks, .tmb, .hif] [R.PWR_HOST_TIMEOUTS, R.PWR_IRQ] s.dev d) ∧
  (∀ a, s.dev.mapped (a / 4 * 4) = false → ∃ d : Dev, answers (.unmappedAccess a false) s d ∧ d.lastRead = 0 ∧ d.is R.HIF_ERR_UNMAPPED = true ∧
    Dev.Frame true [.lastRead] [R.HIF_ERR] s.dev d)

/-- Writes of registers (R3, R4, R8, R54, R55): HIGH_WORD_WRITE, REGISTER_WRITE, NARROW_WRITE, UNMAPPED_ACCESS. For registers whose
write does nothing beyond what their access codes say (plainRegs, and all of PRS): writable bits take the value unless it is an encoding
the table does not list, bits written 1 clear W1C bits, a high word waits for its low word. A write of a
narrow or unmapped access changes no register but HIF_ERR; one to a domain that wakes waits.
Its clauses rest on the model's choices in log entries 31 to 33, 35 where those speak of its commands. -/
def Obligations.RegisterWrites : Prop := ∀ (s : State), s.runs →
  (∀ (a : Nat) (r : RegRow) (v : Word), regRow a = some r → a % 4 = 0 → (a ∈ plainRegs ∨ a / 2 ^ 20 = 9) → s.dev.open_ a →
  (r.part = .none → r.w1c = 0 → ∃ d : Dev, answers (.registerWrite a v) s d ∧ d.rd a = r.merge (s.dev.rd a) v ∧
    (r.legal = [] → d.rd a = (s.dev.rd a &&& ~~~(w32 r.rw)) ||| (v &&& w32 r.rw)) ∧ Dev.Frame true [] [a] s.dev d) ∧
  (r.part = .none → r.rw = 0 → ∃ d : Dev, answers (.registerWrite a v) s d ∧ d.rd a = s.dev.rd a &&& ~~~(v &&& w32 r.w1c) ∧
    Dev.Frame true [] [a] s.dev d) ∧
  (r.part = .hi → r.rw ≠ 0 → ∃ d : Dev, answers (.highWordWrite a v) s d ∧ d.highFor a = v ∧ Dev.Frame false [.heldHigh] [] s.dev d) ∧
  (∀ q, r.part = .lo → r.rw ≠ 0 → regRow (a + r.pairOff) = some q → r.pairOff ≠ 0 → ∃ d : Dev, answers (.registerWrite a v) s d ∧
    d.rd a = r.merge (s.dev.rd a) v ∧ d.rd (a + r.pairOff) = q.merge (s.dev.rd (a + r.pairOff)) (s.dev.highFor (a + r.pairOff)) ∧
    Dev.Frame false [.heldHigh] [a, a + r.pairOff] s.dev d)) ∧
  (∀ a, s.dev.mapped (a / 4 * 4) = true → ∃ d : Dev, answers (.narrowWrite a) s d ∧ d.is R.HIF_ERR_WIDTH = true ∧
    Dev.Frame true [] [R.HIF_ERR] s.dev d) ∧
  (∀ a, s.dev.mapped (a / 4 * 4) = false → ∃ d : Dev, answers (.narrowWrite a) s d ∧ d.is R.HIF_ERR_UNMAPPED = true ∧
    Dev.Frame true [] [R.HIF_ERR] s.dev d) ∧
  (∀ a v, s.dev.mapped (a / 4 * 4) = false → ∃ d : Dev, answers (.registerWrite a v) s d ∧ d.is R.HIF_ERR_UNMAPPED = true ∧
    Dev.Frame true [] [R.HIF_ERR] s.dev d) ∧
  (∀ a, s.dev.mapped (a / 4 * 4) = false → ∃ d : Dev, answers (.unmappedAccess a true) s d ∧ d.is R.HIF_ERR_UNMAPPED = true ∧
    Dev.Frame true [] [R.HIF_ERR] s.dev d) ∧
  (∀ a v x, s.dev.mapped a = true → domOf a = some x → s.dev.dom x ∈ [.waking, .stopping, .retain, .off] →
    ∃ d : Dev, answers (.registerWrite a v) s d ∧ d.hif.waiting = s.dev.hif.waiting ++ [.write a v] ∧ Dev.Frame false [.hif, .pwr] [] s.dev d)

/-- The rings towards the host (R62 to R66): HIF_CTL_WRITE, H2D_TAIL_WRITE, H2D_FETCH_ERROR, D2H_HEAD_WRITE, D2H_RING_RESUME,
COALESCE_TIMER_EXPIRY. An enable that rises sets its ring's HEAD and TAIL to 0; entries are fetched from HEAD up to TAIL; a message takes the
next number and enters the journal, which keeps the last 4,096; the ring writes the next live message, as long as it is not full, at TAIL
with the ring's phase, and skips and counts what the journal no longer holds.
Its clauses rest on the model's choices in log entries 18, 24, 38, 41 where those speak of its commands. -/
def Obligations.HostRings : Prop := ∀ (s : State), s.runs →
  (∀ v : Word, ∃ d : Dev, answers (.hifCtlWrite v) s d ∧ d.rd R.HIF_CTL = v &&& 0x3F ∧
    (if bit v.toNat 0 = true ∧ s.dev.is R.HIF_CTL_H2D_EN = false then d.get R.HIF_H2D_HEAD_INDEX = 0 ∧ d.get R.HIF_H2D_TAIL_INDEX = 0
      else d.get R.HIF_H2D_HEAD_INDEX = s.dev.get R.HIF_H2D_HEAD_INDEX ∧ d.get R.HIF_H2D_TAIL_INDEX = s.dev.get R.HIF_H2D_TAIL_INDEX) ∧
    (if bit v.toNat 1 = true ∧ s.dev.is R.HIF_CTL_D2H_EN = false then d.get R.HIF_D2H_HEAD_INDEX = 0 ∧
        (bit v.toNat 2 = false → d.get R.HIF_D2H_TAIL_INDEX = 0 ∧ d.hif.phase = true ∧ d.hif.pcie.next = s.dev.nextSeq)
      else d.get R.HIF_D2H_HEAD_INDEX = s.dev.get R.HIF_D2H_HEAD_INDEX) ∧
    Dev.Frame true [] [R.HIF_CTL, R.HIF_H2D_HEAD_INDEX.reg, R.HIF_H2D_TAIL_INDEX.reg, R.HIF_D2H_HEAD_INDEX.reg] s.dev d) ∧
  (∀ (v : Word) (l : List (BitVec 512)) m, v.toNat % 4096 < s.dev.h2dSize → s.dev.is R.HIF_CTL_H2D_EN = true →
    m = l.take ((v.toNat % 4096 + s.dev.h2dSize - s.dev.get R.HIF_H2D_HEAD_INDEX) % s.dev.h2dSize) → ∃ d : Dev,
    answers (.h2dTailWrite v l) s d ∧ d.get R.HIF_H2D_TAIL_INDEX = v.toNat % 4096 ∧
    d.get R.HIF_H2D_HEAD_INDEX = (s.dev.get R.HIF_H2D_HEAD_INDEX + m.length) % s.dev.h2dSize % 4096 ∧
    d.hif = { s.dev.hif with pcie := { s.dev.hif.pcie with inbox := s.dev.hif.pcie.inbox ++ m.map fun e => HMsg.ofBytes (le 64 e.toNat) } } ∧
    Dev.Frame false [.hif] [R.HIF_H2D_HEAD_INDEX.reg, R.HIF_H2D_TAIL_INDEX.reg] s.dev d) ∧
  (∀ (v : Word) (l : List (BitVec 512)), v.toNat % 4096 < s.dev.h2dSize → s.dev.is R.HIF_CTL_H2D_EN = false → ∃ d : Dev,
    answers (.h2dTailWrite v l) s d ∧ d.get R.HIF_H2D_TAIL_INDEX = v.toNat % 4096 ∧ Dev.Frame false [] [R.HIF_H2D_TAIL_INDEX.reg] s.dev d) ∧
  (∀ (v : Word) (l : List (BitVec 512)), s.dev.h2dSize ≤ v.toNat % 4096 → ∃ d : Dev, answers (.h2dTailWrite v l) s d ∧
    d.is R.HIF_ERR_TAIL_RANGE = true ∧ Dev.Frame true [] [R.HIF_ERR] s.dev d) ∧
  (s.dev.is R.HIF_CTL_H2D_EN = true → s.dev.get R.HIF_H2D_HEAD_INDEX < s.dev.h2dSize → s.dev.get R.HIF_H2D_TAIL_INDEX < s.dev.h2dSize →
    s.dev.get R.HIF_H2D_HEAD_INDEX ≠ s.dev.get R.HIF_H2D_TAIL_INDEX → ∃ d : Dev, answers .h2dFetchError s d ∧ d.is R.HIF_CTL_H2D_EN = false ∧
    d.is R.HIF_ERR_H2D_FETCH = true ∧ (∀ f, f ∈ [R.HIF_CTL_D2H_EN, R.HIF_CTL_IB_EN, R.HIF_CTL_RM_EN] → d.is f = s.dev.is f) ∧
    Dev.Frame true [] [R.HIF_CTL, R.HIF_ERR] s.dev d) ∧
  (∀ v : Word, let n := v.toNat % 4096; let h := s.dev.get R.HIF_D2H_HEAD_INDEX
    if n < s.dev.d2hSize ∧ (n + s.dev.d2hSize - h) % s.dev.d2hSize ≤ (s.dev.get R.HIF_D2H_TAIL_INDEX + s.dev.d2hSize - h) % s.dev.d2hSize then
      ∃ d : Dev, answers (.d2hHeadWrite v) s d ∧ d.get R.HIF_D2H_HEAD_INDEX = n ∧ Dev.Frame false [] [R.HIF_D2H_HEAD_INDEX.reg] s.dev d
    else ∃ d : Dev, answers (.d2hHeadWrite v) s d ∧ d.is R.HIF_ERR_HEAD_RANGE = true ∧ Dev.Frame true [] [R.HIF_ERR] s.dev d) ∧
  (s.dev.is R.HIF_CTL_D2H_EN = true → s.dev.hif.pcie.replay = none → s.dev.hif.pcie.next ≠ s.dev.nextSeq →
    (∀ m, s.dev.journalAt s.dev.hif.pcie.next = some m → (s.dev.hif.pcie.next + 1) % 2 ^ 32 = s.dev.nextSeq → s.dev.ringFull = false → ∃ d : Dev,
      answers .d2hRingResume s d ∧ d.hif.pcie.next = s.dev.nextSeq ∧ Dev.Frame true [] [] s.dev d ∧
      if Config.pcieWriteError s.dev.free = true then d.get R.HIF_D2H_TAIL_INDEX = s.dev.get R.HIF_D2H_TAIL_INDEX ∧ d.is R.HIF_ERR_D2H_WRITE = true ∧
        (d.rd R.HIF_SKIP_RING).toNat = min ((s.dev.rd R.HIF_SKIP_RING).toNat + 1) (2 ^ 32 - 1)
      else d.get R.HIF_D2H_TAIL_INDEX = (s.dev.get R.HIF_D2H_TAIL_INDEX + 1) % s.dev.d2hSize % 4096 ∧
        Out.hostWrite (s.dev.rd64 R.HIF_D2H_BASE_LO + 64 * s.dev.get R.HIF_D2H_TAIL_INDEX) (m.bytes s.dev.hif.phase false) ∈ d.out) ∧
    (∀ m, s.dev.journalAt s.dev.hif.pcie.next = some m → s.dev.ringFull = true → answers .d2hRingResume s s.dev) ∧
    (s.dev.journalAt s.dev.hif.pcie.next = none → s.dev.ringFull = true → ∃ d : Dev, answers .d2hRingResume s d ∧ d.hif.pcie.next = s.dev.oldest ∧
      (d.rd R.HIF_SKIP_RING).toNat = min ((s.dev.rd R.HIF_SKIP_RING).toNat + seqSub s.dev.oldest s.dev.hif.pcie.next) (2 ^ 32 - 1) ∧
      Dev.Frame false [.hif] [R.HIF_SKIP_RING] s.dev d)) ∧
  (s.dev.is R.HIF_CTL_D2H_EN = false → answers .d2hRingResume s s.dev) ∧
  (s.dev.get R.HIF_D2H_COAL_TIME ≠ 0 → s.dev.hif.unsignalled ≠ 0 → ∃ d : Dev, answers .coalesceTimerExpiry s d ∧ d.hif.unsignalled = 0 ∧
    d.ticks = max s.dev.ticks (s.dev.hif.firstUnsignalled + s.dev.get R.HIF_D2H_COAL_TIME * usTicks) ∧
    (s.dev.hif.cfg.msixEnable = true → s.dev.hif.cfg.msixMask = false → bit (s.dev.msixWord 3).toNat 0 = false →
      Out.msix 0 ((s.dev.msixWord 0).toNat + 2 ^ 32 * (s.dev.msixWord 1).toNat) (s.dev.msixWord 2).toNat ∈ d.out) ∧
    Dev.Frame true [.ticks, .tmb] [] s.dev d) ∧
  (∀ (d : Dev) (typ : Nat) (ans : Option (Path × Nat)) (b : List Byte), ∃ t : Dev, d.append typ ans b = t ∧ t.nextSeq = (d.nextSeq + 1) % 2 ^ 32 ∧
    t.hif.journal.length = min (d.hif.journal.length + 1) 4096 ∧
    t.hif.journal.getLast? = some { seq := d.nextSeq, typ := typ, ans := ans, payload := b } ∧
    (d.hif.journal.length < 4096 → t.hif.journal.take d.hif.journal.length = d.hif.journal))

/-- LOS, LOL and OVERLOAD of a line port (R106 to R108): LOS_ON, LOS_OFF, LOL, LOL_CLEAR, OVERLOAD_ON, OVERLOAD_OFF.
Its clauses rest on the model's choices in log entries 98, 193 where those speak of its commands. -/
def Obligations.LineSignals : Prop := ∀ (s : State) (p : Port) (w : BitVec 16), s.runs →
  (s.dev.is (R.LFE_x_STATUS_LOS p.ix) = false → signed 16 w.toNat < signed 16 (s.dev.get (R.LFE_x_LOS_CFG_LEVEL p.ix)) →
    ∃ d : Dev, answers (.losOn p w) s d ∧ d.is (R.LFE_x_STATUS_LOS p.ix) = true ∧ d.is (R.LFE_x_STATUS_LOL p.ix) = true ∧
      d.get (R.LFE_x_RX_POWER_DBM p.ix) = w.toNat ∧
      d.get (R.LFE_x_COUNTS_LOS p.ix) = min (s.dev.get (R.LFE_x_COUNTS_LOS p.ix) + 1) (2 ^ (R.LFE_x_COUNTS_LOS p.ix).w - 1) ∧
      d.is ((lfeIrq p).at 0) = true ∧
      Dev.Frame true [.lfe] [(R.LFE_x_STATUS_LOS p.ix).reg, (R.LFE_x_RX_POWER_DBM p.ix).reg, (R.LFE_x_COUNTS_LOS p.ix).reg, R.LFE_IRQ] s.dev d) ∧
  (s.dev.is (R.LFE_x_STATUS_LOS p.ix) = true →
    signed 16 (s.dev.get (R.LFE_x_LOS_CFG_LEVEL p.ix)) + s.dev.get (R.LFE_x_LOS_CFG_HYST p.ix) < signed 16 w.toNat →
    ∀ (eq : BitVec 6) (taps : BitVec 30), ∃ d : Dev, answers (.losOff p (.mk w eq taps)) s d ∧ d.is (R.LFE_x_STATUS_LOS p.ix) = false ∧
      d.is (R.LFE_x_STATUS_LOL p.ix) = s.dev.is (R.LFE_x_STATUS_LOL p.ix) ∧ d.get (R.LFE_x_RX_POWER_DBM p.ix) = w.toNat ∧
      d.is ((lfeIrq p).at 1) = true ∧
      (if s.dev.powered p = true ∧ s.dev.is (R.LFE_x_STATUS_READY p.ix) = true ∧ s.dev.is (R.LFE_x_CTL_FREEZE p.ix) = false
        then d.get (R.LFE_x_DFE_TAPS p.ix) = taps.toNat ∧ bits (d.rd (R.LFE_x_EQ_CTLE p.ix).reg).toNat 0 6 = eq.toNat ∧
          d.is (R.LFE_x_STATUS_ADAPTED p.ix) = false
        else d.rd (R.LFE_x_DFE_TAPS p.ix).reg = s.dev.rd (R.LFE_x_DFE_TAPS p.ix).reg ∧
          d.rd (R.LFE_x_EQ_CTLE p.ix).reg = s.dev.rd (R.LFE_x_EQ_CTLE p.ix).reg) ∧
      Dev.Frame true [.lfe] [(R.LFE_x_STATUS_LOS p.ix).reg, (R.LFE_x_RX_POWER_DBM p.ix).reg, R.LFE_IRQ, (R.LFE_x_EQ_CTLE p.ix).reg,
        (R.LFE_x_DFE_TAPS p.ix).reg] s.dev d) ∧
  (s.dev.powered p = true → s.dev.get (R.LFE_x_STATUS_ROLE p.ix) ≠ 0 → s.dev.is (R.LFE_x_STATUS_CAL_BUSY p.ix) = false →
    ∃ d : Dev, answers (.lol p) s d ∧ d.is (R.LFE_x_STATUS_LOL p.ix) = true ∧
      (s.dev.is (R.LFE_x_STATUS_LOL p.ix) = false → d.get (R.LFE_x_COUNTS_LOL p.ix) =
        min (s.dev.get (R.LFE_x_COUNTS_LOL p.ix) + 1) (2 ^ (R.LFE_x_COUNTS_LOL p.ix).w - 1) ∧ d.is ((lfeIrq p).at 2) = true) ∧
      Dev.Frame true [.lfe] [(R.LFE_x_STATUS_LOS p.ix).reg, (R.LFE_x_COUNTS_LOS p.ix).reg, R.LFE_IRQ] s.dev d) ∧
  (s.dev.powered p = true → s.dev.is (R.LFE_x_STATUS_READY p.ix) = true → s.dev.is (R.LFE_x_STATUS_LOS p.ix) = false →
    s.dev.is (R.LFE_x_STATUS_CAL_BUSY p.ix) = false →
    ∃ d : Dev, answers (.lolClear p) s d ∧ d.is (R.LFE_x_STATUS_LOL p.ix) = false ∧
      Dev.Frame false [.lfe] [(R.LFE_x_STATUS_LOS p.ix).reg] s.dev d) ∧
  (s.dev.is (R.LFE_x_STATUS_OVERLOAD p.ix) = false → -50 < signed 16 w.toNat →
    ∃ d : Dev, answers (.overloadOn p w) s d ∧ d.is (R.LFE_x_STATUS_OVERLOAD p.ix) = true ∧
      Dev.Frame true [] [(R.LFE_x_STATUS_LOS p.ix).reg, (R.LFE_x_RX_POWER_DBM p.ix).reg, R.LFE_IRQ] s.dev d) ∧
  (signed 16 w.toNat < -60 →
    ∃ d : Dev, answers (.overloadOff p w) s d ∧ d.is (R.LFE_x_STATUS_OVERLOAD p.ix) = false ∧
      Dev.Frame false [] [(R.LFE_x_STATUS_LOS p.ix).reg, (R.LFE_x_RX_POWER_DBM p.ix).reg] s.dev d)

/-- Calibration, the laser's temperature control and the rogue switch (R105, R109, R112, R113, R115): PORT_READY, OFFSET_CAL, CAL_START,
FULL_CAL_DONE, TEC_LOCK_CHANGE, TEC_FAULT, ROGUE_DETECT, ROGUE_CLR. FREEZE holds codes, taps and ADAPTED through a calibration; the rogue switch cuts a
transmission in progress.
Its clauses rest on the model's choices in log entries 93, 190, 191, 193 where those speak of its commands. -/
def Obligations.LineCalibration : Prop := ∀ (s : State) (p : Port) (eq : BitVec 6) (taps : BitVec 30) (temp : BitVec 16) (calibrated : Dev → Prop),
  s.runs →
  (calibrated = fun d => if s.dev.is (R.LFE_x_CTL_FREEZE p.ix) = true
    then d.rd (R.LFE_x_DFE_TAPS p.ix).reg = s.dev.rd (R.LFE_x_DFE_TAPS p.ix).reg ∧ d.rd (R.LFE_x_EQ_CTLE p.ix).reg = s.dev.rd (R.LFE_x_EQ_CTLE p.ix).reg
    else d.get (R.LFE_x_DFE_TAPS p.ix) = taps.toNat ∧ bits (d.rd (R.LFE_x_EQ_CTLE p.ix).reg).toNat 0 6 = eq.toNat ∧
      d.is (R.LFE_x_STATUS_ADAPTED p.ix) = false) →
  (s.dev.powered p = true → s.dev.get (R.LFE_x_STATUS_ROLE p.ix) ≠ 0 → s.dev.is (R.LFE_x_STATUS_READY p.ix) = false →
    ∃ d : Dev, answers (.portReady p eq taps) s d ∧ d.is (R.LFE_x_STATUS_READY p.ix) = true ∧ calibrated d ∧
      Dev.Frame false [.lfe] [(R.LFE_x_STATUS_LOS p.ix).reg, (R.LFE_x_EQ_CTLE p.ix).reg, (R.LFE_x_DFE_TAPS p.ix).reg] s.dev d) ∧
  answers (.offsetCal p) s s.dev ∧
  (s.dev.powered p = true → s.dev.get R.PWR_LINGER_US = 0 → s.dev.heldWrites < 64 → s.dev.get (R.LFE_x_STATUS_ROLE p.ix) = 1 →
    ∃ d : Dev, answers (.calStart p) s d ∧ d.is (R.LFE_x_STATUS_CAL_BUSY p.ix) = true ∧ d.is (R.LFE_x_STATUS_LOL p.ix) = true ∧
      Dev.Frame false [.lfe] [(R.LFE_x_STATUS_LOS p.ix).reg] s.dev d) ∧
  (s.dev.powered p = true → s.dev.get R.PWR_LINGER_US = 0 → s.dev.heldWrites < 64 → s.dev.get (R.LFE_x_STATUS_ROLE p.ix) ≠ 1 →
    ∃ d : Dev, answers (.calStart p) s d ∧ d.is R.LFE_IRQ_SEL_REFUSED = true ∧ Dev.Frame true [] [R.LFE_IRQ] s.dev d) ∧
  (s.dev.is (R.LFE_x_STATUS_CAL_BUSY p.ix) = true →
    ∃ d : Dev, answers (.fullCalDone p eq taps) s d ∧ d.is (R.LFE_x_STATUS_CAL_BUSY p.ix) = false ∧
      d.is (R.LFE_x_STATUS_LOL p.ix) = s.dev.is (R.LFE_x_STATUS_LOL p.ix) ∧ calibrated d ∧
      Dev.Frame false [.lfe] [(R.LFE_x_STATUS_LOS p.ix).reg, (R.LFE_x_EQ_CTLE p.ix).reg, (R.LFE_x_DFE_TAPS p.ix).reg] s.dev d) ∧
  (∀ lock, ∃ d : Dev, answers (.tecLockChange p lock temp) s d ∧ d.is (R.LFE_x_STATUS_TEC_LOCK p.ix) = lock ∧
      d.is (R.LFE_x_STATUS_TEC_FAULT p.ix) = (!lock && s.dev.is (R.LFE_x_STATUS_TEC_FAULT p.ix)) ∧ d.get (R.LFE_x_TEC_TEMP p.ix) = temp.toNat ∧
      (d.lfeP p).tecOpenSince = (if lock = false ∧ s.dev.tecRuns p = true then some ((s.dev.lfeP p).tecOpenSince.getD s.dev.ticks) else none) ∧
      Dev.Frame false [.lfe] [(R.LFE_x_STATUS_LOS p.ix).reg, (R.LFE_x_TEC_TEMP p.ix).reg] s.dev d) ∧
  (∀ since, s.dev.tecRuns p = true → s.dev.is (R.LFE_x_STATUS_TEC_LOCK p.ix) = false → s.dev.is (R.LFE_x_STATUS_TEC_FAULT p.ix) = false →
    (s.dev.lfeP p).tecOpenSince = some since →
    ∃ d : Dev, answers (.tecFault p) s d ∧ d.is (R.LFE_x_STATUS_TEC_FAULT p.ix) = true ∧ d.ticks = max s.dev.ticks (since + 15 * secTicks) ∧
      Dev.Frame true [.ticks, .tmb] [(R.LFE_x_STATUS_LOS p.ix).reg, R.LFE_IRQ] s.dev d) ∧
  (s.dev.is (R.LFE_x_STATUS_ROGUE p.ix) = false → ∃ d : Dev, answers (.rogueDetect p) s (if s.dev.transmits p = true then d.settle else d) ∧
      d.is (R.LFE_x_STATUS_ROGUE p.ix) = true ∧
      d.get (R.LFE_x_TX_COUNTS_ROGUE p.ix) = min (s.dev.get (R.LFE_x_TX_COUNTS_ROGUE p.ix) + 1) (2 ^ (R.LFE_x_TX_COUNTS_ROGUE p.ix).w - 1) ∧
      d.is ((lfeIrq p).at 5) = true ∧ d.transmits p = false ∧
      (s.dev.transmits p = true → Out.txCut p.ix ∈ d.out ∧ ∀ t st, d.bel.tx ≠ some (p, t, st)) ∧
      Dev.Frame true [.lfe, .bel] [(R.LFE_x_STATUS_LOS p.ix).reg, (R.LFE_x_TX_COUNTS_ROGUE p.ix).reg, R.LFE_IRQ] s.dev d) ∧
  (∀ light, s.dev.powered p = true → s.dev.get R.PWR_LINGER_US = 0 → s.dev.heldWrites < 64 →
    ∃ d : Dev, answers (.rogueClr p light) s d ∧ d.is (R.LFE_x_STATUS_ROGUE p.ix) = light ∧
      (light = true → d.get (R.LFE_x_TX_COUNTS_ROGUE p.ix) =
        min (s.dev.get (R.LFE_x_TX_COUNTS_ROGUE p.ix) + 1) (2 ^ (R.LFE_x_TX_COUNTS_ROGUE p.ix).w - 1)) ∧
      (light = false → Dev.Frame false [] [(R.LFE_x_STATUS_LOS p.ix).reg] s.dev d) ∧
      Dev.Frame true [.lfe, .bel] [(R.LFE_x_STATUS_LOS p.ix).reg, (R.LFE_x_TX_COUNTS_ROGUE p.ix).reg, R.LFE_IRQ] s.dev d)

/-- The choice of the active port (R117 whole), adaptation and the pattern checker (R105, R116, R118 to R120): PORT_SELECT, AUTO_SWITCH, SWITCH_COMPLETE,
HOLD_EXPIRY, ADAPTATION_UPDATE, LINE_PRBS_LOCK_CHANGE. After a switch the mode controller follows at once (Dev.settle).
Its clauses rest on the model's choices in log entries 100, 101, 192, 193 where those speak of its commands. -/
def Obligations.LinePortChoice : Prop := ∀ (s : State) (p : Port), s.runs →
  (s.dev.sourcePort ≠ some p → s.dev.switchable = true → s.dev.lfe.switching = none → s.dev.is (R.LFE_x_STATUS_READY p.ix) = true →
    ∃ d : Dev, answers (.portSelect p) s d ∧ d.lfe.switching = some (p, false) ∧ d.is R.LFE_STATUS_SWITCHING = true ∧
      Dev.Frame false [.lfe] [R.LFE_STATUS] s.dev d) ∧
  (s.dev.sourcePort ≠ some p → s.dev.switchable = false ∨ s.dev.lfe.switching ≠ none ∨ s.dev.is (R.LFE_x_STATUS_READY p.ix) = false →
    ∃ d : Dev, answers (.portSelect p) s d ∧ d.is R.LFE_IRQ_SEL_REFUSED = true ∧ Dev.Frame true [] [R.LFE_IRQ] s.dev d) ∧
  (∀ t1 t2, s.dev.activePort = some p → (s.dev.lfeP p).faultySince = some t1 → (s.dev.lfeP p.other).clearSince = some t2 →
    s.dev.get R.LFE_SEL_POLICY = 1 → s.dev.switchable = true → s.dev.lfe.switching = none → s.dev.is R.LFE_STATUS_HOLD = false →
    ∃ d : Dev, answers .autoSwitch s d ∧ d.lfe.switching = some (p.other, true) ∧ d.is R.LFE_STATUS_SWITCHING = true ∧
      d.ticks = max s.dev.ticks (max t1 t2 + s.dev.get R.LFE_SEL_HOLDOFF * msTicks) ∧
      Dev.Frame false [.lfe, .ticks, .tmb] [R.LFE_STATUS] s.dev d) ∧
  (∀ auto, s.dev.lfe.switching = some (p, auto) → (s.dev.lfeP p.other).sending = false →
    ∃ d : Dev, answers .switchComplete s d.settle ∧ d.get (R.LFE_x_STATUS_ROLE p.ix) = 2 ∧ d.get (R.LFE_x_STATUS_ROLE p.other.ix) = 1 ∧
      d.get R.LFE_STATUS_SOURCE = p.ix ∧ d.is R.LFE_STATUS_SWITCHING = false ∧ d.is R.LFE_STATUS_HOLD = true ∧ d.lfe.switching = none ∧
      d.ticks = max s.dev.ticks (s.dev.lfeP p.other).burstEnd ∧ d.lfe.holdUntil = d.ticks + max (s.dev.get R.LFE_SEL_HOLDOFF) 100 * msTicks ∧
      d.bel.win = none ∧ d.lfr.up = [] ∧ d.is R.LFE_IRQ_SWITCHED = true ∧
      (s.dev.sup.transit = none → s.dev.sup.mode = .service ∨ s.dev.sup.mode = .standby → d.sup.mode = .island)) ∧
  (s.dev.is R.LFE_STATUS_HOLD = true →
    ∃ d : Dev, answers .holdExpiry s d ∧ d.is R.LFE_STATUS_HOLD = false ∧ d.ticks = max s.dev.ticks s.dev.lfe.holdUntil ∧
      Dev.Frame false [.ticks, .tmb] [R.LFE_STATUS] s.dev d) ∧
  (∀ (ctle : Int) (steps : List Int), s.dev.get (R.LFE_x_STATUS_ROLE p.ix) ≠ 0 → s.dev.powered p = true →
    s.dev.is (R.LFE_x_STATUS_LOL p.ix) = false → s.dev.is (R.LFE_x_CTL_FREEZE p.ix) = false →
    ∃ d : Dev, answers (.adaptationUpdate p ctle steps) s d ∧
      (d.get (R.LFE_x_EQ_CTLE p.ix) : Int) = max 0 (min 15 ((s.dev.get (R.LFE_x_EQ_CTLE p.ix) : Int) + ctle)) ∧
      (∀ k, k < 5 → d.tap p k = max (-32) (min 31 (s.dev.tap p k + steps.getD k 0))) ∧
      Dev.Frame false [.lfe] [(R.LFE_x_EQ_CTLE p.ix).reg, (R.LFE_x_DFE_TAPS p.ix).reg, (R.LFE_x_STATUS_LOS p.ix).reg] s.dev d) ∧
  (∀ lock errors, s.dev.sup.mode = .test → s.dev.is (R.LFE_x_TEST_PRBS_CHK p.ix) = true →
    ∃ d : Dev, answers (.linePrbsLockChange p lock errors) s d ∧ d.is (R.LFE_x_STATUS_PRBS_LOCK p.ix) = lock ∧
      (d.rd (R.LFE_x_PRBS_ERR p.ix)).toNat = min ((s.dev.rd (R.LFE_x_PRBS_ERR p.ix)).toNat + errors) (2 ^ 32 - 1) ∧
      Dev.Frame false [] [(R.LFE_x_STATUS_LOS p.ix).reg, R.LFE_x_PRBS_ERR p.ix] s.dev d) ∧
  (∀ lock errors, s.dev.sup.mode ≠ .test ∨ s.dev.is (R.LFE_x_TEST_PRBS_CHK p.ix) = false → answers (.linePrbsLockChange p lock errors) s s.dev) ∧
  (s.dev.sourcePort = some p → answers (.portSelect p) s s.dev)

/-- Resets begin (R9, R88, R91 to R97, Table 4-5): RST_N_LOW, BROWNOUT, WATCHDOG_PLATFORM, WATCHDOG_HOST, SOFT_RESET, POWER_APPLIED.
Its clauses rest on the model's choices in log entries 61 to 64 where those speak of its commands. -/
def Obligations.Resets : Prop := ∀ (s : State),
  (s.dev.sup.running = true → ∃ d : Dev, answers .rstNLow s d ∧ Dev.ResetFrom .hard [] s.dev d ∧ d.sup.released = false ∧
    bit d.sup.causes 1 = true ∧ d.ticks = s.dev.ticks ∧ d.hif.link = none ∧ d.mem.pitons = [] ∧ d.cph.slots = [] ∧
    (∀ p : Port, s.dev.transmits p = true → Out.txCut p.ix ∈ d.out)) ∧
  (∀ rail : Fin 5, s.dev.sup.running = true → ∃ d : Dev, answers (.brownout rail) s d ∧
    Dev.ResetFrom .hard [R.PLT_RESET_CAUSE, R.PLT_SUPPLY] s.dev d ∧ d.sup.released = false ∧ bit d.sup.causes 4 = true ∧
    d.get R.PLT_RESET_CAUSE_RAIL = rail ∧ d.get (R.PLT_SUPPLY_RAIL_OK.at rail) = 0) ∧
  (s.dev.sup.running = true → s.dev.sup.released = true → s.dev.sup.inReset ≠ some .soft →
    ∃ d : Dev, answers .watchdogPlatform s d ∧ Dev.ResetFrom .hard [] s.dev d ∧ bit d.sup.causes 3 = true ∧
      d.ticks = max s.dev.ticks (s.dev.sup.heartbeat + 500 * msTicks)) ∧
  (∀ e, s.runs → s.dev.sup.hostWdog = some e →
    ∃ d : Dev, answers .watchdogHost s d ∧ Dev.ResetFrom .hard [] s.dev d ∧ bit d.sup.causes 2 = true ∧ d.ticks = max s.dev.ticks e) ∧
  (∀ v : Word, s.runs → bits v.toNat 16 16 = 0x534F → s.dev.sup.mode ≠ .bivouac →
    ∃ d : Dev, answers (.softReset v) s d ∧ Dev.ResetFrom .soft [] s.dev d ∧ bit d.sup.causes 5 = true ∧ d.sup.released = true ∧
      d.img.store = s.dev.img.store ∧ d.cph.slots = s.dev.cph.slots ∧ d.mem.pitons = s.dev.mem.pitons ∧ d.tmb.time = s.dev.tmb.time ∧
      d.hif.link = s.dev.hif.link ∧ d.hif.cfg = s.dev.hif.cfg ∧ d.trb.applied = s.dev.trb.applied) ∧
  (∀ v : Word, s.runs → bits v.toNat 16 16 = 0x534F → s.dev.sup.mode = .bivouac → s.dev.sup.transit = none →
    ∃ d : Dev, answers (.softReset v) s d.settle ∧ d.sup.softPending = some false ∧ d.pwr.coord = .exiting ∧
      d.sup.transit = some (if s.dev.sup.regAtBivouac then { row := 17, dest := .island, trig := .wakeHost }
        else { row := 18, dest := .acquire, trig := .wakeHost }) ∧ Dev.Frame false [.sup, .pwr] [R.PWR_REQ_RESULT] s.dev d) ∧
  (∀ v : Word, s.runs → bits v.toNat 16 16 ≠ 0x534F → answers (.softReset v) s s.dev) ∧
  (s.dev.sup.running = false → ∃ d : Dev, answers .powerApplied s d ∧ Dev.ResetFrom .powerOn [R.PLT_SUPPLY] s.dev d ∧
    d.sup.running = true ∧ d.sup.causes = 1 ∧ d.cph.slots = [] ∧ d.mem.pitons = [] ∧ d.is R.PLT_SUPPLY_AC_OK = true ∧
    d.get R.PLT_SUPPLY_RAIL_OK = 0)

/-- Resets end, and what the supervisor does beside them (R68, R89, R90, R94, R97, R98): RESET_RELEASE, BOOT_DONE, SUPERVISOR_STOPPED,
AC_FAIL, AC_RESTORED, PLATFORM_HEARTBEAT_KICK. At BOOT_DONE the mode controller follows at once (Dev.settle), and the host
watchdog starts with a full period where it is armed.
Its clauses rest on the model's choices in log entries 4, 11, 62, 64 where those speak of its commands. -/
def Obligations.ResetEnds : Prop := ∀ (s : State),
  (s.dev.sup.running = true → s.dev.sup.released = false → s.dev.sup.inReset ≠ none →
    ∃ d : Dev, answers .resetRelease s d ∧ d.sup.released = true ∧ d.sup.heartbeat = s.dev.ticks ∧ d.get R.PLT_SUPPLY_RAIL_OK = 31 ∧
      Dev.Frame false [.sup] [R.PLT_SUPPLY] s.dev d) ∧
  (∀ k, s.dev.sup.inReset = some k → s.dev.sup.released = true →
    ∃ d : Dev, answers .bootDone s { d.settle with sup := { d.settle.sup with hostWdog := d.settle.wdogFull } } ∧
      d.sup.inReset = none ∧ d.sup.mode = .config ∧ d.sup.prevMode = s.dev.sup.mode ∧ d.sup.booted = true ∧ d.hif.link.isSome = true ∧
      (k = .soft → d.sup.heartbeat = s.dev.ticks) ∧
      (d.rd R.HIF_BOOT_COUNT).toNat = ((s.dev.rd R.HIF_BOOT_COUNT).toNat + 1) % 2 ^ 32 ∧
      d.rd R.PLT_RESET_CAUSE = s.dev.rd R.PLT_RESET_CAUSE ||| BitVec.ofNat 32 s.dev.sup.causes) ∧
  (s.dev.sup.running = true → s.dev.sup.inReset ≠ none → s.dev.sup.released = false → s.dev.is R.PLT_SUPPLY_AC_OK = false →
    s.dev.get (R.PLT_SUPPLY_RAIL_OK.at 0) = 0 →
    ∃ d : Dev, answers .supervisorStopped s d ∧ d.sup.running = false ∧ Dev.Frame false [.sup] [] s.dev d) ∧
  (s.dev.sup.running = true → s.dev.is R.PLT_SUPPLY_AC_OK = true → ∃ d : Dev, answers .acFail s d ∧ d.is R.PLT_SUPPLY_AC_OK = false ∧
      (s.runs → d.is R.PLT_IRQ_AC_FAIL = true) ∧ d.sup = s.dev.sup ∧ Dev.Frame true [] [R.PLT_SUPPLY, R.PLT_IRQ] s.dev d) ∧
  (s.dev.sup.running = true → s.dev.is R.PLT_SUPPLY_AC_OK = false → ∃ d : Dev, answers .acRestored s d ∧ d.is R.PLT_SUPPLY_AC_OK = true ∧
      (s.runs → d.is R.PLT_IRQ_AC_RESTORED = true) ∧ d.sup = s.dev.sup ∧ Dev.Frame true [] [R.PLT_SUPPLY, R.PLT_IRQ] s.dev d) ∧
  (s.runs → ∃ d : Dev, answers .platformHeartbeatKick s d ∧ d.sup.heartbeat = s.dev.ticks ∧ Dev.Frame false [.sup] [] s.dev d)

/-- The host watchdog (R94 to R96) and the pace loop (R99, R100): WDOG_KICK, WDOG_CFG_WRITE, WDOG_WARN, PACE_COMPARE.
Its clauses rest on the model's choices in log entries 58, 60 where those speak of its commands. -/
def Obligations.WatchdogAndPace : Prop := ∀ (s : State), s.runs →
  (∀ v : Word, bits v.toNat 0 16 = 0x5A5A → s.dev.is R.PLT_WDOG_STATUS_EXPECT = false →
    ∃ d : Dev, answers (.wdogKick v) s d ∧ d.is R.PLT_WDOG_STATUS_EXPECT = true ∧ Dev.Frame false [] [R.PLT_WDOG_STATUS] s.dev d) ∧
  (∀ (v : Word) (e : Nat), bits v.toNat 0 16 = 0xA5A5 → s.dev.is R.PLT_WDOG_STATUS_EXPECT = true → s.dev.sup.hostWdog = some e →
    s.dev.get R.PLT_WDOG_CFG_HOST_TIMEOUT ≠ 0 →
    ∃ d : Dev, answers (.wdogKick v) s d ∧ d.is R.PLT_WDOG_STATUS_EXPECT = false ∧
      d.sup.hostWdog = some (s.dev.ticks + s.dev.get R.PLT_WDOG_CFG_HOST_TIMEOUT * msTicks) ∧
      Dev.Frame false [.sup] [R.PLT_WDOG_STATUS] s.dev d) ∧
  (∀ v : Word, bits v.toNat 0 16 ≠ (if s.dev.is R.PLT_WDOG_STATUS_EXPECT = true then 0xA5A5 else 0x5A5A) →
    ∃ d : Dev, answers (.wdogKick v) s d ∧ d.get R.PLT_WDOG_STATUS_BAD = min (s.dev.get R.PLT_WDOG_STATUS_BAD + 1) (2 ^ R.PLT_WDOG_STATUS_BAD.w - 1) ∧
      d.is R.PLT_WDOG_STATUS_EXPECT = s.dev.is R.PLT_WDOG_STATUS_EXPECT ∧ Dev.Frame false [] [R.PLT_WDOG_STATUS] s.dev d) ∧
  (∀ v : Word, 100 ≤ bits v.toNat 0 14 → bits v.toNat 0 14 ≤ 10000 → s.dev.sup.mode ≠ .bivouac → s.dev.sup.mode ≠ .test →
    ∃ d : Dev, answers (.wdogCfgWrite v) s d ∧ d.get R.PLT_WDOG_CFG_HOST_TIMEOUT = bits v.toNat 0 14 ∧
      d.sup.hostWdog = some (s.dev.ticks + bits v.toNat 0 14 * msTicks) ∧ Dev.Frame false [.sup] [R.PLT_WDOG_CFG, R.PLT_WDOG_STATUS] s.dev d) ∧
  (∀ v : Word, bits v.toNat 0 14 = 0 → ∃ d : Dev, answers (.wdogCfgWrite v) s d ∧ d.get R.PLT_WDOG_CFG_HOST_TIMEOUT = 0 ∧
      d.sup.hostWdog = none ∧ Dev.Frame false [.sup] [R.PLT_WDOG_CFG, R.PLT_WDOG_STATUS] s.dev d) ∧
  (∀ v : Word, bits v.toNat 0 14 ≠ 0 → bits v.toNat 0 14 < 100 ∨ 10000 < bits v.toNat 0 14 → answers (.wdogCfgWrite v) s s.dev) ∧
  (∀ e, s.dev.sup.hostWdog = some e → s.dev.sup.wdogWarned ≠ some e →
    ∃ d : Dev, answers .wdogWarn s d ∧ d.is R.PLT_IRQ_WDOG_WARN = true ∧ d.sup.wdogWarned = some e ∧
      d.ticks = max s.dev.ticks (e - s.dev.get R.PLT_WDOG_CFG_HOST_TIMEOUT * msTicks / 2) ∧
      Dev.Frame true [.sup, .ticks, .tmb] [R.PLT_IRQ] s.dev d) ∧
  (∀ r : BitVec 16, s.dev.sup.mode ≠ .bivouac → s.dev.get R.MOD_PACE_TARGET_TARGET ≠ 0 → r.toNat < 2 ^ R.MOD_PACE_STATUS_MEASURED.w →
    ∃ d : Dev, answers (.paceCompare r) s d ∧
      d.get R.MOD_PACE_STATUS_SETTING = (if r.toNat < s.dev.get R.MOD_PACE_TARGET_TARGET then min 850 (s.dev.get R.MOD_PACE_STATUS_SETTING + 5)
        else if 102 * s.dev.get R.MOD_PACE_TARGET_TARGET < 100 * r.toNat then max 680 (s.dev.get R.MOD_PACE_STATUS_SETTING - 5)
        else s.dev.get R.MOD_PACE_STATUS_SETTING) ∧
      d.get R.MOD_PACE_STATUS_MEASURED = r.toNat ∧ Dev.Frame true [] [R.MOD_PACE_STATUS_SETTING.reg, R.MOD_IRQ] s.dev d) ∧
  (∀ r : BitVec 16, s.dev.sup.mode ≠ .bivouac → s.dev.get R.MOD_PACE_TARGET_TARGET = 0 → r.toNat < 2 ^ R.MOD_PACE_STATUS_MEASURED.w →
    ∃ d : Dev, answers (.paceCompare r) s d ∧ d.get R.MOD_PACE_STATUS_SETTING = 680 ∧ d.get R.MOD_PACE_STATUS_MEASURED = r.toNat ∧
      Dev.Frame false [] [R.MOD_PACE_STATUS_SETTING.reg] s.dev d)

/-- The acquisition limit and the wake pins (R78): ACQ_LIMIT_WRITE, ACQ_LIMIT_EXPIRY, GPIO_WAKE_EDGE. Each hands its trigger to the
mode controller, which acts at once (Dev.fire).
Its clauses rest on the model's choices in log entries 55, 56 where those speak of its commands. -/
def Obligations.LimitsAndPins : Prop := ∀ (s : State), s.runs →
  (∀ v : Word, s.dev.sup.mode ≠ .acquire →
    ∃ d : Dev, answers (.acqLimitWrite v) s d ∧ d.get R.MOD_ACQ_LIMIT_MS = bits v.toNat 0 16 ∧ Dev.Frame false [] [R.MOD_ACQ_LIMIT] s.dev d) ∧
  (∀ v : Word, s.dev.sup.mode = .acquire → bits v.toNat 0 16 ≠ 0 → s.dev.sup.acqSince + bits v.toNat 0 16 * msTicks ≤ s.dev.ticks →
    ∃ d : Dev, answers (.acqLimitWrite v) s (d.fire .acqLimit) ∧ d.get R.MOD_ACQ_LIMIT_MS = bits v.toNat 0 16 ∧
      Dev.Frame false [] [R.MOD_ACQ_LIMIT] s.dev d) ∧
  (s.dev.sup.mode = .acquire → s.dev.get R.MOD_ACQ_LIMIT_MS ≠ 0 → s.dev.sup.transit = none →
    ∃ d : Dev, answers .acqLimitExpiry s d.settle ∧ d.ticks = max s.dev.ticks (s.dev.sup.acqSince + s.dev.get R.MOD_ACQ_LIMIT_MS * msTicks) ∧
      d.sup.mode = .island ∧ d.sup.prevMode = .acquire ∧ d.sup.lastTrigger = Trigger.acqLimit.code ∧ d.sup.modeSince = d.ticks ∧
      (d.rd R.MOD_TRANSITIONS).toNat = min ((s.dev.rd R.MOD_TRANSITIONS).toNat + 1) (2 ^ 32 - 1) ∧ d.is R.MOD_IRQ_MODE_CHANGE = true ∧
      Dev.Frame true [.sup, .pwr, .ticks, .tmb] [R.MOD_TRANSITIONS, R.MOD_IRQ] s.dev d) ∧
  (∀ (pin : Fin 8) (falling : Bool), bit (s.dev.get R.MOD_WAKE_EN_GPIO) pin = false →
    ∃ d : Dev, answers (.gpioWakeEdge pin falling) s d ∧ bit d.sup.gpioExt pin = !falling ∧ Dev.Frame false [.sup] [] s.dev d) ∧
  (∀ (pin : Fin 8) (falling : Bool), bit (s.dev.get R.MOD_WAKE_EN_GPIO) pin = true → bit (s.dev.get R.MOD_WAKE_EN_EDGE) pin = falling →
    s.dev.sup.transit = none →
    ∃ d : Dev, answers (.gpioWakeEdge pin falling) s d.settle ∧ bit d.sup.gpioExt pin = !falling ∧ bit d.sup.wakePins pin = true ∧
      (if s.dev.sup.mode = .bivouac then d.pwr.coord = .exiting ∧ d.sup.transit = some (if s.dev.sup.regAtBivouac
          then { row := 17, dest := .island, trig := .wakeGpio } else { row := 18, dest := .acquire, trig := .wakeGpio }) ∧
        Dev.Frame false [.sup, .pwr] [R.PWR_REQ_RESULT] s.dev d
      else Dev.Frame false [.sup] [] s.dev d))

/-- What the procedure of R58 answers to a command that is not executed, whatever row takes it: DUPLICATE to one not after the last
accepted, NACK with the number expected to one too far ahead, LENGTH to one of a wrong length.
Its clauses rest on the model's choices in log entry 42 where those speak of its commands. -/
def Obligations.MessagesRefused : Prop := ∀ (s : State) (p : Path) (m : HMsg) (rest : List HMsg), s.runs → (s.dev.path p).inbox = m :: rest →
  m.typ = tReplay → m.seq < 2 ^ 32 →
  (seqSub m.seq (s.dev.lastSeq p) = 0 ∨ 2 ^ 31 ≤ seqSub m.seq (s.dev.lastSeq p) → ∃ d : Dev, answers (.replay p) s (d.ack p m.seq .duplicate []) ∧
    (d.path p).inbox = rest ∧ Dev.Frame false [.hif] [] s.dev d) ∧
  (1 < seqSub m.seq (s.dev.lastSeq p) → seqSub m.seq (s.dev.lastSeq p) < 2 ^ 31 →
    ∃ d : Dev, answers (.replay p) s (d.nack p m.seq ((s.dev.lastSeq p + 1) % 2 ^ 32)) ∧
    (d.path p).inbox = rest ∧ Dev.Frame false [.hif] [] s.dev d) ∧
  (seqSub m.seq (s.dev.lastSeq p) = 1 → m.len ≠ 6 → ∃ d : Dev, answers (.replay p) s (d.ack p m.seq .length []) ∧
    Dev.Taken s.dev d p m rest)

/-- Commands of the host that are executed (R58 to R61, R69 to R71): HELLO, REPLAY, SNAPSHOT, REG_READ, REG_WRITE, IMG_XFER.
Its clauses rest on the model's choices in log entries 39, 40, 44, 46 to 49 where those speak of its commands. -/
def Obligations.HostMessages : Prop := ∀ (s : State) (p : Path) (m : HMsg) (rest : List HMsg), s.runs → Dev.Executes s.dev p m rest →
  ∃ d : Dev, Dev.Taken s.dev d p m rest ∧
  (m.typ = tHello → s.dev.is R.MOD_WAKE_EN_HOST = false → answers (.hello p) s (d.ack p m.seq .ok (le 4 (s.dev.lastSeq p + 1) ++
    le 4 s.dev.nextSeq ++ le 4 s.dev.oldest ++ le 4 (s.dev.rd R.HIF_BOOT_COUNT).toNat ++ le 1 s.dev.sup.mode.code))) ∧
  (m.typ = tHello → s.dev.is R.MOD_WAKE_EN_HOST = true → ∃ t : Dev, t = d.fire .wakeHost ∧ answers (.hello p) s (t.ack p m.seq .ok
    (le 4 (t.lastSeq p + 1) ++ le 4 t.nextSeq ++ le 4 t.oldest ++ le 4 (t.rd R.HIF_BOOT_COUNT).toNat ++ le 1 t.sup.mode.code))) ∧
  (m.typ = tReplay → s.dev.pathBusy p = false → leAt m.payload 4 2 ≤ 4096 → leAt m.payload 4 2 ≠ 0 → ∃ t : Dev,
    (t.path p).replay = some (leAt m.payload 0 4, leAt m.payload 4 2, (s.dev.nextSeq + 1) % 2 ^ 32) ∧ Dev.Frame false [.hif] [] d t ∧
    answers (.replay p) s (t.ack p m.seq
      (if s.dev.heldRange (leAt m.payload 0 4) (leAt m.payload 4 2) = leAt m.payload 4 2 then .ok else .partial_)
      (le 4 s.dev.oldest ++ le 2 (s.dev.heldRange (leAt m.payload 0 4) (leAt m.payload 4 2))))) ∧
  (m.typ = tSnapshot → p = .pcie → s.dev.pathBusy p = false → answers (.snapshot p false) s
    ((d.emit (.hostWrite (s.dev.rd64 R.HIF_SNAP_BASE_LO) (d.snapshot s.fuses))).ack p m.seq .ok (le 4 (d.snapshot s.fuses).length))) ∧
  (m.typ = tSnapshot → p = .pcie → s.dev.pathBusy p = false → ∃ t : Dev, t.is R.HIF_ERR_SNAP_WRITE = true ∧
    Dev.Frame true [] [R.HIF_ERR] d t ∧ answers (.snapshot p true) s (t.ack p m.seq .argument [])) ∧
  (m.typ = tSnapshot ∨ m.typ = tReplay → s.dev.pathBusy p = true → answers (if m.typ = tReplay then .replay p else .snapshot p false) s
    (d.ack p m.seq .busy [])) ∧
  (m.typ = tSnapshot → p ≠ .pcie → s.dev.pathBusy p = false → ∃ t : Dev,
    (t.path p).snap = some (s.dev.nextSeq, (snapParts s.dev.nextSeq (d.snapshot s.fuses)).length, snapParts s.dev.nextSeq (d.snapshot s.fuses)) ∧
    Dev.Frame false [.hif] [] d t ∧ answers (.snapshot p false) s (t.ack p m.seq .ok (le 4 (d.snapshot s.fuses).length))) ∧
  (m.typ = tRegRead → leAt m.payload 4 1 ≤ 12 → answers (.regRead p) s
    ((d.readAll s.fuses m.addrs).1.ack p m.seq .ok (d.readAll s.fuses m.addrs).2)) ∧
  (m.typ = tRegWrite → s.dev.mayWrite p = true → (∀ x, x ∈ m.writes → x.1 ∈ plainRegs) →
    answers (.regWrite p) s ((forEach m.writes d fun x t => t.writeNow x.1 x.2).ack p m.seq .ok [])) ∧
  (∀ v : Word, m.typ = tRegWrite → s.dev.mayWrite p = true → m.writes = [(R.PLT_RESET, v)] → bits v.toNat 16 16 = 0x534F →
    s.dev.sup.mode ≠ .bivouac → answers (.regWrite p) s ((d.ack p m.seq .ok []).beginReset .soft 5)) ∧
  (m.typ = tRegRead → 12 < leAt m.payload 4 1 → answers (.regRead p) s (d.ack p m.seq .argument [])) ∧
  (m.typ = tRegWrite → s.dev.mayWrite p = false → answers (.regWrite p) s (d.ack p m.seq .path [])) ∧
  (m.typ = tImgXfer → m.payload.length = 52 → s.dev.img.op = none → leAt m.payload 0 4 + (m.len - 4) ≤ 268435456 → ∃ t : Dev,
    t.img = { d.img with staging := swrite (leAt m.payload 0 4) ((m.payload.take m.len).drop 4) d.img.staging } ∧
    Dev.Frame false [.img] [] d t ∧ answers (.imgXfer p) s (t.ack p m.seq .ok [])) ∧
  (∀ r, m.typ = tModeReq → reqOf (leAt m.payload 0 1) = some r →
    answers (match r with
      | .bivouac => .modeReqBivouac (.message p)
      | .wake => .modeReqWake (.message p)
      | .test => .modeReqTest (.message p) 0
      | .exitTest => .modeReqExitTest (.message p)
      | .cancel => .modeReqCancel (.message p)) s
    (((d.hostReq { req := r, key := leAt m.payload 1 2, src := .message p }).1.ack p m.seq .ok
      (le 1 (d.hostReq { req := r, key := leAt m.payload 1 2, src := .message p }).2.code)).resetDue))

/-- TASK_MSG, TSK_FLAGS_SET and TSK_FLAGS_CLEAR (R316, R321): to a task that is not FREE the message joins its queue and its flag is set,
flags are set, flags are cleared; the answer carries the result.
Its clauses rest on the model's choices in log entries 43, 45 where those speak of its commands. -/
def Obligations.TaskCommands : Prop := ∀ (s : State) (p : Path) (m : HMsg) (rest : List HMsg), s.runs → Dev.Executes s.dev p m rest →
  ∃ d : Dev, Dev.Taken s.dev d p m rest ∧
  (m.typ = tTaskMsg → leAt m.payload 2 1 ≤ 31 → s.dev.msgPool ≠ 0 → (s.dev.task (leAt m.payload 0 2)).st ≠ .free → ∃ t : Dev,
    t.task (leAt m.payload 0 2) = { s.dev.task (leAt m.payload 0 2) with msgs := (s.dev.task (leAt m.payload 0 2)).msgs ++
      [{ kind := 1, flag := leAt m.payload 2 1, src := 0xFFFF, node := 0x3FF, payload := Machine.slice m.payload 4 48 }] } ∧
    Dev.Frame false [.tsk] [] d t ∧
    answers (.taskMsg p) s ((t.setFlags (leAt m.payload 0 2) (2 ^ leAt m.payload 2 1)).ack p m.seq .ok (le 1 0))) ∧
  (m.typ = tTaskMsg → leAt m.payload 2 1 ≤ 31 → s.dev.msgPool = 0 → answers (.taskMsg p) s (d.ack p m.seq .ok (le 1 1))) ∧
  (m.typ = tTskFlags → leAt m.payload 2 1 = 0 → (s.dev.task (leAt m.payload 0 2)).st ≠ .free → ∃ t : Dev,
    t.task (leAt m.payload 0 2) = { s.dev.task (leAt m.payload 0 2) with flags := (s.dev.task (leAt m.payload 0 2)).flags ||| leAt m.payload 4 4 } ∧
    Dev.Frame false [.tsk] [] d t ∧ answers (.tskFlagsSet p) s ((t.reeval [leAt m.payload 0 2]).ack p m.seq .ok (le 1 0))) ∧
  (m.typ = tTskFlags → leAt m.payload 2 1 = 1 → (s.dev.task (leAt m.payload 0 2)).st ≠ .free → ∃ t : Dev,
    t.task (leAt m.payload 0 2) = { s.dev.task (leAt m.payload 0 2) with
      flags := (s.dev.task (leAt m.payload 0 2)).flags &&& (2 ^ 32 - 1 - leAt m.payload 4 4 % 2 ^ 32) } ∧
    Dev.Frame false [.tsk] [] d t ∧ answers (.tskFlagsClear p) s ((t.reeval [leAt m.payload 0 2]).ack p m.seq .ok (le 1 0)))

/-- Host requests by register (R79 to R87, R101, Table 4-3): MODE_REQ_BIVOUAC, MODE_REQ_WAKE, MODE_REQ_TEST, MODE_REQ_EXIT_TEST,
MODE_REQ_CANCEL. A timed transition starts, and what follows from it at once follows (Dev.settle).
Its clauses rest on the model's choices in log entries 50 to 53 where those speak of its commands. -/
def Obligations.ModeRequests : Prop := ∀ (s : State), s.runs → s.dev.sup.transit = none →
  (s.dev.sup.mode.traffic = true → s.dev.img.op = none → ∃ d : Dev, answers (.modeReqBivouac .register) s d.settle.afterReq.resetDue ∧
    d.sup.transit = some { row := 16, dest := .bivouac, trig := .hostReq } ∧ d.pwr.coord = .entering ∧ d.pwr.withdrawn = true ∧
    d.pwr.closed = true ∧ d.pwr.reqStart = s.dev.ticks ∧ d.get R.MOD_REQ_RESULT_REQ = 1 ∧ d.get R.MOD_REQ_RESULT_RESULT = 1 ∧
    Dev.Frame false [.sup, .pwr, .sch] [R.MOD_REQ_RESULT_REQ.reg, R.PWR_REQ_RESULT] s.dev d) ∧
  (s.dev.sup.mode.traffic = false → s.dev.reloading = false → ∃ d : Dev, answers (.modeReqBivouac .register) s d.settle.afterReq.resetDue ∧
    d.get R.MOD_REQ_RESULT_RESULT = 2 ∧ d.is R.MOD_IRQ_REQ_DONE = true ∧ Dev.Frame true [] [R.MOD_REQ_RESULT_REQ.reg, R.MOD_IRQ] s.dev d) ∧
  (s.dev.sup.mode = .bivouac → s.dev.is R.MOD_WAKE_EN_HOST = true → ∃ d : Dev, answers (.modeReqWake .register) s d.settle.afterReq.resetDue ∧
    d.sup.transit = some (if s.dev.sup.regAtBivouac then { row := 17, dest := .island, trig := .wakeHost }
      else { row := 18, dest := .acquire, trig := .wakeHost }) ∧ d.pwr.coord = .exiting ∧
    Dev.Frame false [.sup, .pwr] [R.MOD_REQ_RESULT_REQ.reg, R.PWR_REQ_RESULT] s.dev d) ∧
  (s.dev.sup.mode = .config ∨ s.dev.sup.mode.traffic = true → s.dev.img.op = none → ∃ d : Dev,
    answers (.modeReqTest .register 0x5445) s d.settle.afterReq.resetDue ∧
    d.sup.transit = some { row := 3, dest := .test, trig := .hostReq } ∧ d.pwr.allOn = true ∧
    Dev.Frame false [.sup, .pwr] [R.MOD_REQ_RESULT_REQ.reg, R.PWR_REQ_RESULT] s.dev d) ∧
  (∀ k : BitVec 16, k ≠ 0x5445 → ∃ d : Dev, answers (.modeReqTest .register k) s d.resetDue ∧ d.get R.MOD_REQ_RESULT_RESULT = 6 ∧
    d.is R.MOD_IRQ_REQ_DONE = true ∧ Dev.Frame true [] [R.MOD_REQ_RESULT_REQ.reg, R.MOD_IRQ] s.dev d) ∧
  (s.dev.sup.mode = .test → ∃ d : Dev, answers (.modeReqExitTest .register) s d.settle.afterReq.resetDue ∧ d.sup.softPending = some true ∧
    d.is R.MOD_IRQ_REQ_DONE = true ∧ Dev.Frame true [.sup] [R.MOD_REQ_RESULT_REQ.reg, R.MOD_IRQ] s.dev d) ∧
  (∀ h, s.dev.sup.heldReq = some h → ∃ d : Dev, answers (.modeReqCancel .register) s d.resetDue ∧ d.sup.heldReq = none ∧
    d.get R.MOD_REQ_RESULT_RESULT = 7 ∧ d.is R.MOD_IRQ_REQ_DONE = true ∧
    Dev.Frame true [.sup] [R.MOD_REQ_RESULT_REQ.reg, R.MOD_IRQ] s.dev d)

/-- IMG_CMD's commands that start (R31 to R41, Table 2-6): LOAD_FULL, LOAD_PARTIAL, RELOAD_RETAINED, and the fuse commands
ADVANCE_EPOCH and REVOKE_KEY, whose fuse burns only where R31 and R32 allow it and with the right KEY.
Its clauses rest on the model's choices in log entries 70, 85 where those speak of its commands. -/
def Obligations.ImageCommands : Prop := ∀ (s : State), s.runs → s.dev.img.op = none →
  (s.dev.sup.mode = .config → s.dev.img.running = [] → s.dev.img.state ≠ .fault → 552 ≤ (s.dev.rd R.IMG_LEN).toNat →
    (s.dev.rd R.IMG_LEN).toNat ≤ 268435456 → s.dev.rd64 R.IMG_SRC_LO % 64 = 0 → ∃ d : Dev, answers (.loadFull false) s d ∧
      d.img.state = .fetch ∧ d.get R.IMG_STATUS_STATE = ImgState.fetch.code ∧ d.img.op.map (·.cmd) = some .loadFull ∧
      Dev.Frame false [.img] [R.IMG_STATUS_STATE.reg] s.dev d) ∧
  (s.dev.sup.mode.traffic = true → 552 ≤ (s.dev.rd R.IMG_LEN).toNat → (s.dev.rd R.IMG_LEN).toNat ≤ 268435456 →
    s.dev.rd64 R.IMG_SRC_LO % 64 = 0 → ∀ force, ∃ d : Dev, answers (.loadPartial false force) s d ∧ d.img.state = .fetch ∧
      d.img.op.map (·.force) = some force ∧ d.img.op.map (·.cmd) = some .loadPartial ∧
      Dev.Frame false [.img] [R.IMG_STATUS_STATE.reg] s.dev d) ∧
  (s.dev.sup.mode = .config → s.dev.img.running = [] → s.dev.img.state ≠ .fault → s.dev.img.storeValid = true →
    ∃ d : Dev, answers .reloadRetained s d ∧ d.img.state = .load ∧ d.img.op.map (·.sections) = some (s.dev.img.store.map (·.1)) ∧
      d.get R.IMG_STATUS_PITCHES = 0xFFFF ∧ Dev.Frame false [.img] [R.IMG_STATUS_STATE.reg] s.dev d) ∧
  (s.dev.sup.mode.traffic = false → ∃ d : Dev, answers (.loadPartial true true) s d ∧ d.get R.IMG_STATUS_RESULT = 1 ∧
    d.is R.IMG_IRQ_FAIL = true ∧ d.img = s.dev.img ∧ Dev.Frame true [] [R.IMG_STATUS_STATE.reg, R.IMG_IRQ] s.dev d) ∧
  (s.dev.sup.mode ≠ .test → s.fuses.epoch < s.dev.get R.IMG_RUN_EPOCH_EPOCH → s.fuses.advances < 64 → ∃ d : Dev,
    exec (.advanceEpoch 0x4550) s = .next { s with dev := d, fuses := { s.fuses with
      epoch := s.dev.get R.IMG_RUN_EPOCH_EPOCH, advances := s.fuses.advances + 1 } } ∧ d.get R.IMG_STATUS_RESULT = 0 ∧
    d.is R.IMG_IRQ_DONE = true ∧ Dev.Frame true [] [R.IMG_STATUS_STATE.reg, R.IMG_IRQ] s.dev d) ∧
  (∀ slot : Fin 4, s.dev.sup.mode ≠ .test → ∃ d : Dev, exec (.revokeKey slot 0x4550) s = .next { s with
    dev := d, fuses := if s.mayRevoke slot then { s.fuses with revoked := setBit s.fuses.revoked slot } else s.fuses } ∧
    d.get R.IMG_STATUS_RESULT = (if s.mayRevoke slot then 0 else 0x11) ∧
    d.is (if s.mayRevoke slot then R.IMG_IRQ_DONE else R.IMG_IRQ_FAIL) = true ∧
    Dev.Frame true [] [R.IMG_STATUS_STATE.reg, R.IMG_IRQ] s.dev d) ∧
  (∀ (slot : Fin 4) (k : BitVec 16), k ≠ 0x4550 → answers (.revokeKey slot k) s s.dev ∧ answers (.advanceEpoch k) s s.dev)

/-- The phases of an image operation (R33 to R45, Tables 2-5, 2-7): IMAGE_FETCH_DONE, PITCH_LOAD_DONE, ABANDON, DRAIN_DONE,
DRAIN_LIMIT_EXPIRY. What follows an operation follows at once (Dev.imgAfter, evalHeld, settle).
Its clauses rest on the model's choices in log entries 68, 69, 72 to 74, 83, 84 where those speak of its commands. -/
def Obligations.ImagePhases : Prop := ∀ (s : State) (o : ImgOp), s.runs → s.dev.img.op = some o →
  (∀ e, e = .pcieError ∨ e = .uncorrectable → s.dev.img.state = .fetch → ∃ u d : Dev,
    answers (.imageFetchDone e) s d.evalHeld.settle ∧ Dev.ImgEnds 4 [] s.dev u d) ∧
  (∀ (b : List Byte) (r : ImgRes) (d : Dev), s.dev.img.state = .fetch →
    d = { s.dev with img := { s.dev.img with staging := swrite 0 (padTo o.len b) s.dev.img.staging } } →
    d.imgChecks s.fuses o (sbytes d.img.staging 0 o.len) = some r → ∃ u t : Dev, answers (.imageFetchDone (.data b)) s t.evalHeld.settle ∧
      Dev.ImgEnds r.code [] d u t) ∧
  (∀ (b : List Byte) (d : Dev), s.dev.img.state = .fetch → o.cmd = .loadFull →
    d = { s.dev with img := { s.dev.img with staging := swrite 0 (padTo o.len b) s.dev.img.staging } } →
    ∃ t : Dev, answers (.imageFetchDone (.data b)) s t ∧ match d.imgChecks s.fuses o (sbytes d.img.staging 0 o.len) with
      | some r => t = d.imgFail (o.read (sbytes d.img.staging 0 o.len)) r
      | none => t.img.state = .load ∧ t.img.op = some (o.read (sbytes d.img.staging 0 o.len)) ∧ t.img.staging = d.img.staging ∧
        Dev.Frame false [.img] [R.IMG_STATUS_STATE.reg] s.dev t) ∧
  (s.dev.img.state = .load → o.cmd = .loadFull → ∃ d : Dev, answers (.pitchLoadDone none) s (d.trigger .imageActive).settle.imgAfter ∧
    d.rd R.IMG_ACTIVE_SERIAL = BitVec.ofNat 32 o.serial ∧ d.get R.IMG_RUN_EPOCH_EPOCH = o.epoch % 2 ^ 16 ∧
    d.get R.IMG_STATUS_RESULT = 0 ∧ d.is R.IMG_IRQ_DONE = true ∧ d.img.storeSerial = o.serial ∧ d.img.storeEpoch = o.epoch ∧
    Dev.Frame true [.img] [R.IMG_ACTIVE_SERIAL, R.IMG_RUN_EPOCH_EPOCH.reg, R.IMG_KEYS_SIGNER.reg, R.IMG_STATUS_STATE.reg, R.IMG_IRQ]
      (s.dev.imgApply o 0xFFFF) d) ∧
  (∀ p : Fin 16, s.dev.img.state = .load → o.cmd = .loadFull → bit o.pitches p = true → ∃ d : Dev,
    answers (.pitchLoadDone (some p)) s d.imgAfter ∧ d.img.state = .fault ∧ d.img.op = none ∧ bit d.img.fault p = true ∧
    d.is R.IMG_IRQ_FAULT = true ∧ d.get R.IMG_STATUS_RESULT = 0x10 ∧ Dev.Frame true [.img] [R.IMG_STATUS_STATE.reg, R.IMG_IRQ] s.dev d) ∧
  (s.dev.img.state = .load → o.cmd = .loadPartial → ∃ d : Dev, answers (.pitchLoadDone none) s d.imgAfter ∧ d.get R.IMG_STATUS_RESULT = 0 ∧
    d.is R.IMG_IRQ_DONE = true ∧ d.get R.IMG_STATUS_PITCHES = o.pitches % 2 ^ 16 ∧
    (d.rd R.IMG_LAST_DURATION).toNat = sat 32 ((s.dev.ticks - o.drainStart) / usTicks) ∧
    Dev.Frame true [] [R.IMG_LAST_DURATION, R.IMG_STATUS_STATE.reg, R.IMG_IRQ] (s.dev.imgApply o o.pitches) d) ∧
  (s.dev.img.state = .fetch → ∃ u d : Dev, answers .abandon s d.evalHeld.settle ∧ Dev.ImgEnds 0x12 [] s.dev u d) ∧
  (s.dev.img.state = .drain → ∃ u d : Dev, answers .abandon s d.evalHeld.settle ∧ Dev.ImgEnds 0x0E [] s.dev u d) ∧
  (s.dev.img.state ≠ .fetch → s.dev.img.state ≠ .drain → answers .abandon s s.dev) ∧
  (s.dev.img.state = .drain → s.dev.drainedAll o.pitches = true → ∃ d : Dev, answers .drainDone s d ∧ d.img = { s.dev.img with state := .load } ∧
    d.get R.IMG_STATUS_STATE = ImgState.load.code ∧ Dev.Frame false [.img] [R.IMG_STATUS_STATE.reg] s.dev d) ∧
  (s.dev.img.state = .drain → s.dev.get R.IMG_DRAIN_LIMIT_LIMIT ≠ 0 → s.dev.drainedAll o.pitches = false → o.force = false →
    ∃ u d : Dev, answers .drainLimitExpiry s d.evalHeld.settle ∧ Dev.ImgEnds 0x0E [.ticks, .tmb] s.dev u d ∧
      u.ticks = max s.dev.ticks (o.drainStart + s.dev.get R.IMG_DRAIN_LIMIT_LIMIT * usTicks)) ∧
  (s.dev.img.state = .drain → s.dev.get R.IMG_DRAIN_LIMIT_LIMIT ≠ 0 → s.dev.drainedAll o.pitches = true → ∃ d : Dev,
    answers .drainLimitExpiry s d ∧ d.img.state = .load ∧ d.get R.IMG_STATUS_STATE = ImgState.load.code ∧
    d.ticks = max s.dev.ticks (o.drainStart + s.dev.get R.IMG_DRAIN_LIMIT_LIMIT * usTicks) ∧
    Dev.Frame false [.img, .ticks, .tmb] [R.IMG_STATUS_STATE.reg] s.dev d)

/-- Power domains (R470 to R485, Table 22-3): DOMAIN_STOP, DOMAIN_RETAIN, DOMAIN_READY, ACCESS_HOLD_EXPIRY, VOTE_HOST_WRITE. Domains then
follow their votes and holds (Dev.revote).
Its clauses rest on the model's choices in log entries 88, 90, 91 where those speak of its commands. -/
def Obligations.PowerDomains : Prop := ∀ (s : State) (x : Fin 43), s.runs → s.dev.pwr.doms.length = 43 →
  (34 ≤ x.val → s.dev.pwr.coord ≠ .entering → s.dev.dom x = .draining → s.dev.blockReason x = 0 → ∃ d : Dev, answers (.domainStop x) s (d.lanesSleep x) ∧
    d.dom x = .stopping ∧ (∀ y, y ≠ x.val → d.dom y = s.dev.dom y) ∧ Dev.Frame false [.pwr] [] s.dev d) ∧
  (∀ p : Port, x.val = domLfe p → s.dev.pwr.coord ≠ .entering → s.dev.dom x = .draining → s.dev.blockReason x = 0 → ∃ d : Dev,
    answers (.domainStop x) s d ∧ d.dom x = .stopping ∧ d.is (R.LFE_x_STATUS_LOL p.ix) = true ∧ d.is (R.LFE_x_STATUS_READY p.ix) = false ∧
    d.is (R.LFE_x_STATUS_CAL_BUSY p.ix) = false ∧ Dev.Frame false [.pwr, .lfe] [(R.LFE_x_STATUS_LOL p.ix).reg] s.dev d) ∧
  (x.val < 32 → s.dev.pwr.coord ≠ .entering → s.dev.dom x = .draining → s.dev.blockReason x = 0 → ∃ d : Dev,
    answers (.domainStop x) s d ∧ d.dom x = .stopping ∧ (d.cluster x).pcache.all (fun q => !q.2) = true ∧
    Dev.Frame false [.pwr, .clusters] [(R.ENG_c_PCACHE_WRITEBACKS x).reg] s.dev d) ∧
  (s.dev.dom x = .draining → s.dev.blockReason x ≠ 0 → bit s.dev.pwr.refusedOnce x = false → ∃ d : Dev, answers (.domainStop x) s d ∧
    d.dom x = .draining ∧ (d.rd R.PWR_DOM_REFUSE).toNat = min ((s.dev.rd R.PWR_DOM_REFUSE).toNat + 1) (2 ^ 32 - 1) ∧
    bit d.pwr.refusedOnce x = true ∧ Dev.Frame false [.pwr] [R.PWR_DOM_REFUSE] s.dev d) ∧
  (s.dev.dom x = .stopping → s.dev.pwr.coord ≠ .bivouac → ∃ d : Dev, answers (.domainRetain x) s d.revote ∧ d.dom x = .retain ∧
    (∀ y, y ≠ x.val → d.dom y = s.dev.dom y) ∧ Dev.Frame false (if x.val = domTrb then [.pwr, .dma] else [.pwr]) [] s.dev d) ∧
  (x.val < 32 → s.dev.dom x = .stopping → s.dev.pwr.coord = .bivouac → ∃ d : Dev, answers (.domainRetain x) s d.revote ∧ d.dom x = .off ∧
    (d.cluster x).iram = [] ∧ (d.cluster x).shared = [] ∧ (d.cluster x).pcache = [] ∧ bit d.pwr.blank x = true) ∧
  (s.dev.dom x = .waking → (needsDram x = true → s.dev.isUp domDram = true) → s.dev.hif.waiting = [] → bit s.dev.pwr.blank x = false → ∃ d : Dev,
    answers (.domainReady x) s d.revote ∧ d.dom x = .up ∧ (d.rd R.PWR_WAKES).toNat = min ((s.dev.rd R.PWR_WAKES).toNat + 1) (2 ^ 32 - 1) ∧
    d.get R.PWR_LAST_WAKE_DOMAIN = x ∧ Dev.Frame false [.pwr] [R.PWR_WAKES, R.PWR_LAST_WAKE_DOMAIN.reg] s.dev d) ∧
  (x.val < 32 → s.dev.dom x = .waking → s.dev.isUp domDram = true → s.dev.hif.waiting = [] → bit s.dev.pwr.blank x = true →
    s.dev.storeOk (x.val / 4 + 1) = true → ∃ d : Dev, answers (.domainReady x) s d.revote ∧ d.dom x = .up ∧ bit d.pwr.blank x = false ∧
    (d.cluster x).iram = stable 0 ((s.dev.stored (x.val / 4 + 1) secCode (x.val % 4)).take 131072) ∧
    (d.cluster x).shared = stable 0x10000 ((s.dev.stored (x.val / 4 + 1) secData (x.val % 4)).take 262144) ∧
    Dev.Frame false [.pwr, .clusters] [R.PWR_WAKES, R.PWR_LAST_WAKE_DOMAIN.reg] s.dev d) ∧
  (∀ h, s.dev.firstHold x = some h → ∃ d : Dev, answers (.accessHoldExpiry x) s d.revote ∧ d.pwr.holds = s.dev.pwr.holds.filter (· != h) ∧
    d.ticks = max s.dev.ticks h.until_ ∧ Dev.Frame false [.pwr, .ticks, .tmb] [] s.dev d) ∧
  (∀ lo : Word, ∃ d : Dev, answers (.voteHostWrite lo) s d.revote ∧ d.rd R.PWR_VOTE_HOST_LO = lo ∧
    d.rd R.PWR_VOTE_HOST_HI = s.dev.highFor R.PWR_VOTE_HOST_HI &&& 0x7FF ∧
    Dev.Frame false [.heldHigh] [R.PWR_VOTE_HOST_LO, R.PWR_VOTE_HOST_HI] s.dev d)

/-- BIVOUAC and ALL_ON end (R480 to R484, Table 22-5): ENTRY_COMMIT, ENTRY_LIMIT_EXPIRY, EXIT_DONE, ALL_ON_DONE. The mode controller goes
on at once (endTransit, refuseTransit).
Its clauses rest on the model's choices in log entries 65, 66, 90, 185, 209 where those speak of its commands. -/
def Obligations.PowerTransitions : Prop := ∀ (s : State) (t : Transit), s.runs → s.dev.sup.transit = some t →
  (s.dev.pwr.coord = .entering → s.dev.allRetain = true → s.dev.tasksBlock = false → ∃ d : Dev, answers .entryCommit s d.endTransit ∧
    d.pwr.coord = .bivouac ∧ d.sup.transit = some t ∧ d.get R.MOD_PACE_STATUS_SETTING = 680 ∧ d.sup.regAtBivouac = s.dev.registered ∧
    d.sup.mode = s.dev.sup.mode ∧ (∀ y, y ∈ stopOrder → d.dom y = .off) ∧ d.mem.logged = []) ∧
  (s.dev.pwr.coord = .entering → s.dev.allRetain = false ∨ s.dev.tasksBlock = true → answers .entryCommit s s.dev) ∧
  (∀ x why, s.dev.pwr.coord = .entering → s.dev.get R.PWR_ENTRY_LIMIT_MS ≠ 0 →
    (s.dev.until_ (s.dev.pwr.reqStart + s.dev.get R.PWR_ENTRY_LIMIT_MS * msTicks)).refuser = some (x, why) → ∃ d : Dev,
    answers .entryLimitExpiry s d.refuseTransit ∧ d.pwr.coord = .run ∧ d.pwr.closed = false ∧ d.sup = s.dev.sup ∧
    d.rd R.PWR_REQ_RESULT = BitVec.ofNat 32 (CoordReq.enter.code + 16 * 4 + 2 ^ 8 * x + 2 ^ 16 * why) ∧
    d.ticks = max s.dev.ticks (s.dev.pwr.reqStart + s.dev.get R.PWR_ENTRY_LIMIT_MS * msTicks) ∧
    Dev.Frame true [.pwr, .ticks, .tmb] [R.PWR_REQ_RESULT, R.PWR_IRQ] s.dev d) ∧
  (s.dev.pwr.coord = .exiting → s.dev.isUp domDram = true → s.dev.isUp domUsr = true → s.dev.isUp domThk = true → s.dev.sourceUp = true →
    ∃ d : Dev, answers .exitDone s d.latePassed.endTransit.revote.resetDue ∧ d.pwr.coord = .run ∧ d.pwr.held = none ∧ d.sup = s.dev.sup ∧
      d.get R.MOD_PACE_STATUS_SETTING = 750 ∧ (∀ y, d.dom y ≠ .off) ∧ (∀ c, c < 32 → bit d.pwr.blank c = false) ∧
      (s.dev.pwr.blank = 0 → Dev.Frame true [.pwr] [R.PWR_REQ_RESULT, R.PWR_IRQ, R.MOD_PACE_STATUS_SETTING.reg] s.dev d)) ∧
  (t.row = 3 → s.dev.pwr.allOn = true → s.dev.allUp = true → ∃ d : Dev, answers .allOnDone s d.endTransit.resetDue ∧
    d.pwr.allOn = false ∧ d.sup = s.dev.sup ∧ Dev.Frame false [.pwr] [R.PWR_REQ_RESULT] s.dev d)

/-- Activation's timers and host bits (R154, R166, Table 7-5): RANGE_TIMEOUT, RESUME_WAIT_EXPIRY, ACT_RESTART drop the record (d holds
the record dropped; the event, the mode trigger and what follows come after it), SN_EN_WRITE sets its bit.
Its clauses rest on the model's choices in log entries 93, 118, 196 where those speak of its commands. -/
def Obligations.ActivationTimers : Prop := ∀ (s : State), s.runs →
  (s.dev.act.st = .ranging → s.dev.get R.ACT_TIMERS_RANGE_TIMEOUT ≠ 0 → ∃ d : Dev,
    answers .rangeTimeout s (d.raiseDeregistered 2).settle ∧ d.act.st = .listen ∧ d.get R.ACT_STATUS_TID = 0x3FF ∧ d.grantIds = [] ∧
    d.get R.ACT_EQD_EQD = s.dev.get R.ACT_PRE_EQD_PRE_EQD ∧
    d.ticks = max s.dev.ticks (s.dev.act.since + s.dev.get R.ACT_TIMERS_RANGE_TIMEOUT * msTicks) ∧
    Dev.Frame true [.act, .twn, .bel, .ticks, .tmb] (recordRegs ++ mirrorRegs ++ [R.ACT_ACT_COUNTS_RANGE_TIMEOUTS.reg]) s.dev d) ∧
  (s.dev.act.st = .resuming → s.dev.get R.ACT_TIMERS_RESUME_WAIT ≠ 0 → ∃ d : Dev,
    answers .resumeWaitExpiry s d.raiseReacquired.settle ∧ d.act.st = .listen ∧ d.get R.ACT_STATUS_TID = 0x3FF ∧ d.grantIds = [] ∧
    d.ticks = max s.dev.ticks (s.dev.act.since + s.dev.get R.ACT_TIMERS_RESUME_WAIT * msTicks) ∧
    Dev.Frame true [.act, .twn, .bel, .ticks, .tmb] (recordRegs ++ mirrorRegs) s.dev d) ∧
  (s.dev.act.st = .registered → ∃ d : Dev, answers .actRestart s (d.raiseDeregistered 3).settle ∧ d.act.st = .listen ∧
    d.get R.ACT_STATUS_TID = 0x3FF ∧ d.grantIds = [] ∧ d.act.pend = false ∧
    Dev.Frame true [.act, .twn, .bel] (recordRegs ++ mirrorRegs) s.dev d) ∧
  (∀ v, s.dev.act.st ≠ .serial → ∃ d : Dev, answers (.snEnWrite v) s d ∧ d.is R.ACT_CTL_SN_EN = v ∧
    Dev.Frame false [] [R.ACT_CTL_SN_EN.reg] s.dev d) ∧
  (s.dev.act.st = .serial → ∃ d : Dev, answers (.snEnWrite false) s d ∧ d.is R.ACT_CTL_SN_EN = false ∧ d.act.st = .listen ∧ d.grantIds = [] ∧
    Dev.Frame true [.act, .twn, .bel] (recordRegs ++ mirrorRegs ++ [R.ACT_CTL_SN_EN.reg]) s.dev d)

/-- LMMs (R153, R162, R163): GRANT_ID_SET is applied whole or not at all, and keeps at most 32 identifiers without repeats; a
RANGING_TIME that is accepted becomes the pending EQD, one that is refused is counted and changes nothing else.
Its clauses rest on the model's choices in log entry 112 where those speak of its commands. -/
def Obligations.LmmWholeOrNot : Prop := ∀ (d : Dev) (c : List Byte) (k : Nat),
  ((d.lmmGrantIdSet c).2 ≠ lmmOk → (d.lmmGrantIdSet c).1 = d) ∧
  (d.grantIds.length ≤ 32 → (d.lmmGrantIdSet c).1.grantIds.length ≤ 32) ∧
  (beAt c 0 1 = 2 → (d.lmmGrantIdSet c).2 = lmmOk → (d.lmmGrantIdSet c).1.grantIds =
    dedup ((List.range (beAt c 1 1)).map fun i => beAt c (2 + 2 * i) 2)) ∧
  ((d.lmmRangingTime c k).2 ≠ lmmOk → (d.lmmRangingTime c k).1 = d.count R.ACT_EQD_COUNTS_REFUSED 1) ∧
  (d.act.st = .ranging → beAt c 0 1 = 0 → beAt c 1 4 < 2 ^ 25 → (d.lmmRangingTime c k).2 = lmmOk ∧ (d.lmmRangingTime c k).1.act.pend = true ∧
    (d.lmmRangingTime c k).1.get R.ACT_EQD_PEND_EQD = beAt c 1 4)

/-- Frame alignment of a line port (R137, R146, Table 6-6): PSYNC_HUNT_MATCH, PSYNC_CANDIDATE_MISS, DEFECT_WINDOW_END, DS_CFG_WRITE.
Its clauses rest on the model's choices in log entries 103, 195 where those speak of its commands. -/
def Obligations.LineAlignment : Prop := ∀ (s : State) (p : Port) (pos : Nat), s.runs →
  (∀ h, s.dev.framerRuns p = true → s.dev.inSync p = false → pos % 2 = 0 → pos < frameBits →
    (s.dev.lfrP p).cands.find? (·.1 == pos) = some (pos, h) → 2 ≤ h → ∃ d : Dev, answers (.psyncHuntMatch p pos) s d.settle ∧
      d.get (R.LFR_x_STATUS_FA p.ix) = 2 ∧ d.get (R.LFR_x_STATUS_CANDS p.ix) = 0 ∧ (d.lfrP p).cands = [] ∧ (d.lfrP p).pos = pos ∧
      Dev.Frame true [.lfr] [(R.LFR_x_STATUS_FA p.ix).reg, R.LFR_IRQ_PORT_A.reg] s.dev d) ∧
  (s.dev.framerRuns p = true → s.dev.inSync p = false → pos % 2 = 0 → pos < frameBits →
    (s.dev.lfrP p).cands.find? (·.1 == pos) = none → (s.dev.lfrP p).cands.length < 4 → ∃ d : Dev, answers (.psyncHuntMatch p pos) s d ∧
      d.get (R.LFR_x_STATUS_FA p.ix) = 1 ∧ d.get (R.LFR_x_STATUS_CANDS p.ix) = (s.dev.lfrP p).cands.length + 1 ∧
      (d.lfrP p).cands = (s.dev.lfrP p).cands ++ [(pos, 1)] ∧ Dev.Frame false [.lfr] [(R.LFR_x_STATUS_FA p.ix).reg] s.dev d) ∧
  (s.dev.get (R.LFR_x_STATUS_FA p.ix) = 1 → (∃ n, (s.dev.lfrP p).cands = [(pos, n)]) → ∃ d : Dev, answers (.psyncCandidateMiss p pos) s d ∧
      d.get (R.LFR_x_STATUS_FA p.ix) = 0 ∧ d.get (R.LFR_x_STATUS_CANDS p.ix) = 0 ∧ (d.lfrP p).cands = [] ∧
      Dev.Frame false [.lfr] [(R.LFR_x_STATUS_FA p.ix).reg] s.dev d) ∧
  (8000 ≤ (s.dev.lfrP p).winFrames → (s.dev.lfrP p).winCorr < 2 ^ 32 → s.dev.get R.LFR_DS_CFG_BER_M ≠ 0 →
    s.dev.dsThreshold < (s.dev.lfrP p).winCorr → ∃ d : Dev, answers (.defectWindowEnd p) s d ∧ d.is (R.LFR_x_STATUS_DS p.ix) = true ∧
      (d.rd (R.LFR_x_WIN_CORR p.ix)).toNat = (s.dev.lfrP p).winCorr ∧ (d.lfrP p).winFrames = 0 ∧ (d.lfrP p).winCorr = 0 ∧
      Dev.Frame true [.lfr] [(R.LFR_x_STATUS_FA p.ix).reg, R.LFR_x_WIN_CORR p.ix, (R.LFR_x_WIN_UNC_CODEWORDS p.ix).reg, R.LFR_IRQ_PORT_A.reg] s.dev d) ∧
  (∀ v : Word, ∃ d : Dev, answers (.dsCfgWrite v) s d ∧ d.rd R.LFR_DS_CFG = v &&& 0xFFFFFF ∧
      (d.get R.LFR_DS_CFG_BER_M = 0 → d.is (R.LFR_x_STATUS_DS p.ix) = false) ∧
      Dev.Frame true [.lfr] [R.LFR_DS_CFG, (R.LFR_x_STATUS_DS 0).reg, (R.LFR_x_STATUS_DS 1).reg, R.LFR_IRQ_PORT_A.reg] s.dev d)

/-- Downstream frames and upstream frame starts (R137, R151, R153): DOWNSTREAM_FRAME with a PSync within the tolerance is processed
(Dev.frameIn) and clears MISSES; the first to third miss are counted and processed; the fourth loses alignment. UPSTREAM_FRAME_START begins
the oldest evaluated upstream frame with the EQD in force.
Its clauses rest on the model's choices in log entries 104, 106, 108, 187 where those speak of its commands. -/
def Obligations.LineFrames : Prop := ∀ (s : State) (p : Port) (f : DsFrame), s.runs →
  (s.dev.framerRuns p = true → s.dev.inSync p = true →
    hamming (toBits 128 f.psync.toNat) (toBits 128 psyncPattern.toNat) ≤ s.dev.get R.LFR_CFG_PSYNC_TOL →
    ∃ d : Dev, answers (.downstreamFrame p f) s (d.frameIn p f true) ∧ d.get (R.LFR_x_STATUS_MISSES p.ix) = 0 ∧
      Dev.Frame false [] [(R.LFR_x_STATUS_MISSES p.ix).reg] s.dev d) ∧
  (∀ (h : DsHeader) (b : List Byte) (pl : Payload), s.dev.framerRuns p = true → s.dev.inSync p = true →
    hamming (toBits 128 f.psync.toNat) (toBits 128 psyncPattern.toNat) ≤ s.dev.get R.LFR_CFG_PSYNC_TOL → s.dev.activePort ≠ some p →
    pl = f.decode (s.dev.get R.LFR_CFG_MAX_ITER) → rsDecode (descramble (padTo 64 f.header)) = some (b, 0) → h = DsHeader.of b → h.valid = true →
    s.dev.mfSync p = true → mfasIndex h.mfas = some ((s.dev.get (R.LFR_x_STATUS_MF_INDEX p.ix) + 1) % 16) → (s.dev.lfrP p).winFrames < 8000 →
    ∃ d : Dev, answers (.downstreamFrame p f) s (Dev.delineate p pl 175400 d (8 * h.grants + 48 * h.lmms + 32 * h.tdm)).settle ∧
      d.get (R.LFR_x_STATUS_MISSES p.ix) = 0 ∧
      (d.rd (R.LFR_x_UNC_TOTAL p.ix)).toNat = min ((s.dev.rd (R.LFR_x_UNC_TOTAL p.ix)).toNat + pl.unc.length) (2 ^ 32 - 1) ∧
      (d.lfrP p).winFrames = (s.dev.lfrP p).winFrames + 1 ∧ (d.lfrP p).winCorr = (s.dev.lfrP p).winCorr + pl.corrected ∧
      (d.lfrP p).winUnc = (s.dev.lfrP p).winUnc + pl.unc.length ∧ (d.lfrP p).tree = h.tree ∧ d.rd64 (R.LFR_x_SF_LO p.ix) = h.sf ∧
      d.get (R.LFR_x_STATUS_MF_INDEX p.ix) = (s.dev.get (R.LFR_x_STATUS_MF_INDEX p.ix) + 1) % 16 ∧ d.mfSync p = true ∧
      Dev.Frame false [.lfr, .free] [(R.LFR_x_STATUS_MISSES p.ix).reg, R.LFR_x_UNC_TOTAL p.ix, R.LFR_x_SF_LO p.ix, R.LFR_x_SF_LO p.ix + 4,
        (R.LFR_x_MF_COUNTS_SF_JUMP p.ix).reg, (R.LFE_x_EQ_TIA_GAIN p.ix).reg] s.dev d) ∧
  (s.dev.framerRuns p = true → s.dev.inSync p = true →
    s.dev.get R.LFR_CFG_PSYNC_TOL < hamming (toBits 128 f.psync.toNat) (toBits 128 psyncPattern.toNat) →
    s.dev.get (R.LFR_x_STATUS_MISSES p.ix) < 3 → ∃ d : Dev, answers (.downstreamFrame p f) s (d.frameIn p f false) ∧
      d.get (R.LFR_x_STATUS_MISSES p.ix) = s.dev.get (R.LFR_x_STATUS_MISSES p.ix) + 1 ∧
      Dev.Frame false [] [(R.LFR_x_STATUS_MISSES p.ix).reg, (R.LFR_x_ALIGN_COUNTS_PSYNC_MISS p.ix).reg] s.dev d) ∧
  (s.dev.framerRuns p = true → s.dev.inSync p = true →
    s.dev.get R.LFR_CFG_PSYNC_TOL < hamming (toBits 128 f.psync.toNat) (toBits 128 psyncPattern.toNat) →
    s.dev.get (R.LFR_x_STATUS_MISSES p.ix) = 3 → s.dev.activePort ≠ some p → ∃ d : Dev, answers (.downstreamFrame p f) s d ∧
      d.get (R.LFR_x_STATUS_FA p.ix) = 0 ∧ d.is (R.LFR_x_STATUS_MF_SYNC p.ix) = false ∧ d.is (R.LFR_x_STATUS_DS p.ix) = false ∧
      d.get (R.LFR_x_ALIGN_COUNTS_SYNC_LOSS p.ix) = min (s.dev.get (R.LFR_x_ALIGN_COUNTS_SYNC_LOSS p.ix) + 1) (2 ^ (R.LFR_x_ALIGN_COUNTS_SYNC_LOSS p.ix).w - 1) ∧
      Dev.Frame true [.lfr] [(R.LFR_x_STATUS_FA p.ix).reg, (R.LFR_x_ALIGN_COUNTS_SYNC_LOSS p.ix).reg,
        (R.LFR_x_ENCAP_COUNTS_FRAG_LOST p.ix).reg, R.LFR_IRQ_PORT_A.reg] s.dev d) ∧
  (∀ u rest, s.dev.lfr.up = u :: rest → u.started = false → s.dev.act.pend = false → ∃ (d : Dev) (v : UpFrame),
    answers .upstreamFrameStart s d.settle ∧ d.lfr.up = v :: rest ∧ v.k = u.k ∧ v.started = true ∧ v.eqd = s.dev.get R.ACT_EQD_EQD ∧
    v.grants = u.grants ∧ v.tdm.length = 16 ∧ d.ticks = max s.dev.ticks (u.ds + (upBits + s.dev.get R.ACT_EQD_EQD) / 64) ∧
    Dev.Frame false [.lfr, .trb, .ticks, .tmb] (R.TRB_US_COUNTS_MISSED.reg :: (List.range 16).map fun n => (R.TRB_n_SLIPS_RX n).reg) s.dev d)

/-- E1 inputs (R199 to R209, Table 9-1): E1_INPUT_FRAME, E1_LOS_ON, E1_LOS_OFF, E1_DS_WINDOW.
Its clauses rest on the model's choices in log entries 97, 120, 203 where those speak of its commands. -/
def Obligations.TributaryInputs : Prop := ∀ (s : State) (n : Fin 16) (b : BitVec 256) (l : List Bool), s.runs →
  l = (List.range 256).map (fun i => b.getMsbD i) →
  (s.dev.isUp domTrb = false ∨ s.dev.trbLocal n = true →
    answers (.e1InputFrame n b) s s.dev ∧ answers (.e1LosOn n) s s.dev ∧ answers (.e1LosOff n) s s.dev) ∧
  (s.dev.isUp domTrb = true → s.dev.trbLocal n = false → s.dev.sup.mode ≠ .island → s.dev.sup.mode ≠ .test →
    (∀ d, s.dev.decl 13 = some d → bit d.packetTribs n = false) →
    (s.dev.framed n = false → ∃ d : Dev, answers (.e1InputFrame n b) s d ∧ (d.trbP n).store = (storePush (s.dev.trbP n).store (bytesOf l 32)).1 ∧
      (d.trbP n).aligned = false ∧ (d.trbP n).running = true ∧ d.is (trbStatus n 2) = false ∧ d.is (trbStatus n 3) = false ∧
      d.is (trbStatus n 4) = false ∧
      Dev.Frame true [.trb] [(trbStatus n 0).reg, (R.TRB_n_EVENTS_CHANGE n).reg, (R.TRB_n_SLIPS_RX n).reg] s.dev d) ∧
    (s.dev.get (R.TRB_n_CFG_FRAMING n) = 1 → (s.dev.trbP n).aligned = true → (s.dev.trbP n).stream = [] → (s.dev.trbP n).fas = true →
      (fasAt l = true → ∃ d : Dev, answers (.e1InputFrame n b) s d ∧ (d.trbP n).store = (storePush (s.dev.trbP n).store (bytesOf l 32)).1 ∧
        (d.trbP n).aligned = true ∧ (d.trbP n).fas = false ∧ (d.trbP n).badFas = 0 ∧ (d.trbP n).stream = [] ∧
        Dev.Frame true [.trb] [(trbStatus n 0).reg, (R.TRB_n_EVENTS_CHANGE n).reg, (R.TRB_n_SLIPS_RX n).reg] s.dev d) ∧
      (fasAt l = false → (s.dev.trbP n).badFas = 2 → ∃ d : Dev, answers (.e1InputFrame n b) s d ∧ d.is (trbStatus n 2) = true ∧
        d.is (trbStatus n 3) = false ∧ d.is (trbStatus n 4) = false ∧ (d.trbP n).aligned = false ∧ (d.trbP n).store = [] ∧
        Dev.Frame true [.trb] [(trbStatus n 0).reg, (R.TRB_n_EVENTS_CHANGE n).reg] s.dev d))) ∧
  (s.dev.isUp domTrb = true → s.dev.trbLocal n = false → s.dev.is (trbStatus n 0) = false → ∃ d : Dev, answers (.e1LosOn n) s d ∧
    d.is (trbStatus n 0) = true ∧ d.is ((R.TRB_n_EVENTS_CHANGE n).at 0) = true ∧
    Dev.Frame true [] [(trbStatus n 0).reg, (R.TRB_n_EVENTS_CHANGE n).reg] s.dev d) ∧
  (s.dev.isUp domTrb = true → s.dev.trbLocal n = false → s.dev.is (trbStatus n 0) = true → ∃ d : Dev, answers (.e1LosOff n) s d ∧
    d.is (trbStatus n 0) = false ∧ d.is ((R.TRB_n_EVENTS_CHANGE n).at 0) = true ∧
    Dev.Frame true [] [(trbStatus n 0).reg, (R.TRB_n_EVENTS_CHANGE n).reg] s.dev d) ∧
  (1000 ≤ (s.dev.trbP n).winSmf → ∃ d : Dev, answers (.e1DsWindow n) s d ∧ (d.trbP n).winSmf = 0 ∧ (d.trbP n).winErr = 0 ∧
    (s.dev.get R.TRB_DS_CFG_TH < (s.dev.trbP n).winErr → d.is (trbStatus n 5) = true) ∧
    Dev.Frame true [.trb] [(R.TRB_n_WIN_COUNT n).reg, (trbStatus n 0).reg, (R.TRB_n_EVENTS_CHANGE n).reg] s.dev d)

/-- A belay receiver (R181 to R186, Table 8-3): DS_CODE_WRITE, PREAMBLE_DETECT, SYNC_WORD_DETECT, PREAMBLE_TIMEOUT, CANDIDATE_DROP,
BELAY_HEADER, BEACON_LOSS, MERGE_EFFECT.
Its clauses rest on the model's choices in log entries 113 to 116 where those speak of its commands. -/
def Obligations.BelayReceiver : Prop := ∀ (s : State) (p : Port) (phase strength : Nat) (symbols : List Nat) (word : BitVec 32), s.runs →
  (∀ v : Word, v.toNat % 2048 ≤ 1024 → v.toNat % 2048 ≠ s.dev.get (R.BEL_x_DS_CODE_CODE p.ix) → s.dev.belRx p ≠ bStopped →
    ∃ d : Dev, answers (.dsCodeWrite p v) s d ∧ d.get (R.BEL_x_DS_CODE_CODE p.ix) = v.toNat % 2048 ∧ d.belRx p = bSearch ∧
      d.is (R.BEL_x_STATUS_CAND p.ix) = false ∧
      Dev.Frame false [] [(R.BEL_x_DS_CODE_CODE p.ix).reg, (R.BEL_x_STATUS_RX p.ix).reg, (R.BEL_x_STRENGTH_TRACK p.ix).reg] s.dev d) ∧
  (∀ v : Word, 1024 < v.toNat % 2048 → answers (.dsCodeWrite p v) s s.dev) ∧
  (symbols.length = 8 → (∀ x, x ∈ symbols → s.dev.get R.BEL_CFG_ACQ_TH ≤ x) →
    s.dev.belRx p = bSearch → ∃ d : Dev, answers (.preambleDetect p phase (.mk symbols strength)) s d ∧ d.belRx p = bPreamble ∧
    d.get (R.BEL_x_STATUS_PHASE p.ix) = phase % 1024 ∧ d.get (R.BEL_x_STRENGTH_TRACK p.ix) = min strength 255 ∧ (d.belP p).since = s.dev.ticks ∧
    Dev.Frame false [.bel] [(R.BEL_x_STATUS_RX p.ix).reg, (R.BEL_x_STRENGTH_TRACK p.ix).reg] s.dev d) ∧
  (s.dev.belRx p = bStopped → answers (.preambleDetect p phase (.mk symbols strength)) s s.dev) ∧
  (∀ l, (l.length ≠ 8 ∨ ∃ x, x ∈ l ∧ x < s.dev.get R.BEL_CFG_ACQ_TH) → answers (.preambleDetect p phase (.mk l strength)) s s.dev) ∧
  (symbols.length = 8 → (∀ x, x ∈ symbols → s.dev.get R.BEL_CFG_ACQ_TH ≤ x) →
    s.dev.belRx p = bData → s.dev.is (R.BEL_x_STATUS_CAND p.ix) = false →
    2 < (phase % 1024 + 1024 - s.dev.get (R.BEL_x_STATUS_PHASE p.ix)) % 1024 →
    (phase % 1024 + 1024 - s.dev.get (R.BEL_x_STATUS_PHASE p.ix)) % 1024 < 1022 → ∃ d : Dev,
    answers (.preambleDetect p phase (.mk symbols strength)) s d ∧ d.is (R.BEL_x_STATUS_CAND p.ix) = true ∧
    d.get (R.BEL_x_STRENGTH_CAND p.ix) = min strength 255 ∧ (d.belP p).candPhase = phase % 1024 ∧ (d.belP p).candSince = s.dev.ticks ∧
    d.belRx p = bData ∧ Dev.Frame false [.bel] [(R.BEL_x_STATUS_RX p.ix).reg, (R.BEL_x_STRENGTH_TRACK p.ix).reg] s.dev d) ∧
  (∀ w : BitVec 32, s.dev.get R.BEL_CFG_SYNC_TOL < popcount 32 (w.toNat ^^^ 0x5B3ED0A7) → answers (.syncWordDetect p phase (.mk w strength)) s s.dev) ∧
  (popcount 32 (word.toNat ^^^ 0x5B3ED0A7) ≤ s.dev.get R.BEL_CFG_SYNC_TOL → s.dev.belRx p = bPreamble →
    phase % 1024 = s.dev.get (R.BEL_x_STATUS_PHASE p.ix) → ∃ d : Dev, answers (.syncWordDetect p phase (.mk word strength)) s d ∧
    d.belRx p = bData ∧ d.get (R.BEL_x_STRENGTH_TRACK p.ix) = min strength 255 ∧
    Dev.Frame false [] [(R.BEL_x_STATUS_RX p.ix).reg, (R.BEL_x_STRENGTH_TRACK p.ix).reg] s.dev d) ∧
  (s.dev.belRx p = bPreamble → s.dev.is (R.BEL_x_STATUS_CAND p.ix) = false → ∃ d : Dev, answers (.preambleTimeout p) s d ∧ d.belRx p = bSearch ∧
    d.ticks = max s.dev.ticks ((s.dev.belP p).since + 96 * symTicks) ∧
    d.get (R.BEL_x_ACQ_COUNTS_FALSE_ACQ p.ix) = min (s.dev.get (R.BEL_x_ACQ_COUNTS_FALSE_ACQ p.ix) + 1) (2 ^ (R.BEL_x_ACQ_COUNTS_FALSE_ACQ p.ix).w - 1) ∧
    Dev.Frame false [.ticks, .tmb] [(R.BEL_x_STATUS_RX p.ix).reg, (R.BEL_x_STRENGTH_TRACK p.ix).reg, (R.BEL_x_ACQ_COUNTS_FALSE_ACQ p.ix).reg] s.dev d) ∧
  (s.dev.belRx p = bPreamble → s.dev.is (R.BEL_x_STATUS_CAND p.ix) = true → ∃ d : Dev, answers (.preambleTimeout p) s d ∧ d.belRx p = bPreamble ∧
    d.get (R.BEL_x_STATUS_PHASE p.ix) = (s.dev.belP p).candPhase % 1024 ∧ d.is (R.BEL_x_STATUS_CAND p.ix) = false) ∧
  (s.dev.is (R.BEL_x_STATUS_CAND p.ix) = true → ∃ d : Dev, answers (.candidateDrop p) s d ∧ d.is (R.BEL_x_STATUS_CAND p.ix) = false ∧
    d.ticks = max s.dev.ticks ((s.dev.belP p).candSince + 96 * symTicks) ∧ d.belRx p = s.dev.belRx p ∧
    Dev.Frame false [.ticks, .tmb] [(R.BEL_x_STATUS_RX p.ix).reg, (R.BEL_x_STRENGTH_TRACK p.ix).reg] s.dev d) ∧
  (∀ soft : List (Fin 8), s.dev.belRx p = bData → 16 ≤ (viterbiSoFar soft).length → 32 < belLen (belHeader (viterbiSoFar soft)) →
    s.dev.is (R.BEL_x_STATUS_CAND p.ix) = false → ∃ d : Dev, answers (.belayHeader p soft) s d ∧ d.belRx p = bSearch ∧
    d.get (R.BEL_x_RX_COUNTS_BAD_HDR p.ix) = min (s.dev.get (R.BEL_x_RX_COUNTS_BAD_HDR p.ix) + 1) (2 ^ (R.BEL_x_RX_COUNTS_BAD_HDR p.ix).w - 1) ∧
    Dev.Frame false [] [(R.BEL_x_STATUS_RX p.ix).reg, (R.BEL_x_STRENGTH_TRACK p.ix).reg, (R.BEL_x_RX_COUNTS_BAD_HDR p.ix).reg] s.dev d) ∧
  (∀ soft : List (Fin 8), belLen (belHeader (viterbiSoFar soft)) ≤ 32 → answers (.belayHeader p soft) s s.dev) ∧
  (s.dev.get R.BEL_BEACON_LOSS_MS ≠ 0 → s.dev.is (R.BEL_x_STATUS_BEACON_LOST p.ix) = false → s.dev.belRx p ≠ bStopped → ∃ d : Dev,
    answers (.beaconLoss p) s d ∧ d.is (R.BEL_x_STATUS_BEACON_LOST p.ix) = true ∧
    d.ticks = max s.dev.ticks ((s.dev.belP p).beaconAt + s.dev.get R.BEL_BEACON_LOSS_MS * msTicks) ∧
    Dev.Frame true [.ticks, .tmb] [(R.BEL_x_STATUS_RX p.ix).reg, R.BEL_IRQ_PORT_A.reg] s.dev d) ∧
  (∀ t code, (s.dev.belP p).merge = some (t, code) → code ≤ 1024 → code ≠ s.dev.get (R.BEL_x_DS_CODE_CODE p.ix) → ∃ d : Dev,
    answers (.mergeEffect p) s d ∧ (d.belP p).merge = none ∧ d.get (R.BEL_x_DS_CODE_CODE p.ix) = code ∧ d.ticks = max s.dev.ticks t ∧
    Dev.Frame false [.bel, .ticks, .tmb]
      [(R.BEL_x_DS_CODE_CODE p.ix).reg, (R.BEL_x_STATUS_RX p.ix).reg, (R.BEL_x_STRENGTH_TRACK p.ix).reg] s.dev d)

/-- Belay packets (R178 to R180, R191 to R194): BELAY_PACKET_END, BELAY_WINDOW_START, BELAY_TX_END, STATUS_REQ. A packet whose CRC is right
is counted, latches its strength and is processed (Dev.belPacket); any other is counted and dropped.
Its clauses rest on the model's choices in log entries 99, 113, 117 where those speak of its commands. -/
def Obligations.BelayPackets : Prop := ∀ (s : State) (p : Port) (soft : List (Fin 8)) (b : List Byte), s.runs →
  (b = bytesOf (viterbi soft) (((viterbi soft).length - 6) / 8) → belLen (belHeader (viterbi soft)) ≤ 32 →
    s.dev.belRx p = bData → b.length = 4 + belLen (beAt b 0 2) → hec (b.take (b.length - 2)) = beAt b (b.length - 2) 2 →
    s.dev.is (R.BEL_x_STATUS_CAND p.ix) = false → ∃ d : Dev, answers (.belayPacketEnd p soft) s
      (d.belPacket p (beAt b 0 2) (Machine.slice b 2 (belLen (beAt b 0 2))) (s.dev.get (R.BEL_x_STRENGTH_TRACK p.ix))) ∧ d.belRx p = bSearch ∧
      (beAt b 0 2 = 0 → answers (.belayPacketEnd p soft) s d) ∧
      d.get (R.BEL_x_RX_COUNTS_PACKETS p.ix) = min (s.dev.get (R.BEL_x_RX_COUNTS_PACKETS p.ix) + 1) (2 ^ (R.BEL_x_RX_COUNTS_PACKETS p.ix).w - 1) ∧
      d.get (R.BEL_x_STRENGTH_LAST p.ix) = s.dev.get (R.BEL_x_STRENGTH_TRACK p.ix) ∧
      Dev.Frame false [] [(R.BEL_x_RX_COUNTS_PACKETS p.ix).reg, (R.BEL_x_STATUS_RX p.ix).reg, (R.BEL_x_STRENGTH_TRACK p.ix).reg] s.dev d) ∧
  (b = bytesOf (viterbi soft) (((viterbi soft).length - 6) / 8) → belLen (belHeader (viterbi soft)) ≤ 32 →
    s.dev.belRx p = bData → hec (b.take (b.length - 2)) ≠ beAt b (b.length - 2) 2 → s.dev.is (R.BEL_x_STATUS_CAND p.ix) = false → ∃ d : Dev,
    answers (.belayPacketEnd p soft) s d ∧ d.belRx p = bSearch ∧
    d.get (R.BEL_x_RX_COUNTS_CRC_FAIL p.ix) = min (s.dev.get (R.BEL_x_RX_COUNTS_CRC_FAIL p.ix) + 1) (2 ^ (R.BEL_x_RX_COUNTS_CRC_FAIL p.ix).w - 1) ∧
    Dev.Frame false [] [(R.BEL_x_RX_COUNTS_CRC_FAIL p.ix).reg, (R.BEL_x_STATUS_RX p.ix).reg, (R.BEL_x_STRENGTH_TRACK p.ix).reg] s.dev d) ∧
  (∀ (d : Dev) (h : Nat) (c : List Byte) (strength : Nat) (key : List Byte), d.lmmKey = some key → bits h 8 8 ≠ 0 →
    belTypeLen (bits h 8 8) = some c.length →
    Machine.slice (aesCmac key (be 2 h ++ c.take (c.length - 4))) 0 4 ≠ c.drop (c.length - 4) →
    d.belPacket p h c strength = d.count (R.BEL_x_AUTH_COUNTS_MIC_FAIL p.ix) 1) ∧
  (∀ (d : Dev) (h : Nat) (c : List Byte) (strength : Nat) (key : List Byte), d.lmmKey = some key → bits h 8 8 = 1 → c.length = 17 →
    Machine.slice (aesCmac key (be 2 h ++ c.take 13)) 0 4 = c.drop 13 → d.is (R.BEL_x_STATUS_BEACON_LOST p.ix) = false → beAt c 7 2 = 0 →
    ∃ t : Dev, d.belPacket p h c strength = t ∧ t.get (R.BEL_x_BEACON_TREE_ID p.ix) = beAt c 0 2 ∧ t.get (R.BEL_x_BEACON_SEQ p.ix) = beAt c 2 2 ∧
      t.is (R.BEL_x_BEACON_AGE_VALID p.ix) = true ∧ (t.belP p).beaconAt = d.ticks ∧
      Dev.Frame false [.bel] [(R.BEL_x_BEACON_TREE_ID p.ix).reg, (R.BEL_x_BEACON_AGE_VALID p.ix).reg] d t) ∧
  (∀ (d : Dev) (h : Nat) (c : List Byte) (strength : Nat), d.lmmKey = none → bits h 8 8 ≠ 0 → belTypeLen (bits h 8 8) = some c.length →
    d.belPacket p h c strength = d.count (R.BEL_x_AUTH_COUNTS_KEY_ABSENT p.ix) 1) ∧
  (∀ w, s.dev.bel.win = some w → s.dev.bel.tx = none → s.dev.belEligible w = true → s.dev.get R.ACT_TREE_BELAY_CODE ≤ 1024 →
    s.dev.bel.queued = false → s.dev.is R.BEL_CTL_KA_EN = true → 172 ≤ w.len → s.dev.txReady w.port = true → ∃ d : Dev,
    answers .belayWindowStart s d ∧ d.bel.win = none ∧ (d.lfeP w.port).sending = true ∧ d.ticks = max s.dev.ticks w.start ∧
    d.bel.tx = some (w.port, max s.dev.ticks w.start + 172 * symTicks, false) ∧
    Out.belay w.port.ix (s.dev.get R.ACT_TREE_BELAY_CODE) ((s.dev.get (R.LFE_x_TX_POWER_TARGET w.port.ix) : Int) - 200)
      (belaySymbols ([0, 0] ++ be 2 (hec [0, 0]))) ∈ d.out ∧
    Dev.Frame false [.bel, .lfe, .out, .ticks, .tmb] [R.BEL_TX_COUNTS_SENT.reg] s.dev d) ∧
  (∀ w key, s.dev.bel.win = some w → s.dev.bel.tx = none → s.dev.belEligible w = true → s.dev.get R.ACT_TREE_BELAY_CODE ≤ 1024 →
    s.dev.bel.queued = true → s.dev.lmmKey = some key → 492 ≤ w.len → s.dev.txReady w.port = true → ∃ d : Dev,
    answers .belayWindowStart s d ∧ d.bel.win = none ∧ d.bel.queued = false ∧ (d.lfeP w.port).sending = true ∧
    d.bel.tx = some (w.port, max s.dev.ticks w.start + 492 * symTicks, true) ∧
    Dev.Frame false [.bel, .lfe, .out, .ticks, .tmb] [R.BEL_TX_COUNTS_SENT.reg] s.dev d) ∧
  (∀ w, s.dev.bel.win = some w → s.dev.bel.tx = none → 1024 < s.dev.get R.ACT_TREE_BELAY_CODE → ∃ d : Dev,
    answers .belayWindowStart s d ∧ d.bel.win = none ∧ d.bel.tx = none ∧
    d.get R.BEL_TX_COUNTS_CODE_BAD = min (s.dev.get R.BEL_TX_COUNTS_CODE_BAD + 1) (2 ^ R.BEL_TX_COUNTS_CODE_BAD.w - 1) ∧
    Dev.Frame false [.bel, .ticks, .tmb] [R.BEL_TX_COUNTS_CODE_BAD.reg] s.dev d) ∧
  (∀ w, s.dev.bel.win = some w → s.dev.bel.tx ≠ none → ∃ d : Dev, answers .belayWindowStart s d ∧ d.bel.win = none ∧
    d.get R.BEL_TX_COUNTS_WIN_SKIPPED = min (s.dev.get R.BEL_TX_COUNTS_WIN_SKIPPED + 1) (2 ^ R.BEL_TX_COUNTS_WIN_SKIPPED.w - 1) ∧
    Dev.Frame false [.bel, .ticks, .tmb] [R.BEL_TX_COUNTS_WIN_SKIPPED.reg, R.BEL_TX_COUNTS_CODE_BAD.reg] s.dev d) ∧
  (∀ t status, s.dev.bel.tx = some (p, t, status) → ∃ d : Dev, answers .belayTxEnd s d.settle ∧ d.bel.tx = none ∧
    (d.lfeP p).sending = false ∧ d.ticks = max s.dev.ticks t ∧ (status = true → d.is R.BEL_IRQ_STATUS_SENT = true) ∧
    Dev.Frame true [.bel, .lfe, .ticks, .tmb] [R.BEL_IRQ_STATUS_SENT.reg] s.dev d) ∧
  (∃ d : Dev, answers .statusReq s d ∧ d.bel.queued = true ∧ Dev.Frame false [.bel] [R.BEL_TX_COUNTS_REPLACED.reg] s.dev d)

/-- The time of day (R267, R269, R270, R271): INCR_WRITE, TIME_FRAC_READ, STEP_ADD, STEP_SET. A tick adds INCR; an INCR outside its range
and a step outside its range are refused whole.
Its clauses rest on the model's choices in log entries 59, 95 where those speak of its commands. -/
def Obligations.TimeOfDay : Prop := ∀ (s : State) (v : Word), s.runs →
  (∀ n, n = v.toNat + 2 ^ 32 * ((s.dev.highFor R.TMB_INCR_HI).toNat % 4) → 0x133627628 ≤ n → n ≤ 0x134000000 → ∃ d : Dev,
    answers (.incrWrite v) s (d.mirrorTime 0 (be 12 n)) ∧ d.incr = n ∧ Dev.Frame false [.heldHigh] [R.TMB_INCR_LO, R.TMB_INCR_HI] s.dev d) ∧
  (∀ n, n = v.toNat + 2 ^ 32 * ((s.dev.highFor R.TMB_INCR_HI).toNat % 4) → n < 0x133627628 ∨ 0x134000000 < n → ∃ d : Dev,
    answers (.incrWrite v) s d ∧ d.incr = s.dev.incr ∧ d.is R.TMB_IRQ_INCR_REFUSED = true ∧
    Dev.Frame true [.heldHigh] [R.TMB_IRQ_INCR_REFUSED.reg] s.dev d) ∧
  (∃ d : Dev, answers .timeFracRead s d ∧ d.lastRead = BitVec.ofNat 32 (s.dev.tmb.time % 2 ^ 32) ∧ d.tmb.timeLatch = some (s.dev.now.ns, s.dev.now.sec) ∧
    d.tmb.time = s.dev.tmb.time ∧ Dev.Frame false [.lastRead, .out, .tmb] [] s.dev d) ∧
  (∀ dest : Int, dest = (((s.dev.tmb.time + s.dev.incr) % timeWrap : Nat) : Int) +
      (signed 48 s.dev.adjSec * 1000000000 + signed 32 (s.dev.rd R.TMB_ADJ_NS).toNat) * 2 ^ 32 →
    ((signed 32 (s.dev.rd R.TMB_ADJ_NS).toNat).natAbs < 1000000000 → 0 ≤ dest → ∃ u d : Dev,
      answers .stepAdd s (d.mirrorTime 1 (be 8 s.dev.adjSec ++ be 4 (s.dev.rd R.TMB_ADJ_NS).toNat)) ∧ u.ticks = s.dev.ticks + 1 ∧
      u.tmb.time = dest.toNat % timeWrap ∧ (s.dev.get R.TMB_REF_CFG_WIN ≠ 0 → u.tmb.refBad = true) ∧ u.tmb.lineWin = none ∧
      d.is R.TMB_IRQ_STEPPED = true ∧
      Dev.Frame false [.ticks, .tmb] [R.TMB_MEAS_DISCARDS_LINE.reg, R.TMB_LINE_STATUS_LINE_VALID.reg] s.dev u ∧
      Dev.Frame true [] [R.TMB_IRQ_STEPPED.reg] u.gatesFollow d) ∧
    (1000000000 ≤ (signed 32 (s.dev.rd R.TMB_ADJ_NS).toNat).natAbs ∨ dest < 0 → ∃ d : Dev, answers .stepAdd s d ∧ d.tmb = s.dev.tmb ∧
      d.is R.TMB_IRQ_STEP_REFUSED = true ∧ Dev.Frame true [] [R.TMB_IRQ_STEP_REFUSED.reg] s.dev d)) ∧
  ((s.dev.rd R.TMB_ADJ_NS).toNat < 1000000000 → ∃ u d : Dev,
    answers .stepSet s (d.mirrorTime 2 (be 8 s.dev.adjSec ++ be 4 (s.dev.rd R.TMB_ADJ_NS).toNat)) ∧ u.ticks = s.dev.ticks + 1 ∧
    u.tmb.time = (s.dev.adjSec * 1000000000 + (s.dev.rd R.TMB_ADJ_NS).toNat) * 2 ^ 32 ∧ u.tmb.lineWin = none ∧ d.is R.TMB_IRQ_STEPPED = true ∧
    Dev.Frame false [.ticks, .tmb] [R.TMB_MEAS_DISCARDS_LINE.reg, R.TMB_LINE_STATUS_LINE_VALID.reg] s.dev u ∧
    Dev.Frame true [] [R.TMB_IRQ_STEPPED.reg] u.gatesFollow d) ∧
  (1000000000 ≤ (s.dev.rd R.TMB_ADJ_NS).toNat → ∃ d : Dev, answers .stepSet s d ∧ d.tmb = s.dev.tmb ∧ d.is R.TMB_IRQ_STEP_REFUSED = true ∧
    Dev.Frame true [] [R.TMB_IRQ_STEP_REFUSED.reg] s.dev d)

/-- Measurements, PPS and stamps (R272 to R281): LINE_WINDOW_END, LINE_DEV_READ, REF_WINDOW_END, PPS_IN_EDGE, PPS_IN_READ, PPS_OUT_RISE,
PPS_OUT_FALL, TXS_POP.
Its clauses rest on the model's choices in log entries 17, 143, 144 where those speak of its commands. -/
def Obligations.TimeMeasurements : Prop := ∀ (s : State), s.runs →
  (∀ w, s.dev.tmb.lineDue = some w → ∃ d : Dev, answers .lineWindowEnd s d ∧ d.tmb.lineDue = none ∧ d.tmb.tod = w.tod ∧
    d.rd R.TMB_LINE_DEV = BitVec.ofNat 32 (devField ((((w.stop : Int) - w.start) - (w.frames * 125000 * 2 ^ 32 : Nat)) / 2 ^ 24)) ∧
    d.is R.TMB_LINE_STATUS_LINE_VALID = true ∧ d.is R.TMB_LINE_STATUS_TOD_VALID = w.valid ∧ d.is R.TMB_IRQ_LINE_MEAS = true ∧
    Dev.Frame true [.tmb] [R.TMB_LINE_DEV, R.TMB_LINE_STATUS_LINE_VALID.reg, R.TMB_IRQ_LINE_MEAS.reg] s.dev d) ∧
  (∃ d : Dev, answers .lineDevRead s d ∧ d.lastRead = s.dev.rd R.TMB_LINE_DEV ∧ d.rd R.TMB_TOD_NS = BitVec.ofNat 32 s.dev.tmb.tod.ns ∧
    d.rd R.TMB_LOC_NS = BitVec.ofNat 32 s.dev.tmb.loc.ns ∧ Dev.Frame false [.lastRead, .out]
      [R.TMB_TOD_NS, R.TMB_TOD_NS + 4, R.TMB_TOD_NS + 8, R.TMB_LOC_NS, R.TMB_LOC_NS + 4, R.TMB_LOC_NS + 8] s.dev d) ∧
  (∀ e, s.dev.get R.TMB_REF_CFG_WIN ≠ 0 → s.dev.tmb.refBad = false → ∃ d : Dev, answers (.refWindowEnd e false) s d ∧
    d.rd R.TMB_REF_DEV = BitVec.ofNat 32 (devField ((e : Int) - (s.dev.get R.TMB_REF_CFG_WIN * 1000000 * 256 : Nat))) ∧
    d.is R.TMB_STATUS_REF_PRESENT = true ∧ d.is R.TMB_IRQ_REF_MEAS = true ∧
    Dev.Frame true [.tmb] [R.TMB_REF_DEV, R.TMB_STATUS_REF_PRESENT.reg, R.TMB_IRQ_REF_MEAS.reg] s.dev d) ∧
  (∀ e, s.dev.get R.TMB_REF_CFG_WIN ≠ 0 → ∃ d : Dev, answers (.refWindowEnd e true) s d ∧ d.is R.TMB_STATUS_REF_PRESENT = false ∧
    d.tmb.refBad = false ∧ d.get R.TMB_MEAS_DISCARDS_REF = min (s.dev.get R.TMB_MEAS_DISCARDS_REF + 1) (2 ^ R.TMB_MEAS_DISCARDS_REF.w - 1) ∧
    Dev.Frame false [.tmb] [R.TMB_STATUS_REF_PRESENT.reg, R.TMB_MEAS_DISCARDS_REF.reg] s.dev d) ∧
  (s.dev.is R.TMB_PPS_CFG_IN_EN = true → ∃ d : Dev, answers .ppsInEdge s d ∧ d.ticks = s.dev.ticks + 1 ∧ d.is R.TMB_PPS_IN_SEC_HI_NEW = true ∧
    d.is R.TMB_IRQ_PPS_IN = true ∧ Dev.Frame true [.ticks, .tmb]
      [R.TMB_PPS_IN_NS, R.TMB_PPS_IN_SEC_HI_NEW.reg, R.TMB_IRQ_PPS_IN.reg, R.TMB_MEAS_DISCARDS_PPS_OVERRUN.reg] s.dev d) ∧
  (∃ d : Dev, answers .ppsInRead s d ∧ d.lastRead = s.dev.rd R.TMB_PPS_IN_NS ∧ d.is R.TMB_PPS_IN_SEC_HI_NEW = false ∧
    d.rd R.TMB_PPS_IN_SEC_LO = BitVec.ofNat 32 s.dev.tmb.ppsSec ∧
    Dev.Frame false [.lastRead, .out] [R.TMB_PPS_IN_SEC_LO, R.TMB_PPS_IN_SEC_HI_NEW.reg] s.dev d) ∧
  (s.dev.get R.TMB_PPS_CFG_WIDTH ≠ 0 → s.dev.tmb.ppsOut = false → ∃ d : Dev, answers .ppsOutRise s d ∧ d.tmb.ppsOut = true ∧
    (s.dev.standby = false → Out.ppsOut true ∈ d.out) ∧ d.tmb.ppsEnd = d.tmb.run + s.dev.get R.TMB_PPS_CFG_WIDTH * 1000 * 2 ^ 32 ∧
    Dev.Frame false [.ticks, .tmb, .out] [] s.dev d) ∧
  (s.dev.tmb.ppsOut = true → ∃ d : Dev, answers .ppsOutFall s d ∧ d.tmb.ppsOut = false ∧
    (s.dev.standby = false → Out.ppsOut false ∈ d.out) ∧ Dev.Frame false [.ticks, .tmb, .out] [] s.dev d) ∧
  (∀ e rest, s.dev.tmb.txs = e :: rest → e.id < 2 ^ 16 → ∃ d : Dev, answers .txsPop s d ∧ d.tmb.txs = rest ∧ d.get R.TMB_TXS_ID_ID = e.id ∧
    d.is R.TMB_TXS_ID_VALID = true ∧ d.rd R.TMB_TXS_NS = BitVec.ofNat 32 e.at_.ns ∧ d.rd R.TMB_TXS_USER = BitVec.ofNat 32 e.user ∧
    Dev.Frame false [.tmb] [R.TMB_TXS_ID_ID.reg, R.TMB_TXS_NS, R.TMB_TXS_SEC_LO, R.TMB_TXS_SEC_LO + 4, R.TMB_TXS_USER] s.dev d) ∧
  (s.dev.tmb.txs = [] → ∃ d : Dev, answers .txsPop s d ∧ d.is R.TMB_TXS_ID_VALID = false ∧ Dev.Frame false [] [R.TMB_TXS_ID_ID.reg] s.dev d)

/-- Queues, gate lists and buckets (R241 to R255): DEEP_TO_FRONT_COPY, CLASS_FIFO_FILL, GATE_TICK, GCL_COMMIT, GCL_ABORT, GCL_START.
Its clauses rest on the model's choices in log entries 134, 137, 139, 140 where those speak of its commands. -/
def Obligations.GatesAndQueues : Prop := ∀ (s : State) (e : Fin 18), s.runs →
  (∀ q : Fin 8192, (s.dev.queue q).any (fun f => decide (f.cells.deep > 0)) = true →
    2 * cellSum (·.cells.front) (s.dev.framesOf q) < s.dev.get R.SCH_SPILL_CFG_HEAD → (∀ f, f ∈ s.dev.queue q → s.dev.clean f) → ∃ d : Dev,
      answers (.deepToFrontCopy q) s d ∧
      (d.queue q).map (·.bytes) = (s.dev.queue q).map (·.bytes) ∧
      (d.queue q).map (fun f => f.cells.front + f.cells.deep) = (s.dev.queue q).map (fun f => f.cells.front + f.cells.deep) ∧
      cellSum (·.cells.front) (d.queue q) = cellSum (·.cells.front) (s.dev.queue q) + min (cellSum (·.cells.deep) (s.dev.queue q))
        (min (s.dev.get R.SCH_SPILL_CFG_HEAD - cellSum (·.cells.front) (s.dev.framesOf q)) (frontCells - s.dev.frontUsed)) ∧
      (∀ r, r ≠ q.val → d.queue r = s.dev.queue r) ∧ Dev.Frame false [.sch] [] s.dev d) ∧
  (∀ (c : Fin 8) (q : Nat) f rest, s.dev.schRuns = true → (s.dev.fifo e c).length < 2 → s.dev.wfqPick e c = some q → s.dev.queue q = f :: rest →
    ∃ d : Dev, answers (.classFifoFill e c) s d ∧ d.queue q = rest ∧ d.fifo e c = s.dev.fifo e c ++ [f] ∧
      (∀ n, s.dev.tagOf q = some n → sget 0 (8 * e.val + c.val) d.sch.vtime = n ∧ sget 0 q d.sch.tag = n) ∧
      (s.dev.tagOf q = none → d.sch.vtime = s.dev.sch.vtime ∧ d.sch.tag = s.dev.sch.tag) ∧
      (s.dev.is (R.SCH_SHn_CFG_EN q) = true → d.shaperHeld q = (s.dev.shaper q).draw (s.dev.lenL e f)) ∧
      (s.dev.is (R.SCH_SHn_CFG_EN q) = false → d.sch.shapers = s.dev.sch.shapers) ∧ Dev.Frame false [.sch] [] s.dev d) ∧
  (∀ c : Fin 8, s.dev.schRuns = true → s.dev.fifoFill e c = none → answers (.classFifoFill e c) s s.dev) ∧
  (s.dev.rd (R.SCH_Ee_ACT_CYCLE e) = 0 →
    ∃ d : Dev, answers (.gateTick e) s d ∧ d.get (R.SCH_Ee_GATES_STATE e) = 0xFF ∧ d.get (R.SCH_Ee_GATES_ENTRY e) = 0 ∧
      Dev.Frame false [] [(R.SCH_Ee_GATES_STATE e).reg] s.dev d) ∧
  (∀ n t, (s.dev.gclPos e s.dev.nowNs = none ∧ s.dev.rd (R.SCH_Ee_ACT_CYCLE e) ≠ 0 ∧
        s.dev.nowNs < (sget default e.val s.dev.sch.actStart).toNs ∧ n = (sget default e.val s.dev.sch.actStart).toNs ∨
      ∃ p, s.dev.gclPos e s.dev.nowNs = some p ∧ n = s.dev.nowNs + ((s.dev.gclSegs e).find? (fun x => decide (p < x.1))).elim
        ((s.dev.rd (R.SCH_Ee_ACT_CYCLE e)).toNat - p) (fun x => x.1 - p)) → t = s.dev.untilNs n →
    ∃ d : Dev, answers (.gateTick e) s d ∧ d.ticks = t.ticks ∧ d.tmb = t.tmb ∧
      d.get (R.SCH_Ee_GATES_STATE e) = t.gates e t.nowNs % 2 ^ (R.SCH_Ee_GATES_STATE e).w ∧
      Dev.Frame false [.ticks, .tmb] [(R.SCH_Ee_GATES_STATE e).reg] s.dev d) ∧
  (∀ t, s.dev.open_ (R.SCH_Ee_GCL_CTL e) → s.dev.standby = false → s.dev.rd (R.SCH_Ee_GCL_CYCLE e) ≠ 0 → 1 ≤ e.val → e.val ≤ 16 → s.dev.draining 11 = false →
    t = Tod.ofNs (gclStartFrom ((s.dev.rd64 (R.SCH_Ee_BASE_SEC_LO e) % 2 ^ 48) * 1000000000 + (s.dev.rd (R.SCH_Ee_BASE_NS e)).toNat)
      (s.dev.rd (R.SCH_Ee_GCL_CYCLE e)).toNat (s.dev.nowNs + s.dev.get R.SCH_ADMIN_LEAD_US * 1000)) →
    ∃ d : Dev, answers (.gclCommit e) s (d.mirrorGcl e false 0) ∧ d.is (R.SCH_Ee_STATUS_PEND_COMMITTED e) = true ∧
      d.rd (R.SCH_Ee_START_NS e) = BitVec.ofNat 32 t.ns ∧ d.rd64 (R.SCH_Ee_START_SEC_LO e) = t.sec ∧
      Dev.Frame false [] [R.SCH_Ee_START_NS e, R.SCH_Ee_START_SEC_LO e, R.SCH_Ee_START_SEC_LO e + 4, (R.SCH_Ee_STATUS_PEND_COMMITTED e).reg] s.dev d) ∧
  (s.dev.open_ (R.SCH_Ee_GCL_CTL e) → s.dev.standby = false →
    (s.dev.rd (R.SCH_Ee_GCL_CYCLE e) = 0 ∨ e.val = 0 ∨ e.val = 17 ∨ s.dev.draining 11 = true) → ∃ d : Dev, answers (.gclCommit e) s d ∧
    d = (s.dev.raise R.SCH_IRQ_GCL_REFUSED).schEventEach 2 e ∧ Dev.Frame true [] [R.SCH_IRQ_GCL_REFUSED.reg] s.dev d) ∧
  (s.dev.open_ (R.SCH_Ee_GCL_CTL e) → s.dev.standby = true → ∃ d : Dev, answers (.gclCommit e) s d ∧
    d.get R.TWN_COUNTS_REFUSED = min (s.dev.get R.TWN_COUNTS_REFUSED + 1) (2 ^ R.TWN_COUNTS_REFUSED.w - 1) ∧
    d = ((s.dev.count R.TWN_COUNTS_REFUSED 1).raise R.SCH_IRQ_GCL_REFUSED).schEventEach 2 e ∧
    Dev.Frame true [] [R.SCH_IRQ_GCL_REFUSED.reg, R.TWN_COUNTS_REFUSED.reg] s.dev d) ∧
  (s.dev.open_ (R.SCH_Ee_GCL_CTL e) → s.dev.is (R.SCH_Ee_STATUS_PEND_COMMITTED e) = true → ∃ d : Dev,
    answers (.gclAbort e) s (d.mirrorGcl e false 1) ∧ d.is (R.SCH_Ee_STATUS_PEND_COMMITTED e) = false ∧
    Dev.Frame false [] [(R.SCH_Ee_STATUS_PEND_COMMITTED e).reg] s.dev d) ∧
  (s.dev.open_ (R.SCH_Ee_GCL_CTL e) → s.dev.is (R.SCH_Ee_STATUS_PEND_COMMITTED e) = false → answers (.gclAbort e) s s.dev) ∧
  (∀ ns, s.dev.pendStart e = some ns → ∃ d : Dev,
    answers (.gclStart e) s (d.event 0x0B80 (le 1 1 ++ le 1 e ++ le 4 (ns / 1000000000) ++ le 4 (ns % 1000000000))) ∧
    d.is (R.SCH_Ee_STATUS_PEND_COMMITTED e) = false ∧ d.is R.SCH_IRQ_GCL_STARTED = true ∧
    (∀ i, i < 1024 → d.rd (R.SCH_Ee_ACTi e i) = s.dev.rd (R.SCH_Ee_GCLi e i) ∧ d.rd (R.SCH_Ee_GCLi e i) = s.dev.rd (R.SCH_Ee_ACTi e i)) ∧
    d.rd (R.SCH_Ee_ACT_CYCLE e) = s.dev.rd (R.SCH_Ee_GCL_CYCLE e) ∧ d.rd (R.SCH_Ee_GCL_CYCLE e) = s.dev.rd (R.SCH_Ee_ACT_CYCLE e) ∧
    sget default e.val d.sch.actStart = Tod.ofNs ns ∧ d.ticks = (s.dev.untilNs ns).ticks ∧ d.tmb = (s.dev.untilNs ns).tmb ∧
    Dev.changesOnly s.dev d [.regs, .sch, .ticks, .tmb])

/-- Timed frames, reserved cells and token buckets (R243, R245, R256): TIMED_LAUNCH starts the next timed frame that is not late at its
instant; RESV_WRITE, TOKEN_RATE_WRITE, TOKEN_BURST_WRITE write their registers and what goes with them.
Its clauses rest on the model's choices in log entries 136, 138, 205 where those speak of its commands. -/
def Obligations.LaunchAndTokens : Prop := ∀ (s : State) (e : Fin 18) (v : Word), s.runs →
  (∀ f at_ t, s.dev.nextOnTime e = some f → f.launch = some at_ →
    t = s.dev.elapse (if s.dev.startOf e at_ ≤ s.dev.tmb.time then 0
      else (s.dev.startOf e at_ - s.dev.tmb.time + s.dev.incr - 1) / max 1 s.dev.incr) →
    1 ≤ e.val → t.passed e f = false → t.ctlBusy e = false → t.canStart e = true →
    t.gateOk e (t.get (R.SCH_Qn_CFG_CLASS f.queue)) (t.lenL e f) = true → t.Plain e f → ∃ d : Dev,
    answers (.timedLaunch e) s d ∧ d.timedOf e = (t.timedOf e).erase f ∧ Dev.Launched t e f [] d) ∧
  (∀ f at_ t, s.dev.nextOnTime e = some f → f.launch = some at_ →
    t = s.dev.elapse (if s.dev.startOf e at_ ≤ s.dev.tmb.time then 0
      else (s.dev.startOf e at_ - s.dev.tmb.time + s.dev.incr - 1) / max 1 s.dev.incr) →
    1 ≤ e.val → t.schRuns = true → t.egressDown e = false → t.passed e f = true →
    ∀ u i, u = ((t.count (R.SCH_Ee_LATE_GATE e) 1).raise R.SCH_IRQ_LATE).schEvent 3 e → (u.timedOf e).findIdx? (· == f) = some i →
    u.is (R.SCH_Ee_CFG_LATE_MODE e) = false → answers (.timedLaunch e) s (u.setTimed e ((u.timedOf e).set i { f with late := true }))) ∧
  (s.dev.nextOnTime e = none → answers (.timedLaunch e) s s.dev) ∧
  (∀ q : Fin 8192, s.dev.open_ (R.SCH_Qn_RESV q) →
    s.dev.get R.SCH_RESV_TOTAL_CELLS + v.toNat % 2 ^ 24 - s.dev.get (R.SCH_Qn_RESV_CELLS q) ≤ 4194304 → ∃ d : Dev,
    answers (.resvWrite q v) s d ∧ d.get (R.SCH_Qn_RESV_CELLS q) = v.toNat % 2 ^ 24 ∧
    d.get R.SCH_RESV_TOTAL_CELLS = s.dev.get R.SCH_RESV_TOTAL_CELLS + v.toNat % 2 ^ 24 - s.dev.get (R.SCH_Qn_RESV_CELLS q) ∧
    Dev.Frame false [] [R.SCH_Qn_RESV q, R.SCH_RESV_TOTAL_CELLS.reg] s.dev d) ∧
  (s.dev.open_ R.SCH_POL_RATE → ∃ d : Dev, answers (.tokenRateWrite .policer v) s d ∧
    (d.policer (s.dev.get R.SCH_POL_SEL_INDEX)).rate = v.toNat ∧
    (∀ p, p = s.dev.policer (s.dev.get R.SCH_POL_SEL_INDEX) → (d.policer (s.dev.get R.SCH_POL_SEL_INDEX)).bucket = s.dev.refill p.rate p.burst p.bucket) ∧ Dev.Frame false [.sch] [] s.dev d) ∧
  (∀ n : Fin 8192, s.dev.open_ (R.SCH_SHn_RATE n) → ∃ d : Dev, answers (.tokenRateWrite (.shaper n) v) s d ∧ d.rd (R.SCH_SHn_RATE n) = v ∧ d.shaperHeld n = s.dev.shaper n ∧
    Dev.Frame false [.sch] [R.SCH_SHn_RATE n] s.dev d) ∧
  (∀ p : Fin 64, s.dev.open_ (R.SCH_PSp_RATE p) → ∃ d : Dev, answers (.tokenRateWrite (.portShaper p) v) s d ∧ d.rd (R.SCH_PSp_RATE p) = v ∧ d.portShaperHeld p = s.dev.portShaper p ∧
    Dev.Frame false [.sch] [R.SCH_PSp_RATE p] s.dev d) ∧
  (s.dev.open_ R.SCH_POL_CFG → ∃ d : Dev, answers (.tokenBurstWrite .policer v) s d ∧
    (d.policer (s.dev.get R.SCH_POL_SEL_INDEX)).burst = v.toNat % 2 ^ 24 ∧
    (d.policer (s.dev.get R.SCH_POL_SEL_INDEX)).monitor = bit v.toNat 24 ∧
    (d.policer (s.dev.get R.SCH_POL_SEL_INDEX)).bucket = (s.dev.policer (s.dev.get R.SCH_POL_SEL_INDEX)).bucket.cap (v.toNat % 2 ^ 24) ∧ Dev.Frame false [.sch] [] s.dev d) ∧
  (∀ n : Fin 8192, s.dev.open_ (R.SCH_SHn_CFG n) → ∃ d : Dev, answers (.tokenBurstWrite (.shaper n) v) s d ∧
    d.rd (R.SCH_SHn_CFG n) = v &&& 0x80FFFFFF ∧ d.shaperHeld n = (s.dev.shaperHeld n).cap (v.toNat % 2 ^ 24) ∧ Dev.Frame false [.sch] [R.SCH_SHn_CFG n] s.dev d) ∧
  (∀ p : Fin 64, s.dev.open_ (R.SCH_PSp_CFG p) → ∃ d : Dev, answers (.tokenBurstWrite (.portShaper p) v) s d ∧
    d.rd (R.SCH_PSp_CFG p) = v &&& 0x80FFFFFF ∧ d.portShaperHeld p = (s.dev.portShaperHeld p).cap (v.toNat % 2 ^ 24) ∧ Dev.Frame false [.sch] [R.SCH_PSp_CFG p] s.dev d)

/-- Frames leave (R142 to R145, R250, R251, R262, R427; Table 21-2): LAUNCH_SELECT starts the first late timed frame, else the first eligible
class's frame, and drops what a down egress may not keep; FRAME_LAUNCH_DONE ends a launch; UPSTREAM_BURST sends the next grant's burst, or
passes it.
Its clauses rest on the model's choices in log entries 105, 107, 138, 141, 142, 179, 208 where those speak of its commands. -/
def Obligations.FramesLeave : Prop := ∀ (s : State) (e : Fin 18), s.runs →
  (∀ t c f, e.val ≠ 0 → t = (if 1 ≤ e.val ∧ e.val ≤ 8 then s.dev.pausePump (e - 1) else s.dev).freeCtl e → t.canStart e = true →
    t.lateReady e = none → t.classPick e = some (c, f) → t.Plain e f → ∃ d : Dev, answers (.launchSelect e) s d ∧
    t.fifo e c = f :: d.fifo e c ∧ t.gateOk e c (t.fitLen e f) = true ∧
    (∀ p, t.portShaperOf e c = some p → (t.portShaper p).tokens > 0 ∧ d.portShaperHeld p = (t.portShaper p).draw (t.lenL e f)) ∧
    (∀ k, c < k → k < 8 → ∀ g, (t.fifo e k).head? = some g → t.gateOk e k (t.fitLen e g) = true → (e.val = 17 ∨ t.clearOfTimed e g = true) →
      ∃ p, t.portShaperOf e k = some p ∧ (t.portShaper p).tokens ≤ 0) ∧
    Dev.Launched t e f [] d) ∧
  (∀ t i f, e.val ≠ 0 → t = (if 1 ≤ e.val ∧ e.val ≤ 8 then s.dev.pausePump (e - 1) else s.dev).freeCtl e → t.canStart e = true →
    t.lateReady e = some (i, f) → t.Plain e f → ∃ d : Dev, answers (.launchSelect e) s d ∧
    d.timedOf e = (t.timedOf e).eraseIdx i ∧ (t.timedOf e)[i]? = some f ∧ f.late = true ∧ Dev.Launched t e f [] d) ∧
  (∀ t, e.val ≠ 0 → t = (if 1 ≤ e.val ∧ e.val ≤ 8 then s.dev.pausePump (e - 1) else s.dev).freeCtl e →
    (t.schRuns = false ∨ t.canStart e = false ∧ (t.egressDown e = false ∨ t.is (R.SCH_Ee_CFG_DOWN_DROP e) = false)) →
    answers (.launchSelect e) s t) ∧
  (∀ t n, t = (if 1 ≤ e.val ∧ e.val ≤ 8 then s.dev.pausePump (e - 1) else s.dev).freeCtl e → t.schRuns = true → t.egressDown e = true →
    t.is (R.SCH_Ee_CFG_DOWN_DROP e) = true → n = (t.timedOf e).length + ((List.range 8).map fun c => (t.fifo e c).length).sum → ∃ d : Dev,
    answers (.launchSelect e) s d ∧ d.timedOf e = [] ∧ (∀ c, c < 8 → d.fifo e c = []) ∧
    (d.rd (R.SCH_Ee_DOWN_DROPS e)).toNat = min ((t.rd (R.SCH_Ee_DOWN_DROPS e)).toNat + n) (2 ^ 32 - 1) ∧
    Dev.Frame false [.sch] [R.SCH_Ee_DOWN_DROPS e] t d) ∧
  (e.val = 0 → s.dev.relay = false → s.dev.ctlBusy 0 = false → (s.dev.egressDown 0 = false ∨ s.dev.is (R.SCH_Ee_CFG_DOWN_DROP 0) = false) →
    answers (.launchSelect e) s s.dev) ∧
  (∀ c f r, e.val = 0 → s.dev.relay = true → s.dev.ctlBusy 0 = false → s.dev.schRuns = true → s.dev.egressDown 0 = false →
    s.dev.classPick 0 = some (c, f) → f.cipher = 0 → r = (s.dev.takeHead 0 c f).takeCells f → r.2 = false →
    answers (.launchSelect e) s ((r.1.countR (R.SCH_Ee_FRAMES 0) 1).relayUp f)) ∧
  (∀ f n h, 9 ≤ e.val → e.val ≤ 16 → s.dev.launching e = some (f, n) → f.rope = some h → s.dev.clean f → sget [] e.val s.dev.sch.ctlWait = [] → ∃ d : Dev,
    answers (.frameLaunchDone e) s d ∧
    d.launching e = none ∧ d.out = Out.rope (e - 9) (h ++ f.bytes ++ fcs (h ++ f.bytes)) :: s.dev.out ∧ Dev.Frame false [.sch, .out] [] s.dev d) ∧
  (∀ f n, 1 ≤ e.val → e.val ≤ 8 → s.dev.launching e = some (f, n) → s.dev.clean f → s.dev.standby = false →
    (s.dev.macP (e - 1)).pauseWait = none → (s.dev.macP (e - 1)).pauseTx = none → ∃ d : Dev, answers (.frameLaunchDone e) s d ∧ d.launching e = none ∧
    d.out = Out.eth (e - 1) (ethBytes f.bytes) :: s.dev.out ∧
    (d.rd (R.MAC_En_TX_FRAMES (e - 1))).toNat = min ((s.dev.rd (R.MAC_En_TX_FRAMES (e - 1))).toNat + 1) (2 ^ 32 - 1) ∧
    (d.rd (R.MAC_En_TX_KIB (e - 1))).toNat =
      min ((s.dev.rd (R.MAC_En_TX_KIB (e - 1))).toNat + ((s.dev.macP (e - 1)).txRem + (ethBytes f.bytes).length) / 1024) (2 ^ 32 - 1) ∧
    (d.macP (e - 1)).txRem = ((s.dev.macP (e - 1)).txRem + (ethBytes f.bytes).length) % 1024 ∧
    Dev.Frame false [.sch, .out, .mac] [R.MAC_En_TX_FRAMES (e - 1), R.MAC_En_TX_KIB (e - 1)] s.dev d) ∧
  (1 ≤ e.val → e.val ≤ 16 → s.dev.launching e = none → answers (.frameLaunchDone e) s s.dev) ∧
  ((e.val = 0 ∨ e.val = 17) → answers (.frameLaunchDone e) s s.dev) ∧
  (∀ (u : UpFrame) (g : Grant) (p : Port) (t : Dev) (power : BitVec 16) (bias : Bool), nextGrant s.dev.lfr.up = some (u, g) →
    t = s.dev.until_ (u.ds + (upBits + u.eqd + g.start) / 64) → t.activePort = some p → t.upBlocked = false → t.grantAllowed g = true →
    t.txReady p = true → g.id ≠ 0xFFF → g.length ≤ 2048 → 64 * u.preLen + 128 ≤ g.length → 2 ≤ u.grants.length → ∃ (d : Dev) (info : List Byte),
      answers (.upstreamBurst power bias) s d ∧
      Out.burst p.ix u.k ((g.start : Int) - 256) g.start g.length (burstBits u.prePat u.preLen
        (burstHeader t.tid g.id g.tdm g.lmm g.report t.dg u.k) (g.length - 64 * u.preLen - 128) info) ∈ d.out) ∧
  (∀ (u : UpFrame) (g : Grant) (p : Port) (t : Dev) (power : BitVec 16) (bias : Bool), nextGrant s.dev.lfr.up = some (u, g) →
    t = s.dev.until_ (u.ds + (upBits + u.eqd + g.start) / 64) → t.activePort = some p → t.upBlocked = false → t.grantAllowed g = true →
    t.txReady p = true → g.id ≠ 0xFFF → g.length ≤ 2048 → 64 * u.preLen + 128 ≤ g.length → 2 ≤ u.grants.length →
    g.tdm = false → g.lmm = false → g.report = false → t.timedOf 0 = [] → (∀ c, c < 8 → t.fifo 0 c = []) →
    (∀ x, x ∈ t.sch.queues → x.2 ≠ [] → t.get (R.SCH_Qn_CFG_EGRESS x.1) ≠ 0) → ∃ d : Dev,
      answers (.upstreamBurst power bias) s d ∧
      d.out = Out.burst p.ix u.k ((g.start : Int) - 256) g.start g.length (burstBits u.prePat u.preLen
        (burstHeader t.tid g.id false false false t.dg u.k) (g.length - 64 * u.preLen - 128)
        (idleFill (capacity (g.length - 64 * u.preLen - 128) / 8))) :: t.out ∧
      (d.rd R.LFR_BURSTS).toNat = min ((t.rd R.LFR_BURSTS).toNat + 1) (2 ^ 32 - 1) ∧
      d.get R.LFR_US_STATUS_PRE_LEN = u.preLen % 2 ^ R.LFR_US_STATUS_PRE_LEN.w ∧
      d.get R.LFR_US_STATUS_PRE_PAT = u.prePat % 2 ^ R.LFR_US_STATUS_PRE_PAT.w ∧
      Dev.Frame false [.lfr, .lfe, .out, .twn] [R.LFR_BURSTS, R.LFR_US_STATUS_PRE_LEN.reg, R.LFR_US_STATUS_PRE_PAT.reg] t d) ∧
  (∀ (u : UpFrame) (g : Grant) (p : Port) (t : Dev) (power : BitVec 16) (bias : Bool), nextGrant s.dev.lfr.up = some (u, g) →
    t = s.dev.until_ (u.ds + (upBits + u.eqd + g.start) / 64) → t.activePort = some p → t.upBlocked = false → t.grantAllowed g = true →
    t.txReady p = false → g.tdm = false → 2 ≤ u.grants.length → ∃ d : Dev, answers (.upstreamBurst power bias) s d ∧
      d.get (R.LFE_x_TX_COUNTS_INHIBITED p.ix) = min (t.get (R.LFE_x_TX_COUNTS_INHIBITED p.ix) + 1) (2 ^ (R.LFE_x_TX_COUNTS_INHIBITED p.ix).w - 1) ∧
      Dev.Frame false [.lfr] [(R.LFE_x_TX_COUNTS_INHIBITED p.ix).reg] t d) ∧
  (∀ (u : UpFrame) (g : Grant) (p : Port) (t : Dev) (power : BitVec 16) (bias : Bool), nextGrant s.dev.lfr.up = some (u, g) →
    t = s.dev.until_ (u.ds + (upBits + u.eqd + g.start) / 64) → t.activePort = some p → t.upBlocked = true → g.tdm = false → 2 ≤ u.grants.length → ∃ d : Dev,
      answers (.upstreamBurst power bias) s d ∧
      d.get R.LFR_US_COUNTS_UNUSED = min (t.get R.LFR_US_COUNTS_UNUSED + 1) (2 ^ R.LFR_US_COUNTS_UNUSED.w - 1) ∧
      Dev.Frame false [.lfr] [R.LFR_US_COUNTS_UNUSED.reg] t d) ∧
  (∀ f n h m, 9 ≤ e.val → e.val ≤ 16 → s.dev.launching e = some (f, n) → f.rope = some h → m = (s.dev.setLaunching e none).takeCells f →
    answers (.frameLaunchDone e) s ((m.1.emit (.rope (e - 9) (spoil m.2 (h ++ f.bytes ++ fcs (h ++ f.bytes))))).ctlFlush (e - 9)) ∧
    (m.1.rd R.MEM_UE_FRAMES).toNat = (if m.2 = true then min ((s.dev.rd R.MEM_UE_FRAMES).toNat + 1) (2 ^ 32 - 1) else (s.dev.rd R.MEM_UE_FRAMES).toNat))

/-- Frames arrive and are parsed (R73, R215 to R223): IB_FRAME_RECEIVE, PARSE_FRAME, BUCKET_FETCH_DONE.
Its clauses rest on the model's choices in log entries 121 to 123, 182, 204 where those speak of its commands. -/
def Obligations.FramesParsed : Prop := ∀ (s : State), s.runs →
  (∀ (n : Fin 8) (b : List Byte) (o : Nat), s.dev.inBandAt n b = some o → s.dev.parseRuns = true → s.dev.pwr.closed = false →
    s.dev.cmacKey (s.dev.get R.HIF_MGMT_KEY_SLOT) = none → ∃ d : Dev, answers (.ibFrameReceive n b) s d ∧
      (d.rd R.HIF_IB_AUTH_FAIL).toNat = min ((s.dev.rd R.HIF_IB_AUTH_FAIL).toNat + 1) (2 ^ 32 - 1) ∧
      Dev.Frame false [] [R.HIF_IB_AUTH_FAIL] s.dev d) ∧
  (∀ (n : Fin 8) (b : List Byte) (o : Nat) (k : List Byte) (c : Nat), s.dev.inBandAt n b = some o → s.dev.parseRuns = true → s.dev.pwr.closed = false →
    s.dev.cmacKey (s.dev.get R.HIF_MGMT_KEY_SLOT) = some k → c = leAt b (o + 2) 1 → leAt b o 1 = 1 → leAt b (o + 1) 1 = 1 → 1 ≤ c → c ≤ 16 →
    o + 4 + 64 * c + 16 ≤ b.length → Machine.slice b (o + 4 + 64 * c) 16 = padTo 16 (aesCmac k (Machine.slice b o (4 + 64 * c))) → ∃ d : Dev,
      answers (.ibFrameReceive n b) s d.pump ∧ d.hif.inBand.inbox = s.dev.hif.inBand.inbox ++
        (List.range c).map (fun i => HMsg.ofBytes (Machine.slice b (o + 4 + 64 * i) 64)) ∧
      d.is R.HIF_IB_PEER_HI_VALID = true ∧ d.get R.HIF_IB_PEER_HI_PORT = n ∧
      Dev.Frame false [.hif] [R.HIF_IB_PEER_LO, R.HIF_IB_PEER_HI_MAC.reg] s.dev d) ∧
  (∀ f rest t r, s.dev.prs.line = f :: rest → s.dev.parseHeld = false → s.dev.parseRuns = true → s.dev.pwr.closed = false →
    s.dev.isUp domUsr = true → s.dev.isUp domThk = true → s.dev.get R.PWR_LINGER_US = 0 → f.second = false →
    t = ({ s.dev with prs := { s.dev.prs with line := rest } } : Dev).countR R.PRS_FRAMES_LINE 1 → r = t.takeVersion f →
    t.profileOf false r.2 = none → answers (.parseFrame false) s
      (((r.1.countR (R.PRS_UNPARSED_CNTc r.2.cls) 1).raise R.PRS_IRQ_UNPARSED).applyAction (s.dev.act5 (R.PRS_UNPARSED_ACTc_w r.2.cls 0))
        (padTo 40 []) r.2.metadata r.2)) ∧
  (∀ f rest t r p, s.dev.prs.line = f :: rest → s.dev.parseHeld = false → s.dev.parseRuns = true → s.dev.pwr.closed = false →
    s.dev.isUp domUsr = true → s.dev.isUp domThk = true → s.dev.get R.PWR_LINGER_US = 0 → f.second = false →
    t = ({ s.dev with prs := { s.dev.prs with line := rest } } : Dev).countR R.PRS_FRAMES_LINE 1 → r = t.takeVersion f →
    t.profileOf false r.2 = some p → (p.fields.map r.2.extract).any (·.isNone) = true → answers (.parseFrame false) s
      ((((r.1.countR (R.PRS_PROFILE_HITSp p.number) 1).countR (R.PRS_MALFORMED_CNTp p.number) 1).raise R.PRS_IRQ_MALFORMED).applyAction
        (s.dev.act5 (R.PRS_MALFORMED_ACTp_w p.number 0)) (padTo 40 []) r.2.metadata r.2)) ∧
  (∀ f rest r p d9 t0 act a, s.dev.prs.line = f :: rest → s.dev.parseHeld = false → s.dev.parseRuns = true → s.dev.pwr.closed = false →
    s.dev.isUp domUsr = true → s.dev.isUp domThk = true → s.dev.get R.PWR_LINGER_US = 0 → f.second = false → f.version = none →
    r = { f with version := some s.dev.live, since := s.dev.ticks, aged := false } → s.dev.profileOf false r = some p → (p.fields.map r.extract).any (·.isNone) = false →
    (p.checks.all fun c => c.passes r.bytes.length (p.fields.map r.extract)) = true → s.dev.decl 10 = some d9 →
    d9.templates.find? (·.number == p.template) = some t0 → s.dev.get (R.THK_TMPLn_CFG_KLEN t0.number) = 0 →
    s.dev.is (R.THK_TMPLn_CFG_HEDGE_EN t0.number) = false → act = s.dev.act5 (R.THK_TMPLn_DEFAULT_w t0.number 0) → a = Action.of act →
    a.verdict = 1 → a.cntEn = false → a.notify = false → ∃ d : Dev,
      answers (.parseFrame false) s d ∧ d.prs.line = rest ∧
      (d.rd R.PRS_FRAMES_LINE).toNat = min ((s.dev.rd R.PRS_FRAMES_LINE).toNat + 1) (2 ^ 32 - 1) ∧
      (d.rd (R.PRS_PROFILE_HITSp p.number)).toNat = min ((s.dev.rd (R.PRS_PROFILE_HITSp p.number)).toNat + 1) (2 ^ 32 - 1) ∧
      (d.rd R.THK_LOOKUPS).toNat = min ((s.dev.rd R.THK_LOOKUPS).toNat + 1) (2 ^ 32 - 1) ∧
      (d.rd R.THK_DEFAULTS).toNat = min ((s.dev.rd R.THK_DEFAULTS).toNat + 1) (2 ^ 32 - 1) ∧
      (d.rd R.THK_DROPS).toNat = min ((s.dev.rd R.THK_DROPS).toNat + 1) (2 ^ 32 - 1)) ∧
  (∀ (user : Bool), (if user = true then s.dev.prs.user else s.dev.prs.line) = [] → answers (.parseFrame user) s s.dev) ∧
  (∀ (b : Fin 262144) (bad : Bool), (∀ m, m ∈ s.dev.thk.missQ → b.val ∉ m.buckets) → answers (.bucketFetchDone b bad) s s.dev) ∧
  (∀ b : Fin 262144, (∃ m, m ∈ s.dev.thk.missQ ∧ b.val ∈ m.buckets) → s.dev.isUp domThk = true →
    (∀ m, m ∈ s.dev.thk.missQ → b.val ∈ m.buckets → ∃ f u t k h, m.who = .frame f u t k h) → ∃ d : Dev, answers (.bucketFetchDone b true) s d ∧
      d.thk = { s.dev.thk with missQ := s.dev.thk.missQ.filter fun m => !m.buckets.contains b.val } ∧
      (d.rd R.MEM_DRAM_ERR).toNat = min ((s.dev.rd R.MEM_DRAM_ERR).toNat + 1) (2 ^ 32 - 1) ∧
      (d.rd R.MEM_UE_COUNT).toNat =
        min ((s.dev.rd R.MEM_UE_COUNT).toNat + (s.dev.thk.missQ.filter fun m => m.buckets.contains b.val).length) (2 ^ 32 - 1) ∧
      Dev.Frame false [.thk] [R.MEM_DRAM_ERR, R.MEM_UE_COUNT] s.dev d) ∧
  (∀ b : Fin 262144, (∃ m, m ∈ s.dev.thk.missQ ∧ b.val ∈ m.buckets) → (∀ m, m ∈ s.dev.thk.missQ → ∃ x, x ∈ m.buckets ∧ x ≠ b.val) →
    s.dev.isUp domThk = true → s.dev.cleanBucket b → ∃ d : Dev, answers (.bucketFetchDone b false) s d ∧
      d.thk.missQ = s.dev.thk.missQ.map (fun m => { m with buckets := m.buckets.filter (· != b.val) }) ∧ Dev.Frame false [.thk, .free] [] s.dev d)

/-- Operations on the pending set of the Thicket (R221, R225, R226, R227): INSERT and REPLACE, where the first candidate bucket has a
free slot; DELETE; LOOKUP.
Its clauses rest on the model's choices in log entries 125, 131 where those speak of its commands. -/
def Obligations.ThicketOperations : Prop := ∀ (s : State) (t : Fin 64), s.runs → s.dev.open_ R.THK_OP → s.dev.standby = false →
  s.dev.draining 10 = false → s.dev.keyed t = true → s.dev.keyOk t s.dev.thkKey = true →
  (∀ n, (Action.of s.dev.thkAct).legal = true → s.dev.pendCount < 1048576 → s.dev.findEntry t s.dev.thkKey s.dev.pendVer = none →
    s.dev.freeSlot (s.dev.buckets t s.dev.thkKey).1 = some n → ∀ c, c = Instr.insert t ∨ c = Instr.replace t → ∃ d : Dev, answers c s d ∧
      d.tslot n = some { template := t, key := s.dev.thkKey, action := s.dev.thkAct, birth := s.dev.pendVer, death := s.dev.pendVer } ∧
      (∀ m, m ≠ n → d.tslot m = s.dev.tslot m) ∧ d.thk = { s.dev.thk with slots := d.thk.slots } ∧
      d.get R.THK_OP_RESULT_RESULT = 0 ∧ d.is R.THK_OP_RESULT_DONE = true ∧ d.get R.THK_OP_RESULT_MOVES = 0 ∧
      Dev.Frame true [.thk, .twn] (R.THK_OP_RESULT_RESULT.reg :: mirrorRegs) s.dev d) ∧
  (∀ x, (Action.of s.dev.thkAct).legal = true → s.dev.pendCount < 1048576 → s.dev.findEntry t s.dev.thkKey s.dev.pendVer = some x →
    ∃ d : Dev, answers (.insert t) s d ∧ d.get R.THK_OP_RESULT_RESULT = 1 ∧ d.is R.THK_OP_RESULT_DONE = true ∧
      Dev.Frame false [] [R.THK_OP_RESULT_RESULT.reg] s.dev d) ∧
  (∀ n e, (Action.of s.dev.thkAct).legal = true → s.dev.pendCount < 1048576 → s.dev.findEntry t s.dev.thkKey s.dev.pendVer = some (n, e) →
    e.birth = s.dev.pendVer → ∃ d : Dev, answers (.replace t) s d ∧ d.tslot n = some { e with action := s.dev.thkAct } ∧
      (∀ m, m ≠ n → d.tslot m = s.dev.tslot m) ∧ d.get R.THK_OP_RESULT_RESULT = 0 ∧ d.is R.THK_OP_RESULT_DONE = true ∧
      Dev.Frame true [.thk, .twn] (R.THK_OP_RESULT_RESULT.reg :: mirrorRegs) s.dev d) ∧
  (∀ n e k, (Action.of s.dev.thkAct).legal = true → s.dev.pendCount < 1048576 → s.dev.findEntry t s.dev.thkKey s.dev.pendVer = some (n, e) →
    e.birth ≠ s.dev.pendVer → s.dev.freeSlot (s.dev.buckets t s.dev.thkKey).1 = some k → ∃ d : Dev, answers (.replace t) s d ∧
      d.tslot n = some { e with death := s.dev.pendVer } ∧
      d.tslot k = some { template := t, key := s.dev.thkKey, action := s.dev.thkAct, birth := s.dev.pendVer, death := s.dev.pendVer } ∧
      (∀ m, m ≠ n → m ≠ k → d.tslot m = s.dev.tslot m) ∧ d.get R.THK_OP_RESULT_RESULT = 0 ∧ d.is R.THK_OP_RESULT_DONE = true ∧
      Dev.Frame true [.thk, .twn] (R.THK_OP_RESULT_RESULT.reg :: mirrorRegs) s.dev d) ∧
  (∀ n e, s.dev.pendCount < 1048576 → s.dev.findEntry t s.dev.thkKey s.dev.pendVer = some (n, e) → ∃ d : Dev, answers (.delete t) s d ∧
      d.tslot n = (if e.birth = s.dev.pendVer then none else some { e with death := s.dev.pendVer }) ∧
      (∀ m, m ≠ n → d.tslot m = s.dev.tslot m) ∧ d.get R.THK_OP_RESULT_RESULT = 0 ∧ d.is R.THK_OP_RESULT_DONE = true ∧
      Dev.Frame true [.thk, .twn] (R.THK_OP_RESULT_RESULT.reg :: mirrorRegs) s.dev d) ∧
  (s.dev.pendCount < 1048576 → s.dev.findEntry t s.dev.thkKey s.dev.pendVer = none → ∃ d : Dev, answers (.delete t) s d ∧
    d.get R.THK_OP_RESULT_RESULT = 2 ∧ d.is R.THK_OP_RESULT_DONE = true ∧ Dev.Frame false [] [R.THK_OP_RESULT_RESULT.reg] s.dev d) ∧
  (∀ view n e, s.dev.findEntry t s.dev.thkKey (if view = true then s.dev.pendVer else s.dev.live) = some (n, e) → ∃ d : Dev,
    answers (.lookup t view) s d ∧ (∀ w, w < 5 → d.rd (R.THK_ACT w) = BitVec.ofNat 32 (e.action / 2 ^ (32 * w))) ∧
    d.get R.THK_OP_RESULT_RESULT = 0 ∧ d.is R.THK_OP_RESULT_DONE = true ∧
    Dev.Frame false [] (R.THK_OP_RESULT_RESULT.reg :: (List.range 5).map R.THK_ACT) s.dev d) ∧
  (∀ view, s.dev.findEntry t s.dev.thkKey (if view = true then s.dev.pendVer else s.dev.live) = none → ∃ d : Dev,
    answers (.lookup t view) s d ∧ d.get R.THK_OP_RESULT_RESULT = 2 ∧ d.is R.THK_OP_RESULT_DONE = true ∧
    Dev.Frame false [] [R.THK_OP_RESULT_RESULT.reg] s.dev d)

/-- The Hedge and batches (R228, R229): HEDGE_WRITE at an index whose rows are free, or whose first row is live; HEDGE_CLEAR;
THK_BATCH stops at the first record that does not end in OK.
Its clauses rest on the model's choices in log entries 126, 131 where those speak of its commands. -/
def Obligations.HedgeAndBatches : Prop := ∀ (s : State), s.runs → s.dev.standby = false →
  (∀ (i : Fin 4096) row, s.dev.open_ R.THK_OP → s.dev.noThicket = false → s.dev.draining 10 = false → s.dev.pendCount < 1048576 →
    (Action.of s.dev.thkAct).legal = true → s.dev.hrow (2 * i + 1) = none →
    row = HRow.mk i (bits (s.dev.rd R.THK_HEDGE_CFG).toNat 16 6) (bits (s.dev.rd R.THK_HEDGE_CFG).toNat 24 6) s.dev.thkKey s.dev.thkMask
      ((s.dev.rd R.THK_HEDGE_CFG).toNat % 65536) s.dev.thkAct s.dev.pendVer s.dev.pendVer →
    (s.dev.hrow (2 * i) = none → ∃ d : Dev, answers (.hedgeWrite i) s d ∧ d.hrow (2 * i) = some row ∧
      (∀ m, m ≠ 2 * i.val → d.hrow m = s.dev.hrow m) ∧ d.get R.THK_OP_RESULT_RESULT = 0 ∧ d.is R.THK_OP_RESULT_DONE = true ∧
      Dev.Frame true [.thk, .twn] (R.THK_OP_RESULT_RESULT.reg :: mirrorRegs) s.dev d) ∧
    (∀ r, s.dev.hrow (2 * i) = some r → s.dev.rowLive r = true → ∃ d : Dev, answers (.hedgeWrite i) s d ∧
      d.hrow (2 * i) = some { r with death := s.dev.pendVer } ∧ d.hrow (2 * i + 1) = some row ∧
      (∀ m, m / 2 ≠ i.val → d.hrow m = s.dev.hrow m) ∧ d.get R.THK_OP_RESULT_RESULT = 0 ∧ d.is R.THK_OP_RESULT_DONE = true ∧
      Dev.Frame true [.thk, .twn] (R.THK_OP_RESULT_RESULT.reg :: mirrorRegs) s.dev d)) ∧
  (∀ (i : Fin 4096) r, s.dev.open_ R.THK_OP → s.dev.noThicket = false → s.dev.draining 10 = false → s.dev.pendCount < 1048576 →
    s.dev.hrow (2 * i) = some r → (s.dev.hrow (2 * i + 1) = none) → (r.birth = s.dev.pendVer ∨ s.dev.rowLive r = true) → ∃ d : Dev,
    answers (.hedgeClear i) s d ∧
    d.hrow (2 * i) = (if r.birth = s.dev.pendVer then none else some { r with death := s.dev.pendVer }) ∧
    (∀ m, m ≠ 2 * i.val → d.hrow m = s.dev.hrow m) ∧ d.get R.THK_OP_RESULT_RESULT = 0 ∧ d.is R.THK_OP_RESULT_DONE = true ∧
    Dev.Frame true [.thk, .twn] (R.THK_OP_RESULT_RESULT.reg :: mirrorRegs) s.dev d) ∧
  (∀ (v : Word) recs r, s.dev.open_ R.THK_BATCH_CMD → r = s.dev.batchRun 0 (v.toNat % 2 ^ 20) recs → ∃ d : Dev,
    answers (.thkBatch v recs) s d ∧ d.get R.THK_BATCH_STATUS_DONE = r.2.1 % 2 ^ 20 ∧ d.get R.THK_BATCH_STATUS_RESULT = r.2.2.code ∧
    Dev.Frame true [] [R.THK_BATCH_STATUS_DONE.reg, R.THK_IRQ] r.1 d) ∧
  (∀ (v : Word) (w : BitVec 512) rest x, s.dev.open_ R.THK_BATCH_CMD → 0 < v.toNat % 2 ^ 20 →
    x = s.dev.thkOp (leAt (le 64 (w.toNat)) 61 1) (leAt (le 64 w.toNat) 60 1) ((le 64 w.toNat).take 40)
      (leAt (le 64 w.toNat) 40 20) →
    (x.2.1 ≠ .ok → s.dev.batchRun 0 (v.toNat % 2 ^ 20) (some w :: rest) = (x.1, 0, x.2.1)) ∧
    (x.2.1 = .ok → s.dev.batchRun 0 (v.toNat % 2 ^ 20) (some w :: rest) = x.1.batchRun 1 (v.toNat % 2 ^ 20 - 1) rest))

/-- Commits, ABORT, aging and the walker (R232 to R235): COMMIT_GO, COMMIT_RELEASE, THK_ABORT, HOLDER_AGED, WALKER_VISIT.
Its clauses rest on the model's choices in log entries 127 to 129, 176 where those speak of its commands. -/
def Obligations.CommitsAndAging : Prop := ∀ (s : State), s.runs →
  (s.dev.open_ R.THK_COMMIT → s.dev.standby = false → s.dev.noThicket = false → s.dev.thk.commitHeld = false → s.dev.commitReason = 0 →
    (s.dev.role = .active ∧ s.dev.is R.TWN_CFG_EN = true → s.dev.is R.TWN_CFG_SYNC_COMMIT = false) → ∃ d : Dev, answers .commitGo s d ∧
      d.get R.THK_VERSION_LIVE = s.dev.pendVer ∧ d.get R.THK_VERSION_PREV = s.dev.live ∧
      d.get R.THK_COMMITS_COMMITS = min (s.dev.get R.THK_COMMITS_COMMITS + 1) 65535 ∧ d.is R.THK_IRQ_COMMITTED = true ∧
      Dev.Frame true [.twn] ([R.THK_VERSION, R.THK_COMMITS_COMMITS.reg, R.THK_IRQ] ++ mirrorRegs) s.dev d) ∧
  (s.dev.open_ R.THK_COMMIT → s.dev.standby = false → s.dev.noThicket = false → s.dev.thk.commitHeld = false → s.dev.commitReason = 0 →
    s.dev.role = .active → s.dev.is R.TWN_CFG_EN = true → s.dev.is R.TWN_CFG_SYNC_COMMIT = true → ∃ d : Dev, answers .commitGo s d ∧
      d.get R.THK_VERSION_LIVE = s.dev.pendVer ∧ d.get R.THK_VERSION_PREV = s.dev.live ∧
      d.twn.withheld.map (fun w => (w.seq, w.live, w.prev)) = s.dev.twn.withheld.map (fun w => (w.seq, w.live, w.prev)) ++
        [((s.dev.rd R.TWN_MIRROR_TX).toNat, s.dev.pendVer, s.dev.live)] ∧
      Dev.Frame true [.twn] ([R.THK_VERSION, R.THK_COMMITS_COMMITS.reg] ++ mirrorRegs) s.dev d) ∧
  (s.dev.open_ R.THK_COMMIT → s.dev.standby = false → s.dev.noThicket = false → s.dev.thk.commitHeld = false → s.dev.commitReason ≠ 0 →
    ∃ d : Dev, answers .commitGo s d ∧ d.thk = { s.dev.thk with commitHeld := true } ∧ d.is R.THK_COMMIT_STATUS_HELD = true ∧
      d.get R.THK_COMMIT_STATUS_REASON = s.dev.commitReason ∧ d.get R.THK_COMMITS_BUSY = min (s.dev.get R.THK_COMMITS_BUSY + 1) 65535 ∧
      Dev.Frame true [.thk] [R.THK_COMMIT_STATUS_HELD.reg, R.THK_COMMITS_BUSY.reg, R.THK_IRQ] s.dev d) ∧
  (s.dev.thk.commitHeld = true → s.dev.isUp domThk = true → s.dev.commitReason = 0 →
    (s.dev.role = .active ∧ s.dev.is R.TWN_CFG_EN = true → s.dev.is R.TWN_CFG_SYNC_COMMIT = false) → ∃ d : Dev, answers .commitRelease s d ∧
      d.get R.THK_VERSION_LIVE = s.dev.pendVer ∧ d.get R.THK_VERSION_PREV = s.dev.live ∧ d.is R.THK_COMMIT_STATUS_HELD = false ∧
      d.thk = { s.dev.thk with commitHeld := false } ∧
      Dev.Frame true [.thk, .twn] ([R.THK_VERSION, R.THK_COMMITS_COMMITS.reg, R.THK_IRQ, R.THK_COMMIT_STATUS_HELD.reg] ++ mirrorRegs) s.dev d) ∧
  (s.dev.open_ R.THK_COMMIT → s.dev.standby = false → ∃ d : Dev, answers .thkAbort s d ∧ d.pendCount = 0 ∧ d.pendVer = s.dev.pendVer ∧
    d.thk.commitHeld = false ∧
    (∀ n e, (n, some e) ∈ s.dev.thk.slots → e.birth ≠ s.dev.pendVer →
      (n, some { e with death := if e.death = s.dev.pendVer then e.birth else e.death }) ∈ d.thk.slots) ∧
    (∀ n r, (n, some r) ∈ s.dev.thk.rows → r.birth ≠ s.dev.pendVer →
      (n, some { r with death := if r.death = s.dev.pendVer then r.birth else r.death }) ∈ d.thk.rows) ∧
    Dev.Frame true [.thk] [R.THK_COMMIT_STATUS_HELD.reg, R.THK_IRQ] s.dev d) ∧
  (∀ t lim u, lim = s.dev.get R.THK_AGE_LIMIT_US * usTicks → lim ≠ 0 → u = s.dev.until_ (t + lim) →
    ((s.dev.versionFrames.filter fun f => f.version.isSome && !f.aged).map (·.since)).min? = some t → ∃ d : Dev, answers .holderAged s d ∧
      (∀ f, f ∈ d.versionFrames → f.version.isSome = true → f.aged = false → d.ticks < f.since + lim) ∧
      d.get R.THK_AGED_AGED = min (u.get R.THK_AGED_AGED +
        (u.versionFrames.filter fun f => f.version.isSome && !f.aged && decide (f.since + lim ≤ u.ticks)).length) 65535 ∧
      Dev.Frame false [.prs, .thk, .tsk, .engs] [R.THK_AGED_AGED.reg] u d) ∧
  (∀ n e, s.dev.isUp domThk = true → s.dev.noThicket = false → s.dev.thk.slots.find? (fun x => decide (s.dev.thk.walkPos ≤ x.1)) = some (n, some e) →
    ∃ d : Dev, answers .walkerVisit s d ∧ d.tslot n = (walkEntry s.dev.oldestVer e.birth e.death).map (fun x => { e with birth := x.1, death := x.2 }) ∧
      (∀ m, m ≠ n → d.tslot m = s.dev.tslot m) ∧ d.thk.walkPos = n + 1 ∧ Dev.Frame false [.thk] [] s.dev d) ∧
  (s.dev.isUp domThk = true → s.dev.noThicket = false → s.dev.thk.slots.find? (fun x => decide (s.dev.thk.walkPos ≤ x.1)) = none →
    s.dev.thk.rows.find? (fun x => decide (s.dev.thk.walkPos ≤ 1048576 + x.1)) = none → ∃ d : Dev, answers .walkerVisit s d ∧
      d.thk = { s.dev.thk with walkPos := 0, walkLive := s.dev.live } ∧ d.get R.THK_WALK_W = s.dev.thk.walkLive % 65536 ∧
      d.get R.THK_WALK_PASSES = (s.dev.get R.THK_WALK_PASSES + 1) % 65536 ∧
      d.get R.THK_STATUS_WALK_PASS = 1 - s.dev.get R.THK_STATUS_WALK_PASS ∧
      Dev.Frame false [] [R.THK_WALK_W.reg, R.THK_STATUS_WALK_PASS.reg] { s.dev with thk := d.thk } d)

/-- Tasks get engines and give them up (R320, R323, R324, R327): DISPATCH gives the first READY task an idle engine of an awake cluster;
PREEMPT_SWITCH saves the victim's context, and the task is READY again with the ready instant it had.
Its clauses rest on the model's choices in log entry 158 where those speak of its commands. -/
def Obligations.TasksRun : Prop := ∀ (s : State), s.runs →
  (∀ n t rest e, s.dev.tskRuns = true → s.dev.readyList = (n, t) :: rest → s.dev.task n = t →
    (((s.dev.usable t).filter s.dev.isUp).filterMap fun c => (enginesOf c).find? fun e => (s.dev.eng e).st == .idle).min? = some e →
    ∃ d : Dev, answers .dispatch s d.revote ∧ (d.task n).st = .running ∧ (d.task n).ctx = none ∧
      (t.ctx = none → (d.task n).flags = t.flags &&& (2 ^ 32 - 1 - t.clear % 2 ^ 32) ∧ (d.task n).dep = t.depInit ∧
        d.eng e = { Eng.idle with st := .running, task := n, pc := t.entry, scratch := (s.dev.eng e).scratch }) ∧
      (∀ c, t.ctx = some c → (d.task n).flags = t.flags ∧ (d.task n).dep = t.dep ∧
        d.eng e = { Eng.idle with st := .running, task := n, pc := c.pc, regs := c.regs, pkt := c.pkt, latch := c.latch, scratch := (s.dev.eng e).scratch }) ∧
      (∀ m, m ≠ n → d.task m = s.dev.task m) ∧ (∀ f, f ≠ e → d.eng f = s.dev.eng f) ∧
      (d.rd R.TSK_DISPATCHES).toNat = min ((s.dev.rd R.TSK_DISPATCHES).toNat + 1) (2 ^ 32 - 1) ∧
      Dev.Frame false [.tsk, .engs] [R.TSK_DISPATCHES, R.TSK_TRACE_NEXT] s.dev d) ∧
  (∀ n t rest c, s.dev.tskRuns = true → s.dev.readyList = (n, t) :: rest →
    ((s.dev.usable t).filter s.dev.isUp).filterMap (fun c => (enginesOf c).find? fun e => (s.dev.eng e).st == .idle) = [] →
    ((s.dev.usable t).filter fun c => !s.dev.isUp c && ((enginesOf c).find? fun e => (s.dev.eng e).st == .idle).isSome).min? = some c →
    c ∉ s.dev.tsk.wake → answers .dispatch s { s.dev with tsk := { s.dev.tsk with wake := s.dev.tsk.wake ++ [c] } }.revote) ∧
  (∀ n t rest e, s.dev.tskRuns = true → s.dev.readyList = (n, t) :: rest →
    (∀ c, c ∈ s.dev.usable t → ∀ e, e ∈ enginesOf c → (s.dev.eng e).st ≠ .idle) → (∀ r, r ∈ s.dev.tsk.requests → r.2.1 ≠ n) →
    s.dev.victim t (s.dev.usable t) = some e → ∃ d : Dev, answers .dispatch s d ∧
      d.tsk.requests = s.dev.tsk.requests ++ [(e, n, !(s.dev.task (s.dev.eng e).task).preempt)] ∧
      d.eng e = (if (s.dev.task (s.dev.eng e).task).preempt = true ∧ (s.dev.eng e).st = .running then { s.dev.eng e with st := .leaving } else s.dev.eng e) ∧
      (∀ f, f ≠ e → d.eng f = s.dev.eng f) ∧ d.tsk.tasks = s.dev.tsk.tasks ∧ Dev.Frame false [.tsk, .engs] [R.TSK_TRACE_NEXT] s.dev d) ∧
  (s.dev.tskRuns = true → s.dev.readyList.findSome? (fun x => s.dev.seekEngine x.1 x.2) = none → answers .dispatch s s.dev) ∧
  (∀ e x, s.dev.engs.find? (fun e => e.2.st == .leaving && e.2.ops.isEmpty) = some (e, x) → s.dev.eng e = x → x.held = none → ∃ d : Dev,
    answers .preemptSwitch s (d.leaveEngine e) ∧ (d.task x.task).st = .ready ∧ (d.task x.task).ctx = some (x.ctx e) ∧
    (d.task x.task).readyAt = (s.dev.task x.task).readyAt ∧ (∀ m, m ≠ x.task → d.task m = s.dev.task m) ∧
    d.get R.TSK_SWITCHES_PREEMPTS = min (s.dev.get R.TSK_SWITCHES_PREEMPTS + 1) 65535 ∧
    Dev.Frame false [.tsk] [R.TSK_SWITCHES_PREEMPTS.reg] s.dev d)

/-- The commands of TSK_CMD (R318, R319, R321, R331, R333) on the task that TSK_SEL names: TSK_WRITE, TSK_READ, TSK_FREE,
TSK_SET_FLAGS, TSK_CLEAR_FLAGS, TASK_RESTART.
Its clauses rest on the model's choices in log entries 156, 219 where those speak of its commands. -/
def Obligations.TaskWindow : Prop := ∀ (s : State) n t, s.runs → n = s.dev.selTask → t = s.dev.task n →
  (t.st = .free ∨ t.st = .idle → s.dev.pitchUsed (s.dev.get R.TSK_D_CTL_PITCH) = true → s.dev.get R.TSK_D_CTL_CMASK ≠ 0 →
    s.dev.get R.TSK_D_ENTRY_PC % 4 = 0 → ∃ d : Dev, answers .tskWrite s d ∧ (∃ x, d.task n = { t with
        st := if (condHolds (s.dev.rd R.TSK_D_FLAGS).toNat (s.dev.rd R.TSK_D_MASK).toNat (s.dev.is R.TSK_D_CTL_COND) &&
          s.dev.get R.TSK_D_DEP_INIT == 0) = true then .ready else .idle,
        pitch := s.dev.get R.TSK_D_CTL_PITCH, cmask := s.dev.get R.TSK_D_CTL_CMASK, prio := s.dev.get R.TSK_D_CTL_PRIO,
        preempt := s.dev.is R.TSK_D_CTL_KIND, waitAll := s.dev.is R.TSK_D_CTL_COND, entry := s.dev.get R.TSK_D_ENTRY_PC,
        mask := (s.dev.rd R.TSK_D_MASK).toNat, flags := (s.dev.rd R.TSK_D_FLAGS).toNat, clear := (s.dev.rd R.TSK_D_CLEAR).toNat,
        depInit := s.dev.get R.TSK_D_DEP_INIT, dep := s.dev.get R.TSK_D_DEP_INIT, succ := s.dev.windowSucc,
        postLimit := s.dev.get R.TSK_D_POST_LIMIT, runs := 0, ctx := none, wait := none, readyAt := x }) ∧
      (∀ m, m ≠ n → d.task m = s.dev.task m) ∧ d.get R.TSK_CMD_RESULT_RESULT = 0 ∧ d.is R.TSK_CMD_RESULT_DONE = true ∧
      Dev.Frame false [.tsk] [R.TSK_CMD_RESULT_RESULT.reg] s.dev d) ∧
  (t.st = .free ∨ t.st = .idle → s.dev.pitchUsed (s.dev.get R.TSK_D_CTL_PITCH) = false ∨ s.dev.get R.TSK_D_CTL_CMASK = 0 ∨
    s.dev.get R.TSK_D_ENTRY_PC % 4 ≠ 0 → ∃ d : Dev, answers .tskWrite s d ∧ d.get R.TSK_CMD_RESULT_RESULT = 2 ∧
    d.is R.TSK_CMD_RESULT_DONE = true ∧ Dev.Frame false [] [R.TSK_CMD_RESULT_RESULT.reg] s.dev d) ∧
  (t.st ≠ .free → t.st ≠ .idle → ∃ d : Dev, answers .tskWrite s d ∧ d.get R.TSK_CMD_RESULT_RESULT = 1 ∧ d.is R.TSK_CMD_RESULT_DONE = true ∧
    Dev.Frame false [] [R.TSK_CMD_RESULT_RESULT.reg] s.dev d) ∧
  (∃ d : Dev, answers .tskRead s d ∧ d.get R.TSK_D_CTL_PITCH = t.pitch % 16 ∧ d.get R.TSK_D_CTL_PRIO = t.prio % 16 ∧
    d.is R.TSK_D_CTL_KIND = t.preempt ∧ d.is R.TSK_D_CTL_COND = t.waitAll ∧ d.get R.TSK_D_CTL_CMASK = t.cmask % 16 ∧
    d.get R.TSK_D_CTL_STATE = t.st.code ∧ d.is R.TSK_D_CTL_CTX = t.ctx.isSome ∧
    (∀ i, i < 4 → bit (d.get R.TSK_D_CTL_SVALID) i = (t.succ.getD i default).1) ∧
    d.get R.TSK_D_ENTRY_PC = t.entry % 2 ^ 17 ∧ d.rd R.TSK_D_MASK = BitVec.ofNat 32 t.mask ∧ d.rd R.TSK_D_FLAGS = BitVec.ofNat 32 t.flags ∧
    d.rd R.TSK_D_CLEAR = BitVec.ofNat 32 t.clear ∧ d.get R.TSK_D_DEP_INIT = t.depInit % 65536 ∧ d.get R.TSK_D_DEP_COUNT = t.dep % 65536 ∧
    d.get R.TSK_D_SUCC01_SUCC_LOW = (t.succ.getD 0 default).2 % 65536 ∧ d.get R.TSK_D_SUCC01_SUCC_HIGH = (t.succ.getD 1 default).2 % 65536 ∧
    d.get R.TSK_D_SUCC23_SUCC_LOW = (t.succ.getD 2 default).2 % 65536 ∧ d.get R.TSK_D_SUCC23_SUCC_HIGH = (t.succ.getD 3 default).2 % 65536 ∧
    d.get R.TSK_D_POST_LIMIT = t.postLimit % 4096 ∧ d.get R.TSK_D_POST_POSTED = t.posts.length % 4096 ∧
    d.rd R.TSK_D_RUNS = BitVec.ofNat 32 t.runs ∧ d.get R.TSK_CMD_RESULT_RESULT = 0 ∧ d.is R.TSK_CMD_RESULT_DONE = true ∧
    Dev.Frame false [] [R.TSK_CMD_RESULT_RESULT.reg, R.TSK_D_CTL_PITCH.reg, R.TSK_D_ENTRY_PC.reg, R.TSK_D_MASK, R.TSK_D_FLAGS, R.TSK_D_CLEAR,
      R.TSK_D_DEP_INIT.reg, R.TSK_D_SUCC01_SUCC_LOW.reg, R.TSK_D_SUCC23_SUCC_LOW.reg, R.TSK_D_POST_LIMIT.reg, R.TSK_D_RUNS] s.dev d) ∧
  (t.st = .idle ∨ t.st = .faulted → ∃ d : Dev, answers .tskFree s d ∧ d.task n = .free ∧ (∀ m, m ≠ n → d.task m = s.dev.task m) ∧
    d.get R.TSK_POST_DROPS_NO_TASK = min (s.dev.get R.TSK_POST_DROPS_NO_TASK + t.posts.length) 255 ∧
    d.get R.TSK_CMD_RESULT_RESULT = 0 ∧ d.is R.TSK_CMD_RESULT_DONE = true ∧
    Dev.Frame true [.tsk] [R.TSK_CMD_RESULT_RESULT.reg, R.TSK_POST_DROPS_NO_TASK.reg, R.TSK_IRQ] s.dev d) ∧
  (t.st ≠ .idle → t.st ≠ .faulted → ∃ d : Dev, answers .tskFree s d ∧ d.get R.TSK_CMD_RESULT_RESULT = 1 ∧
    d.is R.TSK_CMD_RESULT_DONE = true ∧ Dev.Frame false [] [R.TSK_CMD_RESULT_RESULT.reg] s.dev d) ∧
  (t.st ≠ .free → ∃ d : Dev, answers .tskSetFlags s d ∧ (d.task n).flags = t.flags ||| (s.dev.rd R.TSK_D_FLAGS).toNat ∧
    (t.st = .idle → ((d.task n).st = .ready ↔ (condHolds (t.flags ||| (s.dev.rd R.TSK_D_FLAGS).toNat) t.mask t.waitAll && t.dep == 0) = true)) ∧
    (∀ m, m ≠ n → d.task m = s.dev.task m) ∧ d.get R.TSK_CMD_RESULT_RESULT = 0 ∧ d.is R.TSK_CMD_RESULT_DONE = true ∧
    Dev.Frame false [.tsk] [R.TSK_CMD_RESULT_RESULT.reg] s.dev d) ∧
  (t.st = .free → ∃ d : Dev, answers .tskSetFlags s d ∧ d.get R.TSK_EV_LOST_FLAGS = min (s.dev.get R.TSK_EV_LOST_FLAGS + 1) 65535 ∧
    d.is R.TSK_IRQ_EV_LOST = true ∧ d.get R.TSK_CMD_RESULT_RESULT = 0 ∧
    Dev.Frame true [] [R.TSK_CMD_RESULT_RESULT.reg, R.TSK_EV_LOST_FLAGS.reg, R.TSK_IRQ] s.dev d) ∧
  (t.st ≠ .free → ∃ d : Dev, answers .tskClearFlags s d ∧ (∀ i, i < 32 → bit (d.task n).flags i =
      (bit t.flags i && !bit (s.dev.rd R.TSK_D_FLAGS).toNat i)) ∧ (∀ m, m ≠ n → d.task m = s.dev.task m) ∧
    d.get R.TSK_CMD_RESULT_RESULT = 0 ∧ d.is R.TSK_CMD_RESULT_DONE = true ∧ Dev.Frame false [.tsk] [R.TSK_CMD_RESULT_RESULT.reg] s.dev d) ∧
  (t.st = .faulted → ∃ d : Dev, answers .taskRestart s d ∧ (d.task n).dep = t.depInit ∧ (d.task n).flags = t.flags ∧
    (d.task n).st = (if (condHolds t.flags t.mask t.waitAll && t.depInit == 0) = true then .ready else .idle) ∧
    (∀ m, m ≠ n → d.task m = s.dev.task m) ∧ d.get R.TSK_CMD_RESULT_RESULT = 0 ∧ d.is R.TSK_CMD_RESULT_DONE = true ∧
    Dev.Frame false [.tsk] [R.TSK_CMD_RESULT_RESULT.reg] s.dev d) ∧
  (t.st ≠ .faulted → ∃ d : Dev, answers .taskRestart s d ∧ d.get R.TSK_CMD_RESULT_RESULT = 1 ∧ d.is R.TSK_CMD_RESULT_DONE = true ∧
    Dev.Frame false [] [R.TSK_CMD_RESULT_RESULT.reg] s.dev d)

/-- Engine instructions on registers (Table 13-8, R309, R310): g(rd) takes the result, the engine goes on at PC + 4, and nothing else
changes; a write to g0 is discarded.
Its clauses rest on the model's choices in log entry 145 where those speak of its commands. -/
def Obligations.EngineArithmetic : Prop := ∀ (s : State) (e : Fin 512) (i : Ins) (x : Eng) (a b m : Word) (k : Nat) (put : Word → Eng), s.runs →
  s.dev.Fetches e i → x = s.dev.eng e → a = x.g i.rs1 → b = x.g i.rs2 → m = BitVec.ofInt 32 i.imm → k = i.imm.toNat →
  (put = fun v => { (if i.rd = 0 then x else { x with regs := sset 0 i.rd v x.regs }) with pc := x.pcNext }) →
  (i.op = .add → engDoes s (.add e) e (put (a + b))) ∧ (i.op = .sub → engDoes s (.sub e) e (put (a - b))) ∧
  (i.op = .and → engDoes s (.and_ e) e (put (a &&& b))) ∧ (i.op = .or → engDoes s (.or_ e) e (put (a ||| b))) ∧
  (i.op = .xor → engDoes s (.xor_ e) e (put (a ^^^ b))) ∧
  (i.op = .sll → engDoes s (.sll e) e (put (a <<< (b &&& 31)))) ∧ (i.op = .srl → engDoes s (.srl e) e (put (a >>> (b &&& 31)))) ∧
  (i.op = .sra → engDoes s (.sra e) e (put (a.sshiftRight (b &&& 31).toNat))) ∧
  (i.op = .slt → engDoes s (.slt e) e (put (if a.toInt < b.toInt then 1 else 0))) ∧
  (i.op = .sltu → engDoes s (.sltu e) e (put (if a.toNat < b.toNat then 1 else 0))) ∧
  (i.op = .mul → engDoes s (.mul e) e (put (BitVec.ofNat 32 (a.toNat * b.toNat)))) ∧
  (i.op = .mulhu → engDoes s (.mulhu e) e (put (BitVec.ofNat 32 (a.toNat * b.toNat / 2 ^ 32)))) ∧
  (i.op = .rev → engDoes s (.rev e) e (put (a.extractLsb' 0 8 ++ a.extractLsb' 8 8 ++ a.extractLsb' 16 8 ++ a.extractLsb' 24 8))) ∧
  (i.op = .revh → engDoes s (.revh e) e (put ((0 : BitVec 16) ++ a.extractLsb' 0 8 ++ a.extractLsb' 8 8))) ∧
  (i.op = .clz → engDoes s (.clz e) e (put (if a = 0 then 32 else BitVec.ofNat 32 (31 - a.toNat.log2)))) ∧
  (i.op = .popc → engDoes s (.popc e) e (put (BitVec.ofNat 32 ((List.range 32).filter fun n => a.getLsbD n).length))) ∧
  (i.op = .addi → engDoes s (.addi e) e (put (a + m))) ∧ (i.op = .andi → engDoes s (.andi e) e (put (a &&& m))) ∧
  (i.op = .ori → engDoes s (.ori e) e (put (a ||| m))) ∧ (i.op = .xori → engDoes s (.xori e) e (put (a ^^^ m))) ∧
  (i.op = .slli → engDoes s (.slli e) e (put (a <<< (m &&& 31)))) ∧ (i.op = .srli → engDoes s (.srli e) e (put (a >>> (m &&& 31)))) ∧
  (i.op = .srai → engDoes s (.srai e) e (put (a.sshiftRight (m &&& 31).toNat))) ∧
  (i.op = .slti → engDoes s (.slti e) e (put (if a.toInt < m.toInt then 1 else 0))) ∧
  (i.op = .sltiu → engDoes s (.sltiu e) e (put (if a.toNat < m.toNat then 1 else 0))) ∧
  (i.op = .bext → engDoes s (.bext e) e (put (BitVec.ofNat 32 (a.toNat / 2 ^ (k % 32) % 2 ^ (k / 32 % 32 + 1))))) ∧
  (i.op = .bins → ∃ v : Word, engDoes s (.bins e) e (put v) ∧ ∀ n, n < 32 → v.getLsbD n =
    if k % 32 ≤ n ∧ n ≤ k % 32 + k / 32 % 32 then a.getLsbD (n - k % 32) else (x.g i.rd).getLsbD n) ∧
  (i.op = .lui → engDoes s (.lui e) e (put (m * 2048))) ∧
  (i.op = .evget → engDoes s (.evget e) e (put (BitVec.ofNat 32 (s.dev.task x.task).flags))) ∧
  (i.op = .tsrh → engDoes s (.tsrh e) e (put (BitVec.ofNat 32 x.latch))) ∧
  (i.op = .tsr → engDoes s (.tsr e) e { (x.setG i.rd (BitVec.ofNat 32 s.dev.now.ns)).setG (i.rd + 1) (BitVec.ofNat 32 s.dev.now.sec) with
    latch := s.dev.now.sec / 2 ^ 32 % 65536, pc := x.pcNext })

/-- Branches, JAL and JALR (R309, R287): targets count from the instruction, modulo 131,072; a JALR to an address that is not a
multiple of 4 traps ALIGN with sub-cause 1, and its task is FAULTED (R312, R313).
Its clauses rest on the model's choices in log entry 145 where those speak of its commands. -/
def Obligations.EngineBranches : Prop := ∀ (s : State) (e : Fin 512) (i : Ins) (x : Eng) (a b : Word) (t : Nat) (go : Bool → Eng), s.runs →
  s.dev.Fetches e i → x = s.dev.eng e → a = x.g i.rs1 → b = x.g i.rs2 → t = ((x.pc + 4 * i.imm) % 131072).toNat →
  (go = fun taken => { x with pc := if taken = true then t else x.pcNext }) →
  (i.op = .beq → engDoes s (.beq e) e (go (decide (a = b)))) ∧ (i.op = .bne → engDoes s (.bne e) e (go (decide (a ≠ b)))) ∧
  (i.op = .blt → engDoes s (.blt e) e (go (decide (a.toInt < b.toInt)))) ∧ (i.op = .bge → engDoes s (.bge e) e (go (decide (b.toInt ≤ a.toInt)))) ∧
  (i.op = .bltu → engDoes s (.bltu e) e (go (decide (a.toNat < b.toNat)))) ∧ (i.op = .bgeu → engDoes s (.bgeu e) e (go (decide (b.toNat ≤ a.toNat)))) ∧
  (i.op = .jal → engDoes s (.jal e) e { x.setG i.rd (BitVec.ofNat 32 x.pcNext) with pc := t }) ∧
  (i.op = .jalr → (a + BitVec.ofInt 32 i.imm).toNat % 4 = 0 →
    engDoes s (.jalr e) e { x.setG i.rd (BitVec.ofNat 32 x.pcNext) with pc := (a + BitVec.ofInt 32 i.imm).toNat % 131072 }) ∧
  (i.op = .jalr → (a + BitVec.ofInt 32 i.imm).toNat % 4 ≠ 0 → x.ops = [] → x.pkt.item = none → x.pc < 131072 →
    s.dev.is (R.ENG_c_TRAP_VALID (e.val / 16)) = false → ∃ d : Dev, answers (.jalr e) s (d.leaveEngine e) ∧
      d.is (R.ENG_c_TRAP_VALID (e.val / 16)) = true ∧ d.get (R.ENG_c_TRAP_CAUSE (e.val / 16)) = 4 ∧ d.get (R.ENG_c_TRAP_SUB (e.val / 16)) = 1 ∧
      d.get (R.ENG_c_TRAP_ENGINE (e.val / 16)) = e.val % 16 ∧ d.get (R.ENG_c_TRAP_PC_PC (e.val / 16)) = x.pc ∧
      d.get (R.ENG_c_TRAP_TASK_TASK (e.val / 16)) = x.task % 65536 ∧ d.rd (R.ENG_c_TRAP_ADDR (e.val / 16)) = a + BitVec.ofInt 32 i.imm ∧
      d.rd (R.ENG_c_TRAP_WORD (e.val / 16)) = BitVec.ofNat 32 (s.dev.wordAt e) ∧ (d.task x.task).st = .faulted ∧
      (d.rd R.TSK_FAULTS).toNat = min ((s.dev.rd R.TSK_FAULTS).toNat + 1) (2 ^ 32 - 1) ∧
      (∀ n, n ≠ x.task → d.task n = s.dev.task n) ∧ (∀ f, d.eng f = s.dev.eng f) ∧ d.is R.ENG_IRQ_TRAP = true ∧ d.is R.TSK_IRQ_FAULT = true ∧
      Dev.Frame true [.tsk, .engs] [(R.ENG_c_TRAP_VALID (e.val / 16)).reg, (R.ENG_c_TRAP_PC_PC (e.val / 16)).reg, (R.ENG_c_TRAP_TASK_TASK (e.val / 16)).reg,
        R.ENG_c_TRAP_ADDR (e.val / 16), R.ENG_c_TRAP_WORD (e.val / 16), (R.ENG_c_TRAP_COUNTS_TRAPS (e.val / 16)).reg, R.ENG_IRQ_TRAP.reg, R.TSK_IRQ,
        R.TSK_FAULTS, R.TSK_TRACE_CFG, R.TSK_TRACE_NEXT] s.dev d)

/-- Loads and CRC instructions (R286, R287, R307): g(rd) takes the bytes from memory, extended, or is updated over them; memory is as
before.
Its clauses rest on the model's choices in log entries 13, 145, 146 where those speak of its commands. -/
def Obligations.EngineLoads : Prop := ∀ (s : State) (e : Fin 512) (i : Ins) (x : Eng) (c a : Nat) (read : Nat → List Byte) (reads : Instr → Word → Prop),
  s.runs → s.dev.Fetches e i → x = s.dev.eng e → c = e.val / 16 → a = (x.g i.rs1 + BitVec.ofInt 32 i.imm).toNat →
  (read = fun n => s.dev.rawBytes c (.engine e) a n) →
  (reads = fun k v => ∃ d : Dev, answers k s d ∧
    Dev.Retires false true [] [] s.dev e { (if i.rd = 0 then x else { x with regs := sset 0 i.rd v x.regs }) with pc := x.pcNext } d ∧
    (d.eng e).scratch = x.scratch ∧ (d.cluster c).shared = (s.dev.cluster c).shared ∧ (d.cluster c).virt = (s.dev.cluster c).virt) →
  (i.op = .lb → s.dev.Reaches e a 1 → reads (.lb e) (BitVec.signExtend 32 (BitVec.ofNat 8 (ofLe (read 1))))) ∧
  (i.op = .lbu → s.dev.Reaches e a 1 → reads (.lbu e) (BitVec.ofNat 32 (ofLe (read 1)))) ∧
  (i.op = .lh → a % 2 = 0 → s.dev.Reaches e a 2 → reads (.lh e) (BitVec.signExtend 32 (BitVec.ofNat 16 (ofLe (read 2))))) ∧
  (i.op = .lhu → a % 2 = 0 → s.dev.Reaches e a 2 → reads (.lhu e) (BitVec.ofNat 32 (ofLe (read 2)))) ∧
  (i.op = .lw → a % 4 = 0 → s.dev.Reaches e a 4 → reads (.lw e) (BitVec.ofNat 32 (ofLe (read 4)))) ∧
  (∀ n, n = (x.g i.rs2).toNat → 0 < n → n ≤ 4096 → i.imm = 0 → s.dev.Reaches e a n →
    (i.op = .crc32c → reads (.crc32c e) (BitVec.ofNat 32 ((read n).foldl (crcByte 0x82F63B78) (x.g i.rd).toNat))) ∧
    (i.op = .crc32 → reads (.crc32 e) (BitVec.ofNat 32 ((read n).foldl (crcByte 0xEDB88320) (x.g i.rd).toNat))) ∧
    (i.op = .crc16 → reads (.crc16 e) (BitVec.ofNat 32 ((read n).foldl crc16Byte ((x.g i.rd).toNat % 65536))))) ∧
  (x.g i.rs2 = 0 → (i.op = .crc32c → engDoes s (.crc32c e) e { x with pc := x.pcNext }) ∧
    (i.op = .crc32 → engDoes s (.crc32 e) e { x with pc := x.pcNext }) ∧ (i.op = .crc16 → engDoes s (.crc16 e) e { x with pc := x.pcNext }))

/-- Stores, atomics and FENCE (R286, R287, R300, R453 to R455): SB, SH, and SW to the high half of a protected word, write their bytes
and no other; SW to the low half is held, the SW to the high half right after it completes one full-word write, and FENCE merges it.
Its clauses rest on the model's choices in log entries 145, 146, 215 where those speak of its commands. -/
def Obligations.EngineStores : Prop := ∀ (s : State) (e : Fin 512) (i : Ins) (x y : Eng) (c a : Nat) (w : Word) (writes : Instr → Nat → List Byte → Eng → Prop),
  s.runs → s.dev.Fetches e i → x = s.dev.eng e → c = e.val / 16 → a = (x.g i.rs1 + BitVec.ofInt 32 i.imm).toNat → w = x.g i.rs2 →
  y = { x with pc := x.pcNext } →
  (writes = fun k b v z => ∃ d : Dev, answers k s d ∧ Dev.Retires false true [] [] s.dev e z d ∧ s.dev.Stored e b v d) →
  (i.op = .sb → s.dev.Reaches e a 1 → writes (.sb e) a (le 1 w.toNat) y) ∧
  (i.op = .sh → a % 2 = 0 → s.dev.Reaches e a 2 → writes (.sh e) a (le 2 w.toNat) y) ∧
  (i.op = .sw → a % 8 = 4 → s.dev.Reaches e a 4 → writes (.sw e) a (le 4 w.toNat) y) ∧
  (i.op = .sw → a % 8 = 0 → s.dev.Reaches e a 4 →
    engDoes s (.sw e) e { y with held := some { addr := a, val := w.toNat, pc := x.pc, word := s.dev.wordAt e } }) ∧
  (i.imm = 0 → region a = .shared → a % 4 = 0 → s.dev.Reaches e a 4 → ∀ (old : Word), old = BitVec.ofNat 32 (ofLe (s.dev.rawBytes c (.engine e) a 4)) →
    ∀ (z : Eng), z = { (if i.rd = 0 then x else { x with regs := sset 0 i.rd old x.regs }) with pc := x.pcNext } →
    (i.op = .aadd → writes (.aadd e) a (le 4 (old + w).toNat) z) ∧ (i.op = .aand → writes (.aand e) a (le 4 (old &&& w).toNat) z) ∧
    (i.op = .aor → writes (.aor e) a (le 4 (old ||| w).toNat) z) ∧ (i.op = .aswap → writes (.aswap e) a (le 4 w.toNat) z) ∧
    (i.op = .acas → writes (.acas e) a (le 4 (if old = x.g i.rd then w else old).toNat) z)) ∧
  (i.op = .fence → x.ops = [] → engDoes s (.fence e) e y) ∧
  (i.op = .fence → x.ops ≠ [] → ∃ d : Dev, answers (.fence e) s d ∧ d.eng e = { x with st := .stalled } ∧
    (∀ f, f ≠ e.val → d.eng f = s.dev.eng f) ∧ Dev.Frame false [.engs] [] s.dev d) ∧
  (∀ (t : State) (h : HeldStore), t = { s with dev := s.dev.setEng e { x with held := some h } } → h.addr % 8 = 0 → s.dev.Reaches e h.addr 8 →
    (i.op = .sw → a = h.addr + 4 → ∃ d : Dev, answers (.sw e) t d ∧ Dev.Retires false true [] [] s.dev e y d ∧
      s.dev.Stored e h.addr (le 4 h.val ++ le 4 w.toNat) d) ∧
    (i.op = .fence → x.ops = [] → ∃ d : Dev, answers (.fence e) t d ∧ Dev.Retires false true [] [] s.dev e y d ∧ s.dev.Stored e h.addr (le 4 h.val) d))

/-- Instructions on tasks (R304, R319, R322, R327 to R330): EVSET and EVCLR; EVWAIT goes on or leaves the engine WAITING with its
context; YIELDPT goes on, or gives way where the scheduler asked; END completes the task and decrements its successors' DEP.
Its clauses rest on the model's choices in log entries 145, 147, 149 where those speak of its commands. -/
def Obligations.EngineTasks : Prop := ∀ (s : State) (e : Fin 512) (i : Ins) (x : Eng) (n : Nat) (a b : Word), s.runs → s.dev.Fetches e i →
  x = s.dev.eng e → n = x.task → a = x.g i.rs1 → b = x.g i.rs2 →
  (i.op = .evset → (s.dev.task (a.toNat % 65536)).st ≠ .free → ∃ d : Dev, answers (.evset e) s d ∧
    (d.task (a.toNat % 65536)).flags = (s.dev.task (a.toNat % 65536)).flags ||| 2 ^ (b.toNat % 32) ∧
    (∀ m, m ≠ a.toNat % 65536 → d.task m = s.dev.task m) ∧ Dev.Retires false false [.tsk] [] s.dev e { x with pc := x.pcNext } d) ∧
  (i.op = .evset → (s.dev.task (a.toNat % 65536)).st = .free → ∃ d : Dev, answers (.evset e) s d ∧
    d.get R.TSK_EV_LOST_FLAGS = min (s.dev.get R.TSK_EV_LOST_FLAGS + 1) 65535 ∧ d.is R.TSK_IRQ_EV_LOST = true ∧
    Dev.Retires true false [] [R.TSK_EV_LOST_FLAGS.reg, R.TSK_IRQ] s.dev e { x with pc := x.pcNext } d) ∧
  (i.op = .evclr → (s.dev.task n).st ≠ .free → ∃ d : Dev, answers (.evclr e) s d ∧
    (∀ k, k < 32 → bit (d.task n).flags k = (bit (s.dev.task n).flags k && !a.getLsbD k)) ∧
    (∀ m, m ≠ n → d.task m = s.dev.task m) ∧ Dev.Retires false false [.tsk] [] s.dev e { x with pc := x.pcNext } d) ∧
  (∀ c all, (c = .evwaitAny e ∧ i.op = .evwaitAny ∧ all = false) ∨ (c = .evwaitAll e ∧ i.op = .evwaitAll ∧ all = true) →
    (condHolds (s.dev.task n).flags a.toNat all = true → engDoes s c e { x with pc := x.pcNext }) ∧
    (condHolds (s.dev.task n).flags a.toNat all = false → x.ops = [] → ∃ d : Dev, answers c s ((d.leaveEngine e).retire e) ∧
      (d.task n).st = .waiting ∧ (d.task n).wait = some (a.toNat, all) ∧ (d.task n).ctx = some (Eng.ctx e { x with pc := x.pcNext }) ∧
      (d.task n).flags = (s.dev.task n).flags ∧ (∀ m, m ≠ n → d.task m = s.dev.task m) ∧ Dev.Frame false [.tsk] [R.TSK_TRACE_NEXT] s.dev d) ∧
    (condHolds (s.dev.task n).flags a.toNat all = false → x.ops ≠ [] → ∃ d : Dev, answers c s d ∧ d.eng e = { x with st := .stalled } ∧
      (∀ f, f ≠ e.val → d.eng f = s.dev.eng f) ∧ Dev.Frame false [.engs] [] s.dev d)) ∧
  (i.op = .yieldpt → (∀ r, r ∈ s.dev.tsk.requests → r.1 = e.val → r.2.2 = false) → engDoes s (.yieldpt e) e { x with pc := x.pcNext }) ∧
  (∀ m, i.op = .yieldpt → (e.val, m, true) ∈ s.dev.tsk.requests → x.ops ≠ [] → ∃ d : Dev, answers (.yieldpt e) s d ∧
    d.eng e = { x with st := .stalled } ∧ (∀ f, f ≠ e.val → d.eng f = s.dev.eng f) ∧ Dev.Frame false [.engs] [] s.dev d) ∧
  (∀ m, i.op = .yieldpt → (e.val, m, true) ∈ s.dev.tsk.requests → x.ops = [] → ∃ d : Dev, answers (.yieldpt e) s ((d.leaveEngine e).retire e) ∧
    (d.task n).st = .ready ∧ (d.task n).ctx = some (Eng.ctx e { x with pc := x.pcNext }) ∧ (d.task n).readyAt = (s.dev.task n).readyAt ∧
    (∀ k, k ≠ n → d.task k = s.dev.task k) ∧ d.get R.TSK_SWITCHES_YIELDS = min (s.dev.get R.TSK_SWITCHES_YIELDS + 1) 65535 ∧
    Dev.Frame false [.tsk, .engs] [R.TSK_SWITCHES_YIELDS.reg, R.TSK_TRACE_NEXT] s.dev d) ∧
  (∀ su, i.op = .end_ → x.ops = [] → su = ((s.dev.task n).succ.filter (·.1)).map (·.2) → ∃ d : Dev,
    answers (.end_ e) s ((d.leaveEngine e s.dev.tsk.readySeq).retire e) ∧
    (d.rd R.TSK_COMPLETES).toNat = min ((s.dev.rd R.TSK_COMPLETES).toNat + 1) (2 ^ 32 - 1) ∧
    (d.task n).runs = ((s.dev.task n).runs + 1) % 2 ^ 32 ∧ (d.task n).ctx = none ∧
    ((d.task n).st = .ready ↔ (condHolds (d.task n).flags (d.task n).mask (d.task n).waitAll && (d.task n).dep == 0) = true) ∧
    ((d.task n).st = .ready ∨ (d.task n).st = .idle) ∧ (d.task n).flags = (s.dev.task n).flags ∧
    (∀ m, m ∈ su → m = n ∨ (s.dev.task m).st ≠ .free → (d.task m).dep = (s.dev.task m).dep - su.count m) ∧
    (∀ m, m ≠ n → m ∉ su → d.task m = s.dev.task m) ∧
    Dev.Frame true [.tsk] [R.TSK_EV_LOST_DEP.reg, R.TSK_IRQ, R.TSK_DEP_SAT, R.TSK_COMPLETES, R.TSK_TRACE_NEXT, (R.ENG_c_PKT_LOST_ORPHAN (e.val / 16)).reg] s.dev d)

/-- Virtual pages and the cluster window (R288, R289, R291, R292): PALLOC finds free pages at a place of hardware's choice (a free value,
log entry 2), or fails; PFREE releases an allocation with its content; PAGE_FILL_DONE; WINDOW_WRITE is discarded and counted.
Its clauses rest on the model's choices in log entries 2, 13, 146, 151 where those speak of its commands. -/
def Obligations.EnginePages : Prop := ∀ (s : State) (c : Fin 32), s.runs →
  (∀ (e : Fin 512) (i : Ins) (x : Eng) (a : Word) (k : Cluster) n (put : Word → Eng), e.val / 16 = c.val → s.dev.Fetches e i → x = s.dev.eng e →
    a = x.g i.rs1 → k = s.dev.cluster c → n = (a.toNat + 4095) / 4096 →
    (put = fun v => { (if i.rd = 0 then x else { x with regs := sset 0 i.rd v x.regs }) with pc := x.pcNext }) →
    (i.op = .palloc → a = 0 → engDoes s (.palloc e) e (put 0)) ∧
    (i.op = .palloc → a ≠ 0 → s.dev.get (R.ENG_c_QUOTA_VALUE c) < k.pages + n → ∃ d : Dev, answers (.palloc e) s d ∧
      d.get (R.ENG_c_ALLOC_FAIL_QUOTA c) = min (s.dev.get (R.ENG_c_ALLOC_FAIL_QUOTA c) + 1) 65535 ∧
      Dev.Retires false false [] [(R.ENG_c_ALLOC_FAIL_QUOTA c).reg] s.dev e (put 1) d) ∧
    (i.op = .palloc → a ≠ 0 → k.pages + n ≤ s.dev.get (R.ENG_c_QUOTA_VALUE c) → (∀ p, k.fits p n = false) → ∃ d : Dev, answers (.palloc e) s d ∧
      d.get (R.ENG_c_ALLOC_FAIL_SPACE c) = min (s.dev.get (R.ENG_c_ALLOC_FAIL_SPACE c) + 1) 255 ∧
      Dev.Retires false false [] [(R.ENG_c_ALLOC_FAIL_SPACE c).reg] s.dev e (put 2) d) ∧
    (i.op = .palloc → a ≠ 0 → k.pages + n ≤ s.dev.get (R.ENG_c_QUOTA_VALUE c) → (∃ p, k.fits p n = true) → 1024 ≤ k.allocs.length → ∃ d : Dev,
      answers (.palloc e) s d ∧ d.get (R.ENG_c_ALLOC_FAIL_TABLE c) = min (s.dev.get (R.ENG_c_ALLOC_FAIL_TABLE c) + 1) 255 ∧
      Dev.Retires false false [] [(R.ENG_c_ALLOC_FAIL_TABLE c).reg] s.dev e (put 3) d) ∧
    (i.op = .palloc → a ≠ 0 → k.pages + n ≤ s.dev.get (R.ENG_c_QUOTA_VALUE c) → (∃ p, k.fits p n = true) → k.allocs.length < 1024 → ∃ (d : Dev) (p : Nat),
      answers (.palloc e) s d ∧ k.fits p n = true ∧ d.eng e = (put (BitVec.ofNat 32 (4096 * p))).after s.dev e ∧
      (d.cluster c).allocs = k.allocs ++ [{ page := p, pages := n }] ∧ (d.cluster c).virt = k.virt ∧ (∀ f, f ≠ e.val → d.eng f = s.dev.eng f) ∧
      (∀ m, m ≠ c.val → d.cluster m = s.dev.cluster m) ∧ Dev.Frame false [.engs, .clusters, .free] [R.ENG_c_RETIRED c] s.dev d) ∧
    (∀ l, i.op = .pfree → k.allocs.find? (fun l => 4096 * l.page == a.toNat) = some l → ∃ d : Dev, answers (.pfree e) s d ∧ d.eng e = (put 0).after s.dev e ∧
      (d.cluster c).allocs = k.allocs.erase l ∧
      (∀ b, sget 0 b (d.cluster c).virt = if 4096 * l.page ≤ b ∧ b < 4096 * (l.page + l.pages) then 0 else sget 0 b k.virt) ∧
      (∀ p, p ∈ (d.cluster c).pcache ↔ p ∈ k.pcache ∧ ¬ (l.page ≤ p.1 ∧ p.1 < l.page + l.pages)) ∧ (d.cluster c).shared = k.shared ∧
      (∀ f, f ≠ e.val → d.eng f = s.dev.eng f) ∧ (∀ m, m ≠ c.val → d.cluster m = s.dev.cluster m) ∧
      Dev.Frame false [.engs, .clusters] [R.ENG_c_RETIRED c] s.dev d) ∧
    (i.op = .pfree → k.allocs.find? (fun l => 4096 * l.page == a.toNat) = none → engDoes s (.pfree e) e (put 1))) ∧
  (∀ p, (∃ x, x ∈ s.dev.engs ∧ x.1 / 16 = c.val ∧ x.2.page = some p) → s.dev.isUp c = true → ∃ d : Dev, answers (.pageFillDone c p []) s d ∧
    (d.cluster c).pcache.any (fun y => y.1 == p) = true ∧ (d.cluster c).virt = (s.dev.cluster c).virt ∧
    d.engs = s.dev.engs.map (fun x => if x.1 / 16 = c.val ∧ x.2.page = some p
      then (x.1, { x.2 with st := if x.2.st = .stalled then .running else x.2.st, page := none }) else x) ∧
    Dev.Frame false [.engs, .clusters] [(R.ENG_c_PCACHE_FILLS c).reg] s.dev d) ∧
  (∀ (o : Fin 32768) v, s.dev.pitchUsed (c.val / 4 + 1) = true → s.dev.open_ (0x2000000 + 0x100000 * c.val + 4 * o.val) → ∃ d : Dev,
    answers (.windowWrite c o v) s d ∧ (d.rd R.ENG_WIN_WRITES).toNat = min ((s.dev.rd R.ENG_WIN_WRITES).toNat + 1) (2 ^ 32 - 1) ∧
    d.is R.ENG_IRQ_WIN_WRITE = true ∧ Dev.Frame true [] [R.ENG_WIN_WRITES, R.ENG_IRQ] s.dev d)

/-- Packet space and the fate of a frame (R219, R294 to R298): LBP, LHP, LWP, SBP, SHP, SWP, PNEXT, PNEW, PHEAD, PLEN, PSEND, PRECIRC,
PDROP.
Its clauses rest on the model's choices in log entries 145, 150 where those speak of its commands. -/
def Obligations.EnginePackets : Prop := ∀ (s : State) (e : Fin 512) (i : Ins) (x : Eng) (c o : Nat) (a : Word) (put : Nat → PktCtx → Eng), s.runs →
  s.dev.Fetches e i → x = s.dev.eng e → c = e.val / 16 → a = x.g i.rs1 → o = (a + BitVec.ofInt 32 i.imm).toNat →
  (put = fun v k => { (if i.rd = 0 then x else { x with regs := sset 0 i.rd (BitVec.ofNat 32 v) x.regs }) with pc := x.pcNext, pkt := k }) →
  (i.op = .lbp → o + 1 ≤ 512 → engDoes s (.lbp e) e (put (leAt x.pkt.space o 1) x.pkt)) ∧
  (i.op = .lhp → o + 2 ≤ 512 → engDoes s (.lhp e) e (put (leAt x.pkt.space o 2) x.pkt)) ∧
  (i.op = .lwp → o + 4 ≤ 512 → engDoes s (.lwp e) e (put (leAt x.pkt.space o 4) x.pkt)) ∧
  (∀ k n, (k = .sbp e ∧ i.op = .sbp ∧ n = 1) ∨ (k = .shp e ∧ i.op = .shp ∧ n = 2) ∨ (k = .swp e ∧ i.op = .swp ∧ n = 4) →
    (∀ f, x.pkt.frame = some f → o + n ≤ 256 → o + n ≤ f.bytes.length →
      engDoes s k e { x with pkt := x.pkt.withBytes (f.bytes.take o ++ le n (x.g i.rs2).toNat ++ f.bytes.drop (o + n)), pc := x.pcNext }) ∧
    (0x180 ≤ o → o + n ≤ 0x1C0 → x.pkt.desc.length = 64 →
      engDoes s k e { x with pkt := { x.pkt with desc := x.pkt.desc.take (o - 0x180) ++ le n (x.g i.rs2).toNat ++ x.pkt.desc.drop (o - 0x180 + n) }, pc := x.pcNext }) ∧
    (0x100 ≤ o → o + n ≤ 0x180 → engDoes s k e { x with pc := x.pcNext })) ∧
  (i.op = .pnext → x.pkt.frame.isSome = true → engDoes s (.pnext e) e (put 4 x.pkt)) ∧
  (i.op = .pnext → x.pkt.frame = none → (s.dev.task x.task).posts = [] → engDoes s (.pnext e) e (put 3 .empty)) ∧
  (∀ p rest, i.op = .pnext → x.pkt.frame = none → (s.dev.task x.task).posts = p :: rest → ∃ d : Dev, answers (.pnext e) s d ∧
    d.task x.task = { s.dev.task x.task with posts := rest } ∧ (∀ m, m ≠ x.task → d.task m = s.dev.task m) ∧
    Dev.Retires false false [.tsk] [] s.dev e (put 0 { item := some p, desc := (Action.of p.action).sendDesc, prepended := 0 }) d) ∧
  (i.op = .pnew → x.pkt.item = none → 1 ≤ a.toNat → a.toNat ≤ 256 → ∃ f p, engDoes s (.pnew e) e (put 0 { PktCtx.empty with item := some p }) ∧
    p = { frame := some f, key := [], info := [], action := 0, gen := 0, cells := 0 } ∧ f.bytes = List.replicate a.toNat 0 ∧ f.second = false) ∧
  (i.op = .pnew → x.pkt.item = none → a.toNat = 0 ∨ 256 < a.toNat → engDoes s (.pnew e) e (put 2 x.pkt)) ∧
  (∀ f, i.op = .phead → x.pkt.frame = some f → 0 < a.toInt → a.toInt + 1 ≤ f.bytes.length →
    engDoes s (.phead e) e (put 0 { x.pkt.withBytes (f.bytes.drop a.toNat) with prepended := x.pkt.prepended - a.toInt })) ∧
  (∀ f, i.op = .phead → x.pkt.frame = some f → 0 < a.toInt → f.bytes.length < a.toInt + 1 → engDoes s (.phead e) e (put 2 x.pkt)) ∧
  (∀ f (n : Nat), i.op = .phead → x.pkt.frame = some f → a.toInt = -(n : Int) → x.pkt.prepended + n ≤ 64 → f.bytes.length + n ≤ 9744 →
    engDoes s (.phead e) e (put 0 { x.pkt.withBytes (List.replicate n 0 ++ f.bytes) with prepended := x.pkt.prepended + n })) ∧
  (∀ f, i.op = .plen → x.pkt.frame = some f → 1 ≤ a.toNat → a.toNat ≤ max f.bytes.length 256 →
    engDoes s (.plen e) e (put 0 (x.pkt.withBytes (f.bytes.take a.toNat ++ List.replicate (a.toNat - f.bytes.length) 0)))) ∧
  (∀ f, i.op = .psend → x.pkt.frame = some f → s.dev.sendDescOf x.pkt.desc = none → ∃ d : Dev, answers (.psend e) s d ∧
    d.get (R.ENG_c_PKT_LOST_ARG c) = min (s.dev.get (R.ENG_c_PKT_LOST_ARG c) + 1) 255 ∧
    Dev.Retires false false [] [(R.ENG_c_PKT_LOST_ARG c).reg] s.dev e (put 2 x.pkt) d) ∧
  (∀ f p desc t u, i.op = .psend → x.pkt.frame = some f → s.dev.sendDescOf x.pkt.desc = some (p, desc) →
    t = s.dev.setEng e { x with pkt := .empty } →
    u = t.send p desc f (match x.pkt.item with | some j => j.info | none => []) → ∃ d : Dev, answers (.psend e) s d ∧ d.eng e = (put 0 .empty).after s.dev e ∧
    (d.rd (R.ENG_c_PKT_SENT c)).toNat = min ((s.dev.rd (R.ENG_c_PKT_SENT c)).toNat + 1) (2 ^ 32 - 1) ∧
    (p = true → s.dev.sup.mode.traffic = true → s.dev.pwr.closed = false → t.parseHeld = false →
      d.prs.user = s.dev.prs.user ++ [Frame.first_ clsHost 0 f.bytes s.dev.now]) ∧
    Dev.Frame false [.engs, .clusters] [R.ENG_c_PKT_SENT c, R.ENG_c_RETIRED c] u d) ∧
  (∀ f, i.op = .precirc → x.pkt.frame = some f → f.second = true → ∃ d : Dev, answers (.precirc e) s d ∧
    d.get R.PRS_RECIRC_DROPPED = min (s.dev.get R.PRS_RECIRC_DROPPED + 1) (2 ^ R.PRS_RECIRC_DROPPED.w - 1) ∧ d.is R.PRS_IRQ_RECIRC_DROP = true ∧
    Dev.Retires true false [] [R.PRS_RECIRC_DROPPED.reg, R.PRS_IRQ_RECIRC_DROP.reg] s.dev e (put 5 .empty) d) ∧
  (∀ f, i.op = .precirc → x.pkt.frame = some f → f.second = false →
    (s.dev.sup.mode.traffic = true ∨ s.dev.sup.mode = .test ∧ s.dev.overLoop f = true) → s.dev.pwr.closed = false → ∃ d : Dev,
    answers (.precirc e) s d ∧ (d.rd (R.ENG_c_PKT_SENT c)).toNat = min ((s.dev.rd (R.ENG_c_PKT_SENT c)).toNat + 1) (2 ^ 32 - 1) ∧
    (if f.first = clsLine then d.prs.line = s.dev.prs.line ++ [{ f with cls := clsRecirc, second := true }] ∧ d.prs.user = s.dev.prs.user
     else d.prs.user = s.dev.prs.user ++ [{ f with cls := clsRecirc, second := true }] ∧ d.prs.line = s.dev.prs.line) ∧
    Dev.Retires false false [.prs] [R.ENG_c_PKT_SENT c] s.dev e (put 0 .empty) d) ∧
  (i.op = .pdrop → x.pkt.frame.isSome = true → ∃ d : Dev, answers (.pdrop e) s d ∧
    d.get (R.ENG_c_PKT_LOST_DROPPED c) = min (s.dev.get (R.ENG_c_PKT_LOST_DROPPED c) + 1) 65535 ∧
    Dev.Retires false false [] [(R.ENG_c_PKT_LOST_DROPPED c).reg] s.dev e (put 0 .empty) d) ∧
  (∀ k, x.pkt.frame = none → (k = .phead e ∧ i.op = .phead) ∨ (k = .plen e ∧ i.op = .plen) ∨ (k = .psend e ∧ i.op = .psend) ∨
    (k = .precirc e ∧ i.op = .precirc) ∨ (k = .pdrop e ∧ i.op = .pdrop) → engDoes s k e (put 1 x.pkt))

/-- Lookups, operations and commits of engines, and messages (R301 to R306): TLKP, TOP, TCOMMIT join the outstanding operations;
ASYNC_COMPLETE ends the next one; MSEND_TASK, MSEND_HOST, MSEND_NODE, MRECV.
Its clauses rest on the model's choices in log entries 45, 147, 148 where those speak of its commands. -/
def Obligations.EngineOperations : Prop := ∀ (s : State) (e : Fin 512) (x : Eng), s.runs → x = s.dev.eng e →
  s.dev.isUp domThk = true → s.dev.get R.PWR_LINGER_US = 0 →
  (∀ i t, s.dev.Fetches e i → i.op = .tlkp → (x.g i.rs1).toNat % 4 = 0 → (x.g i.rs2).toNat % 4 = 0 →
    s.dev.unmapped (e.val / 16) (.engine e) (x.g i.rs2).toNat 20 = none → s.dev.Reaches e (x.g i.rs1).toNat 40 → x.ops.length < 4 → x.pkt.frame = none →
    t = i.func % 64 → s.dev.is (R.THK_TMPLn_CFG_DEFINED t) = true → s.dev.draining 10 = false →
    s.dev.missing t (padTo 40 ((s.dev.rawBytes (e.val / 16) (.engine e) (x.g i.rs1).toNat 40).take (s.dev.get (R.THK_TMPLn_CFG_KLEN t)))) = [] →
    (∀ b, b ∈ s.dev.thk.cached → s.dev.cleanBucket b) → ∃ d : Dev, answers (.tlkp e) s d ∧ (d.rd R.THK_LOOKUPS).toNat = min ((s.dev.rd R.THK_LOOKUPS).toNat + 1) (2 ^ 32 - 1) ∧
    Dev.Retires false true [] [R.THK_LOOKUPS] s.dev e { x with pc := x.pcNext, ops := x.ops ++ [Async.mk i.rd
      (.lookup (EngLookup.mk t (bit i.func 6) (s.dev.rawBytes (e.val / 16) (.engine e) (x.g i.rs1).toNat 40) (x.g i.rs2).toNat s.dev.live 1))
      x.pc (s.dev.wordAt e) (x.g i.rs1).toNat] } d) ∧
  (∀ i, s.dev.Fetches e i → i.op = .top → (x.g i.rs1).toNat % 8 = 0 → s.dev.Reaches e (x.g i.rs1).toNat 64 → x.ops.length < 4 → ∃ d : Dev,
    answers (.top e) s d ∧ Dev.Retires false true [] [] s.dev e { x with pc := x.pcNext, ops := x.ops ++ [Async.mk i.rd
      (.op (s.dev.rawBytes (e.val / 16) (.engine e) (x.g i.rs1).toNat 64)) x.pc (s.dev.wordAt e) (x.g i.rs1).toNat] } d) ∧
  (∀ i, s.dev.Fetches e i → i.op = .tcommit → x.ops.length < 4 →
    engDoes s (.tcommit e) e { x with pc := x.pcNext, ops := x.ops ++ [Async.mk i.rd .commit x.pc (s.dev.wordAt e) 0] }) ∧
  (∀ o rec r, s.dev.pickOp e [] x.ops = some o → o.op = .op rec → 1 ≤ leAt rec 61 1 → leAt rec 61 1 ≤ 3 → 1 ≤ o.rd →
    r = s.dev.thkOp (leAt rec 61 1) (leAt rec 60 1) (rec.take 40) (leAt rec 40 20) → r.2.1 ≠ .template → r.2.1 ≠ .key → r.2.1 ≠ .action →
    ∃ d : Dev, answers (.asyncComplete e) s d ∧ (d.eng e).g o.rd = BitVec.ofNat 32 r.2.1.code ∧ (d.eng e).g (o.rd + 1) = BitVec.ofNat 32 r.2.2 ∧
      (d.eng e).ops = x.ops.filter (·.rd != o.rd) ∧ (∀ f, f ≠ e.val → d.eng f = s.dev.eng f) ∧ Dev.Frame false [.engs] [] r.1 d) ∧
  (∀ o l r, s.dev.pickOp e [] x.ops = some o → o.op = .lookup l → l.stage = 1 → l.view = false → 1 ≤ o.rd → s.dev.draining 10 = false →
    s.dev.is (R.THK_TMPLn_CFG_DEFINED l.template) = true → s.dev.Reaches e l.dest 20 →
    r = s.dev.resolve l.template (padTo 40 (l.key.take (s.dev.get (R.THK_TMPLn_CFG_KLEN l.template)))) l.key l.version →
    ∃ d : Dev, answers (.asyncComplete e) s d ∧ s.dev.Stored e l.dest (le 20 r.2.1) d ∧
      (d.eng e).g o.rd = BitVec.ofNat 32 (16 * r.2.2 + 65536 * l.version) ∧ (d.eng e).g (o.rd + 1) = BitVec.ofNat 32 (Action.of r.2.1).user ∧
      (d.eng e).ops = x.ops.filter (·.rd != o.rd) ∧ Dev.Frame false [.engs, .clusters] [] r.1 d) ∧
  (∀ o, s.dev.pickOp e [] x.ops = some o → o.op = .commit → 1 ≤ o.rd → s.dev.standby = false → s.dev.noThicket = false →
    s.dev.thk.commitHeld = false → s.dev.commitReason = 0 → s.dev.role ≠ .active → ∃ d : Dev, answers (.asyncComplete e) s d ∧
      d.get R.THK_VERSION_LIVE = s.dev.pendVer ∧ d.get R.THK_VERSION_PREV = s.dev.live ∧ (d.eng e).g o.rd = BitVec.ofNat 32 (65536 * s.dev.pendVer) ∧
      (d.eng e).g (o.rd + 1) = 0 ∧ (d.eng e).ops = x.ops.filter (·.rd != o.rd) ∧
      Dev.Frame true [.engs] [R.THK_VERSION, R.THK_COMMITS_COMMITS.reg, R.THK_IRQ] s.dev d) ∧
  (∀ o l, s.dev.pickOp e [] x.ops = some o → o.op = .lookup l → l.stage = 1 → l.view = false → 1 ≤ o.rd → s.dev.draining 10 = true →
    s.dev.is (R.THK_TMPLn_CFG_DEFINED l.template) = true → ∃ d : Dev, answers (.asyncComplete e) s d ∧
      (d.eng e).g o.rd = BitVec.ofNat 32 (56 + 65536 * l.version) ∧ (d.eng e).g (o.rd + 1) = 0 ∧ (d.eng e).ops = x.ops.filter (·.rd != o.rd) ∧
      Dev.Frame false [.engs] [] s.dev d) ∧
  (∀ o, s.dev.pickOp e [] x.ops = some o → o.op = .commit → 1 ≤ o.rd → s.dev.standby = true → ∃ d : Dev, answers (.asyncComplete e) s d ∧
      (d.eng e).g o.rd = BitVec.ofNat 32 (5 + 65536 * s.dev.live) ∧ (d.eng e).g (o.rd + 1) = 0 ∧ (d.eng e).ops = x.ops.filter (·.rd != o.rd) ∧
      d.get R.TWN_COUNTS_REFUSED = min (s.dev.get R.TWN_COUNTS_REFUSED + 1) (2 ^ R.TWN_COUNTS_REFUSED.w - 1) ∧
      Dev.Frame false [.engs] [R.TWN_COUNTS_REFUSED.reg] s.dev d) ∧
  (s.dev.pickOp e [] x.ops = none → answers (.asyncComplete e) s s.dev) ∧
  (∀ i a dst n v put, s.dev.Fetches e i → a = (x.g i.rs1).toNat → a % 4 = 0 → s.dev.Reaches e a 48 → dst = (x.g i.rs2).toNat → n = dst % 65536 →
    v = s.dev.rawBytes (e.val / 16) (.engine e) a 48 →
    (put = fun (w : Word) => { (if i.rd = 0 then x else { x with regs := sset 0 i.rd w x.regs }) with pc := x.pcNext }) →
    (∀ k, k = Instr.msendTask e ∧ i.op = .msendTask ∨
        k = .msendNode e ∧ i.op = .msendNode ∧ s.dev.claimed = true ∧ bits dst 21 10 = s.dev.nodeId →
      (s.dev.msgPool ≠ 0 → (s.dev.task n).st ≠ .free → ∃ d : Dev, answers k s d ∧
        (d.task n).msgs = (s.dev.task n).msgs ++ [{ kind := 0, flag := bits dst 16 5, src := x.task, node := 0x3FF, payload := v }] ∧
        (d.task n).flags = (s.dev.task n).flags ||| 2 ^ bits dst 16 5 ∧ (∀ m, m ≠ n → d.task m = s.dev.task m) ∧
        d.get (R.ENG_c_MSG_COUNTS_SENT (e.val / 16)) = min (s.dev.get (R.ENG_c_MSG_COUNTS_SENT (e.val / 16)) + 1) 65535 ∧
        Dev.Retires false true [.tsk] [(R.ENG_c_MSG_COUNTS_SENT (e.val / 16)).reg] s.dev e (put 0) d) ∧
      (s.dev.msgPool = 0 → ∃ d : Dev, answers k s d ∧
        d.get (R.ENG_c_MSG_COUNTS_FULL (e.val / 16)) = min (s.dev.get (R.ENG_c_MSG_COUNTS_FULL (e.val / 16)) + 1) 255 ∧
        Dev.Retires false true [] [(R.ENG_c_MSG_COUNTS_FULL (e.val / 16)).reg] s.dev e (put 1) d)) ∧
    (∀ u, i.op = .msendHost → u = (s.dev.pagesUsed (e.val / 16) a 48 false).event 0x0D81 (le 1 (e.val / 16) ++ le 1 (e.val % 16) ++ le 2 x.task ++ v) →
      ∃ d : Dev, answers (.msendHost e) s d ∧
        d.get (R.ENG_c_MSG_COUNTS_SENT (e.val / 16)) = min (s.dev.get (R.ENG_c_MSG_COUNTS_SENT (e.val / 16)) + 1) 65535 ∧
        Dev.Retires false false [] [(R.ENG_c_MSG_COUNTS_SENT (e.val / 16)).reg] u e (put 0) d) ∧
    (i.op = .msendNode → s.dev.claimed = false → ∃ d : Dev, answers (.msendNode e) s d ∧
      d.get (R.ENG_c_MSG_COUNTS_UNREACHABLE (e.val / 16)) = min (s.dev.get (R.ENG_c_MSG_COUNTS_UNREACHABLE (e.val / 16)) + 1) 255 ∧
      Dev.Retires false true [] [(R.ENG_c_MSG_COUNTS_UNREACHABLE (e.val / 16)).reg] s.dev e (put 3) d) ∧
    (∀ r h u, i.op = .msendNode → s.dev.claimed = true → bits dst 21 10 ≠ s.dev.nodeId → s.dev.route (bits dst 21 10) = some r →
      h = ropeHeader kMsg (bits dst 21 10) s.dev.nodeId (s.dev.get R.ROP_FAB_CFG_TTL) (s.dev.get R.ROP_FAB_CFG_MSG_QIDX) 0 false n (bits dst 16 5) →
      u = (s.dev.pagesUsed (e.val / 16) a 48 false).ropeOut (bits dst 21 10) (s.dev.get R.ROP_FAB_CFG_MSG_QIDX) h
        { (default : QFrame) with bytes := be 2 x.task ++ [0, 0] ++ v } → ∃ d : Dev, answers (.msendNode e) s d ∧
      Dev.Retires false false [] [(R.ENG_c_MSG_COUNTS_SENT (e.val / 16)).reg] u e (put 0) d)) ∧
  (∀ i a k put, s.dev.Fetches e i → i.op = .mrecv → a = (x.g i.rs1).toNat → a % 4 = 0 → k = s.dev.task x.task →
    (put = fun (w : Word) => { (if i.rd = 0 then x else { x with regs := sset 0 i.rd w x.regs }) with pc := x.pcNext }) →
    (k.msgs = [] → engDoes s (.mrecv e) e (put 1)) ∧
    (∀ m rest, k.msgs = m :: rest → s.dev.Reaches e a 64 → ∃ d : Dev, answers (.mrecv e) s d ∧
      s.dev.Stored e a (le 1 m.kind ++ le 1 m.flag ++ le 2 m.src ++ le 2 m.node ++ [0, 0] ++ padTo 48 m.payload ++ padTo 8 []) d ∧
      d.task x.task = { k with msgs := rest } ∧ (∀ n, n ≠ x.task → d.task n = s.dev.task n) ∧
      Dev.Retires false true [.tsk] [] s.dev e (put 0) d))

/-- DMA channels (R339, R340, R350 to R352, Table 15-6): CHANNEL_GO, CHANNEL_STOP, CHANNEL_CLEAR, CHANNEL_START, DMA_END, DMA_BURST for a
burst of one beat, LATE_ERROR (the last beat's content is a free value), TAP_LATCH.
Its clauses rest on the model's choices in log entries 22, 92, 152, 153 where those speak of its commands. -/
def Obligations.DmaChannels : Prop := ∀ (s : State) (u : Fin 8) (k : Fin 16) (v : Word), s.runs →
  (s.dev.open_ (R.DMA_u_CHk_CTL u k) → s.dev.chIs u k .idle = true → s.dev.pitchUsed (u + 1) = true → s.dev.draining (u + 1) = false →
    (s.dev.is (R.DMA_u_CHk_CFG_MODE u k) = true → s.dev.get (R.DMA_u_CHk_PROG_HI_SPACE u k) ≤ 1) → ∃ d : Dev, answers (.channelGo u k v) s d.revote ∧
      d.rd (R.DMA_u_CHk_STATE u k) = 1 ∧ d.get (R.DMA_u_CHk_REMAIN_BYTES u k) = 0 ∧ d.is (R.DMA_u_CHk_ERR_HI_VALID u k) = false ∧
      d.rd (R.DMA_u_CHk_CTL u k) = v &&& 0x3FE ∧ d.chan u k = .empty ∧ Dev.Frame false [.dma] [R.DMA_u_CHk_STATE u k,
        (R.DMA_u_CHk_REMAIN_BYTES u k).reg, (R.DMA_u_CHk_ERR_HI_VALID u k).reg, R.DMA_u_CHk_CTL u k] s.dev d) ∧
  (s.dev.open_ (R.DMA_u_CHk_CTL u k) → s.dev.chIs u k .idle = false ∨ s.dev.pitchUsed (u + 1) = false ∨ s.dev.draining (u + 1) = true → ∃ d : Dev,
    answers (.channelGo u k v) s d ∧ (d.rd (R.DMA_u_REFUSED u)).toNat = min ((s.dev.rd (R.DMA_u_REFUSED u)).toNat + 1) (2 ^ 32 - 1) ∧
    Dev.Frame false [] [R.DMA_u_REFUSED u, R.DMA_u_CHk_CTL u k] s.dev d) ∧
  (s.dev.open_ (R.DMA_u_CHk_CTL u k) → s.dev.chIs u k .ready = true ∨ s.dev.chIs u k .running = true ∨ s.dev.chIs u k .waiting = true → ∃ d : Dev,
    answers (.channelStop u k v) s d.revote ∧ d.chIs u k .idle = true ∧ d.is (R.DMA_u_CHk_STATE_STOPPED u k) = true ∧ d.chan u k = .empty ∧
    Dev.Frame false [.dma] [R.DMA_u_CHk_STATE u k, R.DMA_u_CHk_CTL u k] s.dev d) ∧
  (s.dev.open_ (R.DMA_u_CHk_CTL u k) → s.dev.chIs u k .halted = true → ∃ d : Dev, answers (.channelClear u k v) s d ∧ d.chIs u k .idle = true ∧
    Dev.Frame false [.dma] [R.DMA_u_CHk_STATE u k, R.DMA_u_CHk_CTL u k] s.dev d) ∧
  (s.dev.isUp domDma = true → s.dev.holder u = none → s.dev.draining (u + 1) = false → s.dev.chIs u k .ready = true →
    (∀ j, j < k.val → s.dev.chIs u j .ready = false) →
    (s.dev.is (R.DMA_u_CHk_CFG_MODE u k) = true → ∃ d : Dev, answers (.channelStart u) s d ∧ d.chIs u k .running = true ∧
      Dev.Frame false [] [R.DMA_u_CHk_STATE u k] s.dev d) ∧
    (∀ m w, s.dev.is (R.DMA_u_CHk_CFG_MODE u k) = false → m = s.dev.regMove u k → swapUnit m.swap = some w → m.len % w = 0 → m.len ≠ 0 →
      (m.paced = true → m.srcSpace = 2 ∨ m.dstSpace = 2) → ∃ d : Dev, answers (.channelStart u) s d ∧ d.chIs u k .running = true ∧
        (d.chan u k).move = some m ∧ d.get (R.DMA_u_CHk_REMAIN_BYTES u k) = s.dev.get (R.DMA_u_CHk_CNT_BYTES u k) ∧
        Dev.Frame false [.dma] [R.DMA_u_CHk_STATE u k, (R.DMA_u_CHk_REMAIN_BYTES u k).reg] s.dev d)) ∧
  (∀ m host, s.dev.runner u = some k.val → s.dev.is (R.DMA_u_CHk_CFG_MODE u k) = false → (s.dev.chan u k).move = some m → m.len ≤ m.done →
    ∃ d : Dev, answers (.dmaEnd u host) s d.revote ∧ d.chan u k = .empty ∧
      d.get (R.DMA_u_CHk_RUNS_DONE u k) = min (s.dev.get (R.DMA_u_CHk_RUNS_DONE u k) + 1) 65535 ∧
      ((s.dev.is (R.DMA_u_CHk_CTL_IRQ u k) || s.dev.is (R.DMA_u_CHk_CFG_DONE_IRQ u k)) = true → bit (d.get (R.DMA_u_IRQ_EVENT u)) k = true) ∧
      (if (s.dev.is (R.DMA_u_CHk_CFG_REPEAT u k) && !s.dev.draining (u + 1)) = true
        then d.chIs u k .ready = true ∧ d.chPc u k = 0 else d.chIs u k .idle = true) ∧
      Dev.Frame true [.dma] [R.DMA_u_CHk_STATE u k, (R.DMA_u_CHk_RUNS_DONE u k).reg, R.DMA_u_IRQ u] s.dev d) ∧
  (∀ m host n c a bytes, s.dev.runner u = some k.val → (s.dev.chan u k).move = some m → s.dev.get R.PWR_LINGER_US = 0 → m.swap = 0 → m.paced = false →
    n = m.len - m.done → 1 ≤ n → n ≤ 32 → (m.src + m.done) % 256 + n ≤ 256 → (m.dst + m.done) % 256 + n ≤ 256 →
    (m.srcSpace = 0 → m.src + m.done < 2 ^ 48 → m.dstSpace = 1 → clusterAt u m.dst = some (c, a) → clusterAt u (m.dst + m.done) = some (c, a + m.done) →
      s.dev.DmaReaches c (a + m.done) n → host = .data bytes → ∃ d : Dev, answers (.dmaBurst u host) s d ∧
      (∀ b, d.rawBytes c .dma b 1 = if a + m.done ≤ b ∧ b < a + m.done + n then [(padTo n bytes).getD (b - (a + m.done)) 0] else s.dev.rawBytes c .dma b 1) ∧
      (d.chan u k).move = some { m with done := m.len } ∧ d.get (R.DMA_u_CHk_REMAIN_BYTES u k) = 0 ∧
      (s.dev.is (R.DMA_u_CHk_CFG_MODE u k) = false → d.get (R.DMA_u_CHk_CNT_BYTES u k) = 0) ∧ Dev.Frame false [.clusters, .dma]
        [(R.DMA_u_CHk_REMAIN_BYTES u k).reg, (R.DMA_u_CHk_CNT_BYTES u k).reg, R.DMA_u_KIB u] s.dev d) ∧
    (m.srcSpace = 1 → m.dstSpace = 0 → m.dst + m.done < 2 ^ 48 → clusterAt u m.src = some (c, a) → clusterAt u (m.src + m.done) = some (c, a + m.done) →
      s.dev.DmaReaches c (a + m.done) n → ∃ d : Dev, answers (.dmaBurst u host) s d ∧
      d.out = Out.hostWrite (m.dst + m.done) (s.dev.rawBytes c .dma (a + m.done) n) :: s.dev.out ∧
      (∀ b, d.rawBytes c .dma b 1 = s.dev.rawBytes c .dma b 1) ∧ (d.chan u k).move = some { m with done := m.len } ∧
      d.get (R.DMA_u_CHk_REMAIN_BYTES u k) = 0 ∧ Dev.Frame false [.clusters, .dma, .out]
        [(R.DMA_u_CHk_REMAIN_BYTES u k).reg, (R.DMA_u_CHk_CNT_BYTES u k).reg, R.DMA_u_KIB u] s.dev d)) ∧
  (∀ m host, s.dev.runner u = some k.val → (s.dev.chan u k).move = some m → m.done < m.len → m.paced = false → m.srcSpace = 0 → m.dstSpace ≠ 1 →
    2 ^ 48 ≤ m.src + m.done → ∃ d : Dev, answers (.dmaBurst u host) s d.revote ∧ d.chIs u k .halted = true ∧
    d.get (R.DMA_u_CHk_STATE_CAUSE u k) = 5 ∧ d.rd (R.DMA_u_CHk_ERR_LO u k) = BitVec.ofNat 32 (m.src + m.done) ∧
    d.get (R.DMA_u_CHk_ERR_HI_SPACE u k) = 0 ∧ d.is (R.DMA_u_CHk_ERR_HI_VALID u k) = true ∧
    d.get (R.DMA_u_CHk_RUNS_HALTS u k) = min (s.dev.get (R.DMA_u_CHk_RUNS_HALTS u k) + 1) 65535 ∧ bit (d.get (R.DMA_u_IRQ_HALT u)) k = true ∧
    Dev.Frame true [.dma] [R.DMA_u_CHk_STATE u k, R.DMA_u_CHk_ERR_LO u k, (R.DMA_u_CHk_ERR_HI_VALID u k).reg,
      (R.DMA_u_CHk_RUNS_HALTS u k).reg, R.DMA_u_IRQ u] s.dev d) ∧
  (∀ m b, s.dev.runner u = some k.val → (s.dev.chan u k).move = some m → m.len ≤ m.done → m.len ≠ 0 → m.dst < 2 ^ 48 → m.len < 2 ^ 24 →
    b = (m.len - 1) % 32 + 1 → m.dstSpace < 3 → ∃ d : Dev, answers (.lateError u) s d.revote ∧ d.chIs u k .halted = true ∧
    d.get (R.DMA_u_CHk_STATE_CAUSE u k) = 3 ∧ d.rd (R.DMA_u_CHk_ERR_LO u k) = BitVec.ofNat 32 (m.dst + (m.len - b)) ∧
    d.get (R.DMA_u_CHk_ERR_HI_SPACE u k) = m.dstSpace ∧ d.is (R.DMA_u_CHk_ERR_HI_VALID u k) = true ∧
    d.get (R.DMA_u_CHk_RUNS_HALTS u k) = min (s.dev.get (R.DMA_u_CHk_RUNS_HALTS u k) + 1) 65535 ∧ bit (d.get (R.DMA_u_IRQ_HALT u)) k = true ∧
    (∀ c x, (∀ a, m.dstSpace = 1 → clusterAt u (m.dst + (m.len - b)) = some (c, a) → x < a ∨ a + b ≤ x) → d.rawBytes c .dma x 1 = s.dev.rawBytes c .dma x 1) ∧
    Dev.Frame true [.dma, .clusters] [R.DMA_u_CHk_STATE u k, R.DMA_u_CHk_ERR_LO u k, (R.DMA_u_CHk_ERR_HI_VALID u k).reg,
      (R.DMA_u_CHk_RUNS_HALTS u k).reg, R.DMA_u_IRQ u] s.dev d) ∧
  (∀ n : Fin 16, bit (s.dev.get R.TRB_ENABLE_EN) n = true → s.dev.isUp domTrb = true → s.dev.aligned = true → ∃ d : Dev, answers (.tapLatch n) s d ∧
    (d.trbTap n).bytes = padTo 32 (if s.dev.trbBad n = true then aisFrame else (s.dev.trbP n).lastRead) ∧ (d.trbTap n).req = true ∧
    d.get R.DMA_TAP_OVERRUN_COUNT = (if (s.dev.trbTap n).req = true then min (s.dev.get R.DMA_TAP_OVERRUN_COUNT + 1) 65535 else s.dev.get R.DMA_TAP_OVERRUN_COUNT) ∧
    ((s.dev.trbTap n).req = true → d.get R.DMA_TAP_OVERRUN_TRB = n) ∧ Dev.Frame false [.dma] [R.DMA_TAP_OVERRUN_COUNT.reg] s.dev d) ∧
  (∀ n : Fin 16, bit (s.dev.get R.TRB_ENABLE_EN) n = false ∨ s.dev.isUp domTrb = false → answers (.tapLatch n) s s.dev) ∧
  (s.dev.runner u = none → ∀ host, answers (.dmaBurst u host) s s.dev ∧ answers (.dmaEnd u host) s s.dev ∧ answers (.lateError u) s s.dev)

/-- DMA programs (R341 to R349): MOVE, LOOP, ENDLOOP, WAIT on a flag and on a request, what ends a WAIT, SIGNAL to a task, the host and a
channel, NOP, END.
Its clauses rest on the model's choices in log entries 154, 214 where those speak of its commands. -/
def Obligations.DmaPrograms : Prop := ∀ (s : State) (u : Fin 8) (k : Nat) (host : HostData), s.runs →
  (∀ f m sx dx m1 w, s.dev.Executing f u k host (.move m sx dx) → swapUnit m.swap = some w → m.len % w = 0 →
    (m.paced = true → m.srcSpace = 2 ∨ m.dstSpace = 2) →
    m1 = { m with src := m.src + (if sx = true then ((f.chan u k).loops.head?.map (·.2.2)).getD 0 * m.len else 0),
                  dst := m.dst + (if dx = true then ((f.chan u k).loops.head?.map (·.2.2)).getD 0 * m.len else 0) } →
    (m.len ≠ 0 → ∃ d : Dev, answers (.move u host) s d ∧ d.chan u k = { f.chan u k with move := some m1 } ∧
      d.get (R.DMA_u_CHk_REMAIN_BYTES u k) = m.len % 2 ^ 24 ∧ d.chIs u k (if m.paced = true ∧ f.request m1.req = false then .waiting else .running) = true ∧
      d.chPc u k = f.chPc u k ∧ Dev.Frame false [.dma] [R.DMA_u_CHk_STATE u k, (R.DMA_u_CHk_REMAIN_BYTES u k).reg] f d) ∧
    (m.len = 0 → ∃ d : Dev, answers (.move u host) s d ∧ d.chan u k = { f.chan u k with move := none } ∧ d.is (R.DMA_u_CHk_STATE_ZERO u k) = true ∧
      d.chPc u k = (f.chPc u k + 1) % 65536 ∧ Dev.Frame false [.dma] [R.DMA_u_CHk_STATE u k, (R.DMA_u_CHk_REMAIN_BYTES u k).reg] f d)) ∧
  (∀ f m sx dx w, s.dev.Executing f u k host (.move m sx dx) → swapUnit m.swap = some w → m.len % w ≠ 0 → ∃ d : Dev,
    answers (.move u host) s d.revote ∧ d.chIs u k .halted = true ∧ d.get (R.DMA_u_CHk_STATE_CAUSE u k) = 6 ∧
    d.rd (R.DMA_u_CHk_ERR_LO u k) = BitVec.ofNat 32 (f.progAddr u k (f.chPc u k)).2 ∧ d.is (R.DMA_u_CHk_ERR_HI_VALID u k) = true ∧
    d.get (R.DMA_u_CHk_RUNS_HALTS u k) = min (f.get (R.DMA_u_CHk_RUNS_HALTS u k) + 1) 65535 ∧ d.chPc u k = f.chPc u k ∧
    bit (d.get (R.DMA_u_IRQ_HALT u)) k = true ∧ Dev.Frame true [.dma] [R.DMA_u_CHk_STATE u k, R.DMA_u_CHk_ERR_LO u k,
      (R.DMA_u_CHk_ERR_HI_VALID u k).reg, (R.DMA_u_CHk_RUNS_HALTS u k).reg, R.DMA_u_IRQ u] f d) ∧
  (∀ f n, s.dev.Executing f u k host (.loop n) → n ≠ 0 → (f.chan u k).loops.length < 4 → ∃ d : Dev, answers (.loop u host) s d ∧
    d.chan u k = { f.chan u k with loops := (f.chPc u k + 1, n, 0) :: (f.chan u k).loops } ∧ d.chPc u k = (f.chPc u k + 1) % 65536 ∧
    Dev.Frame false [.dma] [R.DMA_u_CHk_STATE u k] f d) ∧
  (∀ f b, s.dev.Executing f u k host (.loop 0) → (f.chan u k).loops.length < 4 → f.get (R.DMA_u_CHk_PROG_HI_SPACE u k) = 0 → host = .data b →
    (f.progAddr u k (f.chPc u k + 1)).2 < 2 ^ 48 →
    32 ≤ b.length → decodeDma (leAt b 16 16) = some .endloop → ∃ d : Dev, answers (.loop u host) s d ∧ d.is (R.DMA_u_CHk_STATE_ZERO u k) = true ∧
    d.chPc u k = (f.chPc u k + 2) % 65536 ∧ d.chan u k = f.chan u k ∧ Dev.Frame false [] [R.DMA_u_CHk_STATE u k] f d) ∧
  (∀ f pc n i rest, s.dev.Executing f u k host .endloop → (f.chan u k).loops = (pc, n, i) :: rest → ∃ d : Dev, answers (.endloop u host) s d ∧
    (i + 1 < n → (d.chan u k).loops = (pc, n, i + 1) :: rest ∧ d.chPc u k = pc % 65536) ∧
    (n ≤ i + 1 → (d.chan u k).loops = rest ∧ d.chPc u k = (f.chPc u k + 1) % 65536) ∧ Dev.Frame false [.dma] [R.DMA_u_CHk_STATE u k] f d) ∧
  (∀ f t g c, s.dev.Executing f u k host (.waitFlag t g c) → (f.task t).st ≠ .free →
    (bit (f.task t).flags g = true → ∃ d : Dev, answers (.waitFlag u host) s d ∧ d.chPc u k = (f.chPc u k + 1) % 65536 ∧
      (g < 32 → bit (d.task t).flags g = !c) ∧ (∀ j, j ≠ t → d.task j = f.task j) ∧ Dev.Frame false [.tsk] [R.DMA_u_CHk_STATE u k] f d) ∧
    (bit (f.task t).flags g = false → ∃ d : Dev, answers (.waitFlag u host) s d ∧ d.chIs u k .waiting = true ∧ d.chPc u k = f.chPc u k ∧
      (d.chan u k).wait = some (.flag t g c) ∧ Dev.Frame false [.dma] [R.DMA_u_CHk_STATE u k] f d)) ∧
  (∀ f n, s.dev.Executing f u k host (.waitReq n) → ∃ d : Dev, answers (.waitRequest u host) s d ∧
    (f.request n = true → d.chPc u k = (f.chPc u k + 1) % 65536 ∧ d.chan u k = f.chan u k) ∧
    (f.request n = false → d.chIs u k .waiting = true ∧ d.chPc u k = f.chPc u k ∧ (d.chan u k).wait = some (.request n)) ∧
    Dev.Frame false [.dma] [R.DMA_u_CHk_STATE u k] f d) ∧
  (∀ c, k < 16 → s.dev.isUp domDma = true → (List.range 16).find? (fun j => s.dev.chIs u j .waiting) = some k → c = s.dev.chan u k →
    (∀ t g cl, c.wait = some (.flag t g cl) → (s.dev.task t).st ≠ .free → bit (s.dev.task t).flags g = true → ∃ d : Dev, answers (.waitSatisfied u) s d ∧
      d.chIs u k .running = true ∧ d.chPc u k = (s.dev.chPc u k + 1) % 65536 ∧ d.chan u k = { c with wait := none } ∧
      (g < 32 → bit (d.task t).flags g = !cl) ∧ Dev.Frame false [.dma, .tsk] [R.DMA_u_CHk_STATE u k] s.dev d) ∧
    (∀ n, c.wait = some (.request n) → s.dev.request n = true → ∃ d : Dev, answers (.waitSatisfied u) s d ∧
      d.chIs u k .running = true ∧ d.chPc u k = (s.dev.chPc u k + 1) % 65536 ∧ Dev.Frame false [.dma] [R.DMA_u_CHk_STATE u k] s.dev d) ∧
    (∀ m, c.wait = none → c.move = some m → s.dev.request m.req = true → ∃ d : Dev, answers (.waitSatisfied u) s d ∧
      d.chIs u k .running = true ∧ d.chPc u k = s.dev.chPc u k ∧ d.chan u k = c ∧ Dev.Frame false [.dma] [R.DMA_u_CHk_STATE u k] s.dev d)) ∧
  (∀ f t g, s.dev.Executing f u k host (.sigTask t g) → (f.task t).st ≠ .free → ∃ d : Dev, answers (.signalTask u host) s d ∧
    (d.task t).flags = (f.task t).flags ||| 2 ^ g ∧ (∀ j, j ≠ t → d.task j = f.task j) ∧ d.chPc u k = (f.chPc u k + 1) % 65536 ∧
    Dev.Frame false [.tsk] [R.DMA_u_CHk_STATE u k] f d) ∧
  (∀ f, s.dev.Executing f u k host .sigHost → ∃ d : Dev, answers (.signalHost u host) s d ∧ bit (d.get (R.DMA_u_IRQ_EVENT u)) k = true ∧
    d.chPc u k = (f.chPc u k + 1) % 65536 ∧ Dev.Frame true [] [R.DMA_u_CHk_STATE u k, R.DMA_u_IRQ u] f d) ∧
  (∀ f (n : Fin 16), s.dev.Executing f u k host (.sigChan n) → f.chIs u n .idle = true → f.pitchUsed (u + 1) = true → f.draining (u + 1) = false →
    (f.is (R.DMA_u_CHk_CFG_MODE u n) = true → f.get (R.DMA_u_CHk_PROG_HI_SPACE u n) ≤ 1) → ∃ d : Dev, answers (.signalChannel u host) s d.revote ∧
    d.rd (R.DMA_u_CHk_STATE u n) = 1 ∧ d.chan u n = .empty ∧ d.chPc u k = (f.chPc u k + 1) % 65536 ∧ Dev.Frame false [.dma]
      [R.DMA_u_CHk_STATE u k, R.DMA_u_CHk_STATE u n, (R.DMA_u_CHk_REMAIN_BYTES u n).reg, (R.DMA_u_CHk_ERR_HI_VALID u n).reg] f d) ∧
  (∀ f, s.dev.Executing f u k host .nop → ∃ d : Dev, answers (.nop u host) s d ∧ d.chPc u k = (f.chPc u k + 1) % 65536 ∧ d.chan u k = f.chan u k ∧
    Dev.Frame false [] [R.DMA_u_CHk_STATE u k] f d) ∧
  (∀ f, s.dev.Executing f u k host .end_ → ∃ d : Dev, answers (.dmaEnd u host) s d.revote ∧ d.chan u k = .empty ∧
    d.get (R.DMA_u_CHk_RUNS_DONE u k) = min (f.get (R.DMA_u_CHk_RUNS_DONE u k) + 1) 65535 ∧
    (f.is (R.DMA_u_CHk_CFG_DONE_IRQ u k) = true → bit (d.get (R.DMA_u_IRQ_EVENT u)) k = true) ∧
    (if (f.is (R.DMA_u_CHk_CFG_REPEAT u k) && !f.draining (u + 1)) = true then d.chIs u k .ready = true ∧ d.chPc u k = 0 else d.chIs u k .idle = true) ∧
    Dev.Frame true [.dma] [R.DMA_u_CHk_STATE u k, (R.DMA_u_CHk_RUNS_DONE u k).reg, R.DMA_u_IRQ u] f d)

/-- The host frame path (R354 to R356) and keys (R365 to R371, R508): HPATH_CTL_WRITE, HOST_RING_TAIL_WRITE, HOST_RX_DELIVER, HOST_TX_FETCH;
UNWRAP, ERASE, ERASE_ALL, KAT.
Its clauses rest on the model's choices in log entries 25, 155, 159, 162 where those speak of its commands. -/
def Obligations.HostPathAndKeys : Prop := ∀ (s : State), s.runs →
  (∀ v : Word, s.dev.open_ R.DMA_HPATH_CTL → ∃ d : Dev, answers (.hpathCtlWrite v) s d.revote ∧ d.rd R.DMA_HPATH_CTL = v &&& 3 ∧
    (bit v.toNat 0 = true → s.dev.is R.DMA_HPATH_CTL_HRX_EN = false → d.get R.DMA_HRX_HEAD_INDEX = 0 ∧ d.get R.DMA_HRX_TAIL_INDEX = 0) ∧
    (bit v.toNat 1 = true → s.dev.is R.DMA_HPATH_CTL_HTX_EN = false → d.get R.DMA_HTX_HEAD_INDEX = 0 ∧ d.get R.DMA_HTX_TAIL_INDEX = 0) ∧
    ((bit v.toNat 0 = false ∨ s.dev.is R.DMA_HPATH_CTL_HRX_EN = true) → d.get R.DMA_HRX_HEAD_INDEX = s.dev.get R.DMA_HRX_HEAD_INDEX) ∧
    Dev.Frame false [] [R.DMA_HPATH_CTL, R.DMA_HRX_HEAD_INDEX.reg, R.DMA_HRX_TAIL, R.DMA_HTX_HEAD_INDEX.reg, R.DMA_HTX_TAIL] s.dev d) ∧
  (∀ v : Word, (s.dev.open_ R.DMA_HRX_TAIL → v.toNat % 4096 < 2 ^ s.dev.get R.DMA_HRX_SIZE_LOG2 → ∃ d : Dev,
      answers (.hostRingTailWrite false v) s d ∧ d.get R.DMA_HRX_TAIL_INDEX = v.toNat % 4096 ∧ Dev.Frame false [] [R.DMA_HRX_TAIL] s.dev d) ∧
    (s.dev.open_ R.DMA_HTX_TAIL → v.toNat % 4096 < 2 ^ s.dev.get R.DMA_HTX_SIZE_LOG2 → ∃ d : Dev,
      answers (.hostRingTailWrite true v) s d ∧ d.get R.DMA_HTX_TAIL_INDEX = v.toNat % 4096 ∧ Dev.Frame false [] [R.DMA_HTX_TAIL] s.dev d) ∧
    (s.dev.open_ R.DMA_HRX_TAIL → 2 ^ s.dev.get R.DMA_HRX_SIZE_LOG2 ≤ v.toNat % 4096 → answers (.hostRingTailWrite false v) s s.dev)) ∧
  (∀ f n b at_ big, s.dev.launching 17 = some (f, n) → s.dev.isUp domDma = true → s.dev.is R.DMA_HPATH_CTL_HRX_EN = true →
    s.dev.get R.DMA_HRX_HEAD_INDEX ≠ s.dev.get R.DMA_HRX_TAIL_INDEX → at_ = s.dev.rd64 R.DMA_HRX_BASE_LO + 64 * s.dev.get R.DMA_HRX_HEAD_INDEX →
    big = decide (leAt b 8 2 % 16384 < f.bytes.length) → ∃ d : Dev, answers (.hostRxDeliver (.data b)) s d ∧ d.launching 17 = none ∧
    Out.hostWrite (at_ + 0x0A) ([(0 : Byte)] ++ le 1 (b2n big) ++ le 2 f.bytes.length ++ le 2 f.queue ++ le 4 f.user ++ le 4 f.rx.ns ++ le 6 f.rx.sec ++
      [0, 0] ++ padTo 32 f.info) ∈ d.out ∧
    (big = false → Out.hostWrite (leAt b 0 8) f.bytes ∈ d.out ∧ (d.rd R.DMA_HRX_FRAMES).toNat = min ((s.dev.rd R.DMA_HRX_FRAMES).toNat + 1) (2 ^ 32 - 1)) ∧
    (big = true → d.get R.DMA_HPATH_COUNTS_TOOBIG = min (s.dev.get R.DMA_HPATH_COUNTS_TOOBIG + 1) 65535) ∧
    d.get R.DMA_HRX_HEAD_INDEX = (s.dev.get R.DMA_HRX_HEAD_INDEX + 1) % 2 ^ s.dev.get R.DMA_HRX_SIZE_LOG2 % 4096 ∧ d.is R.DMA_HPATH_IRQ_RX_DONE = true ∧
    Dev.Frame true [.sch, .out] [R.DMA_HRX_FRAMES, R.DMA_HPATH_COUNTS_TOOBIG.reg, R.DMA_HRX_HEAD_INDEX.reg, R.DMA_HPATH_IRQ] s.dev d) ∧
  (∀ f n, s.dev.launching 17 = some (f, n) → s.dev.isUp domDma = true → s.dev.is R.DMA_HPATH_CTL_HRX_EN = true →
    s.dev.get R.DMA_HRX_HEAD_INDEX ≠ s.dev.get R.DMA_HRX_TAIL_INDEX → ∃ d : Dev, answers (.hostRxDeliver .pcieError) s d.revote ∧
    d.is R.DMA_HPATH_CTL_HRX_EN = false ∧ d.is R.DMA_HPATH_IRQ_PCIE_ERR = true ∧ Dev.Frame true [] [R.DMA_HPATH_CTL, R.DMA_HPATH_IRQ] s.dev d) ∧
  (∀ b bytes n at_ p x fr u, s.dev.isUp domDma = true → s.dev.is R.DMA_HPATH_CTL_HTX_EN = true → s.dev.pwr.closed = false →
    s.dev.get R.DMA_HTX_HEAD_INDEX ≠ s.dev.get R.DMA_HTX_TAIL_INDEX → at_ = s.dev.rd64 R.DMA_HTX_BASE_LO + 64 * s.dev.get R.DMA_HTX_HEAD_INDEX →
    n = leAt b 0x24 2 → 1 ≤ n → n ≤ 9744 → s.dev.sendDescOf (padTo 64 (padTo 0x1C b)) = some (p, x) →
    fr = Frame.first_ clsHost 0 (padTo n bytes) s.dev.now → u = s.dev.send p x fr fr.metadata → ∃ d : Dev,
    answers (.hostTxFetch (.data b) (.data bytes)) s d ∧ Out.hostWrite (at_ + 0x26) [0, 0] ∈ d.out ∧
    (d.rd R.DMA_HTX_FRAMES).toNat = min ((s.dev.rd R.DMA_HTX_FRAMES).toNat + 1) (2 ^ 32 - 1) ∧
    d.get R.DMA_HTX_HEAD_INDEX = (s.dev.get R.DMA_HTX_HEAD_INDEX + 1) % 2 ^ s.dev.get R.DMA_HTX_SIZE_LOG2 % 4096 ∧ d.is R.DMA_HPATH_IRQ_TX_DONE = true ∧
    Dev.Frame true [.out] [R.DMA_HTX_FRAMES, R.DMA_HTX_HEAD_INDEX.reg, R.DMA_HPATH_IRQ] u d) ∧
  (∀ b data at_, s.dev.isUp domDma = true → s.dev.is R.DMA_HPATH_CTL_HTX_EN = true → s.dev.pwr.closed = false →
    s.dev.get R.DMA_HTX_HEAD_INDEX ≠ s.dev.get R.DMA_HTX_TAIL_INDEX → at_ = s.dev.rd64 R.DMA_HTX_BASE_LO + 64 * s.dev.get R.DMA_HTX_HEAD_INDEX →
    leAt b 0x24 2 = 0 ∨ 9744 < leAt b 0x24 2 ∨ s.dev.sendDescOf (padTo 64 (padTo 0x1C b)) = none → ∃ d : Dev,
    answers (.hostTxFetch (.data b) data) s d ∧ Out.hostWrite (at_ + 0x26) [0, 1] ∈ d.out ∧
    d.get R.DMA_HPATH_COUNTS_TX_ARG = min (s.dev.get R.DMA_HPATH_COUNTS_TX_ARG + 1) 65535 ∧
    Dev.Frame true [.out] [R.DMA_HPATH_COUNTS_TX_ARG.reg, R.DMA_HTX_HEAD_INDEX.reg, R.DMA_HPATH_IRQ] s.dev d) ∧
  (∀ (kek : Fin 16) force (n : Fin 4096), s.dev.cphGate = none → (force = true ∨ s.dev.prevHolders n = 0) → ∃ d : Dev, answers (.unwrap kek force n) s d ∧
    (∀ m, m ≠ n.val → d.slot m = s.dev.slot m) ∧ d.cph.blob = [] ∧ d.is R.CPH_CMD_RESULT_DONE = true ∧
    Dev.Frame true [.cph, .twn] ([R.CPH_CMD_RESULT_RESULT.reg, R.CPH_IRQ] ++ mirrorRegs) s.dev d ∧
    match s.dev.checkBlob kek n s.dev.blobBytes with
    | .ok k => (d.slot n).cur = some { k with gen := ((s.dev.slot n).gen + 1) % 65536 } ∧ (d.slot n).prev = (s.dev.slot n).cur ∧
      (d.slot n).gen = ((s.dev.slot n).gen + 1) % 65536 ∧ (d.slot n).pn = 1 ∧ (d.slot n).rpn = 0 ∧ (d.slot n).window = (s.dev.slot n).window ∧
      d.get R.CPH_CMD_RESULT_RESULT = 0 ∧ d.get R.CPH_CMD_RESULT_GEN = ((s.dev.slot n).gen + 1) % 65536
    | .error r => d.slot n = s.dev.slot n ∧ d.get R.CPH_CMD_RESULT_RESULT = r.code) ∧
  (∀ (kek : Fin 16) force (n : Fin 4096) r, s.dev.cphGate = none → s.dev.checkBlob kek n s.dev.blobBytes = .error r → ∃ d : Dev,
    answers (.unwrap kek force n) s d ∧ d.cph = { s.dev.cph with blob := [] } ∧ d.get R.CPH_CMD_RESULT_RESULT = r.code ∧
    d.is R.CPH_CMD_RESULT_DONE = true ∧ Dev.Frame false [.cph] [R.CPH_CMD_RESULT_RESULT.reg] s.dev d) ∧
  (∀ n : Fin 4096, s.dev.cphGate = none → ∃ d : Dev, answers (.erase n) s d ∧ (d.slot n).cur = none ∧ (d.slot n).prev = none ∧
    (d.slot n).gen = ((s.dev.slot n).gen + 1) % 65536 ∧ (∀ m, m ≠ n.val → d.slot m = s.dev.slot m) ∧ d.get R.CPH_CMD_RESULT_RESULT = 0 ∧
    d.is R.CPH_CMD_RESULT_DONE = true ∧ Dev.Frame true [.cph, .twn] ([R.CPH_CMD_RESULT_RESULT.reg, R.CPH_IRQ] ++ mirrorRegs) s.dev d) ∧
  (s.dev.cphGate = none → ∃ d : Dev, answers .eraseAll s d ∧ (∀ n, n < 4096 → (d.slot n).cur = none ∧ (d.slot n).prev = none ∧
    (d.slot n).gen = ((s.dev.slot n).gen + 1) % 65536) ∧ d.get R.CPH_CMD_RESULT_RESULT = 0 ∧ d.is R.CPH_CMD_RESULT_DONE = true ∧
    Dev.Frame true [.cph, .twn] ([R.CPH_CMD_RESULT_RESULT.reg, R.CPH_IRQ] ++ mirrorRegs) s.dev d) ∧
  (∀ pass, s.dev.draining 15 = true → ∃ d : Dev, answers (.kat pass) s d ∧ d.is R.CPH_CMD_RESULT_DONE = true ∧ d.get R.CPH_CMD_RESULT_RESULT = 8 ∧
    Dev.Frame false [] [R.CPH_CMD_RESULT_RESULT.reg] s.dev d) ∧
  (∀ (n : Fin 4096) r, s.dev.cphGate = some r → ∃ d : Dev, answers (.erase n) s d ∧ d.cph = s.dev.cph ∧ d.get R.CPH_CMD_RESULT_RESULT = r.code ∧
    d.is R.CPH_CMD_RESULT_DONE = true ∧ Dev.Frame false [] [R.CPH_CMD_RESULT_RESULT.reg, R.TWN_COUNTS_REFUSED.reg] s.dev d) ∧
  (∀ pass, s.dev.draining 15 = false → ∃ d : Dev, answers (.kat pass) s d ∧ d.is R.CPH_CMD_RESULT_DONE = true ∧
    d.get R.CPH_CMD_RESULT_RESULT = (if s.dev.sup.mode ≠ .test then 9 else if pass = true then 0 else 10) ∧
    Dev.Frame false [] [R.CPH_CMD_RESULT_RESULT.reg] s.dev d)

/-- Ethernet ports (R376 to R386): a received frame is checked and handed to the parse unit; pauses; an underrun; low-power idle; the
link.
Its clauses rest on the model's choices in log entries 163, 208 where those speak of its commands. -/
def Obligations.EthernetPorts : Prop := ∀ (s : State) (n : Fin 8), s.runs → s.dev.macRuns n = true →
  (∀ body corrected uncorrectable, s.dev.is (R.MAC_En_STATUS_LINK n) = true → s.dev.macFec n = false → 60 ≤ body.length →
    body.length + 4 ≤ s.dev.get (R.MAC_En_CFG_MAX_FRAME n) → beAt body 12 2 ≠ 0x8808 → s.dev.parseRuns = true → s.dev.pwr.closed = false →
    s.dev.parseHeld = false → ∃ d : Dev, answers (.macRxFrame n (body ++ fcs body) false false corrected uncorrectable) s d ∧
      d.prs.user = s.dev.prs.user ++ [Frame.first_ clsEth n body (s.dev.rxStamp n)] ∧ d.prs.line = s.dev.prs.line ∧
      (d.rd (R.MAC_En_RX_FRAMES n)).toNat = min ((s.dev.rd (R.MAC_En_RX_FRAMES n)).toNat + 1) (2 ^ 32 - 1) ∧
      d.macP n = { s.dev.macP n with rxRem := ((s.dev.macP n).rxRem + body.length) % 1024 } ∧
      (d.rd (R.MAC_En_RX_KIB n)).toNat = min ((s.dev.rd (R.MAC_En_RX_KIB n)).toNat + ((s.dev.macP n).rxRem + body.length) / 1024) (2 ^ 32 - 1) ∧
      Dev.Frame false [.prs, .mac] [R.MAC_En_RX_FRAMES n, R.MAC_En_RX_KIB n] s.dev d) ∧
  (∀ b code overrun corrected uncorrectable, s.dev.is (R.MAC_En_STATUS_LINK n) = true → s.dev.macFec n = false → 4 ≤ b.length →
    b.drop (b.length - 4) ≠ fcs (b.take (b.length - 4)) → ∃ d : Dev, answers (.macRxFrame n b code overrun corrected uncorrectable) s d ∧
      d.get (R.MAC_En_RX_ERR_FCS n) = min (s.dev.get (R.MAC_En_RX_ERR_FCS n) + 1) 65535 ∧
      Dev.Frame false [] [(R.MAC_En_RX_ERR_FCS n).reg] s.dev d) ∧
  (∀ t u, (s.dev.macP n).pauseEnd = some t → u = s.dev.elapse ((t - s.dev.tmb.run + s.dev.incr - 1) / max 1 s.dev.incr) → ∃ d : Dev,
    answers (.pauseTimerExpiry n) s d ∧ d.is (R.MAC_En_STATUS_PAUSED n) = false ∧ (d.macP n).pauseEnd = none ∧
    Dev.Frame false [.mac] [(R.MAC_En_STATUS_PAUSED n).reg] u d) ∧
  (∀ v : Word, s.dev.open_ (R.MAC_En_PAUSE_TX n) → ∃ d : Dev, answers (.pauseTxGo n v) s (d.pausePump n) ∧
    d.macP n = { s.dev.macP n with pauseTx := some (v.toNat % 65536) } ∧ Dev.Frame false [.mac] [] s.dev d) ∧
  (∀ f step sent p c, s.dev.launching (n + 1) = some (f, step) → step ≠ 5 → sent < f.bytes.length →
    p = f.bytes.take sent ++ List.replicate (60 - sent) 0 → c = s.dev.get (R.MAC_En_CFG_CT_STEP n) → ∃ d : Dev,
    answers (.underrun n sent) s (((d.pauseStart n).pausePump n).userLanesOut s.dev) ∧ d.launching (n + 1) = none ∧ Out.eth n (p ++ (fcs p).map (~~~ ·)) ∈ d.out ∧
    d.get (R.MAC_En_TX_ERR_UNDERRUN n) = min (s.dev.get (R.MAC_En_TX_ERR_UNDERRUN n) + 1) 65535 ∧ d.get (R.MAC_En_CFG_CT_STEP n) = min 5 (c + 1) ∧
    bit (d.get R.MAC_IRQ_UNDERRUN) n = true ∧ (c = 4 → bit (d.get R.MAC_IRQ_STORE_FWD) n = true) ∧
    Dev.Frame true [.sch, .out, .mac] [(R.MAC_En_TX_ERR_UNDERRUN n).reg, (R.MAC_En_CFG_CT_STEP n).reg, R.MAC_IRQ, R.MAC_En_TX_FRAMES n, R.MAC_En_TX_KIB n]
      s.dev d) ∧
  (∀ u, u = s.dev.until_ ((s.dev.macP n).idleSince + s.dev.get (R.MAC_En_EEE_IDLE n) * usTicks) → s.dev.lpiBusy n = false → u.timedAhead n = none →
    s.dev.is (R.MAC_En_STATUS_TX_LPI n) = false → s.dev.is (R.MAC_En_STATUS_LINK n) = true → ∃ d : Dev, answers (.lpiEnter n) s (d.lpiLanes n) ∧
    d.is (R.MAC_En_STATUS_TX_LPI n) = true ∧
    d.get (R.MAC_En_LPI_COUNTS_TX_ENTRIES n) = min (s.dev.get (R.MAC_En_LPI_COUNTS_TX_ENTRIES n) + 1) 65535 ∧
    Dev.Frame false [] [(R.MAC_En_STATUS_TX_LPI n).reg, (R.MAC_En_LPI_COUNTS_TX_ENTRIES n).reg] u d) ∧
  (s.dev.is (R.MAC_En_STATUS_TX_LPI n) = true → s.dev.lpiBusy n = true → ∃ d : Dev, answers (.lpiExit n) s d ∧
    d.is (R.MAC_En_STATUS_TX_LPI n) = false ∧ (d.macP n).wakeUntil = s.dev.ticks + s.dev.get (R.MAC_En_EEE_TW n) * usTicks ∧
    Dev.Frame false [.mac] [(R.MAC_En_STATUS_TX_LPI n).reg] s.dev d) ∧
  (∀ k u, s.dev.is (R.MAC_En_STATUS_TX_LPI n) = true → s.dev.lpiBusy n = false → s.dev.timedAhead n = some k →
    u = s.dev.elapse (k + 1 - (s.dev.get (R.MAC_En_EEE_TW n) * usTicks + s.dev.get (R.MAC_En_EEE_IDLE n) * usTicks)) → ∃ d : Dev,
    answers (.lpiExit n) s d ∧ d.is (R.MAC_En_STATUS_TX_LPI n) = false ∧
    (d.macP n).wakeUntil = u.ticks + s.dev.get (R.MAC_En_EEE_TW n) * usTicks ∧ Dev.Frame false [.mac] [(R.MAC_En_STATUS_TX_LPI n).reg] u d) ∧
  (s.dev.is (R.MAC_En_STATUS_RX_LPI n) = false →
    answers (.rxLpiChange n true) s (((s.dev.set (R.MAC_En_STATUS_RX_LPI n) 1).lpiLanes n).count (R.MAC_En_LPI_COUNTS_RX_ENTRIES n) 1)) ∧
  (answers (.rxLpiChange n false) s ((s.dev.set (R.MAC_En_STATUS_RX_LPI n) 0).lpiLanes n)) ∧
  (∀ lock fec lf rf link, link = (lock && (!s.dev.macFec n || fec) && !lf && !rf) → ∃ d : Dev,
    (link = s.dev.is (R.MAC_En_STATUS_LINK n) → answers (.linkChange n lock fec lf rf) s d) ∧
    (link ≠ s.dev.is (R.MAC_En_STATUS_LINK n) → answers (.linkChange n lock fec lf rf) s (d.pausePump n) ∧ bit (d.get R.MAC_IRQ_LINK_CHG) n = true) ∧
    (lf ≠ s.dev.is (R.MAC_En_STATUS_LOCAL_FAULT n) → Out.ethFault n lf ∈ d.out) ∧
    d.is (R.MAC_En_STATUS_BLOCK_LOCK n) = lock ∧ d.is (R.MAC_En_STATUS_FEC_ALIGN n) = (s.dev.macFec n && fec) ∧
    d.is (R.MAC_En_STATUS_LOCAL_FAULT n) = lf ∧ d.is (R.MAC_En_STATUS_REMOTE_FAULT n) = rf ∧ d.is (R.MAC_En_STATUS_LINK n) = link ∧
    Dev.Frame true [] [(R.MAC_En_STATUS_LINK n).reg, R.MAC_IRQ] s.dev d)

/-- Serial lanes (R391 to R404, Table 18-3): the rows of the lane table, and what each counts and reports; filler, adaptation and test.
Its clauses rest on the model's choices in log entries 164, 210 to 212, 218 where those speak of its commands. -/
def Obligations.SerialLanes : Prop := ∀ (s : State) (i : Fin 18), s.runs →
  (s.dev.laneRuns i = true → s.dev.sleepsByRequest i true = false → s.dev.sleepsInLpi i true = false → ∃ d : Dev, answers (.laneWakeDone i true) s d ∧
    d.is (R.LAN_x_STATUS_TX_AWAKE i) = true ∧ d.laneSt i = s.dev.laneSt i ∧
    (d.laneTx i = s.dev.laneTx i → d.out = s.dev.out) ∧
    (d.laneTx i ≠ s.dev.laneTx i → d.out = Out.lane i (d.laneTx i) (s.dev.is (R.LAN_x_CTL_TX_INVERT i)) :: s.dev.out) ∧
    Dev.Frame false [.out] [(R.LAN_x_STATUS_STATE i).reg] s.dev d) ∧
  (s.dev.laneRuns i = true → s.dev.sleepsByRequest i false = false → s.dev.sleepsInLpi i false = false → s.dev.laneSt i = lsOff → ∃ d : Dev,
    answers (.laneWakeDone i false) s d ∧ d.is (R.LAN_x_STATUS_RX_AWAKE i) = true ∧ d.laneSt i = lsCal ∧
    Dev.Frame false [] [(R.LAN_x_STATUS_STATE i).reg] s.dev d) ∧
  (s.dev.laneRx i = true → s.dev.laneSt i = lsCal → ∃ d : Dev, answers (.laneCalDone i) s d ∧ d.laneSt i = lsCdr ∧ d.lane i = { LanLane.empty with prbs := (s.dev.lane i).prbs } ∧
    d.is (R.LAN_x_STATUS_ADAPTED i) = false ∧ (∀ j, j < 3 → d.rd (R.LAN_x_DFE i j) = 0) ∧ (∀ j, j ≠ i.val → d.lane j = s.dev.lane j) ∧
    Dev.Frame false [.lan] ((R.LAN_x_STATUS_STATE i).reg :: (List.range 3).map (R.LAN_x_DFE i)) s.dev d) ∧
  (s.dev.laneRx i = true → s.dev.laneSt i = lsHunt ∨ s.dev.laneSt i = lsCheck ∨ s.dev.laneSt i = lsFail → ∀ c, c = Instr.laneLosOn i ∨
      (c = .cdrLockLoss i ∧ s.dev.is (R.LAN_x_STATUS_CDR_LOCK i) = true) → ∃ d : Dev, answers c s d ∧
    d.laneSt i = lsCdr ∧ d.is (R.LAN_x_STATUS_CDR_LOCK i) = false ∧ (c = Instr.laneLosOn i → d.is (R.LAN_x_STATUS_LOS i) = true) ∧
    d.is (R.LAN_x_STATUS_RX_INVERTED i) = false ∧ (s.dev.laneSt i = lsFail → d.get (R.LAN_x_STATUS_FAIL_REASON i) = 0) ∧
    d.lane i = { LanLane.empty with prbs := (s.dev.lane i).prbs } ∧
    d.get (R.LAN_x_SIGNAL_COUNTS_LOS i) = min (s.dev.get (R.LAN_x_SIGNAL_COUNTS_LOS i) + 1) 65535 ∧
    Dev.Frame false [.lan] ([(R.LAN_x_STATUS_STATE i).reg, (R.LAN_x_SIGNAL_COUNTS_LOS i).reg] ++ (List.range 3).map (R.LAN_x_DFE i)) s.dev d) ∧
  (s.dev.laneRx i = true → ∃ d : Dev, answers (.laneLosOff i) s d ∧ d.is (R.LAN_x_STATUS_LOS i) = false ∧ d.laneSt i = s.dev.laneSt i ∧
    Dev.Frame false [] [(R.LAN_x_STATUS_LOS i).reg] s.dev d) ∧
  (s.dev.laneRx i = true → s.dev.is (R.LAN_x_STATUS_LOS i) = false → s.dev.laneSt i = lsCdr → ∃ d : Dev, answers (.laneCdrLocked i) s d ∧
    d.laneSt i = lsHunt ∧ d.is (R.LAN_x_STATUS_CDR_LOCK i) = true ∧ Dev.Frame false [] [(R.LAN_x_STATUS_STATE i).reg] s.dev d) ∧
  (∀ headers, s.dev.laneRx i = true → s.dev.laneSt i = lsHunt → (s.dev.laneUse i = 1 ∨ (∀ h, h ∈ headers → h = 1 ∨ h = 2) ∧
      (s.dev.lane i).align.count ≤ 96 ∧ 96 ≤ (s.dev.lane i).align.count + headers.length) → ∃ d : Dev, answers (.blockLock (.mk i headers)) s d ∧
    d.laneSt i = lsCheck ∧ (d.lane i).since = s.dev.ticks ∧ (d.lane i).polOk = false ∧ (d.lane i).far = none ∧ (d.lane i).align.bad = 0 ∧
    Dev.Frame false [.lan] [(R.LAN_x_STATUS_STATE i).reg] s.dev d) ∧
  (∀ headers x, s.dev.laneRx i = true → s.dev.laneSt i = lsHunt → s.dev.laneUse i ≠ 1 → x = (s.dev.lane i).align.hunt headers → x.count ≠ 96 →
    answers (.blockLock (.mk i headers)) s (s.dev.setLane i { s.dev.lane i with align := x })) ∧
  (∀ headers, s.dev.laneRx i = true → s.dev.laneSt i = lsCheck → s.dev.plainEth i = true → ∃ d : Dev, answers (.blockLock (.mk i headers)) s (d.groupEval i) ∧
    d.laneSt i = lsUp ∧ (d.lane i).polOk = true ∧ bit (d.get R.LAN_IRQ_CHANGE) i = true ∧
    Dev.Frame true [.lan] [(R.LAN_x_STATUS_STATE i).reg, R.LAN_IRQ] s.dev d) ∧
  (∀ l, l < 256 → 2 ≤ s.dev.laneUse i → s.dev.markerOf i false (.block (BitVec.ofNat 64 (markerPayload l))) = some l ∧
    s.dev.markerOf i true (.block (~~~BitVec.ofNat 64 (markerPayload l))) = some l) ∧
  (∀ m l, s.dev.laneRx i = true → s.dev.laneSt i = lsCheck → s.dev.markerOf i true m = some l → s.dev.is (R.LAN_x_CTL_POL_AUTO i) = true →
    ∀ a, ∃ d : Dev, answers (.laneMarker i m true a) s d ∧ d.laneSt i = lsHunt ∧
    d.get (R.LAN_x_STATUS_RX_INVERTED i) = 1 - s.dev.get (R.LAN_x_STATUS_RX_INVERTED i) ∧
    d.get (R.LAN_x_ALIGN_COUNTS_POL_FLIPS i) = min (s.dev.get (R.LAN_x_ALIGN_COUNTS_POL_FLIPS i) + 1) 255 ∧ d.is R.LAN_IRQ_POL_FLIP = true ∧
    Dev.Frame true [] [(R.LAN_x_STATUS_STATE i).reg, (R.LAN_x_ALIGN_COUNTS_POL_FLIPS i).reg, R.LAN_IRQ] s.dev d) ∧
  (∀ m l, s.dev.laneRx i = true → s.dev.laneSt i = lsCheck → s.dev.markerOf i false m = some l → s.dev.bonded i = false → ∀ a, ∃ d : Dev,
    answers (.laneMarker i m false a) s (d.groupEval i) ∧ d.laneSt i = lsUp ∧ (d.lane i).far = some l ∧ (d.lane i).polOk = true ∧
    bit (d.get R.LAN_IRQ_CHANGE) i = true ∧ Dev.Frame true [.lan] [(R.LAN_x_STATUS_STATE i).reg, R.LAN_IRQ] s.dev d) ∧
  (∀ m l, s.dev.laneRx i = true → s.dev.laneSt i = lsCheck → s.dev.markerOf i false m = some l → s.dev.bonded i = true → ∀ a, ∃ d : Dev,
    answers (.laneMarker i m false a) s (d.groupCheck (groupOf i)) ∧ (d.lane i).far = some l ∧ (d.lane i).arrival = a ∧
    (d.lane i).polOk = true ∧ Dev.Frame false [.lan] [] s.dev d) ∧
  (∀ m c a, s.dev.laneRx i = false ∨ s.dev.laneSt i ≠ lsCheck ∨ s.dev.markerOf i c m = none → answers (.laneMarker i m c a) s s.dev) ∧
  (s.dev.laneSt i = lsCheck → s.dev.plainEth i = true → s.dev.is (R.LAN_x_CTL_POL_AUTO i) = false → ∃ d : Dev, answers (.checkTimeout i) s d ∧
    d.laneSt i = lsHunt ∧ d.ticks = (s.dev.until_ ((s.dev.lane i).since + 2 * msTicks)).ticks ∧
    Dev.Frame false [.ticks, .tmb] [(R.LAN_x_STATUS_STATE i).reg] s.dev d) ∧
  (s.dev.laneSt i = lsCheck → s.dev.plainEth i = false → ∃ d : Dev, answers (.checkTimeout i) s d ∧ d.laneSt i = lsHunt ∧
    d.get (R.LAN_x_ALIGN_COUNTS_CHECK_TO i) = min (s.dev.get (R.LAN_x_ALIGN_COUNTS_CHECK_TO i) + 1) 255 ∧ (s.dev.lane i).since + 2 * msTicks ≤ d.ticks ∧
    Dev.Frame false [.ticks, .tmb] [(R.LAN_x_STATUS_STATE i).reg, (R.LAN_x_ALIGN_COUNTS_CHECK_TO i).reg] s.dev d) ∧
  (s.dev.laneSt i = lsFail → ∃ d : Dev, answers (.failTimeout i) s d ∧ d.laneSt i = lsHunt ∧ d.get (R.LAN_x_STATUS_FAIL_REASON i) = 0 ∧
    (s.dev.lane i).since + 100 * msTicks ≤ d.ticks ∧ Dev.Frame false [.ticks, .tmb] [(R.LAN_x_STATUS_STATE i).reg] s.dev d) ∧
  (∀ headers x n, s.dev.laneRx i = true → s.dev.laneSt i = lsUp → s.dev.laneUse i ≠ 1 → (s.dev.lane i).align.hold headers 0 = (x, n) → 24 ≤ x.bad →
    ∃ d : Dev, answers (.lockLoss i headers) s (d.groupEval i) ∧ d.laneSt i = lsHunt ∧
    d.get (R.LAN_x_ALIGN_COUNTS_LOCK_LOSS i) = min (s.dev.get (R.LAN_x_ALIGN_COUNTS_LOCK_LOSS i) + 1) 65535 ∧
    (d.rd (R.LAN_x_INVALID i)).toNat = min ((s.dev.rd (R.LAN_x_INVALID i)).toNat + n) (2 ^ 32 - 1) ∧ bit (d.get R.LAN_IRQ_CHANGE) i = true ∧
    (d.lane i).align.bad = 0 ∧
    Dev.Frame true [.lan] [(R.LAN_x_STATUS_STATE i).reg, (R.LAN_x_ALIGN_COUNTS_LOCK_LOSS i).reg, R.LAN_x_INVALID i, R.LAN_IRQ] s.dev d) ∧
  (∀ headers x n, s.dev.laneRx i = true → s.dev.laneSt i = lsUp → s.dev.laneUse i ≠ 1 → (s.dev.lane i).align.hold headers 0 = (x, n) → x.bad < 24 →
    ∃ d : Dev, answers (.lockLoss i headers) s d ∧ d.laneSt i = lsUp ∧ (d.lane i).align = x ∧
    (d.rd (R.LAN_x_INVALID i)).toNat = min ((s.dev.rd (R.LAN_x_INVALID i)).toNat + n) (2 ^ 32 - 1) ∧
    Dev.Frame false [.lan] [R.LAN_x_INVALID i] s.dev d) ∧
  (∀ headers, s.dev.laneRx i = true → s.dev.laneSt i = lsUp → s.dev.laneUse i = 1 → ∃ d : Dev, answers (.lockLoss i headers) s (d.groupEval i) ∧
    d.laneSt i = lsHunt ∧ d.get (R.LAN_x_ALIGN_COUNTS_LOCK_LOSS i) = min (s.dev.get (R.LAN_x_ALIGN_COUNTS_LOCK_LOSS i) + 1) 65535 ∧
    Dev.Frame true [] [(R.LAN_x_STATUS_STATE i).reg, (R.LAN_x_ALIGN_COUNTS_LOCK_LOSS i).reg, R.LAN_IRQ] s.dev d) ∧
  (∀ level : Fin 17, s.dev.laneRx i = true → 2 ≤ s.dev.laneUse i → s.dev.is (R.LAN_Gg_CFG_CLOCK (groupOf i)) = false → s.dev.laneSt i = lsUp → ∃ d : Dev,
    answers (.fillerAdjust i level) s d ∧
    d.get (R.LAN_x_FILL_INSERTED i) = min (s.dev.get (R.LAN_x_FILL_INSERTED i) + if level.val < 4 then 1 else 0) 65535 ∧
    d.get (R.LAN_x_FILL_DELETED i) = min (s.dev.get (R.LAN_x_FILL_DELETED i) + if 12 < level.val then 1 else 0) 65535 ∧
    Dev.Frame false [] [(R.LAN_x_FILL_INSERTED i).reg] s.dev d) ∧
  (∀ ctle steps, s.dev.laneRx i = true → s.dev.laneSt i = lsHunt ∨ s.dev.laneSt i = lsCheck ∨ s.dev.laneSt i = lsUp → s.dev.is (R.LAN_x_CTL_FREEZE i) = false →
    ∃ d : Dev, answers (.laneAdaptationUpdate i ctle steps) s d ∧
      (d.get (R.LAN_x_EQ_CTLE i) : Int) = max 0 (min 15 ((s.dev.get (R.LAN_x_EQ_CTLE i) : Int) + ctle)) ∧
      (∀ k, k < 12 → d.laneTap i k = max (-128) (min 127 (s.dev.laneTap i k + steps.getD k 0))) ∧ d.laneSt i = s.dev.laneSt i ∧
      Dev.Frame false [.lan] ([(R.LAN_x_STATUS_STATE i).reg, (R.LAN_x_EQ_CTLE i).reg] ++ (List.range 3).map (R.LAN_x_DFE i)) s.dev d) ∧
  (∀ received last x, s.dev.sup.mode = .test → s.dev.is (R.LAN_x_TEST_CHK i) = true →
    x = (s.dev.lane i).prbs.steps (s.dev.get (R.LAN_x_TEST_PATTERN i)) (s.dev.is (R.LAN_x_STATUS_PRBS_LOCK i)) (received ++ [last]) 0 → ∃ d : Dev,
    answers (.lanePrbsLockChange i received last) s d ∧ d.is (R.LAN_x_STATUS_PRBS_LOCK i) = x.2.1 ∧ (d.lane i).prbs = x.1 ∧
    (d.rd (R.LAN_x_PRBS_ERR i)).toNat = min ((s.dev.rd (R.LAN_x_PRBS_ERR i)).toNat + x.2.2) (2 ^ 32 - 1) ∧
    Dev.Frame false [.lan] [(R.LAN_x_STATUS_PRBS_LOCK i).reg, R.LAN_x_PRBS_ERR i] s.dev d) ∧
  (∀ received last, s.dev.sup.mode ≠ .test ∨ s.dev.is (R.LAN_x_TEST_CHK i) = false → answers (.lanePrbsLockChange i received last) s s.dev)

/-- The rope fabric (R18, R407, R410 to R423, R425): ROPE_FRAME_RX, HAIL_RX, HAIL_TIMER, HAIL_TIMEOUT, LSR_RX, LSR_REFRESH, LSR_AGE_OUT,
NODE_CLAIM, ROUTE_COMPUTE, REBIND. u is the block once the frame's access to its domain is noted (R473), or once the command's instant is
reached. That a frame shorter than header and FCS counts HDR is the model's choice (log entry 166).
Its clauses rest on the model's choices in log entries 165, 166, 168, 213 where those speak of its commands. -/
def Obligations.RopeFabric : Prop := ∀ (s : State) (n : Fin 8), s.runs →
  (∀ b c u, c ∈ [Instr.ropeFrameRx n b, .hailRx n b, .lsrRx n b] → u = s.dev.access domRope cliFab →
    (s.dev.ropReceives n = false → answers c s s.dev) ∧
    (s.dev.ropReceives n = true → b.length < 20 ∨ hdrBits b 124 4 ≠ 1 ∨ 8 ≤ hdrKind b ∨ hec (b.take 14) ≠ beAt b 14 2 → ∃ d : Dev,
      answers c s d ∧ d.get R.ROP_DROPS_HDR = min (u.get R.ROP_DROPS_HDR + 1) 255 ∧ Dev.Frame false [] [R.ROP_DROPS_HDR.reg] u d) ∧
    (s.dev.ropReceives n = true → 20 ≤ b.length → hdrBits b 124 4 = 1 → hdrKind b < 8 → hec (b.take 14) = beAt b 14 2 →
      b.drop (b.length - 4) ≠ fcs (b.take (b.length - 4)) → ∃ d : Dev, answers c s d ∧
      d.get R.ROP_DROPS_FCS = min (u.get R.ROP_DROPS_FCS + 1) 255 ∧ Dev.Frame false [] [R.ROP_DROPS_FCS.reg] u d)) ∧
  (∀ b, s.dev.RopeGood n b → (hdrKind b = kHail → exec (.ropeFrameRx n b) s = exec (.hailRx n b) s) ∧
    (hdrKind b = kLsr → exec (.ropeFrameRx n b) s = exec (.lsrRx n b) s)) ∧
  (∀ b u, s.dev.RopeGood n b → u = s.dev.access domRope cliFab → hdrKind b ≠ kHail → hdrKind b ≠ kLsr →
    (u.is (R.ROP_Pn_STATUS_ADJ_UP n) = false → answers (.ropeFrameRx n b) s u) ∧
    (u.is (R.ROP_Pn_STATUS_ADJ_UP n) = true → u.claimed = true → hdrBits b 110 10 = u.nodeId →
      (hdrKind b = kData → answers (.ropeFrameRx n b) s (u.ropeDeliver n (hdrBits b 100 10) (ropBody b)).settle) ∧
      (hdrKind b = kRelayDown → answers (.ropeFrameRx n b) s (u.relayDown (hdrBits b 70 16) (bit (beAt b 0 16) 69) (ropBody b)).settle) ∧
      (hdrKind b = kRelayUp → u.is R.ROP_CFG_RELAY_SERVER = true → answers (.ropeFrameRx n b) s
        (u.admitFrame { (default : QFrame) with bytes := ropBody b, queue := u.get R.ROP_RELAY_CFG_UPQ, rx := u.now }).settle) ∧
      (hdrKind b = kRelayUp → u.is R.ROP_CFG_RELAY_SERVER = false → ∃ d : Dev, answers (.ropeFrameRx n b) s d.settle ∧
        d.get R.ROP_DROPS_RELAY = min (u.get R.ROP_DROPS_RELAY + 1) 15 ∧ Dev.Frame false [] [R.ROP_DROPS_RELAY.reg] u d) ∧
      (hdrKind b = kMsg → answers (.ropeFrameRx n b) s (u.deliverRemote (hdrBits b 53 16)
        { kind := 2, flag := hdrBits b 48 5, src := beAt (ropBody b) 0 2, node := hdrBits b 100 10, payload := slice (ropBody b) 4 48 }).settle) ∧
      (hdrKind b = kTwin → answers (.ropeFrameRx n b) s
        (if u.is R.TWN_CFG_PATH = true then u.twinRecords ((ropBody b).length / 8) (ropBody b) else u).settle) ∧
      (hdrKind b = kReferee → answers (.ropeFrameRx n b) s (u.refereeIn (ropBody b)).settle)) ∧
    (u.is (R.ROP_Pn_STATUS_ADJ_UP n) = true → u.draining 14 = false → u.claimed = false ∨ hdrBits b 110 10 ≠ u.nodeId →
      (hdrBits b 92 8 ≤ 1 → ∃ d : Dev, answers (.ropeFrameRx n b) s d ∧ d.get R.ROP_DROPS_TTL = min (u.get R.ROP_DROPS_TTL + 1) 15 ∧
        Dev.Frame false [] [R.ROP_DROPS_TTL.reg] u d) ∧
      (1 < hdrBits b 92 8 → u.route (hdrBits b 110 10) = none → ∃ d : Dev, answers (.ropeFrameRx n b) s d ∧
        (d.rd R.ROP_NO_ROUTE).toNat = min ((u.rd R.ROP_NO_ROUTE).toNat + 1) (2 ^ 32 - 1) ∧ Dev.Frame false [] [R.ROP_NO_ROUTE] u d) ∧
      (∀ r j h, 1 < hdrBits b 92 8 → u.route (hdrBits b 110 10) = some r →
        j = (if hdrKind b = kMsg then u.get R.ROP_FAB_CFG_MSG_QIDX else if hdrKind b = kTwin then u.get R.ROP_FAB_CFG_TWIN_QIDX else hdrBits b 86 6) →
        h = ropeHeader (hdrKind b) (hdrBits b 110 10) (hdrBits b 100 10) (hdrBits b 92 8 - 1) (hdrBits b 86 6) (hdrBits b 70 16)
          (bit (beAt b 0 16) 69) (hdrBits b 53 16) (hdrBits b 48 5) →
        (hdrKind b = kReferee → answers (.ropeFrameRx n b) s (u.ctlOut r.primary (h ++ ropBody b ++ fcs (h ++ ropBody b)))) ∧
        (∀ q, hdrKind b ≠ kReferee → u.ropeQueue r.primary j = some q → answers (.ropeFrameRx n b) s
          (u.admitFrame { (default : QFrame) with bytes := ropBody b, rx := u.now, queue := q, rope := some h })) ∧
        (hdrKind b ≠ kReferee → u.ropeQueue r.primary j = none → ∃ d : Dev, answers (.ropeFrameRx n b) s d ∧
          d.get R.ROP_DROPS_QUEUE = min (u.get R.ROP_DROPS_QUEUE + 1) 15 ∧ Dev.Frame false [] [R.ROP_DROPS_QUEUE.reg] u d)))) ∧
  (∀ b p u, s.dev.RopeGood n b → u = s.dev.access domRope cliFab → hdrKind b = kHail → p = ropBody b →
    ((bit (beAt p 8 2) 15 = true → u.claimed = true → beAt p 8 2 % 1024 = u.nodeId → beAt p 0 8 = u.serial) → ∃ d : Dev,
      answers (.hailRx n b) s d.settle ∧ d.rd64 (R.ROP_Pn_NBR_SERIAL_LO n) = beAt p 0 8 ∧ (d.ropP n).heardAt = some u.ticks ∧
      (d.ropP n).node = beAt p 8 2 % 1024 ∧
      d.is (R.ROP_Pn_STATUS_TWO_WAY n) = (u.rop.running && u.ropeLink n && (beAt p 12 8 == u.serial)) ∧
      d.is (R.ROP_Pn_STATUS_ADJ_UP n) = (u.rop.running && u.ropeLink n && (beAt p 12 8 == u.serial) && bit (beAt p 8 2) 15 && u.claimed) ∧
      d.get (R.ROP_Pn_HAILS_RX n) = min (u.get (R.ROP_Pn_HAILS_RX n) + 1) 65535 ∧
      (beAt p 0 8 ≠ (u.ropP n).serial → u.rop.running = true → u.ropeLink n = true → u.draining 14 = false →
        d.get (R.ROP_Pn_HAILS_TX n) = min (u.get (R.ROP_Pn_HAILS_TX n) + 1) 65535) ∧
      (beAt p 0 8 = (u.ropP n).serial → u.is (R.ROP_Pn_STATUS_TWO_WAY n) = true → u.rop.running = true → u.ropeLink n = true →
        beAt p 12 8 = u.serial → u.is (R.ROP_Pn_STATUS_ADJ_UP n) = (bit (beAt p 8 2) 15 && u.claimed) →
        (beAt p 8 2 % 1024 = u.get (R.ROP_Pn_STATUS_NEIGHBOR n) → beAt p 24 4 ≠ u.ropDigest → (u.ropP n).differ = 2 →
          (d.ropP n).differ = 0 ∧ d.get R.ROP_COUNTS_DB_RESYNC = min (u.get R.ROP_COUNTS_DB_RESYNC + 1) 255) ∧
        (beAt p 8 2 % 1024 ≠ u.get (R.ROP_Pn_STATUS_NEIGHBOR n) → u.is (R.ROP_Pn_STATUS_ADJ_UP n) = true →
          ∃ r, d.rop.own = some r ∧ r.seq = u.rop.nextSeq ∧ RopLink.mk n (u.get (R.ROP_Pn_CFG_COST n)) (beAt p 8 2 % 1024) (beAt p 0 8) ∈ r.links)) ∧
      Dev.Frame true [.rop] [R.ROP_Pn_STATUS n, R.ROP_Pn_NBR_SERIAL_LO n, R.ROP_Pn_NBR_SERIAL_LO n + 4, (R.ROP_Pn_HAILS_RX n).reg,
        R.ROP_COUNTS_DB_RESYNC.reg, R.ROP_IRQ, R.ROP_ROUTING_FAILOVERS.reg, R.ROP_STATUS] u d) ∧
    (bit (beAt p 8 2) 15 = true → u.claimed = true → beAt p 8 2 % 1024 = u.nodeId → beAt p 0 8 ≠ u.serial → ∃ d : Dev,
      answers (.hailRx n b) s d.settle ∧ d.get R.ROP_COUNTS_COLLISIONS = min (u.get R.ROP_COUNTS_COLLISIONS + 1) 255 ∧
      d.is R.ROP_IRQ_COLLISION = true ∧ (u.serial < beAt p 0 8 → d.nodeId = u.nodeId ∧ d.claimed = true) ∧
      (∀ a id, beAt p 0 8 < u.serial → u.chooseId (u.get R.ROP_STATUS_ATTEMPT + 1) = some (a, id) → d.nodeId = id ∧ d.claimed = true ∧
        d.get R.ROP_COUNTS_ID_CHANGES = min (u.get R.ROP_COUNTS_ID_CHANGES + 1) 255 ∧ d.is R.ROP_IRQ_ID_CHANGED = true) ∧
      Dev.Frame true [.rop] ([R.ROP_Pn_NBR_SERIAL_LO n, R.ROP_Pn_NBR_SERIAL_LO n + 4, (R.ROP_Pn_HAILS_RX n).reg, R.ROP_COUNTS_DB_RESYNC.reg,
        R.ROP_IRQ, R.ROP_ROUTING_FAILOVERS.reg, R.ROP_STATUS] ++ (List.range 8).map R.ROP_Pn_STATUS) u d)) ∧
  (∀ t u f, s.dev.ropReceives n = true → s.dev.draining 14 = false → (s.dev.ropP n).hailAt = some t → u = s.dev.until_ t →
    f = ropeHeader kHail 0 (if u.claimed = true then u.nodeId else 0) 1 0 0 false 0 0 ++ u.hailBytes n → ∃ d : Dev, answers (.hailTimer n) s d ∧
    (sget none (9 + n.val) u.sch.launching = none → d.out = .rope n (f ++ fcs f) :: u.out) ∧
    (sget none (9 + n.val) u.sch.launching ≠ none → d.out = u.out ∧
      sget [] (9 + n.val) d.sch.ctlWait = sget [] (9 + n.val) u.sch.ctlWait ++ [f ++ fcs f]) ∧
    d.ropP n = { s.dev.ropP n with hailAt := some (t + 10 * msTicks) } ∧
    d.get (R.ROP_Pn_HAILS_TX n) = min (s.dev.get (R.ROP_Pn_HAILS_TX n) + 1) 65535 ∧
    Dev.Frame false [.rop, .out, .sch] [(R.ROP_Pn_HAILS_TX n).reg] u d) ∧
  (∀ t u, (s.dev.ropP n).heardAt = some t → u = s.dev.until_ (t + 30 * msTicks) → ∃ d : Dev, answers (.hailTimeout n) s d.settle ∧
    (d.ropP n).heardAt = none ∧ d.is (R.ROP_Pn_STATUS_HEARD n) = false ∧ d.is (R.ROP_Pn_STATUS_TWO_WAY n) = false ∧ d.is (R.ROP_Pn_STATUS_ADJ_UP n) = false ∧
    (s.dev.is (R.ROP_Pn_STATUS_ADJ_UP n) = true → bit (d.get R.ROP_IRQ_ADJ) n = true ∧
      ((∀ x, x ∈ s.dev.rop.routes → x.2.alt ≠ some x.2.primary) → ∀ x, x ∈ d.rop.routes → x.2.primary ≠ n ∧ x.2.alt ≠ some n.val)) ∧
    Dev.Frame true [.rop] [R.ROP_Pn_STATUS n, R.ROP_IRQ, R.ROP_ROUTING_FAILOVERS.reg, R.ROP_STATUS] u d) ∧
  (∀ b r u, s.dev.RopeGood n b → u = s.dev.access domRope cliFab → hdrKind b = kLsr → r = lsrOf (ropBody b) u.ticks →
    (u.is (R.ROP_Pn_STATUS_TWO_WAY n) = false → ∃ d : Dev, answers (.lsrRx n b) s d.settle ∧
      d.get (R.ROP_Pn_LSR_DISCARDED n) = min (u.get (R.ROP_Pn_LSR_DISCARDED n) + 1) 65535 ∧ Dev.Frame false [] [(R.ROP_Pn_LSR_DISCARDED n).reg] u d) ∧
    (∀ o, u.is (R.ROP_Pn_STATUS_TWO_WAY n) = true → u.claimed = true → r.id = u.nodeId → r.serial = u.serial → u.rop.own = some o →
      1 ≤ seqSub r.seq o.seq → seqSub r.seq o.seq < 2 ^ 31 → ∃ d : Dev, answers (.lsrRx n b) s d.settle ∧
      d.rop.own = some (Lsr.mk u.nodeId u.serial (seqNext r.seq) 0 u.ticks u.ropFlags u.upLinks) ∧
      d.get (R.ROP_Pn_LSR_DISCARDED n) = min (u.get (R.ROP_Pn_LSR_DISCARDED n) + 1) 65535 ∧
      Dev.Frame false [.rop, .out, .sch] [(R.ROP_Pn_LSR_DISCARDED n).reg, R.ROP_STATUS] u d) ∧
    (u.is (R.ROP_Pn_STATUS_TWO_WAY n) = true → (u.claimed = true → r.id ≠ u.nodeId) → u.is R.ROP_STATUS_NO_ID = false →
      ((∀ o, u.rop.db.find? (fun x => x.id == r.id && x.serial == r.serial) = some o → 1 ≤ seqSub r.seq o.seq ∧ seqSub r.seq o.seq < 2 ^ 31) →
        bit r.flags 7 = true ∨ u.records.length < 2048 → ∃ d : Dev, answers (.lsrRx n b) s d.settle ∧
        d.rop.db = (u.rop.db.filter fun x => !(x.id == r.id && x.serial == r.serial)) ++ (if bit r.flags 7 = true then [] else [r]) ∧
        d.rop.changed = some u.ticks ∧ d.rop.settleFrom = (if bit r.flags 7 = true then u.rop.settleFrom else u.ticks) ∧
        d.get (R.ROP_Pn_LSR_ACCEPTED n) = min (u.get (R.ROP_Pn_LSR_ACCEPTED n) + 1) 65535 ∧
        (∀ m f, m < 8 → m ≠ n.val → u.is (R.ROP_Pn_STATUS_TWO_WAY m) = true → sget none (9 + m) u.sch.launching = none →
          f = ropeHeader kLsr 0 (if u.claimed = true then u.nodeId else 0) 1 0 0 false 0 0 ++ u.lsrBytes r → Out.rope m (f ++ fcs f) ∈ d.out) ∧
        Dev.Frame false [.rop, .out, .sch] [(R.ROP_Pn_LSR_ACCEPTED n).reg, R.ROP_STATUS] u d) ∧
      (u.rop.db.find? (fun x => x.id == r.id && x.serial == r.serial) = none → bit r.flags 7 = false → 2048 ≤ u.records.length → ∃ d : Dev,
        answers (.lsrRx n b) s d.settle ∧ d.rop = u.rop ∧ d.get R.ROP_COUNTS_DB_FULL = min (u.get R.ROP_COUNTS_DB_FULL + 1) 255 ∧
        d.is R.ROP_IRQ_DB_FULL = true ∧ Dev.Frame true [] [R.ROP_COUNTS_DB_FULL.reg, R.ROP_IRQ] u d) ∧
      (∀ o, u.rop.db.find? (fun x => x.id == r.id && x.serial == r.serial) = some o → seqSub r.seq o.seq = 0 ∨ 2 ^ 31 ≤ seqSub r.seq o.seq → ∃ d : Dev,
        answers (.lsrRx n b) s d.settle ∧ d.get (R.ROP_Pn_LSR_DISCARDED n) = min (u.get (R.ROP_Pn_LSR_DISCARDED n) + 1) 65535 ∧
        Dev.Frame false [] [(R.ROP_Pn_LSR_DISCARDED n).reg] u d)) ∧
    (u.is (R.ROP_Pn_STATUS_TWO_WAY n) = true → u.claimed = true → r.id = u.nodeId → r.serial ≠ u.serial → bit r.flags 7 = false →
      u.records.length < 2048 → u.rop.db.find? (fun x => x.id == r.id && x.serial == r.serial) = none → ∃ d : Dev,
      answers (.lsrRx n b) s d.settle ∧ r ∈ d.rop.db ∧ d.get R.ROP_COUNTS_COLLISIONS = min (u.get R.ROP_COUNTS_COLLISIONS + 1) 255 ∧
      d.is R.ROP_IRQ_COLLISION = true ∧ (u.serial < r.serial → d.nodeId = u.nodeId ∧ d.claimed = true) ∧
      Dev.Frame true [.rop] ([(R.ROP_Pn_LSR_ACCEPTED n).reg, R.ROP_COUNTS_DB_RESYNC.reg, R.ROP_IRQ, R.ROP_ROUTING_FAILOVERS.reg, R.ROP_STATUS] ++
        (List.range 8).map R.ROP_Pn_STATUS) u d)) ∧
  (∀ o u, s.dev.rop.own = some o → s.dev.claimed = true → u = s.dev.until_ (o.since + 2 * secTicks) → ∃ d : Dev, answers .lsrRefresh s d ∧
    d.rop.own = some (Lsr.mk u.nodeId u.serial u.rop.nextSeq 0 u.ticks u.ropFlags u.upLinks) ∧ d.rop.nextSeq = seqNext u.rop.nextSeq ∧
    d.rop.changed = some u.ticks ∧ d.rop.db = s.dev.rop.db.filter (fun x => x.id != u.nodeId || x.serial != u.serial) ∧
    Dev.Frame false [.rop, .out, .sch] [R.ROP_STATUS] u d) ∧
  (∀ t u, (s.dev.rop.db.map fun r => r.since + (800 - r.age) * 10 * msTicks).min? = some t → u = s.dev.until_ t → s.dev.is R.ROP_STATUS_NO_ID = false →
    ∃ d : Dev, answers .lsrAgeOut s d.settle ∧ d.rop.db = s.dev.rop.db.filter (fun r => decide (r.ageAt u.ticks < 800)) ∧ d.rop.changed = some u.ticks ∧
    Dev.Frame false [.rop] [R.ROP_STATUS] u d) ∧
  (∀ u, s.dev.rop.running = true → s.dev.claimed = false → s.dev.is R.ROP_STATUS_NO_ID = false →
    u = s.dev.until_ (s.dev.rop.settleFrom + s.dev.get R.ROP_CFG_SETTLE * msTicks) →
    (∀ a id, u.chooseId 0 = some (a, id) → ∃ d : Dev, answers .nodeClaim s d.settle ∧ d.get R.ROP_STATUS_NODE_ID = id ∧ d.get R.ROP_STATUS_ATTEMPT = a ∧
      d.is R.ROP_STATUS_CLAIMED = true ∧ (∃ r, d.rop.own = some r ∧ r.id = id ∧ r.serial = s.dev.serial) ∧
      Dev.Frame true [.rop] ([R.ROP_STATUS, R.ROP_IRQ, R.ROP_ROUTING_FAILOVERS.reg] ++ (List.range 8).map R.ROP_Pn_STATUS) u d) ∧
    (u.chooseId 0 = none → ∃ d : Dev, answers .nodeClaim s d.settle ∧ d.is R.ROP_STATUS_NO_ID = true ∧ d.is R.ROP_STATUS_CLAIMED = false ∧
      d.is R.ROP_IRQ_NO_ID = true ∧ d.rop.routes = [] ∧
      Dev.Frame true [.rop] ([R.ROP_STATUS, R.ROP_IRQ, R.ROP_ROUTING_FAILOVERS.reg] ++ (List.range 8).map R.ROP_Pn_STATUS) u d)) ∧
  (∀ t u, s.dev.rop.changed = some t → u = s.dev.until_ (t + msTicks) → ∃ d : Dev, answers .routeCompute s d.settle ∧ d.rop.changed = none ∧
    d.rop.routes = (if s.dev.claimed = true then u.computeRoutes else []) ∧ (∀ x, x ∈ d.rop.routes → x.2.alt ≠ some x.2.primary) ∧
    d.get R.ROP_ROUTING_COMPUTES = min (s.dev.get R.ROP_ROUTING_COMPUTES + 1) 65535 ∧ Dev.Frame false [.rop] [R.ROP_ROUTING_COMPUTES.reg] u d) ∧
  (s.dev.open_ R.ROP_CTL → s.dev.relay = true → s.dev.get R.ROP_RELAY_STATUS_STATE ≠ 0 → ∃ d : Dev, answers .rebind s (d.trigger .syncLost).settle ∧
    d.get R.ROP_RELAY_STATUS_STATE = 0 ∧ d.get R.ROP_RELAY_STATUS_SERVER = 0 ∧ d.is R.ROP_IRQ_RELAY = true ∧
    Dev.Frame true [] [R.ROP_RELAY_STATUS, R.ROP_IRQ] s.dev d) ∧
  (s.dev.open_ R.ROP_CTL → s.dev.relay = false ∨ s.dev.get R.ROP_RELAY_STATUS_STATE = 0 → answers .rebind s s.dev)

/-- Mirroring between twins (R433 to R439, Table 20-3): MIRROR_HELLO_TIMER, PN_ROUND, TRIB_RECORD_TIMER; records at the standby:
MIRROR_THK_CHANGE, MIRROR_THK_COMMIT, MIRROR_HEDGE, MIRROR_GCL, MIRROR_TIME, MIRROR_KEY, MIRROR_PN, MIRROR_TRIB, MIRROR_REG, BULK_BEGIN,
BULK_END; MIRROR_HELLO, MIRROR_TIMEOUT, TWN_RESYNC, SYNC_COMMIT_TIMEOUT. v is the block as a record finds it, w the block once the record
is noted and acknowledged.
Its clauses rest on the model's choices in log entries 169 to 172, 176 where those speak of its commands. -/
def Obligations.TwinMirror : Prop := ∀ (s : State) (seq : BitVec 32) (b : List Byte) (v w : Dev), s.runs → v = s.dev.mirrorAt →
  w = { v with twn := { v.twn with heardAt := some v.ticks, ack := seq.toNat } } →
  (∀ c k p, s.dev.is R.TWN_CFG_EN = true → s.dev.sup.mode.traffic = true →
    (c = Instr.mirrorHelloTimer ∧ k = mHello ∧ p = s.dev.helloPayload s.dev.twn.ack) ∨
    (c = .tribRecordTimer ∧ s.dev.role = .active ∧ k = mTrib ∧ p = (List.range 16).flatMap (fun n => padTo 32 (s.dev.trbP n).last) ++
      be 1 ((List.range 8).map fun n => b2n (s.dev.gpioOut n == some true) * 2 ^ n).sum) →
    ∃ d : Dev, answers c s d ∧ d.twn.sent.getLast? = some (MirrorRec.mk (s.dev.rd R.TWN_MIRROR_TX).toNat k p) ∧ d.twn.sent.length ≤ 16384 ∧
      (d.rd R.TWN_MIRROR_TX).toNat = seqNext (s.dev.rd R.TWN_MIRROR_TX).toNat ∧ Dev.Frame true [.twn] mirrorRegs s.dev d) ∧
  (∀ l, s.dev.is R.TWN_CFG_EN = true → s.dev.role = .active → l = s.dev.pnList.filter (fun x => sget (1, 0) x.1 s.dev.twn.pnSent != (x.2.1, x.2.2)) →
    l ≠ [] → l.length ≤ 56 → ∃ d : Dev, answers .pnRound s d ∧
      d.twn.sent.getLast? = some (MirrorRec.mk (s.dev.rd R.TWN_MIRROR_TX).toNat mPn (l.flatMap fun x => be 2 x.1 ++ be 8 x.2.1 ++ be 8 x.2.2)) ∧
      d.twn.pnSent = l.foldl (fun m x => sinsert x.1 (x.2.1, x.2.2) m) s.dev.twn.pnSent ∧ Dev.Frame true [.twn] mirrorRegs s.dev d) ∧
  (s.dev.MirrorInOrder seq.toNat →
    answers (.mirrorThkChange seq b) s (w.thkChange (beAt b 61 1) (beAt b 60 1) (slice b 0 40) (leAt b 40 20)).1 ∧
    (∀ n t, t = beAt b 60 1 → beAt b 61 1 = 1 → v.draining 10 = false → v.keyed t = true → v.keyOk t (slice b 0 40) = true →
      (Action.of (leAt b 40 20)).legal = true → v.pendCount < 1048576 → v.findEntry t (slice b 0 40) v.pendVer = none →
      v.freeSlot (v.buckets t (slice b 0 40)).1 = some n → ∃ d : Dev, answers (.mirrorThkChange seq b) s d ∧
      d.tslot n = some (TEntry.mk t (slice b 0 40) (leAt b 40 20) v.pendVer v.pendVer) ∧ (∀ m, m ≠ n → d.tslot m = v.tslot m) ∧
      Dev.Frame false [.thk] [] w d) ∧
    (∃ d : Dev, answers (.mirrorThkCommit seq b) s d ∧ d.live = beAt b 0 2 ∧ d.get R.THK_VERSION_PREV = v.live ∧
      (∀ n e, v.tslot n = some e → d.tslot n = some { e with
        birth := if e.birth = v.pendVer then beAt b 0 2 else e.birth, death := if e.death = v.pendVer then beAt b 0 2 else e.death }) ∧
      d.get R.THK_COMMITS_COMMITS = min (v.get R.THK_COMMITS_COMMITS + 1) 65535 ∧ d.is R.THK_IRQ_COMMITTED = true ∧
      Dev.Frame true [.thk] [R.THK_VERSION, R.THK_COMMITS_COMMITS.reg, R.THK_IRQ] w d) ∧
    (∀ i, i = beAt b 0 2 % 4096 → (beAt b 2 1 ≠ 0 → answers (.mirrorHedge seq b) s (w.hedgeClear i).1) ∧
      (beAt b 2 1 = 0 → answers (.mirrorHedge seq b) s (w.hedgeWrite i (slice b 3 40) (slice b 43 40) (leAt b 83 20) (beAt b 103 4)).1) ∧
      (beAt b 2 1 = 0 → v.draining 10 = false → (Action.of (leAt b 83 20)).legal = true → v.pendCount < 1048576 →
        v.hrow (2 * i) = none → v.hrow (2 * i + 1) = none → ∃ d : Dev, answers (.mirrorHedge seq b) s d ∧
        d.hrow (2 * i) = some (HRow.mk i (bits (beAt b 103 4) 16 6) (bits (beAt b 103 4) 24 6) (slice b 3 40) (slice b 43 40) (beAt b 103 4 % 65536)
          (leAt b 83 20) v.pendVer v.pendVer) ∧ (∀ m, m ≠ 2 * i → d.hrow m = v.hrow m) ∧ Dev.Frame false [.thk] [] w d)) ∧
    (∀ e x, e = beAt b 0 1 → e < 18 → x = sget [] e v.twn.gcl ++ b.drop 18 →
      (beAt b 1 1 = 2 → answers (.mirrorGcl seq b) s { w with twn := { w.twn with gcl := sset [] e x w.twn.gcl } }) ∧
      (beAt b 1 1 = 1 → sget [] e v.twn.gcl = [] → ∃ d : Dev, answers (.mirrorGcl seq b) s d ∧ d.is (R.SCH_Ee_STATUS_PEND_COMMITTED e) = false ∧
        Dev.Frame false [] [(R.SCH_Ee_STATUS_PEND_COMMITTED e).reg] w d) ∧
      (beAt b 1 1 = 0 → ∃ d : Dev, answers (.mirrorGcl seq b) s
          (if Tod.toNs { sec := beAt b 8 6, ns := beAt b 14 4 } ≤ v.nowNs then doGclStart (Fin.ofNat 18 e) (d.elapse 1) else d) ∧
        d.is (R.SCH_Ee_STATUS_PEND_COMMITTED e) = true ∧ d.get (R.SCH_Ee_GCL_CTL_LEN e) = beAt b 2 2 % 2048 ∧
        (d.rd (R.SCH_Ee_GCL_CYCLE e)).toNat = beAt b 4 4 ∧ (d.rd (R.SCH_Ee_START_NS e)).toNat = beAt b 14 4 ∧ d.rd64 (R.SCH_Ee_START_SEC_LO e) = beAt b 8 6 ∧
        (∀ i, i < 1024 → 4 * i + 4 ≤ x.length → (d.rd (R.SCH_Ee_GCLi e i)).toNat = beAt x (4 * i) 4) ∧
        Dev.Frame false [.twn] ([(R.SCH_Ee_STATUS_PEND_COMMITTED e).reg, (R.SCH_Ee_GCL_CTL_LEN e).reg, R.SCH_Ee_GCL_CYCLE e, R.SCH_Ee_START_NS e,
          R.SCH_Ee_START_SEC_LO e, R.SCH_Ee_START_SEC_LO e + 4] ++ (List.range 1024).map (R.SCH_Ee_GCLi e)) w d)) ∧
    (∀ n, beAt b 0 1 = 0 → n = beAt b 1 12 → (0x133627628 ≤ n → n ≤ 0x134000000 → ∃ d : Dev, answers (.mirrorTime seq b) s d ∧ d.incr = n ∧
      Dev.Frame false [] [R.TMB_INCR_LO, R.TMB_INCR_HI] w d) ∧ (n < 0x133627628 ∨ 0x134000000 < n → answers (.mirrorTime seq b) s w)) ∧
    (∀ t : Nat, (beAt b 0 1 = 2 ∧ t = (beAt b 1 8 % 2 ^ 48 * 1000000000 + beAt b 9 4) * 2 ^ 32) ∨
        (beAt b 0 1 = 1 ∧ ∃ x : Nat, ((w.elapse 1).tmb.time : Int) + (signed 48 (beAt b 1 8) * 1000000000 + signed 32 (beAt b 9 4)) * 2 ^ 32 = x ∧
          t = x % timeWrap) →
      ∃ d : Dev, answers (.mirrorTime seq b) s d ∧ d = (w.elapse 1).applyStep t ∧ d.tmb.time = t ∧ d.is R.TMB_IRQ_STEPPED = true) ∧
    (∀ n, n = bits (beAt b 0 4) 16 12 → beAt b 0 4 % 16 = 2 → ∃ d : Dev, answers (.mirrorKey seq b) s d ∧ (d.slot n).cur = none ∧ (d.slot n).prev = none ∧
      (d.slot n).gen = ((v.slot n).gen + 1) % 65536 ∧ (∀ m, m ≠ n → d.slot m = v.slot m) ∧ d.twn.floors = serase n v.twn.floors ∧
      Dev.Frame true [.cph, .twn] [R.CPH_IRQ] w d) ∧
    (beAt b 0 4 % 16 = 3 → ∃ d : Dev, answers (.mirrorKey seq b) s d ∧ (∀ n, n < 4096 → (d.slot n).cur = none ∧ (d.slot n).prev = none) ∧
      d.twn.floors = [] ∧ Dev.Frame true [.cph, .twn] [R.CPH_IRQ] w d) ∧
    (∀ n, n = bits (beAt b 0 4) 16 12 → beAt b 0 4 % 16 = 1 → ∃ d : Dev, answers (.mirrorKey seq b) s d ∧ (∀ m, m ≠ n → d.slot m = v.slot m) ∧
      Dev.Frame true [.cph, .twn] [R.CPH_IRQ] w d ∧ match v.checkBlob (bits (beAt b 0 4) 4 4) n (slice b 5 (beAt b 4 1)) with
      | .ok k => (d.slot n).cur = some { k with gen := ((v.slot n).gen + 1) % 65536 } ∧ (d.slot n).prev = (v.slot n).cur ∧
        d.twn.floors = serase n v.twn.floors
      | .error _ => d = w) ∧
    (∃ d : Dev, answers (.mirrorPn seq b) s d ∧ (∀ i m, i < b.length / 18 → m = beAt b (18 * i) 2 % 4096 →
      (∀ j, i < j → j < b.length / 18 → beAt b (18 * j) 2 % 4096 ≠ m) → sget (0, 0) m d.twn.floors = (beAt b (18 * i + 2) 8, beAt b (18 * i + 10) 8)) ∧
      d.twn = { w.twn with floors := d.twn.floors } ∧ Dev.Frame false [.twn] [] w d) ∧
    (∃ d : Dev, answers (.mirrorTrib seq b) s d ∧ (∀ n, n < 16 → d.trbP n = { v.trbP n with last := slice b (32 * n) 32 }) ∧
      d.twn = { w.twn with gpio := beAt b 512 1 } ∧ Dev.Frame false [.trb, .twn] [] w d) ∧
    answers (.mirrorReg seq b) s { w with twn := { w.twn with reg := b } }) ∧
  (∀ c, s.dev.MirrorInOrder (seqNext v.twn.ack) → c ∈ [Instr.mirrorThkChange seq b, .mirrorThkCommit seq b, .mirrorHedge seq b, .mirrorGcl seq b,
      .mirrorTime seq b, .mirrorKey seq b, .mirrorPn seq b, .mirrorTrib seq b, .mirrorReg seq b, .bulkEnd seq] →
    seq.toNat ≠ seqNext v.twn.ack →
    (seqSub seq.toNat v.twn.ack ≠ 0 → seqSub seq.toNat v.twn.ack < 2 ^ 31 → ∃ d : Dev, answers c s d ∧
      d.twn.ack = v.twn.ack ∧ d.get R.TWN_MIRROR_COUNTS_RESENDS = min (v.get R.TWN_MIRROR_COUNTS_RESENDS + 1) 255 ∧
      (d.twn.sent.getLast?.map fun r => (r.kind, r.seq)) = some (mHello, (v.rd R.TWN_MIRROR_TX).toNat) ∧
      Dev.Frame true [.twn] (R.TWN_MIRROR_COUNTS_RESENDS.reg :: mirrorRegs) v d) ∧
    (seqSub seq.toNat v.twn.ack = 0 ∨ 2 ^ 31 ≤ seqSub seq.toNat v.twn.ack →
      answers c s { v with twn := { v.twn with heardAt := some v.ticks } })) ∧
  (s.dev.MirrorAtStandby → ∃ d : Dev, answers (.bulkBegin seq b) s d ∧ d.thk.slots = [] ∧ d.thk.rows = [] ∧ d.live = beAt b 0 2 ∧
    d.get R.THK_VERSION_PREV = 0xFFFF ∧ d.twn = { w.twn with bulk := some (beAt b 2 4, []), gcl := [] } ∧ d.mirrorState = mSyncing ∧
    d.get R.TWN_MIRROR_COUNTS_RESYNCS = min (v.get R.TWN_MIRROR_COUNTS_RESYNCS + 1) 255 ∧
    Dev.Frame true [.thk, .twn] [R.THK_VERSION, R.TWN_MIRROR_COUNTS_RESYNCS.reg, R.TWN_STATUS, R.TWN_IRQ] v d) ∧
  (∀ n held, s.dev.MirrorAtStandby → v.mirrorState = mSyncing → v.twn.bulk = some (n, held) → seq.toNat = seqNext v.twn.ack →
    (answers (.bulkEnd seq) s ((forEach held { w with twn := { w.twn with bulk := none } } fun r t => t.mirrorApply r.kind r.payload).setMirror mSynced)) ∧
    (held = [] → ∃ d : Dev, answers (.bulkEnd seq) s d ∧ d.mirrorState = mSynced ∧ d.twn = { w.twn with bulk := none } ∧
      Dev.Frame true [.twn] [R.TWN_STATUS, R.TWN_IRQ] v d) ∧
    (∀ c k, (c = Instr.mirrorThkChange seq b ∧ k = mThkChange) ∨ (c = .mirrorHedge seq b ∧ k = mHedge) →
      (0 < n → answers c s (({ w with twn := { w.twn with bulk := some (n - 1, held) } } : Dev).bulkEntry k b)) ∧
      (n = 0 → answers c s { w with twn := { w.twn with bulk := some (0, held ++ [MirrorRec.mk seq.toNat k b]) } })) ∧
    (∀ c k, (c = Instr.mirrorThkCommit seq b ∧ k = mThkCommit) ∨ (c = .mirrorTime seq b ∧ k = mTime) ∨ (c = .mirrorTrib seq b ∧ k = mTrib) →
      answers c s { w with twn := { w.twn with bulk := some (n, held ++ [MirrorRec.mk seq.toNat k b]) } }) ∧
    (∀ c k, (c = Instr.mirrorGcl seq b ∧ k = mGcl) ∨ (c = .mirrorKey seq b ∧ k = mKey) ∨ (c = .mirrorPn seq b ∧ k = mPn) ∨
      (c = .mirrorReg seq b ∧ k = mReg) → answers c s (w.mirrorApply k b))) ∧
  (∀ flags : BitVec 8, s.dev.mirrorPath = true → v.is R.TWN_CFG_EN = true → v.sup.mode.traffic = true →
    (v.role = .active → v.agrees (helloOf b) = true → v.twn.withheld = [] → (helloOf b).role = Role.standby.code → flags.toNat % 2 = 0 →
      (helloOf b).seeks = false →
      (∀ m, (v.mirrorState = mDown ∧ (helloOf b).mirror ≠ mSynced ∧ m = mSyncing) ∨ (v.mirrorState = mSyncing ∧ (helloOf b).mirror = mSynced ∧ m = mSynced) ∨
          (v.mirrorState = mSynced ∧ m = mSynced) ∨ (v.mirrorState = mLapsed ∧ m = mSynced) → ∃ d : Dev, answers (.mirrorHello seq flags b) s d ∧
        d.mirrorState = m ∧ d.is R.TWN_STATUS_PAIRED = true ∧ d.twn.hello = some (helloOf b) ∧ (d.rd R.TWN_MIRROR_ACK).toNat = (helloOf b).ack ∧
        d.rd R.TWN_TIME_OFFSET = Config.twinOffset v.free ∧
        Dev.Frame true [.twn] [R.TWN_STATUS, R.TWN_TIME_OFFSET, R.TWN_MIRROR_ACK, R.TWN_IRQ] v d) ∧
      (v.mirrorState = mDown → (helloOf b).mirror = mSynced → ∃ d : Dev, answers (.mirrorHello seq flags b) s d ∧ d.mirrorState = mSyncing ∧
        d.is R.TWN_STATUS_PAIRED = true ∧ d.twn.sent.getLast?.map (·.kind) = some mBulkEnd ∧
        d.get R.TWN_MIRROR_COUNTS_RESYNCS = min (v.get R.TWN_MIRROR_COUNTS_RESYNCS + 1) 255 ∧
        Dev.Frame true [.twn] ([R.TWN_STATUS, R.TWN_TIME_OFFSET, R.TWN_MIRROR_ACK, R.TWN_IRQ, R.TWN_MIRROR_COUNTS_RESYNCS.reg] ++ mirrorRegs) v d)) ∧
    (v.role = .standby → v.agrees (helloOf b) = true → (helloOf b).role = Role.active.code → seq.toNat = seqNext v.twn.ack →
      ∀ m a, (v.mirrorState = mDown ∧ m = mSyncing ∧ a = 0) ∨ (v.mirrorState = mLapsed ∧ m = mSynced ∧ a = seq.toNat) →
      ∃ d : Dev, answers (.mirrorHello seq flags b) s d ∧ d.mirrorState = m ∧ d.twn.ack = a ∧ d.is R.TWN_STATUS_PAIRED = true ∧
      d.twn.sent.getLast?.map (·.kind) = some mHello ∧
      Dev.Frame true [.twn] ([R.TWN_STATUS, R.TWN_TIME_OFFSET, R.TWN_IRQ] ++ mirrorRegs) v d) ∧
    (v.role = .active → v.agrees (helloOf b) = false → ∃ d : Dev, answers (.mirrorHello seq flags b) s d ∧ d.mirrorState = mDown ∧
      d.is R.TWN_STATUS_PAIRED = false ∧ d.twn.hello = some (helloOf b) ∧
      d.twn.shown = (if (helloOf b).serial = v.partner then some (helloOf b) else v.twn.shown) ∧
      (v.twn.hello = none ∨ (∃ x, v.twn.hello = some x ∧ v.agrees x = true) →
        d.get R.TWN_MIRROR_COUNTS_MISMATCH = min (v.get R.TWN_MIRROR_COUNTS_MISMATCH + 1) 255) ∧
      Dev.Frame true [.twn] [R.TWN_STATUS, R.TWN_MIRROR_COUNTS_MISMATCH.reg, R.TWN_IRQ] v d)) ∧
  (∀ t u, s.dev.twn.heardAt = some t → s.dev.is R.TWN_CFG_EN = true → s.dev.sup.mode.traffic = true → u = s.dev.until_ (t + 500 * usTicks) → ∃ d : Dev,
    answers .mirrorTimeout s d ∧ d.twn = { s.dev.twn with heardAt := none, bulk := none } ∧ d.is R.TWN_STATUS_PAIRED = false ∧
    d.mirrorState = (if s.dev.mirrorState = mSynced ∨ s.dev.mirrorState = mLapsed then mLapsed else mDown) ∧
    (s.dev.mirrorState = mSynced → d.get R.TWN_MIRROR_COUNTS_LOSSES = min (s.dev.get R.TWN_MIRROR_COUNTS_LOSSES + 1) 255) ∧
    Dev.Frame true [.twn] [R.TWN_STATUS, R.TWN_MIRROR_COUNTS_LOSSES.reg, R.TWN_IRQ] u d) ∧
  (∀ x : Word, (bit x.toNat 1 = false ∨ s.dev.is R.TWN_CFG_EN = false ∨ s.dev.twnMismatch = true ∨ s.dev.sup.mode.traffic = false → ∃ d : Dev,
      answers (.twnResync x) s d ∧ d.is R.TWN_CTL_UNHEALTHY = bit x.toNat 0 ∧ Dev.Frame false [] [R.TWN_CTL] s.dev d) ∧
    (bit x.toNat 1 = true → s.dev.is R.TWN_CFG_EN = true → s.dev.twnMismatch = false → s.dev.sup.mode.traffic = true → s.dev.role = .standby → ∃ d : Dev,
      answers (.twnResync x) s d ∧ d.mirrorState = mSyncing ∧ d.twn.ack = 0 ∧ d.twn.bulk = none ∧ d.twn.sent.getLast?.map (·.kind) = some mHello ∧
      Dev.Frame true [.twn] ([R.TWN_CTL, R.TWN_STATUS, R.TWN_IRQ] ++ mirrorRegs) s.dev d) ∧
    (bit x.toNat 1 = true → s.dev.is R.TWN_CFG_EN = true → s.dev.twnMismatch = false → s.dev.sup.mode.traffic = true → s.dev.role = .active → ∃ d : Dev,
      answers (.twnResync x) s d ∧ d.mirrorState = mSyncing ∧ d.twn.sent.getLast?.map (·.kind) = some mBulkEnd ∧
      d.get R.TWN_MIRROR_COUNTS_RESYNCS = min (s.dev.get R.TWN_MIRROR_COUNTS_RESYNCS + 1) 255 ∧
      Dev.Frame true [.twn] ([R.TWN_CTL, R.TWN_STATUS, R.TWN_IRQ, R.TWN_MIRROR_COUNTS_RESYNCS.reg] ++ mirrorRegs) s.dev d)) ∧
  (∀ t u, (s.dev.twn.withheld.map (·.until_)).min? = some t → u = s.dev.until_ t → ∃ d : Dev, answers .syncCommitTimeout s d ∧
    d.twn = { s.dev.twn with withheld := s.dev.twn.withheld.filter (fun x => !decide (x.until_ ≤ u.ticks)) } ∧ d.is R.THK_IRQ_COMMITTED = true ∧
    d.mirrorState = (if s.dev.mirrorState = mSynced then mDown else s.dev.mirrorState) ∧ Dev.Frame true [.twn] [R.THK_IRQ, R.TWN_STATUS, R.TWN_IRQ] u d)

/-- Verdicts, the referee and the switchover gap (R208, R432, R440 to R445, R447): TWN_ENABLE_WRITE, ARB_IN_VERDICT,
REFEREE_REPORT_TIMER, REFEREE_REPORT_RX, REFEREE_VERDICT_RX, REFEREE_TICK, GAP_START, GAP_END, GAP_LIMIT_EXPIRY, TWIN_PEER_TIMER,
E1_OUTPUT_FRAME, HOLD_LIMIT.
Its clauses rest on the model's choices in log entries 173 to 175 where those speak of its commands. -/
def Obligations.TwinVerdicts : Prop := ∀ (s : State), s.runs →
  (∀ v : Word, s.dev.is R.TWN_CFG_EN = false → bit v.toNat 0 = false → ∃ d : Dev, answers (.twnEnableWrite v) s d ∧ d.is R.TWN_CFG_EN = false ∧
    d.is R.TWN_CFG_PATH = bit v.toNat 1 ∧ d.is R.TWN_CFG_SYNC_COMMIT = bit v.toNat 4 ∧ d.is R.TWN_CFG_STBY_LINK = bit v.toNat 5 ∧
    d.get R.TWN_CFG_ARBITER = (if v.toNat / 4 % 4 = 3 then s.dev.get R.TWN_CFG_ARBITER else v.toNat / 4 % 4) ∧ Dev.Frame false [] [R.TWN_CFG] s.dev d) ∧
  (∀ v : Word, s.dev.is R.TWN_CFG_EN = false → s.dev.role = .none → s.dev.mirrorState = mDown → bit v.toNat 0 = true → ∃ d : Dev,
    answers (.twnEnableWrite v) s d.settle.revote ∧ d.is R.TWN_CFG_EN = true ∧ d.role = .standby ∧ d.mirrorState = mDown ∧ d.twn.first = true ∧
    d.twn.ack = 0 ∧ d.rd R.TWN_MIRROR_TX = 1 ∧ Dev.Frame true [.twn] [R.TWN_CFG, R.TWN_MIRROR_TX, R.TWN_MIRROR_ACK, R.TWN_STATUS, R.TWN_IRQ] s.dev d) ∧
  (∀ v : Word, s.dev.is R.TWN_CFG_EN = true → bit v.toNat 0 = true → answers (.twnEnableWrite v) s s.dev) ∧
  (∀ v : Word, s.dev.is R.TWN_CFG_EN = true → bit v.toNat 0 = false → ∃ d : Dev, answers (.twnEnableWrite v) s d.settle.revote ∧
    d.is R.TWN_CFG_EN = false ∧ d.role = .none ∧ d.mirrorState = mDown ∧ d.is R.TWN_STATUS_PAIRED = false ∧ d.twn.withheld = [] ∧
    d.twn.gapAt = none ∧ Dev.Frame true [.twn, .trb] [R.TWN_CFG, R.TWN_STATUS, R.TWN_LAST_GAP, R.TWN_IRQ, R.THK_IRQ] s.dev d) ∧
  (∀ c src sq act u, s.dev.is R.TWN_CFG_EN = true → s.dev.get R.TWN_CFG_ARBITER + 1 = src → s.dev.twnMismatch = false → s.dev.sup.mode.traffic = true →
    s.dev.reloading = false → (c = Instr.arbInVerdict act ∧ src = 1 ∧ sq = 0 ∧ u = { s.dev with twn := { s.dev.twn with arbIn := act } } ∨
      (∃ b, c = .refereeVerdictRx b ∧ src = 2 ∧ u = s.dev ∧ s.dev.rop.running = true ∧ beAt b 0 1 = 2 ∧ sq = beAt b 28 2 ∧
        (s.dev.twn.first = true ∨ (1 ≤ (sq + 65536 - s.dev.get R.TWN_VERDICT_SEQ) % 65536 ∧ (sq + 65536 - s.dev.get R.TWN_VERDICT_SEQ) % 65536 ≤ 32767)) ∧
        beAt b 17 8 = s.dev.rd64 R.TWN_REF_SERIAL_LO ∧ s.dev.partner ≠ s.dev.serial ∧
        ((beAt b 1 8 = s.dev.serial ∧ beAt b 9 8 = s.dev.partner ∧ act = decide (beAt b 27 1 = 0)) ∨
          (beAt b 1 8 = s.dev.partner ∧ beAt b 9 8 = s.dev.serial ∧ act = decide (beAt b 27 1 ≠ 0))))) →
    ∃ d : Dev, d.get R.TWN_VERDICT_SEQ = sq ∧ d.get R.TWN_VERDICT_SOURCE = src ∧ d.is R.TWN_VERDICT_ACTIVE = act ∧ d.twn = { u.twn with first := false } ∧
      Dev.Frame false [.twn] [R.TWN_VERDICT] s.dev d ∧
      ((act = true ↔ s.dev.role = .active) → (src = 1 → answers c s d) ∧ (src = 2 → answers c s d.settle)) ∧
      ((act = true ∧ s.dev.role ≠ .active) → (src = 1 → answers c s d.promote) ∧ (src = 2 → answers c s d.promote.settle)) ∧
      ((act = false ∧ s.dev.role = .active) → (src = 1 → answers c s d.demote) ∧ (src = 2 → answers c s d.demote.settle))) ∧
  (∀ act, s.dev.is R.TWN_CFG_EN = true → s.dev.get R.TWN_CFG_ARBITER ≠ 0 → ∃ d : Dev, answers (.arbInVerdict act) s d ∧ d.twn = { s.dev.twn with arbIn := act } ∧
    d.get R.TWN_COUNTS_IGNORED = min (s.dev.get R.TWN_COUNTS_IGNORED + 1) 255 ∧ d.is R.TWN_IRQ_VERDICT_IGNORED = true ∧
    Dev.Frame true [.twn] [R.TWN_COUNTS_IGNORED.reg, R.TWN_IRQ] s.dev d) ∧
  (∀ p m r b, s.dev.is R.TWN_CFG_EN = true → s.dev.get R.TWN_CFG_ARBITER = 1 → s.dev.rop.running = true →
    p = refPayload 1 (min s.dev.serial s.dev.partner) (max s.dev.serial s.dev.partner) s.dev.serial s.dev.role.code (b2n s.dev.health) 0
        (s.dev.get R.TWN_VERDICT_SEQ) →
    (s.dev.rd64 R.TWN_REF_SERIAL_LO = s.dev.serial → s.dev.is R.ROP_CFG_REFEREE = true → answers .refereeReportTimer s (s.dev.refereeIn p)) ∧
    (s.dev.rd64 R.TWN_REF_SERIAL_LO ≠ s.dev.serial → s.dev.nodeOf (s.dev.rd64 R.TWN_REF_SERIAL_LO) = some m → s.dev.route m = some r →
      b = ropeHeader kReferee m (if s.dev.claimed = true then s.dev.nodeId else 0) (s.dev.get R.ROP_FAB_CFG_TTL) 0 0 false 0 0 ++ p → ∃ d : Dev,
      answers .refereeReportTimer s d ∧ (sget none (9 + r.primary) s.dev.sch.launching = none → d.out = .rope r.primary (b ++ fcs b) :: s.dev.out) ∧
      (sget none (9 + r.primary) s.dev.sch.launching ≠ none → d.out = s.dev.out ∧
        sget [] (9 + r.primary) d.sch.ctlWait = sget [] (9 + r.primary) s.dev.sch.ctlWait ++ [b ++ fcs b]) ∧
      Dev.Frame false [.out, .sch] [] s.dev d)) ∧
  (∀ b, s.dev.rop.running = true → s.dev.sup.mode.traffic = true → beAt b 0 1 = 1 → s.dev.is R.ROP_CFG_REFEREE = true → beAt b 17 8 = beAt b 1 8 →
    (∀ p, p ∈ s.dev.twn.pairs → p.serialA = beAt b 1 8 → p.serialB ≠ beAt b 9 8) →
    (s.dev.twn.pairs.length < 16 → ∃ d : Dev, answers (.refereeReportRx b) s d ∧ d.twn.pairs = s.dev.twn.pairs ++
      [RefPair.mk (beAt b 1 8) (beAt b 9 8) none 0 (some (RefReport.mk s.dev.ticks (beAt b 25 1) (beAt b 26 1) (beAt b 28 2))) none] ∧
      d.get R.TWN_REF_STATUS_PAIRS = s.dev.twn.pairs.length + 1 ∧ Dev.Frame false [.twn] [R.TWN_REF_STATUS_PAIRS.reg] s.dev d) ∧
    (16 ≤ s.dev.twn.pairs.length → ∃ d : Dev, answers (.refereeReportRx b) s d ∧
      d.get R.TWN_REF_STATUS_OVERFLOW = min (s.dev.get R.TWN_REF_STATUS_OVERFLOW + 1) 255 ∧ Dev.Frame false [] [R.TWN_REF_STATUS_OVERFLOW.reg] s.dev d)) ∧
  (∀ b q, s.dev.rop.running = true → s.dev.sup.mode.traffic = true → beAt b 0 1 = 1 → s.dev.is R.ROP_CFG_REFEREE = true → beAt b 1 8 ≠ beAt b 9 8 →
    (∃ p, p ∈ s.dev.twn.pairs ∧ p.serialA = beAt b 1 8 ∧ p.serialB = beAt b 9 8) →
    q = some (RefReport.mk s.dev.ticks (beAt b 25 1) (beAt b 26 1) (beAt b 28 2)) → ∃ d : Dev, answers (.refereeReportRx b) s d ∧
    d.twn = { s.dev.twn with pairs := s.dev.twn.pairs.map fun p => if p.serialA = beAt b 1 8 ∧ p.serialB = beAt b 9 8 then
      { p with a := if beAt b 17 8 = beAt b 1 8 then q else p.a, b := if beAt b 17 8 = beAt b 9 8 then q else p.b } else p } ∧
    Dev.Frame false [.twn] [] s.dev d) ∧
  (∀ l, s.dev.is R.ROP_CFG_REFEREE = true → s.dev.rop.running = true →
    l = s.dev.twn.pairs.map (fun p => p.eval s.dev.ticks (s.dev.get R.TWN_REF_CFG_TIMEOUT * msTicks)) →
    (∀ p, p ∈ l → p.serialA ≠ s.dev.serial ∧ p.serialB ≠ s.dev.serial) → ∃ d : Dev, answers .refereeTick s d.settle ∧ d.twn = { s.dev.twn with pairs := l } ∧
    (∀ p k r m x b y, p ∈ l → p.active = some k → (p.a = some r ∧ r.role ≠ (if k = 0 then 1 else 2) ∧ y = p.serialA) ∨
        (p.b = some r ∧ r.role ≠ (if k = 1 then 1 else 2) ∧ y = p.serialB) → s.dev.nodeOf y = some m → s.dev.route m = some x →
      sget none (9 + x.primary) s.dev.sch.launching = none →
      b = ropeHeader kReferee m (if s.dev.claimed = true then s.dev.nodeId else 0) (s.dev.get R.ROP_FAB_CFG_TTL) 0 0 false 0 0 ++
        refPayload 2 p.serialA p.serialB s.dev.serial s.dev.role.code 0 k p.seq → Out.rope x.primary (b ++ fcs b) ∈ d.out) ∧
    Dev.Frame false [.twn, .out, .sch] [] s.dev d) ∧
  (∀ (p : RefPair) now lim ra rb, p.active = some 0 → p.a = some ra → p.b = some rb → now ≤ rb.at_ + lim → rb.health = 1 →
    (ra.at_ + lim < now ∨ ra.health ≠ 1 → p.eval now lim = { p with active := some 1, seq := (p.seq + 1) % 65536 }) ∧
    (now ≤ ra.at_ + lim → ra.health = 1 → p.eval now lim = p)) ∧
  (s.dev.twn.gapDue = true → s.dev.role = .active → ∃ d : Dev, answers .gapStart s d ∧
    d.twn = { s.dev.twn with gapDue := false, gapAt := some s.dev.ticks } ∧ d.sch.gap = true ∧ d.is R.TWN_STATUS_GAP = true ∧ bit (d.rd R.TWN_IRQ).toNat 1 = true ∧
    Dev.Frame true [.twn] [R.TWN_STATUS, R.TWN_IRQ] s.dev d) ∧
  (∀ c t u, s.dev.twn.gapAt = some t → (c = Instr.gapEnd ∧ s.dev.twn.gapBurst = true ∧ s.dev.sup.mode = .service ∧ u = s.dev) ∨
      (c = .gapLimitExpiry ∧ s.dev.get R.TWN_GAP_LIMIT_MS ≠ 0 ∧ u = s.dev.until_ (t + s.dev.get R.TWN_GAP_LIMIT_MS * msTicks)) → ∃ d : Dev, answers c s d ∧
    d.twn = { s.dev.twn with gapDue := false, gapAt := none, gapBurst := false } ∧ d.sch.gap = false ∧ d.trb = { s.dev.trb with isOver := false } ∧
    d.is R.TWN_STATUS_GAP = false ∧ (d.rd R.TWN_LAST_GAP).toNat = min ((u.ticks - t) / usTicks) (2 ^ 32 - 1) ∧ bit (d.rd R.TWN_IRQ).toNat 2 = true ∧
    Dev.Frame true [.twn, .trb] [R.TWN_STATUS, R.TWN_LAST_GAP, R.TWN_IRQ] u d) ∧
  (∀ t h u, s.dev.twn.peerAt = some t → s.dev.twn.hello = some h → s.dev.role = .active → h.seeks = true → u = s.dev.until_ t → ∃ d : Dev,
    answers .twinPeerTimer s d ∧ d.act = { s.dev.act with twinPeer := some (be 8 h.serial ++ (s.dev.serialContent h.tid 0 h.port).drop 8) } ∧
    d.twn = { s.dev.twn with peerAt := some (u.ticks + secTicks) } ∧ Dev.Frame false [.act, .twn] [] u d) ∧
  (∀ n : Fin 16, s.dev.trb.applied = true → s.dev.standby = false → s.dev.trbStopped = false → s.dev.relay = false → s.dev.sch.gap = false →
    (s.dev.decl 13 = none → ∃ d : Dev, answers (.e1OutputFrame n) s d ∧ d.out = .e1 n 1 aisFrame :: s.dev.out ∧ d.get (R.TRB_n_STATUS_OUT n) = 1 ∧
      d.is (R.TRB_n_STATUS_RAI_TX n) = false ∧ d.is R.TRB_STATE_HOLD = false ∧ d.is R.TRB_STATE_XCON = (s.dev.sup.mode == .island) ∧
      d.trbP n = { s.dev.trbP n with
        down := (s.dev.trbP n).down.drop 1, xstore := [], xrunning := false, outIx := ((s.dev.trbP n).outIx + 1) % 16 } ∧
      (∀ m, m ≠ n.val → d.trbP m = s.dev.trbP m) ∧ Dev.Frame false [.trb, .out] [R.TRB_STATE_HOLD.reg, (R.TRB_n_STATUS_OUT n).reg] s.dev d) ∧
    (∀ x b rest, s.dev.decl 13 = some x → bit (s.dev.get R.TRB_ENABLE_EN) n = true → s.dev.draining 13 = false → s.dev.pwr.coord = .run →
      s.dev.sup.mode ∈ [.acquire, .range, .service] → s.dev.framed n = false → (s.dev.trbP n).down = (b, false, false) :: rest → ∃ d : Dev,
      answers (.e1OutputFrame n) s d ∧ d.out = .e1 n 2 b :: s.dev.out ∧ d.get (R.TRB_n_STATUS_OUT n) = 2 ∧ d.is (R.TRB_n_STATUS_RAI_TX n) = false ∧
      d.trbP n = { s.dev.trbP n with down := rest, xstore := [], xrunning := false, last := b, outIx := ((s.dev.trbP n).outIx + 1) % 16 } ∧
      (∀ m, m ≠ n.val → d.trbP m = s.dev.trbP m) ∧ Dev.Frame false [.trb, .out] [R.TRB_STATE_HOLD.reg, (R.TRB_n_STATUS_OUT n).reg] s.dev d)) ∧
  (∀ (n : Fin 16) (k : ResetKind) (r : State), r = { s with dev := { s.dev with sup := { s.dev.sup with inReset := some k } } } → s.dev.decl 13 = none →
    s.dev.standby = false → s.dev.trbStopped = false →
    answers (.e1OutputFrame n) r (r.dev.emit (if s.dev.trb.applied = true then .e1 n 1 aisFrame else .e1 n 0 []))) ∧
  (∀ t u, s.dev.twn.gapAt = some t → s.dev.get R.TRB_HOLD_LIMIT_MS ≠ 0 → s.dev.trb.isOver = false →
    u = s.dev.until_ (t + s.dev.get R.TRB_HOLD_LIMIT_MS * msTicks) → ∃ d : Dev, answers .holdLimit s d ∧ d.trb = { s.dev.trb with isOver := true } ∧
    (∀ n, n < 16 → bit (s.dev.get R.TRB_ENABLE_EN) n = true → bit (d.get (R.TRB_n_EVENTS_CHANGE n)) 6 = true) ∧
    Dev.Frame true [.trb] ((List.range 16).map R.TRB_n_EVENTS) u d)

/-- Memory integrity (R452, R457, R459 to R466): SCRUB_READ, PITON_ADD, BIST_SLICE_START, BIST_ISOLATED, BIST_ISOLATE_TIMEOUT, BIST_TEST_DONE,
BIST_RUN, LOG_POP.
Its clauses rest on the model's choices in log entries 177, 178, 180, 216, 217 where those speak of its commands. -/
def Obligations.MemoryIntegrity : Prop := ∀ (s : State), s.runs →
  (∀ (inst : Fin 2304) (addr : Fin 65536) (flips : BitVec 80) k e, s.dev.is R.MEM_CTL_SCRUB_EN = true → s.dev.memRuns (Config.instPitch inst) = true →
    s.dev.instUp inst = true → addr < Config.instWords inst → k = 65536 * inst.val + addr.val → s.dev.anchor k = none → s.dev.errsOf k = 0 → e = flips.toNat →
    (e = 0 → s.dev.mem.suspects = [] → ∃ d : Dev, answers (.scrubRead inst addr flips true) s d ∧ d.errsOf k = 0 ∧
      d.get R.MEM_SCRUB_STATUS_PASSES = (s.dev.get R.MEM_SCRUB_STATUS_PASSES + 1) % 65536 ∧ d.get R.MEM_SCRUB_STATUS_INSTANCE = inst ∧
      d.mem.log = s.dev.mem.log ∧ Dev.Frame false [.mem] [R.MEM_SCRUB_STATUS_INSTANCE.reg] s.dev d) ∧
    (∀ n, n < 64 → e = 2 ^ n → s.dev.mem.suspects = [] → s.dev.get R.MEM_PITON_CFG_CE_TH ≠ 1 → s.dev.mem.log.length < 16 → ∃ d : Dev,
      answers (.scrubRead inst addr flips false) s d ∧ d.errsOf k = 0 ∧ d.mem.suspects = [Suspect.mk inst addr n 1] ∧
      (d.rd R.MEM_CE_COUNT).toNat = min ((s.dev.rd R.MEM_CE_COUNT).toNat + 1) (2 ^ 32 - 1) ∧
      d.mem.log = s.dev.mem.log ++ [MemLog.mk inst 1 srcScrub n addr (2 ^ (n / 8)) (2 ^ (n % 8)) s.dev.now.ns] ∧
      Dev.Frame false [.mem] [R.MEM_SCRUB_STATUS_INSTANCE.reg, R.MEM_CE_COUNT, R.MEM_LOG_POP_LOST.reg] s.dev d) ∧
    (synClass (rowSyn e) (colSyn e) = .uncorrectable → k ∉ s.dev.mem.logged → ∃ d : Dev, answers (.scrubRead inst addr flips false) s d ∧
      (d.errsOf k = e ∨ d.errsOf k = 0) ∧
      (d.rd R.MEM_UE_COUNT).toNat = min ((s.dev.rd R.MEM_UE_COUNT).toNat + 1) (2 ^ 32 - 1) ∧ d.mem.logged = s.dev.mem.logged ++ [k] ∧
      d.is R.MEM_IRQ_UE = true ∧ d.mem.suspects = s.dev.mem.suspects ∧
      Dev.Frame true [.mem] [R.MEM_SCRUB_STATUS_INSTANCE.reg, R.MEM_UE_COUNT, R.MEM_LOG_POP_LOST.reg, R.MEM_IRQ] s.dev d)) ∧
  (∀ (v : Word) i a k, i = v.toNat / 65536 % 4096 → a = v.toNat % 65536 → k = 65536 * i + a → i < 2304 → a < Config.instWords i → s.dev.anchor k = none →
    (∀ p, s.dev.errsOf k = 0 → p < 8 → (s.dev.piton i p).valid = false → (s.dev.piton i p).bad = false →
      (∀ q, q < p → (s.dev.piton i q).valid = true ∨ (s.dev.piton i q).bad = true) → ∃ d : Dev, answers (.pitonAdd v) s d ∧
      d.piton i p = Piton.mk true false false a 0 ∧ (∀ j q, q < 8 → (j ≠ i ∨ q ≠ p) → (d.piton j q).valid = (s.dev.piton j q).valid ∧
        (d.piton j q).bad = (s.dev.piton j q).bad ∧ (d.piton j q).addr = (s.dev.piton j q).addr) ∧ d.anchor k = some p ∧
      d.get R.MEM_PITON_COUNTS_PITONS = min (s.dev.get R.MEM_PITON_COUNTS_PITONS + 1) 65535 ∧ d.is R.MEM_IRQ_PITON = true ∧
      Dev.Frame true [.mem] [R.MEM_PITON_COUNTS_PITONS.reg, R.MEM_LOG_POP_LOST.reg, R.MEM_IRQ] s.dev d) ∧
    ((∀ p, p < 8 → (s.dev.piton i p).valid = true ∨ (s.dev.piton i p).bad = true) → ∃ d : Dev, answers (.pitonAdd v) s d ∧ i ∈ d.mem.degraded ∧
      d.anchor k = none ∧ d.get R.MEM_PITON_COUNTS_FULL = min (s.dev.get R.MEM_PITON_COUNTS_FULL + 1) 65535 ∧ d.is R.MEM_IRQ_PITON_FULL = true ∧
      Dev.Frame true [.mem] [R.MEM_PITON_COUNTS_PITONS.reg, R.MEM_LOG_POP_LOST.reg, R.MEM_IRQ] s.dev d)) ∧
  (∀ v : Word, v.toNat / 65536 % 4096 > 2303 ∨ Config.instWords (v.toNat / 65536 % 4096) ≤ v.toNat % 65536 ∨ (s.dev.anchor (65536 * (v.toNat / 65536 % 4096) + v.toNat % 65536)).isSome = true →
    answers (.pitonAdd v) s s.dev) ∧
  (∀ n u, n = s.dev.slice → n < 32 → s.dev.get R.MEM_STATUS_BIST = 0 → s.dev.bistMay = true → s.dev.memRuns 0 = true →
    u = s.dev.until_ (s.dev.mem.lastSlice + s.dev.get R.MEM_BIST_CFG_INTERVAL * msTicks) →
    (s.dev.isUp n = true → ∃ d : Dev, answers .bistSliceStart s d ∧ d.get R.MEM_STATUS_BIST = 1 ∧ d.slice = n ∧ n ∈ d.tsk.fenced ∧ d.mem.lastSlice = u.ticks ∧
      (∀ x, x < 16 → (s.dev.eng (16 * n + x)).st = .running → (∀ q, q ∈ s.dev.tsk.requests → q.1 ≠ 16 * n + x) →
        ∃ y, (16 * n + x, 65536, y) ∈ d.tsk.requests) ∧
      Dev.Frame false [.mem, .tsk, .engs] [R.MEM_STATUS] u d) ∧
    (s.dev.isUp n = false → ∃ d : Dev, answers .bistSliceStart s d ∧ d.get R.MEM_STATUS_BIST = 0 ∧ d.slice = n + 1 ∧ d.mem.lastSlice = u.ticks ∧
      d.get R.MEM_BIST_COUNTS_ASLEEP = min (s.dev.get R.MEM_BIST_COUNTS_ASLEEP + 1) 63 ∧
      Dev.Frame false [.mem] [R.MEM_STATUS, R.MEM_BIST_COUNTS_ASLEEP.reg] u d)) ∧
  (∀ n u, n = s.dev.slice → 32 ≤ n → n < 2399 → s.dev.get R.MEM_STATUS_BIST = 0 → s.dev.is R.MEM_CTL_BIST_EN = true → s.dev.pwr.coord = .run →
    s.dev.memRuns 0 = true → u = s.dev.until_ (s.dev.mem.lastSlice + s.dev.get R.MEM_BIST_CFG_INTERVAL * msTicks) →
    (s.dev.bistMay = true → (∀ d, sliceDomain n = some d → s.dev.isUp d = true) → ∃ d : Dev, answers .bistSliceStart s d ∧ d.get R.MEM_STATUS_BIST = 1 ∧
      d.slice = n ∧ (n < 48 → n - 32 ∈ d.thk.heldBanks) ∧ d.mem.lastSlice = u.ticks ∧ Dev.Frame false [.mem, .thk] [R.MEM_STATUS] u d) ∧
    (s.dev.bistMay = false → ∃ d : Dev, answers .bistSliceStart s d ∧ d.get R.MEM_STATUS_BIST = 0 ∧ d.slice = n + 1 ∧ d.mem.lastSlice = u.ticks ∧
      Dev.Frame false [.mem] [R.MEM_STATUS] u d)) ∧
  (∀ c, c ∈ [Instr.bistIsolated, .bistIsolateTimeout] → s.dev.get R.MEM_STATUS_BIST = 1 → s.dev.bistMay = false → s.dev.mem.full = false → ∃ d : Dev,
    answers c s d ∧ d.get R.MEM_STATUS_BIST = 0 ∧ d.slice = (if s.dev.slice < 2399 then s.dev.slice + 1 else 0) ∧
    (s.dev.slice < 32 → s.dev.slice ∉ s.dev.mem.fenced → s.dev.slice ∉ d.tsk.fenced) ∧
    d.get R.MEM_BIST_COUNTS_ABANDONED = min (s.dev.get R.MEM_BIST_COUNTS_ABANDONED + 1) 15 ∧
    Dev.Frame false [.mem, .tsk, .thk] [R.MEM_STATUS, R.MEM_BIST_COUNTS_ABANDONED.reg, R.MEM_BIST_CYCLES] s.dev d) ∧
  (s.dev.get R.MEM_STATUS_BIST = 1 → s.dev.bistMay = true → (s.dev.isolated s.dev.slice = true → ∃ d : Dev, answers .bistIsolated s d ∧
      d.get R.MEM_STATUS_BIST = 2 ∧ d.slice = s.dev.slice ∧ Dev.Frame false [] [R.MEM_STATUS] s.dev d) ∧
    (s.dev.isolated s.dev.slice = false → answers .bistIsolated s s.dev) ∧
    (∀ n u, n = s.dev.slice → n < 32 → n ∉ s.dev.mem.fenced → u = s.dev.until_ (s.dev.mem.isolSince + s.dev.get R.MEM_BIST_CFG_ISOLATE_LIMIT * msTicks) →
      ∃ d : Dev, answers .bistIsolateTimeout s d ∧ d.get R.MEM_STATUS_BIST = 0 ∧ d.slice = n + 1 ∧ n ∉ d.tsk.fenced ∧
      d.get R.MEM_BIST_COUNTS_SKIPPED = min (s.dev.get R.MEM_BIST_COUNTS_SKIPPED + 1) 63 ∧ d.is R.MEM_IRQ_SLICE_SKIPPED = true ∧
      Dev.Frame true [.mem, .tsk] [R.MEM_STATUS, R.MEM_BIST_COUNTS_SKIPPED.reg, R.MEM_IRQ] u d)) ∧
  (s.dev.get R.MEM_STATUS_BIST = 2 → s.dev.mem.full = false → s.dev.bistMay = true → 48 ≤ s.dev.slice → s.dev.slice < 2399 →
    s.dev.storeOk (Config.slicePitch s.dev.slice) = true ∨ imageSlice s.dev.slice = false →
    (∃ d : Dev, answers (.bistTestDone [] []) s d ∧ d.get R.MEM_STATUS_BIST = 0 ∧ d.slice = s.dev.slice + 1 ∧
      d.get R.MEM_BIST_COUNTS_DONE = min (s.dev.get R.MEM_BIST_COUNTS_DONE + 1) 4095 ∧
      (∀ k, Config.instSlice (k / 65536) ≠ s.dev.slice → d.errsOf k = s.dev.errsOf k) ∧ d.mem.log = s.dev.mem.log ∧
      Dev.Frame false [.mem] [R.MEM_STATUS, R.MEM_BIST_COUNTS_DONE.reg] s.dev d) ∧
    (∀ k n p, k / 65536 < 2304 → k % 65536 < Config.instWords (k / 65536) → s.dev.anchor k = none →
      s.dev.errsOf k = 0 → p < 8 → (s.dev.piton (k / 65536) p).valid = false → (s.dev.piton (k / 65536) p).bad = false → ∃ d : Dev,
      answers (.bistTestDone [(k, n)] []) s d ∧ d.get R.MEM_STATUS_BIST = 0 ∧ d.slice = s.dev.slice + 1 ∧
      (Config.instSlice (k / 65536) = s.dev.slice → (d.anchor k).isSome = true ∧
        d.get R.MEM_BIST_COUNTS_FAILED = min (s.dev.get R.MEM_BIST_COUNTS_FAILED + 1) 15 ∧ d.is R.MEM_IRQ_BIST_FAIL = true ∧ d.is R.MEM_IRQ_PITON = true) ∧
      (Config.instSlice (k / 65536) ≠ s.dev.slice → d.anchor k = none ∧ d.get R.MEM_BIST_COUNTS_FAILED = s.dev.get R.MEM_BIST_COUNTS_FAILED) ∧
      d.get R.MEM_BIST_COUNTS_DONE = min (s.dev.get R.MEM_BIST_COUNTS_DONE + 1) 4095 ∧
      Dev.Frame true [.mem] [R.MEM_STATUS, R.MEM_BIST_COUNTS_DONE.reg, R.MEM_PITON_COUNTS_PITONS.reg, R.MEM_IRQ, R.MEM_LOG_POP_LOST.reg] s.dev d)) ∧
  (s.dev.get R.MEM_STATUS_BIST = 2 → s.dev.mem.full = true → ∃ d : Dev, answers (.bistTestDone [] []) s d ∧ d.get R.MEM_STATUS_BIST = 0 ∧
    d.mem.full = false ∧ d.is R.MEM_BIST_RUN_DONE = true ∧ d.is R.MEM_BIST_RUN_PASS = true ∧
    Dev.Frame false [.mem, .clusters, .thk, .img, .decls] ([R.MEM_STATUS, R.MEM_BIST_RUN, R.IMG_IRQ] ++
      (List.range 32).map fun c => (R.ENG_c_PCACHE_WRITEBACKS c).reg) s.dev d) ∧
  (∀ v : Word, bit v.toNat 0 = true → s.dev.sup.mode = .test → ∃ d : Dev, answers (.bistRun v) s d ∧ d.mem = { s.dev.mem with full := true } ∧
    d.is R.MEM_BIST_RUN_DONE = false ∧ d.is R.MEM_BIST_RUN_PASS = false ∧ d.get R.MEM_STATUS_BIST = 2 ∧ Dev.Frame false [.mem] [R.MEM_BIST_RUN, R.MEM_STATUS] s.dev d) ∧
  (∀ v : Word, bit v.toNat 0 = false ∨ s.dev.sup.mode ≠ .test → answers (.bistRun v) s s.dev) ∧
  (s.dev.mem.log = [] → ∃ d : Dev, answers .logPop s d ∧ d.is R.MEM_LOG0_VALID = false ∧ Dev.Frame false [] [R.MEM_LOG0] s.dev d) ∧
  (∀ e rest, s.dev.mem.log = e :: rest → e.inst < 4096 → e.kind < 16 → e.source < 16 → e.bit < 128 → e.addr < 65536 → e.row < 256 → e.col < 256 → ∃ d : Dev,
    answers .logPop s d ∧ d.mem = { s.dev.mem with log := rest } ∧ d.is R.MEM_LOG0_VALID = true ∧ bits (d.rd R.MEM_LOG0).toNat 0 12 = e.inst ∧
    bits (d.rd R.MEM_LOG0).toNat 12 4 = e.kind ∧ bits (d.rd R.MEM_LOG0).toNat 16 4 = e.source ∧ bits (d.rd R.MEM_LOG0).toNat 20 7 = e.bit ∧
    bits (d.rd R.MEM_LOG1).toNat 0 16 = e.addr ∧ bits (d.rd R.MEM_LOG1).toNat 16 8 = e.row ∧ bits (d.rd R.MEM_LOG1).toNat 24 8 = e.col ∧ d.rd R.MEM_LOG2 = BitVec.ofNat 32 e.ns ∧ Dev.Frame false [.mem] [R.MEM_LOG0, R.MEM_LOG1, R.MEM_LOG2] s.dev d)
end

