-- ==== Sys2Proof/Laws/Bits.lean ====
section
/-!
SUPPORT. Sys2Proof/Laws/Bits.lean: what reading and replacing a bit field do.
-/
namespace Sys2Proof.Machine

theorem putBits_eq (n lo w v : Nat) :
    putBits n lo w v = n / 2 ^ (lo + w) * 2 ^ (lo + w) + v % 2 ^ w * 2 ^ lo + n % 2 ^ lo := by
  unfold putBits bits
  have h1 : n = 2 ^ lo * (n / 2 ^ lo) + n % 2 ^ lo := (Nat.div_add_mod n (2 ^ lo)).symm
  have h2 : n / 2 ^ lo = 2 ^ w * (n / 2 ^ lo / 2 ^ w) + n / 2 ^ lo % 2 ^ w := (Nat.div_add_mod _ _).symm
  have h3 : n / 2 ^ (lo + w) = n / 2 ^ lo / 2 ^ w := by rw [Nat.pow_add, Nat.div_div_eq_div_mul]
  have h4 : n = n / 2 ^ (lo + w) * 2 ^ (lo + w) + n / 2 ^ lo % 2 ^ w * 2 ^ lo + n % 2 ^ lo := by
    conv => lhs; rw [h1, h2]
    rw [h3, Nat.pow_add, Nat.mul_add]
    congr 1
    rw [Nat.mul_comm (2 ^ lo) (n / 2 ^ lo % 2 ^ w)]
    congr 1
    rw [Nat.mul_comm (n / 2 ^ lo / 2 ^ w), Nat.mul_assoc]
  omega

theorem putBits_div (n lo w v : Nat) : putBits n lo w v / 2 ^ (lo + w) = n / 2 ^ (lo + w) := by
  rw [putBits_eq, Nat.add_assoc]
  have hp : 0 < 2 ^ (lo + w) := Nat.two_pow_pos _
  rw [Nat.mul_comm, Nat.mul_add_div hp]
  have : v % 2 ^ w * 2 ^ lo + n % 2 ^ lo < 2 ^ (lo + w) := by
    have a := Nat.mod_lt v (Nat.two_pow_pos w)
    have b := Nat.mod_lt n (Nat.two_pow_pos lo)
    calc v % 2 ^ w * 2 ^ lo + n % 2 ^ lo < v % 2 ^ w * 2 ^ lo + 2 ^ lo := by omega
      _ = (v % 2 ^ w + 1) * 2 ^ lo := by rw [Nat.add_mul, Nat.one_mul]
      _ ≤ 2 ^ w * 2 ^ lo := Nat.mul_le_mul_right _ a
      _ = 2 ^ (lo + w) := by rw [Nat.pow_add, Nat.mul_comm]
  rw [Nat.div_eq_of_lt this, Nat.add_zero]

theorem putBits_mod (n lo w v : Nat) : putBits n lo w v % 2 ^ lo = n % 2 ^ lo := by
  rw [putBits_eq, Nat.pow_add, ← Nat.mul_assoc, Nat.mul_right_comm, ← Nat.add_mul, Nat.add_comm, Nat.add_mul_mod_self_right, Nat.mod_mod]

theorem putBits_lt (n lo w v k : Nat) (hn : n < 2 ^ k) (h : lo + w ≤ k) : putBits n lo w v < 2 ^ k := by
  have hk : 2 ^ k = 2 ^ (lo + w) * 2 ^ (k - (lo + w)) := by rw [← Nat.pow_add]; congr 1; omega
  have hp : 0 < 2 ^ (lo + w) := Nat.two_pow_pos _
  rw [hk, Nat.mul_comm] at hn ⊢
  rw [← Nat.div_lt_iff_lt_mul hp] at hn ⊢
  rwa [putBits_div]

/-- A field read after it was replaced. -/
theorem bits_putBits_same (n lo w v : Nat) : bits (putBits n lo w v) lo w = v % 2 ^ w := by
  unfold bits
  rw [putBits_eq, Nat.pow_add, ← Nat.mul_assoc, Nat.mul_right_comm, ← Nat.add_mul]
  have hp : 0 < 2 ^ lo := Nat.two_pow_pos _
  rw [Nat.mul_comm, Nat.mul_add_div hp, Nat.div_eq_of_lt (Nat.mod_lt n hp), Nat.add_zero, Nat.add_comm, Nat.add_mul_mod_self_right, Nat.mod_mod]

/-- A field above the replaced one. -/
theorem bits_putBits_above (n lo w v lo2 w2 : Nat) (h : lo + w ≤ lo2) : bits (putBits n lo w v) lo2 w2 = bits n lo2 w2 := by
  have hk : 2 ^ lo2 = 2 ^ (lo + w) * 2 ^ (lo2 - (lo + w)) := by rw [← Nat.pow_add]; congr 1; omega
  simp only [bits, hk, ← Nat.div_div_eq_div_mul, putBits_div]

/-- A field below the replaced one. -/
theorem bits_putBits_below (n lo w v lo2 w2 : Nat) (h : lo2 + w2 ≤ lo) : bits (putBits n lo w v) lo2 w2 = bits n lo2 w2 := by
  have e (x : Nat) : bits x lo2 w2 = x % 2 ^ lo % 2 ^ (lo2 + w2) / 2 ^ lo2 := by
    rw [Nat.mod_mod_of_dvd x (Nat.pow_dvd_pow 2 h), Nat.pow_add, Nat.mod_mul_right_div_self]; rfl
  rw [e, e, putBits_mod]

end Sys2Proof.Machine
end

