-- ==== Sys2Proof/Laws/Sparse.lean ====
section
/-!
SUPPORT. Sys2Proof/Laws/Sparse.lean: what the sparse tables do: a read after a write, other keys, and the canonical form kept.
-/
namespace Sys2Proof.Machine

variable {α : Type}

theorem sget_serase (d : α) (k j : Nat) (m : List (Nat × α)) : sget d j (serase k m) = if j = k then d else sget d j m := by
  induction m with
  | nil => simp [serase, sget]
  | cons x t ih =>
    obtain ⟨i, v⟩ := x
    by_cases hi : i = k
    · subst hi
      simp only [serase, if_true, ih]
      by_cases hj : j = i
      · simp [hj]
      · simp [sget, hj, Ne.symm hj]
    · simp only [serase, hi, if_false, sget]
      by_cases hij : i = j
      · subst hij; simp [hi]
      · simp [hij, ih]

theorem sget_sinsert (d : α) (k j : Nat) (v : α) (m : List (Nat × α)) : sget d j (sinsert k v m) = if j = k then v else sget d j m := by
  induction m with
  | nil =>
    by_cases h : k = j
    · simp [sinsert, sget, h]
    · simp [sinsert, sget, h, Ne.symm h]
  | cons x t ih =>
    obtain ⟨i, w⟩ := x
    by_cases h1 : k < i
    · rw [sinsert, if_pos h1, sget]
      by_cases h : k = j
      · rw [if_pos h, if_pos h.symm]
      · rw [if_neg h, if_neg (Ne.symm h)]
    · by_cases h2 : i = k
      · subst h2
        rw [sinsert, if_neg h1, if_pos rfl, sget, sget]
        by_cases h : i = j
        · rw [if_pos h, if_pos h.symm]
        · rw [if_neg h, if_neg (Ne.symm h), if_neg h]
      · rw [sinsert, if_neg h1, if_neg h2, sget, sget]
        by_cases hij : i = j
        · rw [if_pos hij, if_pos hij, if_neg (hij ▸ h2)]
        · rw [if_neg hij, if_neg hij, ih]

/-- A read after a write: the value written at its key, every other key as before. -/
theorem sget_sset [DecidableEq α] (d : α) (e : α) (k j : Nat) (v : α) (m : List (Nat × α)) (h : v = d → e = d ∨ j ≠ k) :
    sget e j (sset d k v m) = if j = k then v else sget e j m := by
  unfold sset
  split
  · rename_i hv
    rw [sget_serase]
    by_cases hj : j = k
    · rcases h hv with h | h
      · simp [hj, hv, h]
      · exact absurd hj h
    · simp [hj]
  · exact sget_sinsert e k j v m

theorem swfFrom_weaken [DecidableEq α] (d : Nat → α) (a b : Nat) (m : List (Nat × α)) (h : swfFrom d (some b) m = true) (hab : a ≤ b) :
    swfFrom d (some a) m = true := by
  cases m with
  | nil => rfl
  | cons x t =>
    obtain ⟨i, v⟩ := x
    simp only [swfFrom, Bool.and_eq_true, decide_eq_true_eq] at h ⊢
    exact ⟨⟨by omega, h.1.2⟩, h.2⟩

theorem swfFrom_serase [DecidableEq α] (d : Nat → α) (k : Nat) (lo : Option Nat) (m : List (Nat × α)) (h : swfFrom d lo m = true) :
    swfFrom d lo (serase k m) = true := by
  induction m generalizing lo with
  | nil => rfl
  | cons x t ih =>
    obtain ⟨i, v⟩ := x
    simp only [swfFrom, Bool.and_eq_true, decide_eq_true_eq] at h
    by_cases hi : i = k
    · simp only [serase, hi, if_true]
      cases lo with
      | none =>
        have := ih (some i) h.2
        cases hs : serase k t with
        | nil => rfl
        | cons y u =>
          rw [hs] at this
          simp only [swfFrom, Bool.and_eq_true, decide_eq_true_eq] at this ⊢
          exact ⟨⟨trivial, this.1.2⟩, this.2⟩
      | some l =>
        have hl : l < i := by simpa using h.1.1
        exact swfFrom_weaken d l i _ (ih (some i) h.2) (by omega)
    · simp only [serase, hi, if_false, swfFrom, Bool.and_eq_true, decide_eq_true_eq]
      exact ⟨h.1, ih _ h.2⟩

theorem swfFrom_sinsert [DecidableEq α] (d : Nat → α) (k : Nat) (v : α) (lo : Option Nat) (m : List (Nat × α))
    (h : swfFrom d lo m = true) (hv : v ≠ d k) (hlo : ∀ l, lo = some l → l < k) : swfFrom d lo (sinsert k v m) = true := by
  induction m generalizing lo with
  | nil => cases lo <;> simp_all [sinsert, swfFrom]
  | cons x t ih =>
    obtain ⟨i, w⟩ := x
    have hd := h
    simp only [swfFrom, Bool.and_eq_true, decide_eq_true_eq] at h
    by_cases h1 : k < i
    · simp only [sinsert, h1, if_true, swfFrom, Bool.and_eq_true, decide_eq_true_eq]
      refine ⟨⟨?_, hv⟩, ⟨trivial, h.1.2⟩, h.2⟩
      cases lo with
      | none => rfl
      | some l => simpa using hlo l rfl
    · by_cases h2 : i = k
      · subst h2
        simp only [sinsert, Nat.lt_irrefl, if_false, if_true, swfFrom, Bool.and_eq_true, decide_eq_true_eq]
        exact ⟨⟨h.1.1, hv⟩, h.2⟩
      · simp only [sinsert, h1, h2, if_false, swfFrom, Bool.and_eq_true, decide_eq_true_eq]
        exact ⟨h.1, ih (some i) h.2 (by intro l hl; cases hl; omega)⟩

/-- A write keeps the canonical form. -/
theorem swf_sset [DecidableEq α] (d : Nat → α) (k : Nat) (v : α) (m : List (Nat × α)) (h : swf d m = true) :
    swf d (sset (d k) k v m) = true := by
  unfold sset
  split
  · exact swfFrom_serase d k none m h
  · exact swfFrom_sinsert d k v none m h ‹_› (by simp)

theorem swfFrom_sclear [DecidableEq α] (d : Nat → α) (a b : Nat) (lo : Option Nat) (m : List (Nat × α)) (h : swfFrom d lo m = true) :
    swfFrom d lo (sclear a b m) = true := by
  induction m generalizing lo with
  | nil => rfl
  | cons x t ih =>
    obtain ⟨i, v⟩ := x
    simp only [swfFrom, Bool.and_eq_true, decide_eq_true_eq] at h
    by_cases hi : a ≤ i ∧ i < b
    · simp only [sclear, hi]
      cases lo with
      | none =>
        have := ih (some i) h.2
        cases hs : sclear a b t with
        | nil => simp [swfFrom]
        | cons y u =>
          rw [hs] at this
          simp only [swfFrom, Bool.and_eq_true, decide_eq_true_eq] at this
          simp only [and_self, if_true, swfFrom, Bool.and_eq_true, decide_eq_true_eq]
          exact ⟨⟨trivial, this.1.2⟩, this.2⟩
      | some l =>
        have hl : l < i := by simpa using h.1.1
        simpa using swfFrom_weaken d l i _ (ih (some i) h.2) (by omega)
    · simp only [sclear, hi, if_false, swfFrom, Bool.and_eq_true, decide_eq_true_eq]
      exact ⟨h.1, ih _ h.2⟩

/-- A range cleared keeps the canonical form. -/
theorem swf_sclear [DecidableEq α] (d : Nat → α) (a b : Nat) (m : List (Nat × α)) (h : swf d m = true) : swf d (sclear a b m) = true :=
  swfFrom_sclear d a b none m h

/-- A byte string written keeps the canonical form. -/
theorem swf_swrite (a : Nat) (bs : List Byte) (m : List (Nat × Byte)) (h : swf (fun _ => 0) m = true) :
    swf (fun _ => 0) (swrite a bs m) = true := by
  induction bs generalizing a m with
  | nil => exact h
  | cons b t ih => exact ih (a + 1) _ (swf_sset (fun _ => 0) a b m h)

end Sys2Proof.Machine
end

