-- ==== Sys2Proof/Laws/Regs.lean ====
section
/-!
SUPPORT. Sys2Proof/Laws/Regs.lean: what reading and writing registers and their fields do.
-/
namespace Sys2Proof.Machine

theorem Dev.rd_wr (s : Dev) (a b : Nat) (v : Word) : (s.wr a v).rd b = if b = a then v else s.rd b := by
  unfold Dev.rd Dev.wr
  refine sget_sset _ _ _ _ _ _ ?_
  intro hv
  by_cases h : b = a
  · exact Or.inl (by rw [h])
  · exact Or.inr h

@[simp] theorem Dev.rd_wr_same (s : Dev) (a : Nat) (v : Word) : (s.wr a v).rd a = v := by simp [Dev.rd_wr]

@[simp] theorem Dev.rd_wr_ne (s : Dev) {a b : Nat} (v : Word) (h : b ≠ a) : (s.wr a v).rd b = s.rd b := by simp [Dev.rd_wr, h]

/-- A field written in a register leaves every other register. -/
@[simp] theorem Dev.rd_set_ne (s : Dev) (f : Fld) (v : Nat) {b : Nat} (h : b ≠ f.reg) : (s.set f v).rd b = s.rd b := s.rd_wr_ne _ h

theorem Dev.rd_set (s : Dev) (f : Fld) (v : Nat) :
    (s.set f v).rd f.reg = BitVec.ofNat 32 (putBits (s.rd f.reg).toNat f.lo f.w v) := s.rd_wr_same _ _

theorem toNat_putBits (r : Word) (lo w v : Nat) (h : lo + w ≤ 32) :
    (BitVec.ofNat 32 (putBits r.toNat lo w v)).toNat = putBits r.toNat lo w v := by
  rw [BitVec.toNat_ofNat]
  exact Nat.mod_eq_of_lt (putBits_lt _ _ _ _ 32 r.isLt h)

/-- A field read after it was written holds the value modulo its width. -/
theorem Dev.get_set_same (s : Dev) (f : Fld) (v : Nat) (h : f.lo + f.w ≤ 32) : (s.set f v).get f = v % 2 ^ f.w := by
  unfold Dev.get
  rw [s.rd_set, toNat_putBits _ _ _ _ h, bits_putBits_same]

/-- A field of another register, or of other bits of the same register, keeps its value. -/
theorem Dev.get_set_ne (s : Dev) (f g : Fld) (v : Nat) (hf : f.lo + f.w ≤ 32)
    (h : g.reg ≠ f.reg ∨ f.lo + f.w ≤ g.lo ∨ g.lo + g.w ≤ f.lo) : (s.set f v).get g = s.get g := by
  unfold Dev.get
  by_cases hr : g.reg = f.reg
  · rw [hr, s.rd_set, toNat_putBits _ _ _ _ hf]
    rcases h with h | h | h
    · exact absurd hr h
    · exact bits_putBits_above _ _ _ _ _ _ h
    · exact bits_putBits_below _ _ _ _ _ _ h
  · rw [s.rd_set_ne f v hr]

theorem Dev.get_lt (s : Dev) (f : Fld) : s.get f < 2 ^ f.w := Nat.mod_lt _ (Nat.two_pow_pos _)

theorem Dev.is_set_one (s : Dev) (f : Fld) (h : f.lo + f.w ≤ 32) (hw : 0 < f.w) : (s.set f 1).is f = true := by
  have h1 : 1 < 2 ^ f.w := Nat.one_lt_two_pow (by omega)
  simp [Dev.is, s.get_set_same f 1 h, Nat.mod_eq_of_lt h1]

theorem Dev.is_set_zero (s : Dev) (f : Fld) (h : f.lo + f.w ≤ 32) : (s.set f 0).is f = false := by
  simp [Dev.is, s.get_set_same f 0 h]

/-- A signalled vector changes no register. -/
@[simp] theorem Dev.rd_signal (s : Dev) (v a : Nat) : (s.signal v).rd a = s.rd a := by
  unfold Dev.signal
  (repeat' split) <;> rfl

@[simp] theorem Dev.rd_irq (s : Dev) (v a : Nat) (f : Dev → Dev) : (s.irq v f).rd a = (f s).rd a := by
  unfold Dev.irq
  simp only
  split <;> simp

/-- A raised cause: its bits read ones, every other register as before. -/
@[simp] theorem Dev.rd_raise_ne (s : Dev) (f : Fld) {a : Nat} (h : a ≠ f.reg) : (s.raise f).rd a = s.rd a := by
  simp [Dev.raise, s.rd_set_ne f _ h]

theorem Dev.get_raise_same (s : Dev) (f : Fld) (h : f.lo + f.w ≤ 32) : (s.raise f).get f = 2 ^ f.w - 1 := by
  unfold Dev.raise Dev.get
  rw [Dev.rd_irq]
  have := s.get_set_same f (2 ^ f.w - 1) h
  unfold Dev.get at this
  rw [this]
  exact Nat.mod_eq_of_lt (Nat.sub_lt (Nat.two_pow_pos _) Nat.one_pos)

theorem Dev.is_raise (s : Dev) (f : Fld) (h : f.lo + f.w ≤ 32) (hw : f.w = 1) : (s.raise f).is f = true := by
  simp [Dev.is, s.get_raise_same f h, hw]

theorem Dev.get_raise_ne (s : Dev) (f g : Fld) (hf : f.lo + f.w ≤ 32)
    (h : g.reg ≠ f.reg ∨ f.lo + f.w ≤ g.lo ∨ g.lo + g.w ≤ f.lo) : (s.raise f).get g = s.get g := by
  have := s.get_set_ne f g (2 ^ f.w - 1) hf h
  unfold Dev.get at this ⊢
  rw [Dev.raise, Dev.rd_irq, this]

theorem Dev.rd_countR (s : Dev) (a n b : Nat) :
    (s.countR a n).rd b = if b = a then BitVec.ofNat 32 (sat 32 ((s.rd a).toNat + n)) else s.rd b := s.rd_wr _ _ _

/-- A counter register raised by n, up to all ones (R6). -/
theorem Dev.countR_toNat (s : Dev) (a n : Nat) : ((s.countR a n).rd a).toNat = min ((s.rd a).toNat + n) (2 ^ 32 - 1) := by
  rw [Dev.rd_countR, if_pos rfl, BitVec.toNat_ofNat, sat]
  exact Nat.mod_eq_of_lt (by omega)

/-- A counter field raised by n, up to all ones (R6). -/
theorem Dev.get_count_same (s : Dev) (f : Fld) (n : Nat) (h : f.lo + f.w ≤ 32) :
    (s.count f n).get f = min (s.get f + n) (2 ^ f.w - 1) := by
  unfold Dev.count sat
  rw [s.get_set_same f _ h]
  have := Nat.two_pow_pos f.w
  exact Nat.mod_eq_of_lt (by omega)

/-- Whether a write of one field leaves the other: another register, or other bits of the same one. -/
def Fld.apart (f g : Fld) : Bool := decide (f.lo + f.w ≤ 32) && (g.reg != f.reg || decide (f.lo + f.w ≤ g.lo) || decide (g.lo + g.w ≤ f.lo))

/-- A field fits its register. -/
def Fld.fits (f : Fld) : Bool := decide (f.lo + f.w ≤ 32) && decide (0 < f.w)

theorem Fld.apart_spec {f g : Fld} (h : f.apart g = true) :
    f.lo + f.w ≤ 32 ∧ (g.reg ≠ f.reg ∨ f.lo + f.w ≤ g.lo ∨ g.lo + g.w ≤ f.lo) := by
  simpa [Fld.apart, or_assoc] using h

theorem Fld.fits_spec {f : Fld} (h : f.fits = true) : f.lo + f.w ≤ 32 ∧ 0 < f.w := by simpa [Fld.fits] using h

@[simp] theorem Dev.get_set (s : Dev) (f : Fld) (v : Nat) (h : f.fits = true) : (s.set f v).get f = v % 2 ^ f.w :=
  s.get_set_same f v (Fld.fits_spec h).1

@[simp] theorem Dev.get_set_apart (s : Dev) (f g : Fld) (v : Nat) (h : f.apart g = true) : (s.set f v).get g = s.get g :=
  s.get_set_ne f g v (Fld.apart_spec h).1 (Fld.apart_spec h).2

@[simp] theorem Dev.is_set (s : Dev) (f : Fld) (v : Nat) (h : f.fits = true) : (s.set f v).is f = (v % 2 ^ f.w == 1) := by
  unfold Dev.is
  rw [s.get_set f v h]

@[simp] theorem Dev.is_set_apart (s : Dev) (f g : Fld) (v : Nat) (h : f.apart g = true) : (s.set f v).is g = s.is g := by
  unfold Dev.is
  rw [s.get_set_apart f g v h]

@[simp] theorem Dev.is_setB (s : Dev) (f : Fld) (b : Bool) (h : f.fits = true) : (s.setB f b).is f = b := by
  unfold Dev.setB
  rw [s.is_set f _ h]
  have : 1 < 2 ^ f.w := Nat.one_lt_two_pow (by have := (Fld.fits_spec h).2; omega)
  cases b <;> simp [b2n, Nat.mod_eq_of_lt this]

@[simp] theorem Dev.get_setB_apart (s : Dev) (f g : Fld) (b : Bool) (h : f.apart g = true) : (s.setB f b).get g = s.get g := s.get_set_apart f g _ h
@[simp] theorem Dev.is_setB_apart (s : Dev) (f g : Fld) (b : Bool) (h : f.apart g = true) : (s.setB f b).is g = s.is g := s.is_set_apart f g _ h
@[simp] theorem Dev.get_count_apart (s : Dev) (f g : Fld) (n : Nat) (h : f.apart g = true) : (s.count f n).get g = s.get g := s.get_set_apart f g _ h
@[simp] theorem Dev.is_count_apart (s : Dev) (f g : Fld) (n : Nat) (h : f.apart g = true) : (s.count f n).is g = s.is g := s.is_set_apart f g _ h

@[simp] theorem Dev.get_count (s : Dev) (f : Fld) (n : Nat) (h : f.fits = true) : (s.count f n).get f = min (s.get f + n) (2 ^ f.w - 1) :=
  s.get_count_same f n (Fld.fits_spec h).1

@[simp] theorem Dev.get_wr_ne (s : Dev) (a : Nat) (v : Word) (g : Fld) (h : (g.reg != a) = true) : (s.wr a v).get g = s.get g := by
  unfold Dev.get
  rw [s.rd_wr_ne v (by simpa using h)]
@[simp] theorem Dev.is_wr_ne (s : Dev) (a : Nat) (v : Word) (g : Fld) (h : (g.reg != a) = true) : (s.wr a v).is g = s.is g := by
  unfold Dev.is
  rw [s.get_wr_ne a v g h]
@[simp] theorem Dev.get_countR_ne (s : Dev) (a n : Nat) (g : Fld) (h : (g.reg != a) = true) : (s.countR a n).get g = s.get g := s.get_wr_ne a _ g h
@[simp] theorem Dev.is_countR_ne (s : Dev) (a n : Nat) (g : Fld) (h : (g.reg != a) = true) : (s.countR a n).is g = s.is g := s.is_wr_ne a _ g h

@[simp] theorem Dev.get_raise_apart (s : Dev) (f g : Fld) (h : f.apart g = true) : (s.raise f).get g = s.get g :=
  s.get_raise_ne f g (Fld.apart_spec h).1 (Fld.apart_spec h).2
@[simp] theorem Dev.is_raise_apart (s : Dev) (f g : Fld) (h : f.apart g = true) : (s.raise f).is g = s.is g := by
  unfold Dev.is
  rw [s.get_raise_apart f g h]
@[simp] theorem Dev.get_raiseAt_apart (s : Dev) (f g : Fld) (i : Nat) (h : (f.at i).apart g = true) : (s.raiseAt f i).get g = s.get g :=
  s.get_raise_apart _ g h
@[simp] theorem Dev.is_raiseAt_apart (s : Dev) (f g : Fld) (i : Nat) (h : (f.at i).apart g = true) : (s.raiseAt f i).is g = s.is g :=
  s.is_raise_apart _ g h
@[simp] theorem Dev.is_raise_same (s : Dev) (f : Fld) (h : (f.fits && f.w == 1) = true) : (s.raise f).is f = true := by
  simp only [Bool.and_eq_true, beq_iff_eq] at h
  exact s.is_raise f (Fld.fits_spec h.1).1 h.2
@[simp] theorem Dev.is_raiseAt_same (s : Dev) (f : Fld) (i : Nat) (h : ((f.at i).fits) = true) : (s.raiseAt f i).is (f.at i) = true :=
  s.is_raise_same (f.at i) (by rw [h]; rfl)

end Sys2Proof.Machine
end

