-- ==== Sys2Proof/Laws/State.lean ====
section
/-!
SUPPORT. Sys2Proof/Laws/State.lean: what each update of the block leaves: one lemma per field per update.
-/
namespace Sys2Proof.Machine

/-! Fields that wr leaves. -/
@[simp] theorem Dev.ticks_wr (s : Dev) (a : Nat) (v : Word) : (s.wr a v).ticks = s.ticks := (rfl)
@[simp] theorem Dev.free_wr (s : Dev) (a : Nat) (v : Word) : (s.wr a v).free = s.free := (rfl)
@[simp] theorem Dev.lastRead_wr (s : Dev) (a : Nat) (v : Word) : (s.wr a v).lastRead = s.lastRead := (rfl)
@[simp] theorem Dev.shadows_wr (s : Dev) (a : Nat) (v : Word) : (s.wr a v).shadows = s.shadows := (rfl)
@[simp] theorem Dev.heldHigh_wr (s : Dev) (a : Nat) (v : Word) : (s.wr a v).heldHigh = s.heldHigh := (rfl)
@[simp] theorem Dev.out_wr (s : Dev) (a : Nat) (v : Word) : (s.wr a v).out = s.out := (rfl)
@[simp] theorem Dev.sup_wr (s : Dev) (a : Nat) (v : Word) : (s.wr a v).sup = s.sup := (rfl)
@[simp] theorem Dev.img_wr (s : Dev) (a : Nat) (v : Word) : (s.wr a v).img = s.img := (rfl)
@[simp] theorem Dev.hif_wr (s : Dev) (a : Nat) (v : Word) : (s.wr a v).hif = s.hif := (rfl)
@[simp] theorem Dev.pwr_wr (s : Dev) (a : Nat) (v : Word) : (s.wr a v).pwr = s.pwr := (rfl)
@[simp] theorem Dev.lfe_wr (s : Dev) (a : Nat) (v : Word) : (s.wr a v).lfe = s.lfe := (rfl)
@[simp] theorem Dev.lfr_wr (s : Dev) (a : Nat) (v : Word) : (s.wr a v).lfr = s.lfr := (rfl)
@[simp] theorem Dev.act_wr (s : Dev) (a : Nat) (v : Word) : (s.wr a v).act = s.act := (rfl)
@[simp] theorem Dev.cph_wr (s : Dev) (a : Nat) (v : Word) : (s.wr a v).cph = s.cph := (rfl)
@[simp] theorem Dev.sch_wr (s : Dev) (a : Nat) (v : Word) : (s.wr a v).sch = s.sch := (rfl)
@[simp] theorem Dev.thk_wr (s : Dev) (a : Nat) (v : Word) : (s.wr a v).thk = s.thk := (rfl)
@[simp] theorem Dev.tsk_wr (s : Dev) (a : Nat) (v : Word) : (s.wr a v).tsk = s.tsk := (rfl)
@[simp] theorem Dev.engs_wr (s : Dev) (a : Nat) (v : Word) : (s.wr a v).engs = s.engs := (rfl)
@[simp] theorem Dev.clusters_wr (s : Dev) (a : Nat) (v : Word) : (s.wr a v).clusters = s.clusters := (rfl)
@[simp] theorem Dev.rate_wr (s : Dev) (a : Nat) (v : Word) : (s.wr a v).rate = s.rate := (rfl)
@[simp] theorem Dev.decls_wr (s : Dev) (a : Nat) (v : Word) : (s.wr a v).decls = s.decls := (rfl)
@[simp] theorem Dev.tmb_wr (s : Dev) (a : Nat) (v : Word) : (s.wr a v).tmb = s.tmb := (rfl)
@[simp] theorem Dev.trb_wr (s : Dev) (a : Nat) (v : Word) : (s.wr a v).trb = s.trb := (rfl)
@[simp] theorem Dev.prs_wr (s : Dev) (a : Nat) (v : Word) : (s.wr a v).prs = s.prs := (rfl)
@[simp] theorem Dev.rop_wr (s : Dev) (a : Nat) (v : Word) : (s.wr a v).rop = s.rop := (rfl)
@[simp] theorem Dev.mac_wr (s : Dev) (a : Nat) (v : Word) : (s.wr a v).mac = s.mac := (rfl)
@[simp] theorem Dev.twn_wr (s : Dev) (a : Nat) (v : Word) : (s.wr a v).twn = s.twn := (rfl)
@[simp] theorem Dev.lan_wr (s : Dev) (a : Nat) (v : Word) : (s.wr a v).lan = s.lan := (rfl)
@[simp] theorem Dev.mem_wr (s : Dev) (a : Nat) (v : Word) : (s.wr a v).mem = s.mem := (rfl)
@[simp] theorem Dev.dma_wr (s : Dev) (a : Nat) (v : Word) : (s.wr a v).dma = s.dma := (rfl)
@[simp] theorem Dev.bel_wr (s : Dev) (a : Nat) (v : Word) : (s.wr a v).bel = s.bel := (rfl)

/-! Fields that set leaves. -/
@[simp] theorem Dev.ticks_set (s : Dev) (f : Fld) (v : Nat) : (s.set f v).ticks = s.ticks := (rfl)
@[simp] theorem Dev.free_set (s : Dev) (f : Fld) (v : Nat) : (s.set f v).free = s.free := (rfl)
@[simp] theorem Dev.lastRead_set (s : Dev) (f : Fld) (v : Nat) : (s.set f v).lastRead = s.lastRead := (rfl)
@[simp] theorem Dev.shadows_set (s : Dev) (f : Fld) (v : Nat) : (s.set f v).shadows = s.shadows := (rfl)
@[simp] theorem Dev.heldHigh_set (s : Dev) (f : Fld) (v : Nat) : (s.set f v).heldHigh = s.heldHigh := (rfl)
@[simp] theorem Dev.out_set (s : Dev) (f : Fld) (v : Nat) : (s.set f v).out = s.out := (rfl)
@[simp] theorem Dev.sup_set (s : Dev) (f : Fld) (v : Nat) : (s.set f v).sup = s.sup := (rfl)
@[simp] theorem Dev.img_set (s : Dev) (f : Fld) (v : Nat) : (s.set f v).img = s.img := (rfl)
@[simp] theorem Dev.hif_set (s : Dev) (f : Fld) (v : Nat) : (s.set f v).hif = s.hif := (rfl)
@[simp] theorem Dev.pwr_set (s : Dev) (f : Fld) (v : Nat) : (s.set f v).pwr = s.pwr := (rfl)
@[simp] theorem Dev.lfe_set (s : Dev) (f : Fld) (v : Nat) : (s.set f v).lfe = s.lfe := (rfl)
@[simp] theorem Dev.lfr_set (s : Dev) (f : Fld) (v : Nat) : (s.set f v).lfr = s.lfr := (rfl)
@[simp] theorem Dev.act_set (s : Dev) (f : Fld) (v : Nat) : (s.set f v).act = s.act := (rfl)
@[simp] theorem Dev.cph_set (s : Dev) (f : Fld) (v : Nat) : (s.set f v).cph = s.cph := (rfl)
@[simp] theorem Dev.sch_set (s : Dev) (f : Fld) (v : Nat) : (s.set f v).sch = s.sch := (rfl)
@[simp] theorem Dev.thk_set (s : Dev) (f : Fld) (v : Nat) : (s.set f v).thk = s.thk := (rfl)
@[simp] theorem Dev.tsk_set (s : Dev) (f : Fld) (v : Nat) : (s.set f v).tsk = s.tsk := (rfl)
@[simp] theorem Dev.engs_set (s : Dev) (f : Fld) (v : Nat) : (s.set f v).engs = s.engs := (rfl)
@[simp] theorem Dev.clusters_set (s : Dev) (f : Fld) (v : Nat) : (s.set f v).clusters = s.clusters := (rfl)
@[simp] theorem Dev.rate_set (s : Dev) (f : Fld) (v : Nat) : (s.set f v).rate = s.rate := (rfl)
@[simp] theorem Dev.decls_set (s : Dev) (f : Fld) (v : Nat) : (s.set f v).decls = s.decls := (rfl)
@[simp] theorem Dev.tmb_set (s : Dev) (f : Fld) (v : Nat) : (s.set f v).tmb = s.tmb := (rfl)
@[simp] theorem Dev.trb_set (s : Dev) (f : Fld) (v : Nat) : (s.set f v).trb = s.trb := (rfl)
@[simp] theorem Dev.prs_set (s : Dev) (f : Fld) (v : Nat) : (s.set f v).prs = s.prs := (rfl)
@[simp] theorem Dev.rop_set (s : Dev) (f : Fld) (v : Nat) : (s.set f v).rop = s.rop := (rfl)
@[simp] theorem Dev.mac_set (s : Dev) (f : Fld) (v : Nat) : (s.set f v).mac = s.mac := (rfl)
@[simp] theorem Dev.twn_set (s : Dev) (f : Fld) (v : Nat) : (s.set f v).twn = s.twn := (rfl)
@[simp] theorem Dev.lan_set (s : Dev) (f : Fld) (v : Nat) : (s.set f v).lan = s.lan := (rfl)
@[simp] theorem Dev.mem_set (s : Dev) (f : Fld) (v : Nat) : (s.set f v).mem = s.mem := (rfl)
@[simp] theorem Dev.dma_set (s : Dev) (f : Fld) (v : Nat) : (s.set f v).dma = s.dma := (rfl)
@[simp] theorem Dev.bel_set (s : Dev) (f : Fld) (v : Nat) : (s.set f v).bel = s.bel := (rfl)

/-! Fields that setB leaves. -/
@[simp] theorem Dev.ticks_setB (s : Dev) (f : Fld) (b : Bool) : (s.setB f b).ticks = s.ticks := (rfl)
@[simp] theorem Dev.free_setB (s : Dev) (f : Fld) (b : Bool) : (s.setB f b).free = s.free := (rfl)
@[simp] theorem Dev.lastRead_setB (s : Dev) (f : Fld) (b : Bool) : (s.setB f b).lastRead = s.lastRead := (rfl)
@[simp] theorem Dev.shadows_setB (s : Dev) (f : Fld) (b : Bool) : (s.setB f b).shadows = s.shadows := (rfl)
@[simp] theorem Dev.heldHigh_setB (s : Dev) (f : Fld) (b : Bool) : (s.setB f b).heldHigh = s.heldHigh := (rfl)
@[simp] theorem Dev.out_setB (s : Dev) (f : Fld) (b : Bool) : (s.setB f b).out = s.out := (rfl)
@[simp] theorem Dev.sup_setB (s : Dev) (f : Fld) (b : Bool) : (s.setB f b).sup = s.sup := (rfl)
@[simp] theorem Dev.img_setB (s : Dev) (f : Fld) (b : Bool) : (s.setB f b).img = s.img := (rfl)
@[simp] theorem Dev.hif_setB (s : Dev) (f : Fld) (b : Bool) : (s.setB f b).hif = s.hif := (rfl)
@[simp] theorem Dev.pwr_setB (s : Dev) (f : Fld) (b : Bool) : (s.setB f b).pwr = s.pwr := (rfl)
@[simp] theorem Dev.lfe_setB (s : Dev) (f : Fld) (b : Bool) : (s.setB f b).lfe = s.lfe := (rfl)
@[simp] theorem Dev.lfr_setB (s : Dev) (f : Fld) (b : Bool) : (s.setB f b).lfr = s.lfr := (rfl)
@[simp] theorem Dev.act_setB (s : Dev) (f : Fld) (b : Bool) : (s.setB f b).act = s.act := (rfl)
@[simp] theorem Dev.cph_setB (s : Dev) (f : Fld) (b : Bool) : (s.setB f b).cph = s.cph := (rfl)
@[simp] theorem Dev.sch_setB (s : Dev) (f : Fld) (b : Bool) : (s.setB f b).sch = s.sch := (rfl)
@[simp] theorem Dev.thk_setB (s : Dev) (f : Fld) (b : Bool) : (s.setB f b).thk = s.thk := (rfl)
@[simp] theorem Dev.tsk_setB (s : Dev) (f : Fld) (b : Bool) : (s.setB f b).tsk = s.tsk := (rfl)
@[simp] theorem Dev.engs_setB (s : Dev) (f : Fld) (b : Bool) : (s.setB f b).engs = s.engs := (rfl)
@[simp] theorem Dev.clusters_setB (s : Dev) (f : Fld) (b : Bool) : (s.setB f b).clusters = s.clusters := (rfl)
@[simp] theorem Dev.rate_setB (s : Dev) (f : Fld) (b : Bool) : (s.setB f b).rate = s.rate := (rfl)
@[simp] theorem Dev.decls_setB (s : Dev) (f : Fld) (b : Bool) : (s.setB f b).decls = s.decls := (rfl)
@[simp] theorem Dev.tmb_setB (s : Dev) (f : Fld) (b : Bool) : (s.setB f b).tmb = s.tmb := (rfl)
@[simp] theorem Dev.trb_setB (s : Dev) (f : Fld) (b : Bool) : (s.setB f b).trb = s.trb := (rfl)
@[simp] theorem Dev.prs_setB (s : Dev) (f : Fld) (b : Bool) : (s.setB f b).prs = s.prs := (rfl)
@[simp] theorem Dev.rop_setB (s : Dev) (f : Fld) (b : Bool) : (s.setB f b).rop = s.rop := (rfl)
@[simp] theorem Dev.mac_setB (s : Dev) (f : Fld) (b : Bool) : (s.setB f b).mac = s.mac := (rfl)
@[simp] theorem Dev.twn_setB (s : Dev) (f : Fld) (b : Bool) : (s.setB f b).twn = s.twn := (rfl)
@[simp] theorem Dev.lan_setB (s : Dev) (f : Fld) (b : Bool) : (s.setB f b).lan = s.lan := (rfl)
@[simp] theorem Dev.mem_setB (s : Dev) (f : Fld) (b : Bool) : (s.setB f b).mem = s.mem := (rfl)
@[simp] theorem Dev.dma_setB (s : Dev) (f : Fld) (b : Bool) : (s.setB f b).dma = s.dma := (rfl)
@[simp] theorem Dev.bel_setB (s : Dev) (f : Fld) (b : Bool) : (s.setB f b).bel = s.bel := (rfl)

/-! Fields that count leaves. -/
@[simp] theorem Dev.ticks_count (s : Dev) (f : Fld) (n : Nat) : (s.count f n).ticks = s.ticks := (rfl)
@[simp] theorem Dev.free_count (s : Dev) (f : Fld) (n : Nat) : (s.count f n).free = s.free := (rfl)
@[simp] theorem Dev.lastRead_count (s : Dev) (f : Fld) (n : Nat) : (s.count f n).lastRead = s.lastRead := (rfl)
@[simp] theorem Dev.shadows_count (s : Dev) (f : Fld) (n : Nat) : (s.count f n).shadows = s.shadows := (rfl)
@[simp] theorem Dev.heldHigh_count (s : Dev) (f : Fld) (n : Nat) : (s.count f n).heldHigh = s.heldHigh := (rfl)
@[simp] theorem Dev.out_count (s : Dev) (f : Fld) (n : Nat) : (s.count f n).out = s.out := (rfl)
@[simp] theorem Dev.sup_count (s : Dev) (f : Fld) (n : Nat) : (s.count f n).sup = s.sup := (rfl)
@[simp] theorem Dev.img_count (s : Dev) (f : Fld) (n : Nat) : (s.count f n).img = s.img := (rfl)
@[simp] theorem Dev.hif_count (s : Dev) (f : Fld) (n : Nat) : (s.count f n).hif = s.hif := (rfl)
@[simp] theorem Dev.pwr_count (s : Dev) (f : Fld) (n : Nat) : (s.count f n).pwr = s.pwr := (rfl)
@[simp] theorem Dev.lfe_count (s : Dev) (f : Fld) (n : Nat) : (s.count f n).lfe = s.lfe := (rfl)
@[simp] theorem Dev.lfr_count (s : Dev) (f : Fld) (n : Nat) : (s.count f n).lfr = s.lfr := (rfl)
@[simp] theorem Dev.act_count (s : Dev) (f : Fld) (n : Nat) : (s.count f n).act = s.act := (rfl)
@[simp] theorem Dev.cph_count (s : Dev) (f : Fld) (n : Nat) : (s.count f n).cph = s.cph := (rfl)
@[simp] theorem Dev.sch_count (s : Dev) (f : Fld) (n : Nat) : (s.count f n).sch = s.sch := (rfl)
@[simp] theorem Dev.thk_count (s : Dev) (f : Fld) (n : Nat) : (s.count f n).thk = s.thk := (rfl)
@[simp] theorem Dev.tsk_count (s : Dev) (f : Fld) (n : Nat) : (s.count f n).tsk = s.tsk := (rfl)
@[simp] theorem Dev.engs_count (s : Dev) (f : Fld) (n : Nat) : (s.count f n).engs = s.engs := (rfl)
@[simp] theorem Dev.clusters_count (s : Dev) (f : Fld) (n : Nat) : (s.count f n).clusters = s.clusters := (rfl)
@[simp] theorem Dev.rate_count (s : Dev) (f : Fld) (n : Nat) : (s.count f n).rate = s.rate := (rfl)
@[simp] theorem Dev.decls_count (s : Dev) (f : Fld) (n : Nat) : (s.count f n).decls = s.decls := (rfl)
@[simp] theorem Dev.tmb_count (s : Dev) (f : Fld) (n : Nat) : (s.count f n).tmb = s.tmb := (rfl)
@[simp] theorem Dev.trb_count (s : Dev) (f : Fld) (n : Nat) : (s.count f n).trb = s.trb := (rfl)
@[simp] theorem Dev.prs_count (s : Dev) (f : Fld) (n : Nat) : (s.count f n).prs = s.prs := (rfl)
@[simp] theorem Dev.rop_count (s : Dev) (f : Fld) (n : Nat) : (s.count f n).rop = s.rop := (rfl)
@[simp] theorem Dev.mac_count (s : Dev) (f : Fld) (n : Nat) : (s.count f n).mac = s.mac := (rfl)
@[simp] theorem Dev.twn_count (s : Dev) (f : Fld) (n : Nat) : (s.count f n).twn = s.twn := (rfl)
@[simp] theorem Dev.lan_count (s : Dev) (f : Fld) (n : Nat) : (s.count f n).lan = s.lan := (rfl)
@[simp] theorem Dev.mem_count (s : Dev) (f : Fld) (n : Nat) : (s.count f n).mem = s.mem := (rfl)
@[simp] theorem Dev.dma_count (s : Dev) (f : Fld) (n : Nat) : (s.count f n).dma = s.dma := (rfl)
@[simp] theorem Dev.bel_count (s : Dev) (f : Fld) (n : Nat) : (s.count f n).bel = s.bel := (rfl)

/-! Fields that countR leaves. -/
@[simp] theorem Dev.ticks_countR (s : Dev) (a n : Nat) : (s.countR a n).ticks = s.ticks := (rfl)
@[simp] theorem Dev.free_countR (s : Dev) (a n : Nat) : (s.countR a n).free = s.free := (rfl)
@[simp] theorem Dev.lastRead_countR (s : Dev) (a n : Nat) : (s.countR a n).lastRead = s.lastRead := (rfl)
@[simp] theorem Dev.shadows_countR (s : Dev) (a n : Nat) : (s.countR a n).shadows = s.shadows := (rfl)
@[simp] theorem Dev.heldHigh_countR (s : Dev) (a n : Nat) : (s.countR a n).heldHigh = s.heldHigh := (rfl)
@[simp] theorem Dev.out_countR (s : Dev) (a n : Nat) : (s.countR a n).out = s.out := (rfl)
@[simp] theorem Dev.sup_countR (s : Dev) (a n : Nat) : (s.countR a n).sup = s.sup := (rfl)
@[simp] theorem Dev.img_countR (s : Dev) (a n : Nat) : (s.countR a n).img = s.img := (rfl)
@[simp] theorem Dev.hif_countR (s : Dev) (a n : Nat) : (s.countR a n).hif = s.hif := (rfl)
@[simp] theorem Dev.pwr_countR (s : Dev) (a n : Nat) : (s.countR a n).pwr = s.pwr := (rfl)
@[simp] theorem Dev.lfe_countR (s : Dev) (a n : Nat) : (s.countR a n).lfe = s.lfe := (rfl)
@[simp] theorem Dev.lfr_countR (s : Dev) (a n : Nat) : (s.countR a n).lfr = s.lfr := (rfl)
@[simp] theorem Dev.act_countR (s : Dev) (a n : Nat) : (s.countR a n).act = s.act := (rfl)
@[simp] theorem Dev.cph_countR (s : Dev) (a n : Nat) : (s.countR a n).cph = s.cph := (rfl)
@[simp] theorem Dev.sch_countR (s : Dev) (a n : Nat) : (s.countR a n).sch = s.sch := (rfl)
@[simp] theorem Dev.thk_countR (s : Dev) (a n : Nat) : (s.countR a n).thk = s.thk := (rfl)
@[simp] theorem Dev.tsk_countR (s : Dev) (a n : Nat) : (s.countR a n).tsk = s.tsk := (rfl)
@[simp] theorem Dev.engs_countR (s : Dev) (a n : Nat) : (s.countR a n).engs = s.engs := (rfl)
@[simp] theorem Dev.clusters_countR (s : Dev) (a n : Nat) : (s.countR a n).clusters = s.clusters := (rfl)
@[simp] theorem Dev.rate_countR (s : Dev) (a n : Nat) : (s.countR a n).rate = s.rate := (rfl)
@[simp] theorem Dev.decls_countR (s : Dev) (a n : Nat) : (s.countR a n).decls = s.decls := (rfl)
@[simp] theorem Dev.tmb_countR (s : Dev) (a n : Nat) : (s.countR a n).tmb = s.tmb := (rfl)
@[simp] theorem Dev.trb_countR (s : Dev) (a n : Nat) : (s.countR a n).trb = s.trb := (rfl)
@[simp] theorem Dev.prs_countR (s : Dev) (a n : Nat) : (s.countR a n).prs = s.prs := (rfl)
@[simp] theorem Dev.rop_countR (s : Dev) (a n : Nat) : (s.countR a n).rop = s.rop := (rfl)
@[simp] theorem Dev.mac_countR (s : Dev) (a n : Nat) : (s.countR a n).mac = s.mac := (rfl)
@[simp] theorem Dev.twn_countR (s : Dev) (a n : Nat) : (s.countR a n).twn = s.twn := (rfl)
@[simp] theorem Dev.lan_countR (s : Dev) (a n : Nat) : (s.countR a n).lan = s.lan := (rfl)
@[simp] theorem Dev.mem_countR (s : Dev) (a n : Nat) : (s.countR a n).mem = s.mem := (rfl)
@[simp] theorem Dev.dma_countR (s : Dev) (a n : Nat) : (s.countR a n).dma = s.dma := (rfl)
@[simp] theorem Dev.bel_countR (s : Dev) (a n : Nat) : (s.countR a n).bel = s.bel := (rfl)

/-! Fields that wr64 leaves. -/
@[simp] theorem Dev.ticks_wr64 (s : Dev) (a n : Nat) : (s.wr64 a n).ticks = s.ticks := (rfl)
@[simp] theorem Dev.free_wr64 (s : Dev) (a n : Nat) : (s.wr64 a n).free = s.free := (rfl)
@[simp] theorem Dev.lastRead_wr64 (s : Dev) (a n : Nat) : (s.wr64 a n).lastRead = s.lastRead := (rfl)
@[simp] theorem Dev.shadows_wr64 (s : Dev) (a n : Nat) : (s.wr64 a n).shadows = s.shadows := (rfl)
@[simp] theorem Dev.heldHigh_wr64 (s : Dev) (a n : Nat) : (s.wr64 a n).heldHigh = s.heldHigh := (rfl)
@[simp] theorem Dev.out_wr64 (s : Dev) (a n : Nat) : (s.wr64 a n).out = s.out := (rfl)
@[simp] theorem Dev.sup_wr64 (s : Dev) (a n : Nat) : (s.wr64 a n).sup = s.sup := (rfl)
@[simp] theorem Dev.img_wr64 (s : Dev) (a n : Nat) : (s.wr64 a n).img = s.img := (rfl)
@[simp] theorem Dev.hif_wr64 (s : Dev) (a n : Nat) : (s.wr64 a n).hif = s.hif := (rfl)
@[simp] theorem Dev.pwr_wr64 (s : Dev) (a n : Nat) : (s.wr64 a n).pwr = s.pwr := (rfl)
@[simp] theorem Dev.lfe_wr64 (s : Dev) (a n : Nat) : (s.wr64 a n).lfe = s.lfe := (rfl)
@[simp] theorem Dev.lfr_wr64 (s : Dev) (a n : Nat) : (s.wr64 a n).lfr = s.lfr := (rfl)
@[simp] theorem Dev.act_wr64 (s : Dev) (a n : Nat) : (s.wr64 a n).act = s.act := (rfl)
@[simp] theorem Dev.cph_wr64 (s : Dev) (a n : Nat) : (s.wr64 a n).cph = s.cph := (rfl)
@[simp] theorem Dev.sch_wr64 (s : Dev) (a n : Nat) : (s.wr64 a n).sch = s.sch := (rfl)
@[simp] theorem Dev.thk_wr64 (s : Dev) (a n : Nat) : (s.wr64 a n).thk = s.thk := (rfl)
@[simp] theorem Dev.tsk_wr64 (s : Dev) (a n : Nat) : (s.wr64 a n).tsk = s.tsk := (rfl)
@[simp] theorem Dev.engs_wr64 (s : Dev) (a n : Nat) : (s.wr64 a n).engs = s.engs := (rfl)
@[simp] theorem Dev.clusters_wr64 (s : Dev) (a n : Nat) : (s.wr64 a n).clusters = s.clusters := (rfl)
@[simp] theorem Dev.rate_wr64 (s : Dev) (a n : Nat) : (s.wr64 a n).rate = s.rate := (rfl)
@[simp] theorem Dev.decls_wr64 (s : Dev) (a n : Nat) : (s.wr64 a n).decls = s.decls := (rfl)
@[simp] theorem Dev.tmb_wr64 (s : Dev) (a n : Nat) : (s.wr64 a n).tmb = s.tmb := (rfl)
@[simp] theorem Dev.trb_wr64 (s : Dev) (a n : Nat) : (s.wr64 a n).trb = s.trb := (rfl)
@[simp] theorem Dev.prs_wr64 (s : Dev) (a n : Nat) : (s.wr64 a n).prs = s.prs := (rfl)
@[simp] theorem Dev.rop_wr64 (s : Dev) (a n : Nat) : (s.wr64 a n).rop = s.rop := (rfl)
@[simp] theorem Dev.mac_wr64 (s : Dev) (a n : Nat) : (s.wr64 a n).mac = s.mac := (rfl)
@[simp] theorem Dev.twn_wr64 (s : Dev) (a n : Nat) : (s.wr64 a n).twn = s.twn := (rfl)
@[simp] theorem Dev.lan_wr64 (s : Dev) (a n : Nat) : (s.wr64 a n).lan = s.lan := (rfl)
@[simp] theorem Dev.mem_wr64 (s : Dev) (a n : Nat) : (s.wr64 a n).mem = s.mem := (rfl)
@[simp] theorem Dev.dma_wr64 (s : Dev) (a n : Nat) : (s.wr64 a n).dma = s.dma := (rfl)
@[simp] theorem Dev.bel_wr64 (s : Dev) (a n : Nat) : (s.wr64 a n).bel = s.bel := (rfl)

/-! Fields that emit leaves. -/
@[simp] theorem Dev.regs_emit (s : Dev) (o : Out) : (s.emit o).regs = s.regs := (rfl)
@[simp] theorem Dev.ticks_emit (s : Dev) (o : Out) : (s.emit o).ticks = s.ticks := (rfl)
@[simp] theorem Dev.free_emit (s : Dev) (o : Out) : (s.emit o).free = s.free := (rfl)
@[simp] theorem Dev.lastRead_emit (s : Dev) (o : Out) : (s.emit o).lastRead = s.lastRead := (rfl)
@[simp] theorem Dev.shadows_emit (s : Dev) (o : Out) : (s.emit o).shadows = s.shadows := (rfl)
@[simp] theorem Dev.heldHigh_emit (s : Dev) (o : Out) : (s.emit o).heldHigh = s.heldHigh := (rfl)
@[simp] theorem Dev.sup_emit (s : Dev) (o : Out) : (s.emit o).sup = s.sup := (rfl)
@[simp] theorem Dev.img_emit (s : Dev) (o : Out) : (s.emit o).img = s.img := (rfl)
@[simp] theorem Dev.hif_emit (s : Dev) (o : Out) : (s.emit o).hif = s.hif := (rfl)
@[simp] theorem Dev.pwr_emit (s : Dev) (o : Out) : (s.emit o).pwr = s.pwr := (rfl)
@[simp] theorem Dev.lfe_emit (s : Dev) (o : Out) : (s.emit o).lfe = s.lfe := (rfl)
@[simp] theorem Dev.lfr_emit (s : Dev) (o : Out) : (s.emit o).lfr = s.lfr := (rfl)
@[simp] theorem Dev.act_emit (s : Dev) (o : Out) : (s.emit o).act = s.act := (rfl)
@[simp] theorem Dev.cph_emit (s : Dev) (o : Out) : (s.emit o).cph = s.cph := (rfl)
@[simp] theorem Dev.sch_emit (s : Dev) (o : Out) : (s.emit o).sch = s.sch := (rfl)
@[simp] theorem Dev.thk_emit (s : Dev) (o : Out) : (s.emit o).thk = s.thk := (rfl)
@[simp] theorem Dev.tsk_emit (s : Dev) (o : Out) : (s.emit o).tsk = s.tsk := (rfl)
@[simp] theorem Dev.engs_emit (s : Dev) (o : Out) : (s.emit o).engs = s.engs := (rfl)
@[simp] theorem Dev.clusters_emit (s : Dev) (o : Out) : (s.emit o).clusters = s.clusters := (rfl)
@[simp] theorem Dev.rate_emit (s : Dev) (o : Out) : (s.emit o).rate = s.rate := (rfl)
@[simp] theorem Dev.decls_emit (s : Dev) (o : Out) : (s.emit o).decls = s.decls := (rfl)
@[simp] theorem Dev.tmb_emit (s : Dev) (o : Out) : (s.emit o).tmb = s.tmb := (rfl)
@[simp] theorem Dev.trb_emit (s : Dev) (o : Out) : (s.emit o).trb = s.trb := (rfl)
@[simp] theorem Dev.prs_emit (s : Dev) (o : Out) : (s.emit o).prs = s.prs := (rfl)
@[simp] theorem Dev.rop_emit (s : Dev) (o : Out) : (s.emit o).rop = s.rop := (rfl)
@[simp] theorem Dev.mac_emit (s : Dev) (o : Out) : (s.emit o).mac = s.mac := (rfl)
@[simp] theorem Dev.twn_emit (s : Dev) (o : Out) : (s.emit o).twn = s.twn := (rfl)
@[simp] theorem Dev.lan_emit (s : Dev) (o : Out) : (s.emit o).lan = s.lan := (rfl)
@[simp] theorem Dev.mem_emit (s : Dev) (o : Out) : (s.emit o).mem = s.mem := (rfl)
@[simp] theorem Dev.dma_emit (s : Dev) (o : Out) : (s.emit o).dma = s.dma := (rfl)
@[simp] theorem Dev.bel_emit (s : Dev) (o : Out) : (s.emit o).bel = s.bel := (rfl)

/-! Fields that elapse leaves. -/
@[simp] theorem Dev.regs_elapse (s : Dev) (n : Nat) : (s.elapse n).regs = s.regs := (rfl)
@[simp] theorem Dev.free_elapse (s : Dev) (n : Nat) : (s.elapse n).free = s.free := (rfl)
@[simp] theorem Dev.lastRead_elapse (s : Dev) (n : Nat) : (s.elapse n).lastRead = s.lastRead := (rfl)
@[simp] theorem Dev.shadows_elapse (s : Dev) (n : Nat) : (s.elapse n).shadows = s.shadows := (rfl)
@[simp] theorem Dev.heldHigh_elapse (s : Dev) (n : Nat) : (s.elapse n).heldHigh = s.heldHigh := (rfl)
@[simp] theorem Dev.out_elapse (s : Dev) (n : Nat) : (s.elapse n).out = s.out := (rfl)
@[simp] theorem Dev.sup_elapse (s : Dev) (n : Nat) : (s.elapse n).sup = s.sup := (rfl)
@[simp] theorem Dev.img_elapse (s : Dev) (n : Nat) : (s.elapse n).img = s.img := (rfl)
@[simp] theorem Dev.hif_elapse (s : Dev) (n : Nat) : (s.elapse n).hif = s.hif := (rfl)
@[simp] theorem Dev.pwr_elapse (s : Dev) (n : Nat) : (s.elapse n).pwr = s.pwr := (rfl)
@[simp] theorem Dev.lfe_elapse (s : Dev) (n : Nat) : (s.elapse n).lfe = s.lfe := (rfl)
@[simp] theorem Dev.lfr_elapse (s : Dev) (n : Nat) : (s.elapse n).lfr = s.lfr := (rfl)
@[simp] theorem Dev.act_elapse (s : Dev) (n : Nat) : (s.elapse n).act = s.act := (rfl)
@[simp] theorem Dev.cph_elapse (s : Dev) (n : Nat) : (s.elapse n).cph = s.cph := (rfl)
@[simp] theorem Dev.sch_elapse (s : Dev) (n : Nat) : (s.elapse n).sch = s.sch := (rfl)
@[simp] theorem Dev.thk_elapse (s : Dev) (n : Nat) : (s.elapse n).thk = s.thk := (rfl)
@[simp] theorem Dev.tsk_elapse (s : Dev) (n : Nat) : (s.elapse n).tsk = s.tsk := (rfl)
@[simp] theorem Dev.engs_elapse (s : Dev) (n : Nat) : (s.elapse n).engs = s.engs := (rfl)
@[simp] theorem Dev.clusters_elapse (s : Dev) (n : Nat) : (s.elapse n).clusters = s.clusters := (rfl)
@[simp] theorem Dev.rate_elapse (s : Dev) (n : Nat) : (s.elapse n).rate = s.rate := (rfl)
@[simp] theorem Dev.decls_elapse (s : Dev) (n : Nat) : (s.elapse n).decls = s.decls := (rfl)
@[simp] theorem Dev.trb_elapse (s : Dev) (n : Nat) : (s.elapse n).trb = s.trb := (rfl)
@[simp] theorem Dev.prs_elapse (s : Dev) (n : Nat) : (s.elapse n).prs = s.prs := (rfl)
@[simp] theorem Dev.rop_elapse (s : Dev) (n : Nat) : (s.elapse n).rop = s.rop := (rfl)
@[simp] theorem Dev.mac_elapse (s : Dev) (n : Nat) : (s.elapse n).mac = s.mac := (rfl)
@[simp] theorem Dev.twn_elapse (s : Dev) (n : Nat) : (s.elapse n).twn = s.twn := (rfl)
@[simp] theorem Dev.lan_elapse (s : Dev) (n : Nat) : (s.elapse n).lan = s.lan := (rfl)
@[simp] theorem Dev.mem_elapse (s : Dev) (n : Nat) : (s.elapse n).mem = s.mem := (rfl)
@[simp] theorem Dev.dma_elapse (s : Dev) (n : Nat) : (s.elapse n).dma = s.dma := (rfl)
@[simp] theorem Dev.bel_elapse (s : Dev) (n : Nat) : (s.elapse n).bel = s.bel := (rfl)

/-! Fields that until_ leaves. -/
@[simp] theorem Dev.regs_until (s : Dev) (n : Nat) : (s.until_ n).regs = s.regs := (rfl)
@[simp] theorem Dev.free_until (s : Dev) (n : Nat) : (s.until_ n).free = s.free := (rfl)
@[simp] theorem Dev.lastRead_until (s : Dev) (n : Nat) : (s.until_ n).lastRead = s.lastRead := (rfl)
@[simp] theorem Dev.shadows_until (s : Dev) (n : Nat) : (s.until_ n).shadows = s.shadows := (rfl)
@[simp] theorem Dev.heldHigh_until (s : Dev) (n : Nat) : (s.until_ n).heldHigh = s.heldHigh := (rfl)
@[simp] theorem Dev.out_until (s : Dev) (n : Nat) : (s.until_ n).out = s.out := (rfl)
@[simp] theorem Dev.sup_until (s : Dev) (n : Nat) : (s.until_ n).sup = s.sup := (rfl)
@[simp] theorem Dev.img_until (s : Dev) (n : Nat) : (s.until_ n).img = s.img := (rfl)
@[simp] theorem Dev.hif_until (s : Dev) (n : Nat) : (s.until_ n).hif = s.hif := (rfl)
@[simp] theorem Dev.pwr_until (s : Dev) (n : Nat) : (s.until_ n).pwr = s.pwr := (rfl)
@[simp] theorem Dev.lfe_until (s : Dev) (n : Nat) : (s.until_ n).lfe = s.lfe := (rfl)
@[simp] theorem Dev.lfr_until (s : Dev) (n : Nat) : (s.until_ n).lfr = s.lfr := (rfl)
@[simp] theorem Dev.act_until (s : Dev) (n : Nat) : (s.until_ n).act = s.act := (rfl)
@[simp] theorem Dev.cph_until (s : Dev) (n : Nat) : (s.until_ n).cph = s.cph := (rfl)
@[simp] theorem Dev.sch_until (s : Dev) (n : Nat) : (s.until_ n).sch = s.sch := (rfl)
@[simp] theorem Dev.thk_until (s : Dev) (n : Nat) : (s.until_ n).thk = s.thk := (rfl)
@[simp] theorem Dev.tsk_until (s : Dev) (n : Nat) : (s.until_ n).tsk = s.tsk := (rfl)
@[simp] theorem Dev.engs_until (s : Dev) (n : Nat) : (s.until_ n).engs = s.engs := (rfl)
@[simp] theorem Dev.clusters_until (s : Dev) (n : Nat) : (s.until_ n).clusters = s.clusters := (rfl)
@[simp] theorem Dev.rate_until (s : Dev) (n : Nat) : (s.until_ n).rate = s.rate := (rfl)
@[simp] theorem Dev.decls_until (s : Dev) (n : Nat) : (s.until_ n).decls = s.decls := (rfl)
@[simp] theorem Dev.trb_until (s : Dev) (n : Nat) : (s.until_ n).trb = s.trb := (rfl)
@[simp] theorem Dev.prs_until (s : Dev) (n : Nat) : (s.until_ n).prs = s.prs := (rfl)
@[simp] theorem Dev.rop_until (s : Dev) (n : Nat) : (s.until_ n).rop = s.rop := (rfl)
@[simp] theorem Dev.mac_until (s : Dev) (n : Nat) : (s.until_ n).mac = s.mac := (rfl)
@[simp] theorem Dev.twn_until (s : Dev) (n : Nat) : (s.until_ n).twn = s.twn := (rfl)
@[simp] theorem Dev.lan_until (s : Dev) (n : Nat) : (s.until_ n).lan = s.lan := (rfl)
@[simp] theorem Dev.mem_until (s : Dev) (n : Nat) : (s.until_ n).mem = s.mem := (rfl)
@[simp] theorem Dev.dma_until (s : Dev) (n : Nat) : (s.until_ n).dma = s.dma := (rfl)
@[simp] theorem Dev.bel_until (s : Dev) (n : Nat) : (s.until_ n).bel = s.bel := (rfl)

/-! Fields that answerRead leaves. -/
@[simp] theorem Dev.regs_answerRead (s : Dev) (a : Nat) (v : Word) : (s.answerRead a v).regs = s.regs := (rfl)
@[simp] theorem Dev.ticks_answerRead (s : Dev) (a : Nat) (v : Word) : (s.answerRead a v).ticks = s.ticks := (rfl)
@[simp] theorem Dev.free_answerRead (s : Dev) (a : Nat) (v : Word) : (s.answerRead a v).free = s.free := (rfl)
@[simp] theorem Dev.shadows_answerRead (s : Dev) (a : Nat) (v : Word) : (s.answerRead a v).shadows = s.shadows := (rfl)
@[simp] theorem Dev.heldHigh_answerRead (s : Dev) (a : Nat) (v : Word) : (s.answerRead a v).heldHigh = s.heldHigh := (rfl)
@[simp] theorem Dev.sup_answerRead (s : Dev) (a : Nat) (v : Word) : (s.answerRead a v).sup = s.sup := (rfl)
@[simp] theorem Dev.img_answerRead (s : Dev) (a : Nat) (v : Word) : (s.answerRead a v).img = s.img := (rfl)
@[simp] theorem Dev.hif_answerRead (s : Dev) (a : Nat) (v : Word) : (s.answerRead a v).hif = s.hif := (rfl)
@[simp] theorem Dev.pwr_answerRead (s : Dev) (a : Nat) (v : Word) : (s.answerRead a v).pwr = s.pwr := (rfl)
@[simp] theorem Dev.lfe_answerRead (s : Dev) (a : Nat) (v : Word) : (s.answerRead a v).lfe = s.lfe := (rfl)
@[simp] theorem Dev.lfr_answerRead (s : Dev) (a : Nat) (v : Word) : (s.answerRead a v).lfr = s.lfr := (rfl)
@[simp] theorem Dev.act_answerRead (s : Dev) (a : Nat) (v : Word) : (s.answerRead a v).act = s.act := (rfl)
@[simp] theorem Dev.cph_answerRead (s : Dev) (a : Nat) (v : Word) : (s.answerRead a v).cph = s.cph := (rfl)
@[simp] theorem Dev.sch_answerRead (s : Dev) (a : Nat) (v : Word) : (s.answerRead a v).sch = s.sch := (rfl)
@[simp] theorem Dev.thk_answerRead (s : Dev) (a : Nat) (v : Word) : (s.answerRead a v).thk = s.thk := (rfl)
@[simp] theorem Dev.tsk_answerRead (s : Dev) (a : Nat) (v : Word) : (s.answerRead a v).tsk = s.tsk := (rfl)
@[simp] theorem Dev.engs_answerRead (s : Dev) (a : Nat) (v : Word) : (s.answerRead a v).engs = s.engs := (rfl)
@[simp] theorem Dev.clusters_answerRead (s : Dev) (a : Nat) (v : Word) : (s.answerRead a v).clusters = s.clusters := (rfl)
@[simp] theorem Dev.rate_answerRead (s : Dev) (a : Nat) (v : Word) : (s.answerRead a v).rate = s.rate := (rfl)
@[simp] theorem Dev.decls_answerRead (s : Dev) (a : Nat) (v : Word) : (s.answerRead a v).decls = s.decls := (rfl)
@[simp] theorem Dev.tmb_answerRead (s : Dev) (a : Nat) (v : Word) : (s.answerRead a v).tmb = s.tmb := (rfl)
@[simp] theorem Dev.trb_answerRead (s : Dev) (a : Nat) (v : Word) : (s.answerRead a v).trb = s.trb := (rfl)
@[simp] theorem Dev.prs_answerRead (s : Dev) (a : Nat) (v : Word) : (s.answerRead a v).prs = s.prs := (rfl)
@[simp] theorem Dev.rop_answerRead (s : Dev) (a : Nat) (v : Word) : (s.answerRead a v).rop = s.rop := (rfl)
@[simp] theorem Dev.mac_answerRead (s : Dev) (a : Nat) (v : Word) : (s.answerRead a v).mac = s.mac := (rfl)
@[simp] theorem Dev.twn_answerRead (s : Dev) (a : Nat) (v : Word) : (s.answerRead a v).twn = s.twn := (rfl)
@[simp] theorem Dev.lan_answerRead (s : Dev) (a : Nat) (v : Word) : (s.answerRead a v).lan = s.lan := (rfl)
@[simp] theorem Dev.mem_answerRead (s : Dev) (a : Nat) (v : Word) : (s.answerRead a v).mem = s.mem := (rfl)
@[simp] theorem Dev.dma_answerRead (s : Dev) (a : Nat) (v : Word) : (s.answerRead a v).dma = s.dma := (rfl)
@[simp] theorem Dev.bel_answerRead (s : Dev) (a : Nat) (v : Word) : (s.answerRead a v).bel = s.bel := (rfl)

/-! Fields that signal leaves. -/
@[simp] theorem Dev.regs_signal (s : Dev) (v : Nat) : (s.signal v).regs = s.regs := by unfold Dev.signal; (repeat' split) <;> rfl
@[simp] theorem Dev.ticks_signal (s : Dev) (v : Nat) : (s.signal v).ticks = s.ticks := by unfold Dev.signal; (repeat' split) <;> rfl
@[simp] theorem Dev.free_signal (s : Dev) (v : Nat) : (s.signal v).free = s.free := by unfold Dev.signal; (repeat' split) <;> rfl
@[simp] theorem Dev.lastRead_signal (s : Dev) (v : Nat) : (s.signal v).lastRead = s.lastRead := by unfold Dev.signal; (repeat' split) <;> rfl
@[simp] theorem Dev.shadows_signal (s : Dev) (v : Nat) : (s.signal v).shadows = s.shadows := by unfold Dev.signal; (repeat' split) <;> rfl
@[simp] theorem Dev.heldHigh_signal (s : Dev) (v : Nat) : (s.signal v).heldHigh = s.heldHigh := by unfold Dev.signal; (repeat' split) <;> rfl
@[simp] theorem Dev.sup_signal (s : Dev) (v : Nat) : (s.signal v).sup = s.sup := by unfold Dev.signal; (repeat' split) <;> rfl
@[simp] theorem Dev.img_signal (s : Dev) (v : Nat) : (s.signal v).img = s.img := by unfold Dev.signal; (repeat' split) <;> rfl
@[simp] theorem Dev.pwr_signal (s : Dev) (v : Nat) : (s.signal v).pwr = s.pwr := by unfold Dev.signal; (repeat' split) <;> rfl
@[simp] theorem Dev.lfe_signal (s : Dev) (v : Nat) : (s.signal v).lfe = s.lfe := by unfold Dev.signal; (repeat' split) <;> rfl
@[simp] theorem Dev.lfr_signal (s : Dev) (v : Nat) : (s.signal v).lfr = s.lfr := by unfold Dev.signal; (repeat' split) <;> rfl
@[simp] theorem Dev.act_signal (s : Dev) (v : Nat) : (s.signal v).act = s.act := by unfold Dev.signal; (repeat' split) <;> rfl
@[simp] theorem Dev.cph_signal (s : Dev) (v : Nat) : (s.signal v).cph = s.cph := by unfold Dev.signal; (repeat' split) <;> rfl
@[simp] theorem Dev.sch_signal (s : Dev) (v : Nat) : (s.signal v).sch = s.sch := by unfold Dev.signal; (repeat' split) <;> rfl
@[simp] theorem Dev.thk_signal (s : Dev) (v : Nat) : (s.signal v).thk = s.thk := by unfold Dev.signal; (repeat' split) <;> rfl
@[simp] theorem Dev.tsk_signal (s : Dev) (v : Nat) : (s.signal v).tsk = s.tsk := by unfold Dev.signal; (repeat' split) <;> rfl
@[simp] theorem Dev.engs_signal (s : Dev) (v : Nat) : (s.signal v).engs = s.engs := by unfold Dev.signal; (repeat' split) <;> rfl
@[simp] theorem Dev.clusters_signal (s : Dev) (v : Nat) : (s.signal v).clusters = s.clusters := by unfold Dev.signal; (repeat' split) <;> rfl
@[simp] theorem Dev.rate_signal (s : Dev) (v : Nat) : (s.signal v).rate = s.rate := by unfold Dev.signal; (repeat' split) <;> rfl
@[simp] theorem Dev.decls_signal (s : Dev) (v : Nat) : (s.signal v).decls = s.decls := by unfold Dev.signal; (repeat' split) <;> rfl
@[simp] theorem Dev.tmb_signal (s : Dev) (v : Nat) : (s.signal v).tmb = s.tmb := by unfold Dev.signal; (repeat' split) <;> rfl
@[simp] theorem Dev.trb_signal (s : Dev) (v : Nat) : (s.signal v).trb = s.trb := by unfold Dev.signal; (repeat' split) <;> rfl
@[simp] theorem Dev.prs_signal (s : Dev) (v : Nat) : (s.signal v).prs = s.prs := by unfold Dev.signal; (repeat' split) <;> rfl
@[simp] theorem Dev.rop_signal (s : Dev) (v : Nat) : (s.signal v).rop = s.rop := by unfold Dev.signal; (repeat' split) <;> rfl
@[simp] theorem Dev.mac_signal (s : Dev) (v : Nat) : (s.signal v).mac = s.mac := by unfold Dev.signal; (repeat' split) <;> rfl
@[simp] theorem Dev.twn_signal (s : Dev) (v : Nat) : (s.signal v).twn = s.twn := by unfold Dev.signal; (repeat' split) <;> rfl
@[simp] theorem Dev.lan_signal (s : Dev) (v : Nat) : (s.signal v).lan = s.lan := by unfold Dev.signal; (repeat' split) <;> rfl
@[simp] theorem Dev.mem_signal (s : Dev) (v : Nat) : (s.signal v).mem = s.mem := by unfold Dev.signal; (repeat' split) <;> rfl
@[simp] theorem Dev.dma_signal (s : Dev) (v : Nat) : (s.signal v).dma = s.dma := by unfold Dev.signal; (repeat' split) <;> rfl
@[simp] theorem Dev.bel_signal (s : Dev) (v : Nat) : (s.signal v).bel = s.bel := by unfold Dev.signal; (repeat' split) <;> rfl

/-! Fields that raise leaves. -/
@[simp] theorem Dev.ticks_raise (s : Dev) (f : Fld) : (s.raise f).ticks = s.ticks := by unfold Dev.raise; unfold Dev.irq; simp only; split <;> simp
@[simp] theorem Dev.free_raise (s : Dev) (f : Fld) : (s.raise f).free = s.free := by unfold Dev.raise; unfold Dev.irq; simp only; split <;> simp
@[simp] theorem Dev.lastRead_raise (s : Dev) (f : Fld) : (s.raise f).lastRead = s.lastRead := by unfold Dev.raise; unfold Dev.irq; simp only; split <;> simp
@[simp] theorem Dev.shadows_raise (s : Dev) (f : Fld) : (s.raise f).shadows = s.shadows := by unfold Dev.raise; unfold Dev.irq; simp only; split <;> simp
@[simp] theorem Dev.heldHigh_raise (s : Dev) (f : Fld) : (s.raise f).heldHigh = s.heldHigh := by unfold Dev.raise; unfold Dev.irq; simp only; split <;> simp
@[simp] theorem Dev.sup_raise (s : Dev) (f : Fld) : (s.raise f).sup = s.sup := by unfold Dev.raise; unfold Dev.irq; simp only; split <;> simp
@[simp] theorem Dev.img_raise (s : Dev) (f : Fld) : (s.raise f).img = s.img := by unfold Dev.raise; unfold Dev.irq; simp only; split <;> simp
@[simp] theorem Dev.pwr_raise (s : Dev) (f : Fld) : (s.raise f).pwr = s.pwr := by unfold Dev.raise; unfold Dev.irq; simp only; split <;> simp
@[simp] theorem Dev.lfe_raise (s : Dev) (f : Fld) : (s.raise f).lfe = s.lfe := by unfold Dev.raise; unfold Dev.irq; simp only; split <;> simp
@[simp] theorem Dev.lfr_raise (s : Dev) (f : Fld) : (s.raise f).lfr = s.lfr := by unfold Dev.raise; unfold Dev.irq; simp only; split <;> simp
@[simp] theorem Dev.act_raise (s : Dev) (f : Fld) : (s.raise f).act = s.act := by unfold Dev.raise; unfold Dev.irq; simp only; split <;> simp
@[simp] theorem Dev.cph_raise (s : Dev) (f : Fld) : (s.raise f).cph = s.cph := by unfold Dev.raise; unfold Dev.irq; simp only; split <;> simp
@[simp] theorem Dev.sch_raise (s : Dev) (f : Fld) : (s.raise f).sch = s.sch := by unfold Dev.raise; unfold Dev.irq; simp only; split <;> simp
@[simp] theorem Dev.thk_raise (s : Dev) (f : Fld) : (s.raise f).thk = s.thk := by unfold Dev.raise; unfold Dev.irq; simp only; split <;> simp
@[simp] theorem Dev.tsk_raise (s : Dev) (f : Fld) : (s.raise f).tsk = s.tsk := by unfold Dev.raise; unfold Dev.irq; simp only; split <;> simp
@[simp] theorem Dev.engs_raise (s : Dev) (f : Fld) : (s.raise f).engs = s.engs := by unfold Dev.raise; unfold Dev.irq; simp only; split <;> simp
@[simp] theorem Dev.clusters_raise (s : Dev) (f : Fld) : (s.raise f).clusters = s.clusters := by unfold Dev.raise; unfold Dev.irq; simp only; split <;> simp
@[simp] theorem Dev.rate_raise (s : Dev) (f : Fld) : (s.raise f).rate = s.rate := by unfold Dev.raise; unfold Dev.irq; simp only; split <;> simp
@[simp] theorem Dev.decls_raise (s : Dev) (f : Fld) : (s.raise f).decls = s.decls := by unfold Dev.raise; unfold Dev.irq; simp only; split <;> simp
@[simp] theorem Dev.tmb_raise (s : Dev) (f : Fld) : (s.raise f).tmb = s.tmb := by unfold Dev.raise; unfold Dev.irq; simp only; split <;> simp
@[simp] theorem Dev.trb_raise (s : Dev) (f : Fld) : (s.raise f).trb = s.trb := by unfold Dev.raise; unfold Dev.irq; simp only; split <;> simp
@[simp] theorem Dev.prs_raise (s : Dev) (f : Fld) : (s.raise f).prs = s.prs := by unfold Dev.raise; unfold Dev.irq; simp only; split <;> simp
@[simp] theorem Dev.rop_raise (s : Dev) (f : Fld) : (s.raise f).rop = s.rop := by unfold Dev.raise; unfold Dev.irq; simp only; split <;> simp
@[simp] theorem Dev.mac_raise (s : Dev) (f : Fld) : (s.raise f).mac = s.mac := by unfold Dev.raise; unfold Dev.irq; simp only; split <;> simp
@[simp] theorem Dev.twn_raise (s : Dev) (f : Fld) : (s.raise f).twn = s.twn := by unfold Dev.raise; unfold Dev.irq; simp only; split <;> simp
@[simp] theorem Dev.lan_raise (s : Dev) (f : Fld) : (s.raise f).lan = s.lan := by unfold Dev.raise; unfold Dev.irq; simp only; split <;> simp
@[simp] theorem Dev.mem_raise (s : Dev) (f : Fld) : (s.raise f).mem = s.mem := by unfold Dev.raise; unfold Dev.irq; simp only; split <;> simp
@[simp] theorem Dev.dma_raise (s : Dev) (f : Fld) : (s.raise f).dma = s.dma := by unfold Dev.raise; unfold Dev.irq; simp only; split <;> simp
@[simp] theorem Dev.bel_raise (s : Dev) (f : Fld) : (s.raise f).bel = s.bel := by unfold Dev.raise; unfold Dev.irq; simp only; split <;> simp

/-! Fields that raiseAt leaves. -/
@[simp] theorem Dev.ticks_raiseAt (s : Dev) (f : Fld) (i : Nat) : (s.raiseAt f i).ticks = s.ticks := by unfold Dev.raiseAt; simp
@[simp] theorem Dev.free_raiseAt (s : Dev) (f : Fld) (i : Nat) : (s.raiseAt f i).free = s.free := by unfold Dev.raiseAt; simp
@[simp] theorem Dev.lastRead_raiseAt (s : Dev) (f : Fld) (i : Nat) : (s.raiseAt f i).lastRead = s.lastRead := by unfold Dev.raiseAt; simp
@[simp] theorem Dev.shadows_raiseAt (s : Dev) (f : Fld) (i : Nat) : (s.raiseAt f i).shadows = s.shadows := by unfold Dev.raiseAt; simp
@[simp] theorem Dev.heldHigh_raiseAt (s : Dev) (f : Fld) (i : Nat) : (s.raiseAt f i).heldHigh = s.heldHigh := by unfold Dev.raiseAt; simp
@[simp] theorem Dev.sup_raiseAt (s : Dev) (f : Fld) (i : Nat) : (s.raiseAt f i).sup = s.sup := by unfold Dev.raiseAt; simp
@[simp] theorem Dev.img_raiseAt (s : Dev) (f : Fld) (i : Nat) : (s.raiseAt f i).img = s.img := by unfold Dev.raiseAt; simp
@[simp] theorem Dev.pwr_raiseAt (s : Dev) (f : Fld) (i : Nat) : (s.raiseAt f i).pwr = s.pwr := by unfold Dev.raiseAt; simp
@[simp] theorem Dev.lfe_raiseAt (s : Dev) (f : Fld) (i : Nat) : (s.raiseAt f i).lfe = s.lfe := by unfold Dev.raiseAt; simp
@[simp] theorem Dev.lfr_raiseAt (s : Dev) (f : Fld) (i : Nat) : (s.raiseAt f i).lfr = s.lfr := by unfold Dev.raiseAt; simp
@[simp] theorem Dev.act_raiseAt (s : Dev) (f : Fld) (i : Nat) : (s.raiseAt f i).act = s.act := by unfold Dev.raiseAt; simp
@[simp] theorem Dev.cph_raiseAt (s : Dev) (f : Fld) (i : Nat) : (s.raiseAt f i).cph = s.cph := by unfold Dev.raiseAt; simp
@[simp] theorem Dev.sch_raiseAt (s : Dev) (f : Fld) (i : Nat) : (s.raiseAt f i).sch = s.sch := by unfold Dev.raiseAt; simp
@[simp] theorem Dev.thk_raiseAt (s : Dev) (f : Fld) (i : Nat) : (s.raiseAt f i).thk = s.thk := by unfold Dev.raiseAt; simp
@[simp] theorem Dev.tsk_raiseAt (s : Dev) (f : Fld) (i : Nat) : (s.raiseAt f i).tsk = s.tsk := by unfold Dev.raiseAt; simp
@[simp] theorem Dev.engs_raiseAt (s : Dev) (f : Fld) (i : Nat) : (s.raiseAt f i).engs = s.engs := by unfold Dev.raiseAt; simp
@[simp] theorem Dev.clusters_raiseAt (s : Dev) (f : Fld) (i : Nat) : (s.raiseAt f i).clusters = s.clusters := by unfold Dev.raiseAt; simp
@[simp] theorem Dev.rate_raiseAt (s : Dev) (f : Fld) (i : Nat) : (s.raiseAt f i).rate = s.rate := by unfold Dev.raiseAt; simp
@[simp] theorem Dev.decls_raiseAt (s : Dev) (f : Fld) (i : Nat) : (s.raiseAt f i).decls = s.decls := by unfold Dev.raiseAt; simp
@[simp] theorem Dev.tmb_raiseAt (s : Dev) (f : Fld) (i : Nat) : (s.raiseAt f i).tmb = s.tmb := by unfold Dev.raiseAt; simp
@[simp] theorem Dev.trb_raiseAt (s : Dev) (f : Fld) (i : Nat) : (s.raiseAt f i).trb = s.trb := by unfold Dev.raiseAt; simp
@[simp] theorem Dev.prs_raiseAt (s : Dev) (f : Fld) (i : Nat) : (s.raiseAt f i).prs = s.prs := by unfold Dev.raiseAt; simp
@[simp] theorem Dev.rop_raiseAt (s : Dev) (f : Fld) (i : Nat) : (s.raiseAt f i).rop = s.rop := by unfold Dev.raiseAt; simp
@[simp] theorem Dev.mac_raiseAt (s : Dev) (f : Fld) (i : Nat) : (s.raiseAt f i).mac = s.mac := by unfold Dev.raiseAt; simp
@[simp] theorem Dev.twn_raiseAt (s : Dev) (f : Fld) (i : Nat) : (s.raiseAt f i).twn = s.twn := by unfold Dev.raiseAt; simp
@[simp] theorem Dev.lan_raiseAt (s : Dev) (f : Fld) (i : Nat) : (s.raiseAt f i).lan = s.lan := by unfold Dev.raiseAt; simp
@[simp] theorem Dev.mem_raiseAt (s : Dev) (f : Fld) (i : Nat) : (s.raiseAt f i).mem = s.mem := by unfold Dev.raiseAt; simp
@[simp] theorem Dev.dma_raiseAt (s : Dev) (f : Fld) (i : Nat) : (s.raiseAt f i).dma = s.dma := by unfold Dev.raiseAt; simp
@[simp] theorem Dev.bel_raiseAt (s : Dev) (f : Fld) (i : Nat) : (s.raiseAt f i).bel = s.bel := by unfold Dev.raiseAt; simp

/-! Registers do not depend on the other parts. -/
@[simp] theorem Dev.rd_with_ticks (s : Dev) (x : Nat) (a : Nat) : ({ s with ticks := x } : Dev).rd a = s.rd a := (rfl)
@[simp] theorem Dev.get_with_ticks (s : Dev) (x : Nat) (f : Fld) : ({ s with ticks := x } : Dev).get f = s.get f := (rfl)
@[simp] theorem Dev.is_with_ticks (s : Dev) (x : Nat) (f : Fld) : ({ s with ticks := x } : Dev).is f = s.is f := (rfl)
@[simp] theorem Dev.rd_with_free (s : Dev) (x : Nat) (a : Nat) : ({ s with free := x } : Dev).rd a = s.rd a := (rfl)
@[simp] theorem Dev.get_with_free (s : Dev) (x : Nat) (f : Fld) : ({ s with free := x } : Dev).get f = s.get f := (rfl)
@[simp] theorem Dev.is_with_free (s : Dev) (x : Nat) (f : Fld) : ({ s with free := x } : Dev).is f = s.is f := (rfl)
@[simp] theorem Dev.rd_with_lastRead (s : Dev) (x : Word) (a : Nat) : ({ s with lastRead := x } : Dev).rd a = s.rd a := (rfl)
@[simp] theorem Dev.get_with_lastRead (s : Dev) (x : Word) (f : Fld) : ({ s with lastRead := x } : Dev).get f = s.get f := (rfl)
@[simp] theorem Dev.is_with_lastRead (s : Dev) (x : Word) (f : Fld) : ({ s with lastRead := x } : Dev).is f = s.is f := (rfl)
@[simp] theorem Dev.rd_with_shadows (s : Dev) (x : List (Nat × Word)) (a : Nat) : ({ s with shadows := x } : Dev).rd a = s.rd a := (rfl)
@[simp] theorem Dev.get_with_shadows (s : Dev) (x : List (Nat × Word)) (f : Fld) : ({ s with shadows := x } : Dev).get f = s.get f := (rfl)
@[simp] theorem Dev.is_with_shadows (s : Dev) (x : List (Nat × Word)) (f : Fld) : ({ s with shadows := x } : Dev).is f = s.is f := (rfl)
@[simp] theorem Dev.rd_with_heldHigh (s : Dev) (x : List (Nat × Word)) (a : Nat) : ({ s with heldHigh := x } : Dev).rd a = s.rd a := (rfl)
@[simp] theorem Dev.get_with_heldHigh (s : Dev) (x : List (Nat × Word)) (f : Fld) : ({ s with heldHigh := x } : Dev).get f = s.get f := (rfl)
@[simp] theorem Dev.is_with_heldHigh (s : Dev) (x : List (Nat × Word)) (f : Fld) : ({ s with heldHigh := x } : Dev).is f = s.is f := (rfl)
@[simp] theorem Dev.rd_with_out (s : Dev) (x : List Out) (a : Nat) : ({ s with out := x } : Dev).rd a = s.rd a := (rfl)
@[simp] theorem Dev.get_with_out (s : Dev) (x : List Out) (f : Fld) : ({ s with out := x } : Dev).get f = s.get f := (rfl)
@[simp] theorem Dev.is_with_out (s : Dev) (x : List Out) (f : Fld) : ({ s with out := x } : Dev).is f = s.is f := (rfl)
@[simp] theorem Dev.rd_with_sup (s : Dev) (x : Sup) (a : Nat) : ({ s with sup := x } : Dev).rd a = s.rd a := (rfl)
@[simp] theorem Dev.get_with_sup (s : Dev) (x : Sup) (f : Fld) : ({ s with sup := x } : Dev).get f = s.get f := (rfl)
@[simp] theorem Dev.is_with_sup (s : Dev) (x : Sup) (f : Fld) : ({ s with sup := x } : Dev).is f = s.is f := (rfl)
@[simp] theorem Dev.rd_with_img (s : Dev) (x : Img) (a : Nat) : ({ s with img := x } : Dev).rd a = s.rd a := (rfl)
@[simp] theorem Dev.get_with_img (s : Dev) (x : Img) (f : Fld) : ({ s with img := x } : Dev).get f = s.get f := (rfl)
@[simp] theorem Dev.is_with_img (s : Dev) (x : Img) (f : Fld) : ({ s with img := x } : Dev).is f = s.is f := (rfl)
@[simp] theorem Dev.rd_with_hif (s : Dev) (x : Hif) (a : Nat) : ({ s with hif := x } : Dev).rd a = s.rd a := (rfl)
@[simp] theorem Dev.get_with_hif (s : Dev) (x : Hif) (f : Fld) : ({ s with hif := x } : Dev).get f = s.get f := (rfl)
@[simp] theorem Dev.is_with_hif (s : Dev) (x : Hif) (f : Fld) : ({ s with hif := x } : Dev).is f = s.is f := (rfl)
@[simp] theorem Dev.rd_with_pwr (s : Dev) (x : Pwr) (a : Nat) : ({ s with pwr := x } : Dev).rd a = s.rd a := (rfl)
@[simp] theorem Dev.get_with_pwr (s : Dev) (x : Pwr) (f : Fld) : ({ s with pwr := x } : Dev).get f = s.get f := (rfl)
@[simp] theorem Dev.is_with_pwr (s : Dev) (x : Pwr) (f : Fld) : ({ s with pwr := x } : Dev).is f = s.is f := (rfl)
@[simp] theorem Dev.rd_with_lfe (s : Dev) (x : Lfe) (a : Nat) : ({ s with lfe := x } : Dev).rd a = s.rd a := (rfl)
@[simp] theorem Dev.get_with_lfe (s : Dev) (x : Lfe) (f : Fld) : ({ s with lfe := x } : Dev).get f = s.get f := (rfl)
@[simp] theorem Dev.is_with_lfe (s : Dev) (x : Lfe) (f : Fld) : ({ s with lfe := x } : Dev).is f = s.is f := (rfl)
@[simp] theorem Dev.rd_with_lfr (s : Dev) (x : Lfr) (a : Nat) : ({ s with lfr := x } : Dev).rd a = s.rd a := (rfl)
@[simp] theorem Dev.get_with_lfr (s : Dev) (x : Lfr) (f : Fld) : ({ s with lfr := x } : Dev).get f = s.get f := (rfl)
@[simp] theorem Dev.is_with_lfr (s : Dev) (x : Lfr) (f : Fld) : ({ s with lfr := x } : Dev).is f = s.is f := (rfl)
@[simp] theorem Dev.rd_with_act (s : Dev) (x : Act) (a : Nat) : ({ s with act := x } : Dev).rd a = s.rd a := (rfl)
@[simp] theorem Dev.get_with_act (s : Dev) (x : Act) (f : Fld) : ({ s with act := x } : Dev).get f = s.get f := (rfl)
@[simp] theorem Dev.is_with_act (s : Dev) (x : Act) (f : Fld) : ({ s with act := x } : Dev).is f = s.is f := (rfl)
@[simp] theorem Dev.rd_with_cph (s : Dev) (x : Cph) (a : Nat) : ({ s with cph := x } : Dev).rd a = s.rd a := (rfl)
@[simp] theorem Dev.get_with_cph (s : Dev) (x : Cph) (f : Fld) : ({ s with cph := x } : Dev).get f = s.get f := (rfl)
@[simp] theorem Dev.is_with_cph (s : Dev) (x : Cph) (f : Fld) : ({ s with cph := x } : Dev).is f = s.is f := (rfl)
@[simp] theorem Dev.rd_with_sch (s : Dev) (x : Sch) (a : Nat) : ({ s with sch := x } : Dev).rd a = s.rd a := (rfl)
@[simp] theorem Dev.get_with_sch (s : Dev) (x : Sch) (f : Fld) : ({ s with sch := x } : Dev).get f = s.get f := (rfl)
@[simp] theorem Dev.is_with_sch (s : Dev) (x : Sch) (f : Fld) : ({ s with sch := x } : Dev).is f = s.is f := (rfl)
@[simp] theorem Dev.rd_with_thk (s : Dev) (x : Thk) (a : Nat) : ({ s with thk := x } : Dev).rd a = s.rd a := (rfl)
@[simp] theorem Dev.get_with_thk (s : Dev) (x : Thk) (f : Fld) : ({ s with thk := x } : Dev).get f = s.get f := (rfl)
@[simp] theorem Dev.is_with_thk (s : Dev) (x : Thk) (f : Fld) : ({ s with thk := x } : Dev).is f = s.is f := (rfl)
@[simp] theorem Dev.rd_with_tsk (s : Dev) (x : Tsk) (a : Nat) : ({ s with tsk := x } : Dev).rd a = s.rd a := (rfl)
@[simp] theorem Dev.get_with_tsk (s : Dev) (x : Tsk) (f : Fld) : ({ s with tsk := x } : Dev).get f = s.get f := (rfl)
@[simp] theorem Dev.is_with_tsk (s : Dev) (x : Tsk) (f : Fld) : ({ s with tsk := x } : Dev).is f = s.is f := (rfl)
@[simp] theorem Dev.rd_with_engs (s : Dev) (x : List (Nat × Eng)) (a : Nat) : ({ s with engs := x } : Dev).rd a = s.rd a := (rfl)
@[simp] theorem Dev.get_with_engs (s : Dev) (x : List (Nat × Eng)) (f : Fld) : ({ s with engs := x } : Dev).get f = s.get f := (rfl)
@[simp] theorem Dev.is_with_engs (s : Dev) (x : List (Nat × Eng)) (f : Fld) : ({ s with engs := x } : Dev).is f = s.is f := (rfl)
@[simp] theorem Dev.rd_with_clusters (s : Dev) (x : List (Nat × Cluster)) (a : Nat) : ({ s with clusters := x } : Dev).rd a = s.rd a := (rfl)
@[simp] theorem Dev.get_with_clusters (s : Dev) (x : List (Nat × Cluster)) (f : Fld) : ({ s with clusters := x } : Dev).get f = s.get f := (rfl)
@[simp] theorem Dev.is_with_clusters (s : Dev) (x : List (Nat × Cluster)) (f : Fld) : ({ s with clusters := x } : Dev).is f = s.is f := (rfl)
@[simp] theorem Dev.rd_with_rate (s : Dev) (x : List (Nat × Nat × List Nat)) (a : Nat) : ({ s with rate := x } : Dev).rd a = s.rd a := (rfl)
@[simp] theorem Dev.get_with_rate (s : Dev) (x : List (Nat × Nat × List Nat)) (f : Fld) : ({ s with rate := x } : Dev).get f = s.get f := (rfl)
@[simp] theorem Dev.is_with_rate (s : Dev) (x : List (Nat × Nat × List Nat)) (f : Fld) : ({ s with rate := x } : Dev).is f = s.is f := (rfl)
@[simp] theorem Dev.rd_with_decls (s : Dev) (x : List (Nat × Decl)) (a : Nat) : ({ s with decls := x } : Dev).rd a = s.rd a := (rfl)
@[simp] theorem Dev.get_with_decls (s : Dev) (x : List (Nat × Decl)) (f : Fld) : ({ s with decls := x } : Dev).get f = s.get f := (rfl)
@[simp] theorem Dev.is_with_decls (s : Dev) (x : List (Nat × Decl)) (f : Fld) : ({ s with decls := x } : Dev).is f = s.is f := (rfl)
@[simp] theorem Dev.rd_with_tmb (s : Dev) (x : Tmb) (a : Nat) : ({ s with tmb := x } : Dev).rd a = s.rd a := (rfl)
@[simp] theorem Dev.get_with_tmb (s : Dev) (x : Tmb) (f : Fld) : ({ s with tmb := x } : Dev).get f = s.get f := (rfl)
@[simp] theorem Dev.is_with_tmb (s : Dev) (x : Tmb) (f : Fld) : ({ s with tmb := x } : Dev).is f = s.is f := (rfl)
@[simp] theorem Dev.rd_with_trb (s : Dev) (x : Trb) (a : Nat) : ({ s with trb := x } : Dev).rd a = s.rd a := (rfl)
@[simp] theorem Dev.get_with_trb (s : Dev) (x : Trb) (f : Fld) : ({ s with trb := x } : Dev).get f = s.get f := (rfl)
@[simp] theorem Dev.is_with_trb (s : Dev) (x : Trb) (f : Fld) : ({ s with trb := x } : Dev).is f = s.is f := (rfl)
@[simp] theorem Dev.rd_with_prs (s : Dev) (x : Prs) (a : Nat) : ({ s with prs := x } : Dev).rd a = s.rd a := (rfl)
@[simp] theorem Dev.get_with_prs (s : Dev) (x : Prs) (f : Fld) : ({ s with prs := x } : Dev).get f = s.get f := (rfl)
@[simp] theorem Dev.is_with_prs (s : Dev) (x : Prs) (f : Fld) : ({ s with prs := x } : Dev).is f = s.is f := (rfl)
@[simp] theorem Dev.rd_with_rop (s : Dev) (x : Rop) (a : Nat) : ({ s with rop := x } : Dev).rd a = s.rd a := (rfl)
@[simp] theorem Dev.get_with_rop (s : Dev) (x : Rop) (f : Fld) : ({ s with rop := x } : Dev).get f = s.get f := (rfl)
@[simp] theorem Dev.is_with_rop (s : Dev) (x : Rop) (f : Fld) : ({ s with rop := x } : Dev).is f = s.is f := (rfl)
@[simp] theorem Dev.rd_with_mac (s : Dev) (x : List (Nat × MacPort)) (a : Nat) : ({ s with mac := x } : Dev).rd a = s.rd a := (rfl)
@[simp] theorem Dev.get_with_mac (s : Dev) (x : List (Nat × MacPort)) (f : Fld) : ({ s with mac := x } : Dev).get f = s.get f := (rfl)
@[simp] theorem Dev.is_with_mac (s : Dev) (x : List (Nat × MacPort)) (f : Fld) : ({ s with mac := x } : Dev).is f = s.is f := (rfl)
@[simp] theorem Dev.rd_with_twn (s : Dev) (x : Twn) (a : Nat) : ({ s with twn := x } : Dev).rd a = s.rd a := (rfl)
@[simp] theorem Dev.get_with_twn (s : Dev) (x : Twn) (f : Fld) : ({ s with twn := x } : Dev).get f = s.get f := (rfl)
@[simp] theorem Dev.is_with_twn (s : Dev) (x : Twn) (f : Fld) : ({ s with twn := x } : Dev).is f = s.is f := (rfl)
@[simp] theorem Dev.rd_with_lan (s : Dev) (x : List (Nat × LanLane)) (a : Nat) : ({ s with lan := x } : Dev).rd a = s.rd a := (rfl)
@[simp] theorem Dev.get_with_lan (s : Dev) (x : List (Nat × LanLane)) (f : Fld) : ({ s with lan := x } : Dev).get f = s.get f := (rfl)
@[simp] theorem Dev.is_with_lan (s : Dev) (x : List (Nat × LanLane)) (f : Fld) : ({ s with lan := x } : Dev).is f = s.is f := (rfl)
@[simp] theorem Dev.rd_with_mem (s : Dev) (x : Mem) (a : Nat) : ({ s with mem := x } : Dev).rd a = s.rd a := (rfl)
@[simp] theorem Dev.get_with_mem (s : Dev) (x : Mem) (f : Fld) : ({ s with mem := x } : Dev).get f = s.get f := (rfl)
@[simp] theorem Dev.is_with_mem (s : Dev) (x : Mem) (f : Fld) : ({ s with mem := x } : Dev).is f = s.is f := (rfl)
@[simp] theorem Dev.rd_with_dma (s : Dev) (x : Dma) (a : Nat) : ({ s with dma := x } : Dev).rd a = s.rd a := (rfl)
@[simp] theorem Dev.get_with_dma (s : Dev) (x : Dma) (f : Fld) : ({ s with dma := x } : Dev).get f = s.get f := (rfl)
@[simp] theorem Dev.is_with_dma (s : Dev) (x : Dma) (f : Fld) : ({ s with dma := x } : Dev).is f = s.is f := (rfl)
@[simp] theorem Dev.rd_with_bel (s : Dev) (x : Bel) (a : Nat) : ({ s with bel := x } : Dev).rd a = s.rd a := (rfl)
@[simp] theorem Dev.get_with_bel (s : Dev) (x : Bel) (f : Fld) : ({ s with bel := x } : Dev).get f = s.get f := (rfl)
@[simp] theorem Dev.is_with_bel (s : Dev) (x : Bel) (f : Fld) : ({ s with bel := x } : Dev).is f = s.is f := (rfl)

/-- A register of another block than the one written. -/
@[simp] theorem Dev.rd_setB_ne (s : Dev) (f : Fld) (b : Bool) {a : Nat} (h : a ≠ f.reg) : (s.setB f b).rd a = s.rd a := s.rd_set_ne f _ h
@[simp] theorem Dev.rd_count_ne (s : Dev) (f : Fld) (n : Nat) {a : Nat} (h : a ≠ f.reg) : (s.count f n).rd a = s.rd a := s.rd_set_ne f _ h
@[simp] theorem Dev.rd_countR_ne (s : Dev) (r n : Nat) {a : Nat} (h : a ≠ r) : (s.countR r n).rd a = s.rd a := s.rd_wr_ne _ h
@[simp] theorem Dev.rd_raiseAt_ne (s : Dev) (f : Fld) (i : Nat) {a : Nat} (h : a ≠ f.reg) : (s.raiseAt f i).rd a = s.rd a := s.rd_raise_ne _ h

@[simp] theorem Dev.rd_emit (s : Dev) (o : Out) (a : Nat) : (s.emit o).rd a = s.rd a := (rfl)
@[simp] theorem Dev.rd_elapse (s : Dev) (n a : Nat) : (s.elapse n).rd a = s.rd a := (rfl)
@[simp] theorem Dev.rd_until (s : Dev) (n a : Nat) : (s.until_ n).rd a = s.rd a := (rfl)
@[simp] theorem Dev.get_until (s : Dev) (n : Nat) (f : Fld) : (s.until_ n).get f = s.get f := (rfl)
@[simp] theorem Dev.is_until (s : Dev) (n : Nat) (f : Fld) : (s.until_ n).is f = s.is f := (rfl)
@[simp] theorem Dev.is_elapse (s : Dev) (n : Nat) (f : Fld) : (s.elapse n).is f = s.is f := (rfl)
@[simp] theorem Dev.get_emit (s : Dev) (o : Out) (f : Fld) : (s.emit o).get f = s.get f := (rfl)
@[simp] theorem Dev.is_emit (s : Dev) (o : Out) (f : Fld) : (s.emit o).is f = s.is f := (rfl)
@[simp] theorem Dev.get_answerRead (s : Dev) (r : Nat) (v : Word) (f : Fld) : (s.answerRead r v).get f = s.get f := (rfl)
@[simp] theorem Dev.is_answerRead (s : Dev) (r : Nat) (v : Word) (f : Fld) : (s.answerRead r v).is f = s.is f := (rfl)
@[simp] theorem Dev.get_elapse (s : Dev) (n : Nat) (f : Fld) : (s.elapse n).get f = s.get f := (rfl)
@[simp] theorem Dev.rd_answerRead (s : Dev) (r a : Nat) (v : Word) : (s.answerRead r v).rd a = s.rd a := (rfl)

/-- Time brought forward to an instant: not before it, and never back. -/
theorem Dev.ticks_until (s : Dev) (n : Nat) : (s.until_ n).ticks = max s.ticks n := by
  show s.ticks + (n - s.ticks) = max s.ticks n
  omega

end Sys2Proof.Machine
end

