-- ==== Sys2Proof/Laws/Sends.lean ====
section
/-!
SUPPORT. Sys2Proof/Laws/Sends.lean: journalling and sending messages leaves every part of the block but the journal, the paths, the
scheduler's queues and the tunnel.
-/
namespace Sys2Proof.Machine

theorem Dev.changesOnly_refl (s : Dev) (l : List Part) : s.changesOnly s l := by
  intro p _
  cases p <;> rfl

theorem Dev.changesOnly_trans {s t u : Dev} {l : List Part} (h : s.changesOnly t l) (k : t.changesOnly u l) : s.changesOnly u l := by
  intro p hp
  have a := h p hp
  have b := k p hp
  cases p <;> exact b.trans a

theorem Dev.changesOnly_mono {s t : Dev} {l m : List Part} (h : s.changesOnly t l) (hl : ∀ p, p ∈ l → p ∈ m) : s.changesOnly t m :=
  fun p hp => h p fun hq => hp (hl p hq)

theorem Dev.errsOf_congr {s t : Dev} (h : t.mem = s.mem) (k : Nat) : t.errsOf k = s.errsOf k := by
  have p : ∀ i q, t.piton i q = s.piton i q := by
    intro i q
    unfold Dev.piton
    rw [h]
  have a : t.anchor k = s.anchor k := by
    unfold Dev.anchor
    simp only [p]
  unfold Dev.errsOf
  rw [a]
  split
  · simp only [p]
  · rw [h]

theorem Dev.Healed.of_eq {s t : Dev} (h : t.mem = s.mem) : s.Healed t :=
  ⟨by rw [h], fun k => Or.inl (Dev.errsOf_congr h k)⟩

theorem Dev.Healed.trans {s t u : Dev} (h : s.Healed t) (k : t.Healed u) : s.Healed u := by
  refine ⟨?_, fun a => ?_⟩
  · have x := h.1
    have y := k.1
    rw [← x, ← y]
  · rcases k.2 a with b | b
    · rw [b]
      exact h.2 a
    · exact Or.inr b

theorem Dev.Sends.refl (s : Dev) : s.Sends s := ⟨s.changesOnly_refl _, rfl, rfl, .of_eq rfl, fun _ _ => rfl⟩

theorem Dev.Sends.trans {s t u : Dev} (h : s.Sends t) (k : t.Sends u) : s.Sends u where
  parts := Dev.changesOnly_trans h.parts k.parts
  act := by
    have a := h.act
    have b := k.act
    rw [← a, ← b]
  hif := k.hif.trans h.hif
  mem := h.mem.trans k.mem
  regs := fun r hr => (k.regs r hr).trans (h.regs r hr)

theorem Dev.Sends.st {s t : Dev} (h : s.Sends t) : t.act.st = s.act.st := by
  have := congrArg Act.st h.act
  simpa using this

theorem sends_of_eq {s t : Dev} (h : s.changesOnly t [.regs, .hif, .out, .free, .sch, .rate])
    (hh : t.hif.kept = s.hif.kept) (hr : ∀ a, msgReg a = false → t.rd a = s.rd a) : s.Sends t where
  parts := Dev.changesOnly_mono h (by decide)
  act := by
    have : t.act = s.act := h .act (by decide)
    rw [this]
  hif := hh
  mem := .of_eq (h .mem (by decide))
  regs := hr

theorem Dev.sends_wr (s : Dev) (a : Nat) (v : Word) (h : msgReg a = true) : s.Sends (s.wr a v) :=
  sends_of_eq (by intro p hp; cases p <;> first | rfl | exact absurd (by decide) hp) rfl
    (fun b hb => s.rd_wr_ne v (by rintro rfl; rw [h] at hb; exact absurd hb (by decide)))

theorem Dev.sends_set (s : Dev) (f : Fld) (v : Nat) (h : msgReg f.reg = true) : s.Sends (s.set f v) := s.sends_wr _ _ h
theorem Dev.sends_setB (s : Dev) (f : Fld) (v : Bool) (h : msgReg f.reg = true) : s.Sends (s.setB f v) := s.sends_wr _ _ h
theorem Dev.sends_count (s : Dev) (f : Fld) (n : Nat) (h : msgReg f.reg = true) : s.Sends (s.count f n) := s.sends_wr _ _ h
theorem Dev.sends_countR (s : Dev) (a n : Nat) (h : msgReg a = true) : s.Sends (s.countR a n) := s.sends_wr _ _ h

theorem Dev.sends_emit (s : Dev) (o : Out) : s.Sends (s.emit o) :=
  sends_of_eq (by intro p hp; cases p <;> first | rfl | exact absurd (by decide) hp) rfl fun _ _ => rfl

theorem Dev.sends_hif (s : Dev) (h : Hif) (hk : h.kept = s.hif.kept) : s.Sends { s with hif := h } :=
  sends_of_eq (by intro p hp; cases p <;> first | rfl | exact absurd (by decide) hp) hk fun _ _ => rfl

theorem Dev.sends_sch (s : Dev) (h : Sch) : s.Sends { s with sch := h } :=
  sends_of_eq (by intro p hp; cases p <;> first | rfl | exact absurd (by decide) hp) rfl fun _ _ => rfl

theorem Dev.sends_draw (s : Dev) : s.Sends s.draw.2 :=
  sends_of_eq (by intro p hp; cases p <;> first | rfl | exact absurd (by decide) hp) rfl fun _ _ => rfl

theorem Dev.sends_signal (s : Dev) (v : Nat) : s.Sends (s.signal v) := by
  unfold Dev.signal
  split
  · exact Dev.Sends.refl s
  split
  · exact s.sends_hif _ (by rfl)
  · exact s.sends_emit _

theorem Dev.sends_raise (s : Dev) (f : Fld) (h : msgReg f.reg = true) : s.Sends (s.raise f) := by
  unfold Dev.raise Dev.irq
  simp only
  split
  · exact (s.sends_set f _ h).trans (Dev.sends_signal _ _)
  · exact s.sends_set f _ h

theorem Dev.sends_setPath (s : Dev) (p : Path) (x : PathSt) (h : x.inbox = (s.path p).inbox) : s.Sends (s.setPath p x) := by
  cases p <;> exact s.sends_hif _ (by simp [Hif.kept, h, Dev.path])

theorem Dev.sends_journal (s : Dev) (l : List DMsg) : s.Sends { s with hif := { s.hif with journal := l } } := s.sends_hif _ rfl

theorem Dev.sends_append (s : Dev) (typ : Nat) (ans : Option (Path × Nat)) (b : List Byte) : s.Sends (s.append typ ans b) :=
  ((s.sends_journal _).trans (Dev.sends_wr _ R.HIF_D2H_NEXT_SEQ _ (by decide))).trans (Dev.sends_wr _ R.HIF_JOURNAL_OLDEST _ (by decide))

theorem Dev.sends_unsignalled (s : Dev) (n m : Nat) :
    s.Sends { s with hif := { s.hif with unsignalled := n, firstUnsignalled := m } } := s.sends_hif _ rfl

theorem Dev.sends_raiseRing (s : Dev) : s.Sends s.raiseRing := (s.sends_unsignalled 0 s.hif.firstUnsignalled).trans (Dev.sends_signal _ _)

theorem Dev.sends_coalesce (s : Dev) : s.Sends s.coalesce := by
  unfold Dev.coalesce
  simp only
  split
  · exact (s.sends_unsignalled _ _).trans (Dev.sends_raiseRing _)
  · exact s.sends_unsignalled _ _

theorem Dev.sends_ringWrite (s : Dev) (m : DMsg) (r : Bool) : s.Sends (s.ringWrite m r) := by
  unfold Dev.ringWrite
  simp only
  split
  · exact (s.sends_draw.trans (Dev.sends_raise _ _ (by decide))).trans (Dev.sends_countR _ _ _ (by decide))
  · refine Dev.Sends.trans ?_ (Dev.sends_coalesce _)
    split
    · exact ((s.sends_draw.trans (Dev.sends_emit _ _)).trans (Dev.sends_set _ _ _ (by decide))).trans (Dev.sends_hif _ _ (by rfl))
    · exact (s.sends_draw.trans (Dev.sends_emit _ _)).trans (Dev.sends_set _ _ _ (by decide))

theorem Dev.sends_tagHead (s : Dev) (q : Nat) (w : Bool) : s.Sends (s.tagHead q w) := by
  unfold Dev.tagHead
  split <;> exact s.sends_sch _

theorem Dev.sends_pushQueue (s : Dev) (f : QFrame) : s.Sends (s.pushQueue f) := by
  unfold Dev.pushQueue
  simp only
  split
  · exact Dev.Sends.trans (s.sends_sch _) (Dev.sends_tagHead _ _ _)
  · exact s.sends_sch _

/-- Registers of a queue, of an egress and of a class that queueing a frame may change. -/
theorem msgReg_queue (q : Nat) (hq : q < 8192) : msgReg (0xb1000c + 0x10 * q) = true := by
  have h1 : 0xb10000 ≤ 0xb1000c + 0x10 * q := by omega
  have h2 : 0xb1000c + 0x10 * q < 0xb30000 := by omega
  have h3 : (0xb1000c + 0x10 * q) % 16 = 12 := by omega
  simp only [msgReg, h1, h2, h3, decide_true, Bool.and_true, Bool.or_true, Bool.true_or]

theorem msgReg_egress (a e k : Nat) (ha : a = 0xb60000 + k + 0x100 * e) (hk : 0x38 ≤ k ∧ k ≤ 0x44) (he : e ≤ 17) : msgReg a = true := by
  have h1 : 0xb60000 ≤ a := by omega
  have h2 : a < 0xb61200 := by omega
  have h3 : 0x38 ≤ a % 256 := by omega
  have h4 : a % 256 ≤ 0x44 := by omega
  simp only [msgReg, h1, h2, h3, h4, decide_true, Bool.and_true, Bool.or_true]

theorem msgReg_class (c : Nat) (hc : c < 8) : msgReg (0xb00060 + 4 * c) = true := by
  have h1 : 0xb00060 ≤ 0xb00060 + 4 * c := by omega
  have h2 : 0xb00060 + 4 * c < 0xb00080 := by omega
  simp only [msgReg, h1, h2, decide_true, Bool.and_true, Bool.or_true, Bool.true_or]

theorem Dev.sends_enterTimed (s : Dev) (e : Nat) (f : QFrame) (t : Tod) (he : e ≤ 17) : s.Sends (s.enterTimed e f t).1 := by
  have r (k : Nat) (hk : 0x38 ≤ k ∧ k ≤ 0x44) : msgReg (0xb60000 + k + 0x100 * e) = true := msgReg_egress _ e k rfl hk he
  have r1 : msgReg (R.SCH_Ee_DOWN_DROPS e) = true := r 0x44 (by decide)
  have r2 : msgReg (R.SCH_Ee_TIMED_DROP_RANGE e).reg = true := r 0x40 (by decide)
  have r3 : msgReg (R.SCH_Ee_TIMED_DROP_FULL e).reg = true := r 0x40 (by decide)
  have r4 : msgReg (R.SCH_Ee_LATE_ARRIVAL e).reg = true := r 0x38 (by decide)
  have r5 : msgReg (R.SCH_Ee_LATE2_DROPPED e).reg = true := r 0x3c (by decide)
  have i1 : msgReg R.SCH_IRQ_TIMED_DROP.reg = true := by decide
  have i2 : msgReg R.SCH_IRQ_LATE.reg = true := by decide
  unfold Dev.enterTimed
  split
  · exact s.sends_countR _ _ r1
  split
  · exact (s.sends_count _ _ r2).trans (Dev.sends_raise _ _ i1)
  split
  · exact (s.sends_count _ _ r3).trans (Dev.sends_raise _ _ i1)
  split
  · exact s.sends_sch _
  have h := (s.sends_count _ 1 r4).trans (Dev.sends_raise _ R.SCH_IRQ_LATE i2)
  simp only
  split
  · exact h.trans (Dev.sends_count _ _ _ r5)
  · exact h.trans (Dev.sends_sch _ _)

/-- Piton words after one was replaced. -/
theorem Dev.piton_setPiton (s : Dev) (i p j q : Nat) (x : Piton) :
    (s.setPiton i p x).piton j q = if 8 * j + q = 8 * i + p then x else s.piton j q := by
  unfold Dev.piton Dev.setPiton
  exact sget_sset _ _ _ _ _ _ fun _ => Or.inl rfl

/-- The errors of a word cleared: those of every other word stay. -/
theorem Dev.errsOf_setErrs (s : Dev) (k j : Nat) : (s.setErrs k 0).errsOf j = s.errsOf j ∨ (s.setErrs k 0).errsOf j = 0 := by
  unfold Dev.setErrs
  split
  · rename_i p hp
    have same : ∀ i q, ((s.setPiton (k / 65536) p { s.piton (k / 65536) p with errs := 0, poison := false }).piton i q).valid =
        (s.piton i q).valid ∧ ((s.setPiton (k / 65536) p { s.piton (k / 65536) p with errs := 0, poison := false }).piton i q).addr =
        (s.piton i q).addr := by
      intro i q
      rw [Dev.piton_setPiton]
      split
      · rename_i h
        have e : s.piton i q = s.piton (k / 65536) p := by
          unfold Dev.piton
          rw [h]
        rw [e]
        exact ⟨rfl, rfl⟩
      · exact ⟨rfl, rfl⟩
    have anchor : (s.setPiton (k / 65536) p { s.piton (k / 65536) p with errs := 0, poison := false }).anchor j = s.anchor j := by
      unfold Dev.anchor
      simp only [same]
    unfold Dev.errsOf
    rw [anchor]
    split
    · rename_i q hq
      simp only [Dev.piton_setPiton]
      split
      · exact Or.inr rfl
      · exact Or.inl rfl
    · exact Or.inl rfl
  · unfold Dev.errsOf
    have anchor : Dev.anchor { s with mem := { s.mem with errs := sset 0 k 0 s.mem.errs } } j = s.anchor j := rfl
    rw [anchor]
    split
    · exact Or.inl rfl
    · simp only [sget_sset 0 0 k j 0 s.mem.errs fun _ => Or.inl rfl]
      split
      · exact Or.inr rfl
      · exact Or.inl rfl

/-- Clearing the errors of a word changes no more than that. -/
theorem Dev.sends_clear (s : Dev) (k : Nat) : s.Sends (s.setErrs k 0) where
  parts := by
    unfold Dev.setErrs
    split <;> (intro p hp; cases p <;> first | rfl | exact absurd (by decide) hp)
  act := by unfold Dev.setErrs; split <;> rfl
  hif := by unfold Dev.setErrs; split <;> rfl
  mem := ⟨by unfold Dev.setErrs; split <;> rfl, fun j => s.errsOf_setErrs k j⟩
  regs := fun _ _ => by unfold Dev.setErrs; split <;> rfl

/-- An entry of the error log. -/
theorem Dev.sends_memLog (s : Dev) (kind source b k r c : Nat) : s.Sends (s.memLog kind source b k r c) := by
  unfold Dev.memLog
  refine Dev.Sends.trans ?_ (Dev.sends_count _ _ _ (by decide))
  exact { parts := by intro p hp; cases p <;> first | rfl | exact absurd (by decide) hp
          act := rfl
          hif := rfl
          mem := ⟨rfl, fun _ => Or.inl rfl⟩
          regs := fun _ _ => rfl }

theorem Dev.sends_memFull (s : Dev) (source k : Nat) : s.Sends (s.memFull source k) := by
  have hr : msgReg R.MEM_HEALED = true := by decide
  unfold Dev.memFull
  simp only
  split
  · exact Dev.Sends.refl s
  · split
    · exact ((s.sends_countR _ _ hr).trans (Dev.sends_memLog _ _ _ _ _ _ _)).trans (Dev.sends_clear _ _)
    · exact s.sends_clear k

theorem Dev.sends_memFulls (s : Dev) (source : Nat) (l : List Nat) : s.Sends (s.memFulls source l) := by
  unfold Dev.memFulls
  induction l generalizing s with
  | nil => exact Dev.Sends.refl s
  | cons k l ih => exact (s.sends_memFull source k).trans (ih _)

theorem Dev.sends_enqueueNow (s : Dev) (f : QFrame) (hq : f.queue < 8192) : s.Sends (s.enqueueNow f).1 := by
  have rq : msgReg (R.SCH_Qn_REFUSED f.queue) = true := msgReg_queue f.queue hq
  have rc : msgReg (R.SCH_CLASS_REFUSED (s.get (R.SCH_Qn_CFG_CLASS f.queue))) = true := msgReg_class _ (s.get_lt _)
  have i1 : msgReg R.SCH_IRQ_REFUSED.reg = true := by decide
  have i2 : msgReg R.SCH_STATUS_SPILLING.reg = true := by decide
  unfold Dev.enqueueNow
  simp only
  split
  · exact s.sends_countR _ _ (by decide)
  · rename_i he
    split
    · exact ((s.sends_countR _ _ rq).trans (Dev.sends_countR _ _ _ rc)).trans (Dev.sends_raise _ _ i1)
    · have h1 := fun b l => (s.sends_setB R.SCH_STATUS_SPILLING b i2).trans (Dev.sends_memFulls _ srcBlock l)
      split
      · split
        · exact (h1 _ _).trans (Dev.sends_pushQueue _ _)
        · exact (h1 _ _).trans (Dev.sends_enterTimed _ _ _ _ (by omega))
      · exact (h1 _ _).trans (Dev.sends_pushQueue _ _)

/-- A frame on its way to its queue, held before it or not. -/
theorem Dev.sends_enqueue (s : Dev) (f : QFrame) (hq : f.queue < 8192) : s.Sends (s.enqueue f).1 := by
  unfold Dev.enqueue
  split
  · unfold Dev.holdFrame
    split
    · exact s.sends_countR _ _ (by decide)
    · exact s.sends_sch _
  · exact s.sends_enqueueNow f hq

theorem Dev.sends_ibSend (s : Dev) (b : List Byte) : s.Sends (s.ibSend b).1 := by
  have rs : msgReg R.HIF_SKIP_PATHS_IB.reg = true := by decide
  unfold Dev.ibSend
  split
  · rename_i k d _ _
    have h := s.sends_enqueue (QFrame.plain (s.ibFrame k [b]) (d.mgmtQueue % 8192)) (Nat.mod_lt _ (by decide))
    simp only
    split
    · exact h.trans (Dev.sends_count _ _ _ rs)
    · exact h
  · dsimp only
    split
    · exact s.sends_count _ _ rs
    · exact Dev.Sends.refl s

theorem Dev.sends_rmPush (s : Dev) (m : List Byte) : s.Sends (s.rmPush m) where
  parts := by intro p hp; cases p <;> first | rfl | exact absurd (by decide) hp
  act := rfl
  hif := rfl
  mem := .of_eq rfl
  regs := fun _ _ => rfl

/-- What every action of a path leaves, iterating it leaves. -/
theorem iter_sends {f : Dev → Option Dev} (h : ∀ s t, f s = some t → s.Sends t) (n : Nat) (s : Dev) : s.Sends (iter f n s) := by
  induction n generalizing s with
  | zero => exact Dev.Sends.refl s
  | succ n ih =>
    unfold iter
    split
    · exact (h _ _ ‹_›).trans (ih _)
    · exact Dev.Sends.refl s

theorem iter_sends2 {f : Dev × SchEvents → Option (Dev × SchEvents)} (h : ∀ s t, f s = some t → s.1.Sends t.1) (n : Nat)
    (s : Dev × SchEvents) : s.1.Sends (iter f n s).1 := by
  induction n generalizing s with
  | zero => exact Dev.Sends.refl s.1
  | succ n ih =>
    unfold iter
    split
    · exact (h _ _ ‹_›).trans (ih _)
    · exact Dev.Sends.refl s.1

theorem Dev.sends_ringStep (s t : Dev) (h : s.ringStep = some t) : s.Sends t := by
  unfold Dev.ringStep at h
  simp only at h
  repeat' split at h
  all_goals first
    | (cases h; done)
    | (injection h with h; subst h
       first
        | exact s.sends_setPath _ _ (by rfl)
        | exact (s.sends_setPath _ _ (by rfl)).trans (Dev.sends_ringWrite _ _ _)
        | exact (s.sends_setPath _ _ (by rfl)).trans (Dev.sends_countR _ _ _ (by decide)))

theorem Dev.sends_ibStep (s t : Dev × SchEvents) (h : Dev.ibStep s = some t) : s.1.Sends t.1 := by
  have rs : msgReg R.HIF_SKIP_PATHS_IB.reg = true := by decide
  obtain ⟨s, ev⟩ := s
  have path (x : PathSt) (hx : x.inbox = (s.path .inBand).inbox) (h : some (s.setPath .inBand x, ev) = some t) : s.Sends t.1 := by
    cases h
    exact s.sends_setPath _ _ hx
  have send (x : PathSt) (b : List Byte) (hx : x.inbox = (s.path .inBand).inbox)
      (h : some (((s.setPath .inBand x).ibSend b).1, ev ++ ((s.setPath .inBand x).ibSend b).2) = some t) : s.Sends t.1 := by
    cases h
    exact (s.sends_setPath _ _ hx).trans (Dev.sends_ibSend _ b)
  unfold Dev.ibStep at h
  simp only at h
  split at h
  · split at h
    · exact path _ (by rfl) h
    · split at h
      · exact path _ (by rfl) h
      · exact send _ _ (by rfl) h
    · cases h
  · split at h
    · exact path _ (by rfl) h
    · split at h
      · split at h
        · exact send _ _ (by rfl) h
        · exact path _ (by rfl) h
      · exact send _ _ (by rfl) h
    · split at h
      · cases h
      · split at h
        · cases h
          exact (s.sends_setPath _ _ (by rfl)).trans (Dev.sends_count _ _ _ rs)
        · exact send _ _ (by rfl) h

theorem Dev.sends_rmStep (s t : Dev) (h : s.rmStep = some t) : s.Sends t := by
  have rs : msgReg R.HIF_SKIP_PATHS_RM.reg = true := by decide
  unfold Dev.rmStep at h
  simp only at h
  repeat' split at h
  all_goals first
    | (cases h; done)
    | (injection h with h; subst h
       first
        | exact s.sends_setPath _ _ (by rfl)
        | exact (s.sends_setPath _ _ (by rfl)).trans (Dev.sends_rmPush _ _)
        | exact (s.sends_setPath _ _ (by rfl)).trans (Dev.sends_count _ _ _ rs))

theorem Dev.sends_pumpAll (s : Dev) : s.Sends s.pumpAll.1 :=
  ((iter_sends2 Dev.sends_ibStep _ (s, [])).trans (iter_sends Dev.sends_ringStep _ _)).trans (iter_sends Dev.sends_rmStep _ _)

theorem Dev.sends_journalOnce (s : Dev) (typ : Nat) (ans : Option (Path × Nat)) (b : List Byte) : s.Sends (s.journalOnce typ ans b).1 :=
  (s.sends_append typ ans b).trans (Dev.sends_pumpAll _)

theorem Dev.sends_rateMark (s : Dev) (k : Nat) : s.Sends (s.rateMark k) := by
  unfold Dev.rateMark
  exact sends_of_eq (by intro p hp; cases p <;> first | rfl | exact absurd (by decide) hp) rfl fun _ _ => rfl

theorem forEach_sends {α : Type} {f : α → Dev → Dev} (h : ∀ (x : α) (s : Dev), s.Sends (f x s)) (l : List α) (s : Dev) : s.Sends (forEach l s f) := by
  unfold forEach
  induction l generalizing s with
  | nil => exact Dev.Sends.refl s
  | cons x t ih => exact (h x s).trans (ih _)

theorem Dev.sends_schEventsOnce (n : Nat) (s : Dev) (ev : SchEvents) : s.Sends (Dev.schEventsOnce n s ev) := by
  induction n generalizing s ev with
  | zero => exact Dev.Sends.refl s
  | succ n ih =>
    unfold Dev.schEventsOnce
    refine forEach_sends (fun x t => ?_) ev s
    simp only
    split
    · exact ((t.sends_rateMark _).trans (Dev.sends_journalOnce _ _ _ _)).trans (ih _ _)
    · exact t.sends_rateMark _

/-- A message journalled and sent leaves everything that is not the messages'. -/
theorem Dev.sends_journalMsg (s : Dev) (typ : Nat) (ans : Option (Path × Nat)) (b : List Byte) : s.Sends (s.journalMsg typ ans b) :=
  (s.sends_journalOnce typ ans b).trans (Dev.sends_schEventsOnce _ _ _)

theorem Dev.sends_event (s : Dev) (typ : Nat) (b : List Byte) : s.Sends (s.event typ b) := s.sends_journalMsg _ _ _
theorem Dev.sends_ack (s : Dev) (p : Path) (n : Nat) (st : AckStatus) (b : List Byte) : s.Sends (s.ack p n st b) := s.sends_journalMsg _ _ _
theorem Dev.sends_nack (s : Dev) (p : Path) (n m : Nat) : s.Sends (s.nack p n m) := s.sends_journalMsg _ _ _
theorem Dev.sends_pump (s : Dev) : s.Sends s.pump := s.sends_pumpAll.trans (Dev.sends_schEventsOnce _ _ _)

theorem Dev.sends_eventRated (s : Dev) (typ code unit : Nat) (f : Nat → List Byte) : s.Sends (s.eventRated typ code unit f) := by
  unfold Dev.eventRated
  simp only
  split
  · exact (s.sends_rateMark _).trans (Dev.sends_event _ _ _)
  · exact s.sends_rateMark _

/-! Parts that event leaves. -/
@[simp] theorem Dev.ticks_event (s : Dev) (typ : Nat) (b : List Byte) : (s.event typ b).ticks = s.ticks := (s.sends_event typ b).parts .ticks (by decide)
@[simp] theorem Dev.lastRead_event (s : Dev) (typ : Nat) (b : List Byte) : (s.event typ b).lastRead = s.lastRead := (s.sends_event typ b).parts .lastRead (by decide)
@[simp] theorem Dev.shadows_event (s : Dev) (typ : Nat) (b : List Byte) : (s.event typ b).shadows = s.shadows := (s.sends_event typ b).parts .shadows (by decide)
@[simp] theorem Dev.heldHigh_event (s : Dev) (typ : Nat) (b : List Byte) : (s.event typ b).heldHigh = s.heldHigh := (s.sends_event typ b).parts .heldHigh (by decide)
@[simp] theorem Dev.sup_event (s : Dev) (typ : Nat) (b : List Byte) : (s.event typ b).sup = s.sup := (s.sends_event typ b).parts .sup (by decide)
@[simp] theorem Dev.img_event (s : Dev) (typ : Nat) (b : List Byte) : (s.event typ b).img = s.img := (s.sends_event typ b).parts .img (by decide)
@[simp] theorem Dev.pwr_event (s : Dev) (typ : Nat) (b : List Byte) : (s.event typ b).pwr = s.pwr := (s.sends_event typ b).parts .pwr (by decide)
@[simp] theorem Dev.lfe_event (s : Dev) (typ : Nat) (b : List Byte) : (s.event typ b).lfe = s.lfe := (s.sends_event typ b).parts .lfe (by decide)
@[simp] theorem Dev.lfr_event (s : Dev) (typ : Nat) (b : List Byte) : (s.event typ b).lfr = s.lfr := (s.sends_event typ b).parts .lfr (by decide)
@[simp] theorem Dev.cph_event (s : Dev) (typ : Nat) (b : List Byte) : (s.event typ b).cph = s.cph := (s.sends_event typ b).parts .cph (by decide)
@[simp] theorem Dev.thk_event (s : Dev) (typ : Nat) (b : List Byte) : (s.event typ b).thk = s.thk := (s.sends_event typ b).parts .thk (by decide)
@[simp] theorem Dev.tsk_event (s : Dev) (typ : Nat) (b : List Byte) : (s.event typ b).tsk = s.tsk := (s.sends_event typ b).parts .tsk (by decide)
@[simp] theorem Dev.engs_event (s : Dev) (typ : Nat) (b : List Byte) : (s.event typ b).engs = s.engs := (s.sends_event typ b).parts .engs (by decide)
@[simp] theorem Dev.clusters_event (s : Dev) (typ : Nat) (b : List Byte) : (s.event typ b).clusters = s.clusters := (s.sends_event typ b).parts .clusters (by decide)
@[simp] theorem Dev.decls_event (s : Dev) (typ : Nat) (b : List Byte) : (s.event typ b).decls = s.decls := (s.sends_event typ b).parts .decls (by decide)
@[simp] theorem Dev.tmb_event (s : Dev) (typ : Nat) (b : List Byte) : (s.event typ b).tmb = s.tmb := (s.sends_event typ b).parts .tmb (by decide)
@[simp] theorem Dev.trb_event (s : Dev) (typ : Nat) (b : List Byte) : (s.event typ b).trb = s.trb := (s.sends_event typ b).parts .trb (by decide)
@[simp] theorem Dev.prs_event (s : Dev) (typ : Nat) (b : List Byte) : (s.event typ b).prs = s.prs := (s.sends_event typ b).parts .prs (by decide)
@[simp] theorem Dev.rop_event (s : Dev) (typ : Nat) (b : List Byte) : (s.event typ b).rop = s.rop := (s.sends_event typ b).parts .rop (by decide)
@[simp] theorem Dev.mac_event (s : Dev) (typ : Nat) (b : List Byte) : (s.event typ b).mac = s.mac := (s.sends_event typ b).parts .mac (by decide)
@[simp] theorem Dev.twn_event (s : Dev) (typ : Nat) (b : List Byte) : (s.event typ b).twn = s.twn := (s.sends_event typ b).parts .twn (by decide)
@[simp] theorem Dev.lan_event (s : Dev) (typ : Nat) (b : List Byte) : (s.event typ b).lan = s.lan := (s.sends_event typ b).parts .lan (by decide)
theorem Dev.healed_event (s : Dev) (typ : Nat) (b : List Byte) : s.Healed (s.event typ b) := (s.sends_event typ b).mem
@[simp] theorem Dev.dma_event (s : Dev) (typ : Nat) (b : List Byte) : (s.event typ b).dma = s.dma := (s.sends_event typ b).parts .dma (by decide)
@[simp] theorem Dev.bel_event (s : Dev) (typ : Nat) (b : List Byte) : (s.event typ b).bel = s.bel := (s.sends_event typ b).parts .bel (by decide)
@[simp] theorem Dev.st_event (s : Dev) (typ : Nat) (b : List Byte) : (s.event typ b).act.st = s.act.st := (s.sends_event typ b).st
@[simp] theorem Dev.rd_event (s : Dev) (typ : Nat) (b : List Byte) {r : Nat} (h : msgReg r = false) : (s.event typ b).rd r = s.rd r := (s.sends_event typ b).regs r h
@[simp] theorem Dev.get_event (s : Dev) (typ : Nat) (b : List Byte) (f : Fld) (h : msgReg f.reg = false) : (s.event typ b).get f = s.get f := by unfold Dev.get; rw [s.rd_event _ _ h]
@[simp] theorem Dev.is_event (s : Dev) (typ : Nat) (b : List Byte) (f : Fld) (h : msgReg f.reg = false) : (s.event typ b).is f = s.is f := by unfold Dev.is; rw [s.get_event _ _ f h]

/-! Parts that journalMsg leaves. -/
@[simp] theorem Dev.ticks_journalMsg (s : Dev) (typ : Nat) (a : Option (Path × Nat)) (b : List Byte) : (s.journalMsg typ a b).ticks = s.ticks := (s.sends_journalMsg typ a b).parts .ticks (by decide)
@[simp] theorem Dev.lastRead_journalMsg (s : Dev) (typ : Nat) (a : Option (Path × Nat)) (b : List Byte) : (s.journalMsg typ a b).lastRead = s.lastRead := (s.sends_journalMsg typ a b).parts .lastRead (by decide)
@[simp] theorem Dev.shadows_journalMsg (s : Dev) (typ : Nat) (a : Option (Path × Nat)) (b : List Byte) : (s.journalMsg typ a b).shadows = s.shadows := (s.sends_journalMsg typ a b).parts .shadows (by decide)
@[simp] theorem Dev.heldHigh_journalMsg (s : Dev) (typ : Nat) (a : Option (Path × Nat)) (b : List Byte) : (s.journalMsg typ a b).heldHigh = s.heldHigh := (s.sends_journalMsg typ a b).parts .heldHigh (by decide)
@[simp] theorem Dev.sup_journalMsg (s : Dev) (typ : Nat) (a : Option (Path × Nat)) (b : List Byte) : (s.journalMsg typ a b).sup = s.sup := (s.sends_journalMsg typ a b).parts .sup (by decide)
@[simp] theorem Dev.img_journalMsg (s : Dev) (typ : Nat) (a : Option (Path × Nat)) (b : List Byte) : (s.journalMsg typ a b).img = s.img := (s.sends_journalMsg typ a b).parts .img (by decide)
@[simp] theorem Dev.pwr_journalMsg (s : Dev) (typ : Nat) (a : Option (Path × Nat)) (b : List Byte) : (s.journalMsg typ a b).pwr = s.pwr := (s.sends_journalMsg typ a b).parts .pwr (by decide)
@[simp] theorem Dev.lfe_journalMsg (s : Dev) (typ : Nat) (a : Option (Path × Nat)) (b : List Byte) : (s.journalMsg typ a b).lfe = s.lfe := (s.sends_journalMsg typ a b).parts .lfe (by decide)
@[simp] theorem Dev.lfr_journalMsg (s : Dev) (typ : Nat) (a : Option (Path × Nat)) (b : List Byte) : (s.journalMsg typ a b).lfr = s.lfr := (s.sends_journalMsg typ a b).parts .lfr (by decide)
@[simp] theorem Dev.cph_journalMsg (s : Dev) (typ : Nat) (a : Option (Path × Nat)) (b : List Byte) : (s.journalMsg typ a b).cph = s.cph := (s.sends_journalMsg typ a b).parts .cph (by decide)
@[simp] theorem Dev.thk_journalMsg (s : Dev) (typ : Nat) (a : Option (Path × Nat)) (b : List Byte) : (s.journalMsg typ a b).thk = s.thk := (s.sends_journalMsg typ a b).parts .thk (by decide)
@[simp] theorem Dev.tsk_journalMsg (s : Dev) (typ : Nat) (a : Option (Path × Nat)) (b : List Byte) : (s.journalMsg typ a b).tsk = s.tsk := (s.sends_journalMsg typ a b).parts .tsk (by decide)
@[simp] theorem Dev.engs_journalMsg (s : Dev) (typ : Nat) (a : Option (Path × Nat)) (b : List Byte) : (s.journalMsg typ a b).engs = s.engs := (s.sends_journalMsg typ a b).parts .engs (by decide)
@[simp] theorem Dev.clusters_journalMsg (s : Dev) (typ : Nat) (a : Option (Path × Nat)) (b : List Byte) : (s.journalMsg typ a b).clusters = s.clusters := (s.sends_journalMsg typ a b).parts .clusters (by decide)
@[simp] theorem Dev.decls_journalMsg (s : Dev) (typ : Nat) (a : Option (Path × Nat)) (b : List Byte) : (s.journalMsg typ a b).decls = s.decls := (s.sends_journalMsg typ a b).parts .decls (by decide)
@[simp] theorem Dev.tmb_journalMsg (s : Dev) (typ : Nat) (a : Option (Path × Nat)) (b : List Byte) : (s.journalMsg typ a b).tmb = s.tmb := (s.sends_journalMsg typ a b).parts .tmb (by decide)
@[simp] theorem Dev.trb_journalMsg (s : Dev) (typ : Nat) (a : Option (Path × Nat)) (b : List Byte) : (s.journalMsg typ a b).trb = s.trb := (s.sends_journalMsg typ a b).parts .trb (by decide)
@[simp] theorem Dev.prs_journalMsg (s : Dev) (typ : Nat) (a : Option (Path × Nat)) (b : List Byte) : (s.journalMsg typ a b).prs = s.prs := (s.sends_journalMsg typ a b).parts .prs (by decide)
@[simp] theorem Dev.rop_journalMsg (s : Dev) (typ : Nat) (a : Option (Path × Nat)) (b : List Byte) : (s.journalMsg typ a b).rop = s.rop := (s.sends_journalMsg typ a b).parts .rop (by decide)
@[simp] theorem Dev.mac_journalMsg (s : Dev) (typ : Nat) (a : Option (Path × Nat)) (b : List Byte) : (s.journalMsg typ a b).mac = s.mac := (s.sends_journalMsg typ a b).parts .mac (by decide)
@[simp] theorem Dev.twn_journalMsg (s : Dev) (typ : Nat) (a : Option (Path × Nat)) (b : List Byte) : (s.journalMsg typ a b).twn = s.twn := (s.sends_journalMsg typ a b).parts .twn (by decide)
@[simp] theorem Dev.lan_journalMsg (s : Dev) (typ : Nat) (a : Option (Path × Nat)) (b : List Byte) : (s.journalMsg typ a b).lan = s.lan := (s.sends_journalMsg typ a b).parts .lan (by decide)
theorem Dev.healed_journalMsg (s : Dev) (typ : Nat) (a : Option (Path × Nat)) (b : List Byte) : s.Healed (s.journalMsg typ a b) := (s.sends_journalMsg typ a b).mem
@[simp] theorem Dev.dma_journalMsg (s : Dev) (typ : Nat) (a : Option (Path × Nat)) (b : List Byte) : (s.journalMsg typ a b).dma = s.dma := (s.sends_journalMsg typ a b).parts .dma (by decide)
@[simp] theorem Dev.bel_journalMsg (s : Dev) (typ : Nat) (a : Option (Path × Nat)) (b : List Byte) : (s.journalMsg typ a b).bel = s.bel := (s.sends_journalMsg typ a b).parts .bel (by decide)
@[simp] theorem Dev.st_journalMsg (s : Dev) (typ : Nat) (a : Option (Path × Nat)) (b : List Byte) : (s.journalMsg typ a b).act.st = s.act.st := (s.sends_journalMsg typ a b).st
@[simp] theorem Dev.rd_journalMsg (s : Dev) (typ : Nat) (a : Option (Path × Nat)) (b : List Byte) {r : Nat} (h : msgReg r = false) : (s.journalMsg typ a b).rd r = s.rd r := (s.sends_journalMsg typ a b).regs r h
@[simp] theorem Dev.get_journalMsg (s : Dev) (typ : Nat) (a : Option (Path × Nat)) (b : List Byte) (f : Fld) (h : msgReg f.reg = false) : (s.journalMsg typ a b).get f = s.get f := by unfold Dev.get; rw [s.rd_journalMsg _ _ _ h]
@[simp] theorem Dev.is_journalMsg (s : Dev) (typ : Nat) (a : Option (Path × Nat)) (b : List Byte) (f : Fld) (h : msgReg f.reg = false) : (s.journalMsg typ a b).is f = s.is f := by unfold Dev.is; rw [s.get_journalMsg _ _ _ f h]

/-! Parts that pump leaves. -/
@[simp] theorem Dev.ticks_pump (s : Dev) : (s.pump).ticks = s.ticks := (s.sends_pump).parts .ticks (by decide)
@[simp] theorem Dev.lastRead_pump (s : Dev) : (s.pump).lastRead = s.lastRead := (s.sends_pump).parts .lastRead (by decide)
@[simp] theorem Dev.shadows_pump (s : Dev) : (s.pump).shadows = s.shadows := (s.sends_pump).parts .shadows (by decide)
@[simp] theorem Dev.heldHigh_pump (s : Dev) : (s.pump).heldHigh = s.heldHigh := (s.sends_pump).parts .heldHigh (by decide)
@[simp] theorem Dev.sup_pump (s : Dev) : (s.pump).sup = s.sup := (s.sends_pump).parts .sup (by decide)
@[simp] theorem Dev.img_pump (s : Dev) : (s.pump).img = s.img := (s.sends_pump).parts .img (by decide)
@[simp] theorem Dev.pwr_pump (s : Dev) : (s.pump).pwr = s.pwr := (s.sends_pump).parts .pwr (by decide)
@[simp] theorem Dev.lfe_pump (s : Dev) : (s.pump).lfe = s.lfe := (s.sends_pump).parts .lfe (by decide)
@[simp] theorem Dev.lfr_pump (s : Dev) : (s.pump).lfr = s.lfr := (s.sends_pump).parts .lfr (by decide)
@[simp] theorem Dev.cph_pump (s : Dev) : (s.pump).cph = s.cph := (s.sends_pump).parts .cph (by decide)
@[simp] theorem Dev.thk_pump (s : Dev) : (s.pump).thk = s.thk := (s.sends_pump).parts .thk (by decide)
@[simp] theorem Dev.tsk_pump (s : Dev) : (s.pump).tsk = s.tsk := (s.sends_pump).parts .tsk (by decide)
@[simp] theorem Dev.engs_pump (s : Dev) : (s.pump).engs = s.engs := (s.sends_pump).parts .engs (by decide)
@[simp] theorem Dev.clusters_pump (s : Dev) : (s.pump).clusters = s.clusters := (s.sends_pump).parts .clusters (by decide)
@[simp] theorem Dev.decls_pump (s : Dev) : (s.pump).decls = s.decls := (s.sends_pump).parts .decls (by decide)
@[simp] theorem Dev.tmb_pump (s : Dev) : (s.pump).tmb = s.tmb := (s.sends_pump).parts .tmb (by decide)
@[simp] theorem Dev.trb_pump (s : Dev) : (s.pump).trb = s.trb := (s.sends_pump).parts .trb (by decide)
@[simp] theorem Dev.prs_pump (s : Dev) : (s.pump).prs = s.prs := (s.sends_pump).parts .prs (by decide)
@[simp] theorem Dev.rop_pump (s : Dev) : (s.pump).rop = s.rop := (s.sends_pump).parts .rop (by decide)
@[simp] theorem Dev.mac_pump (s : Dev) : (s.pump).mac = s.mac := (s.sends_pump).parts .mac (by decide)
@[simp] theorem Dev.twn_pump (s : Dev) : (s.pump).twn = s.twn := (s.sends_pump).parts .twn (by decide)
@[simp] theorem Dev.lan_pump (s : Dev) : (s.pump).lan = s.lan := (s.sends_pump).parts .lan (by decide)
theorem Dev.healed_pump (s : Dev) : s.Healed (s.pump) := (s.sends_pump).mem
@[simp] theorem Dev.dma_pump (s : Dev) : (s.pump).dma = s.dma := (s.sends_pump).parts .dma (by decide)
@[simp] theorem Dev.bel_pump (s : Dev) : (s.pump).bel = s.bel := (s.sends_pump).parts .bel (by decide)
@[simp] theorem Dev.st_pump (s : Dev) : (s.pump).act.st = s.act.st := (s.sends_pump).st
@[simp] theorem Dev.rd_pump (s : Dev) {r : Nat} (h : msgReg r = false) : (s.pump).rd r = s.rd r := (s.sends_pump).regs r h
@[simp] theorem Dev.get_pump (s : Dev) (f : Fld) (h : msgReg f.reg = false) : (s.pump).get f = s.get f := by unfold Dev.get; rw [s.rd_pump h]
@[simp] theorem Dev.is_pump (s : Dev) (f : Fld) (h : msgReg f.reg = false) : (s.pump).is f = s.is f := by unfold Dev.is; rw [s.get_pump f h]

/-! Parts that ack leaves. -/
@[simp] theorem Dev.ticks_ack (s : Dev) (p : Path) (n : Nat) (st : AckStatus) (b : List Byte) : (s.ack p n st b).ticks = s.ticks := (s.sends_ack p n st b).parts .ticks (by decide)
@[simp] theorem Dev.lastRead_ack (s : Dev) (p : Path) (n : Nat) (st : AckStatus) (b : List Byte) : (s.ack p n st b).lastRead = s.lastRead := (s.sends_ack p n st b).parts .lastRead (by decide)
@[simp] theorem Dev.shadows_ack (s : Dev) (p : Path) (n : Nat) (st : AckStatus) (b : List Byte) : (s.ack p n st b).shadows = s.shadows := (s.sends_ack p n st b).parts .shadows (by decide)
@[simp] theorem Dev.heldHigh_ack (s : Dev) (p : Path) (n : Nat) (st : AckStatus) (b : List Byte) : (s.ack p n st b).heldHigh = s.heldHigh := (s.sends_ack p n st b).parts .heldHigh (by decide)
@[simp] theorem Dev.sup_ack (s : Dev) (p : Path) (n : Nat) (st : AckStatus) (b : List Byte) : (s.ack p n st b).sup = s.sup := (s.sends_ack p n st b).parts .sup (by decide)
@[simp] theorem Dev.img_ack (s : Dev) (p : Path) (n : Nat) (st : AckStatus) (b : List Byte) : (s.ack p n st b).img = s.img := (s.sends_ack p n st b).parts .img (by decide)
@[simp] theorem Dev.pwr_ack (s : Dev) (p : Path) (n : Nat) (st : AckStatus) (b : List Byte) : (s.ack p n st b).pwr = s.pwr := (s.sends_ack p n st b).parts .pwr (by decide)
@[simp] theorem Dev.lfe_ack (s : Dev) (p : Path) (n : Nat) (st : AckStatus) (b : List Byte) : (s.ack p n st b).lfe = s.lfe := (s.sends_ack p n st b).parts .lfe (by decide)
@[simp] theorem Dev.lfr_ack (s : Dev) (p : Path) (n : Nat) (st : AckStatus) (b : List Byte) : (s.ack p n st b).lfr = s.lfr := (s.sends_ack p n st b).parts .lfr (by decide)
@[simp] theorem Dev.cph_ack (s : Dev) (p : Path) (n : Nat) (st : AckStatus) (b : List Byte) : (s.ack p n st b).cph = s.cph := (s.sends_ack p n st b).parts .cph (by decide)
@[simp] theorem Dev.thk_ack (s : Dev) (p : Path) (n : Nat) (st : AckStatus) (b : List Byte) : (s.ack p n st b).thk = s.thk := (s.sends_ack p n st b).parts .thk (by decide)
@[simp] theorem Dev.tsk_ack (s : Dev) (p : Path) (n : Nat) (st : AckStatus) (b : List Byte) : (s.ack p n st b).tsk = s.tsk := (s.sends_ack p n st b).parts .tsk (by decide)
@[simp] theorem Dev.engs_ack (s : Dev) (p : Path) (n : Nat) (st : AckStatus) (b : List Byte) : (s.ack p n st b).engs = s.engs := (s.sends_ack p n st b).parts .engs (by decide)
@[simp] theorem Dev.clusters_ack (s : Dev) (p : Path) (n : Nat) (st : AckStatus) (b : List Byte) : (s.ack p n st b).clusters = s.clusters := (s.sends_ack p n st b).parts .clusters (by decide)
@[simp] theorem Dev.decls_ack (s : Dev) (p : Path) (n : Nat) (st : AckStatus) (b : List Byte) : (s.ack p n st b).decls = s.decls := (s.sends_ack p n st b).parts .decls (by decide)
@[simp] theorem Dev.tmb_ack (s : Dev) (p : Path) (n : Nat) (st : AckStatus) (b : List Byte) : (s.ack p n st b).tmb = s.tmb := (s.sends_ack p n st b).parts .tmb (by decide)
@[simp] theorem Dev.trb_ack (s : Dev) (p : Path) (n : Nat) (st : AckStatus) (b : List Byte) : (s.ack p n st b).trb = s.trb := (s.sends_ack p n st b).parts .trb (by decide)
@[simp] theorem Dev.prs_ack (s : Dev) (p : Path) (n : Nat) (st : AckStatus) (b : List Byte) : (s.ack p n st b).prs = s.prs := (s.sends_ack p n st b).parts .prs (by decide)
@[simp] theorem Dev.rop_ack (s : Dev) (p : Path) (n : Nat) (st : AckStatus) (b : List Byte) : (s.ack p n st b).rop = s.rop := (s.sends_ack p n st b).parts .rop (by decide)
@[simp] theorem Dev.mac_ack (s : Dev) (p : Path) (n : Nat) (st : AckStatus) (b : List Byte) : (s.ack p n st b).mac = s.mac := (s.sends_ack p n st b).parts .mac (by decide)
@[simp] theorem Dev.twn_ack (s : Dev) (p : Path) (n : Nat) (st : AckStatus) (b : List Byte) : (s.ack p n st b).twn = s.twn := (s.sends_ack p n st b).parts .twn (by decide)
@[simp] theorem Dev.lan_ack (s : Dev) (p : Path) (n : Nat) (st : AckStatus) (b : List Byte) : (s.ack p n st b).lan = s.lan := (s.sends_ack p n st b).parts .lan (by decide)
theorem Dev.healed_ack (s : Dev) (p : Path) (n : Nat) (st : AckStatus) (b : List Byte) : s.Healed (s.ack p n st b) := (s.sends_ack p n st b).mem
@[simp] theorem Dev.dma_ack (s : Dev) (p : Path) (n : Nat) (st : AckStatus) (b : List Byte) : (s.ack p n st b).dma = s.dma := (s.sends_ack p n st b).parts .dma (by decide)
@[simp] theorem Dev.bel_ack (s : Dev) (p : Path) (n : Nat) (st : AckStatus) (b : List Byte) : (s.ack p n st b).bel = s.bel := (s.sends_ack p n st b).parts .bel (by decide)
@[simp] theorem Dev.st_ack (s : Dev) (p : Path) (n : Nat) (st : AckStatus) (b : List Byte) : (s.ack p n st b).act.st = s.act.st := (s.sends_ack p n st b).st
@[simp] theorem Dev.rd_ack (s : Dev) (p : Path) (n : Nat) (st : AckStatus) (b : List Byte) {r : Nat} (h : msgReg r = false) : (s.ack p n st b).rd r = s.rd r := (s.sends_ack p n st b).regs r h
@[simp] theorem Dev.get_ack (s : Dev) (p : Path) (n : Nat) (st : AckStatus) (b : List Byte) (f : Fld) (h : msgReg f.reg = false) : (s.ack p n st b).get f = s.get f := by unfold Dev.get; rw [s.rd_ack _ _ _ _ h]
@[simp] theorem Dev.is_ack (s : Dev) (p : Path) (n : Nat) (st : AckStatus) (b : List Byte) (f : Fld) (h : msgReg f.reg = false) : (s.ack p n st b).is f = s.is f := by unfold Dev.is; rw [s.get_ack _ _ _ _ f h]

end Sys2Proof.Machine
end

