-- ==== Sys2Proof/Laws/Frame.lean ====
section
/-!
SUPPORT. Sys2Proof/Laws/Frame.lean: what each update adds to what a command changed.
-/
namespace Sys2Proof.Machine

variable {m : Bool} {P : List Part} {L : List Nat} {s t u : Dev}

theorem Dev.Frame.refl (m : Bool) (P : List Part) (L : List Nat) (s : Dev) : Dev.Frame m P L s s :=
  ⟨s.changesOnly_refl _, Or.inr rfl, Or.inr rfl, Or.inr (.of_eq rfl), fun _ _ _ => rfl⟩

/-- What sending messages adds, where it is allowed for. -/
theorem Dev.Frame.sends (h : Dev.Frame true P L s t) (k : t.Sends u) : Dev.Frame true P L s u where
  parts := Dev.changesOnly_trans h.parts (Dev.changesOnly_mono k.parts fun p hp => List.mem_append.mpr (Or.inr hp))
  act := by
    rcases h.act with h | h
    · exact Or.inl h
    · refine Or.inr ?_
      rw [← h, ← k.act]
  hif := h.hif.imp id fun h => k.hif.trans h
  mem := h.mem.imp id fun h => h.trans k.mem
  regs := fun a ha hm => (k.regs a (by simpa using hm)).trans (h.regs a ha hm)

/-- A register written. -/
theorem Dev.Frame.wr (h : Dev.Frame m P L s t) (a : Nat) (v : Word) (ha : a ∈ L) : Dev.Frame m P L s (t.wr a v) where
  parts := by
    refine Dev.changesOnly_trans h.parts ?_
    intro p hp
    cases p <;> first
      | rfl
      | exact absurd (List.mem_append.mpr (Or.inr (by cases m <;> decide))) hp
  act := h.act
  hif := h.hif
  mem := h.mem
  regs := fun b hb hm => (t.rd_wr_ne v (by rintro rfl; exact hb ha)).trans (h.regs b hb hm)

theorem Dev.Frame.set (h : Dev.Frame m P L s t) (f : Fld) (v : Nat) (ha : f.reg ∈ L) : Dev.Frame m P L s (t.set f v) := h.wr _ _ ha
theorem Dev.Frame.setB (h : Dev.Frame m P L s t) (f : Fld) (v : Bool) (ha : f.reg ∈ L) : Dev.Frame m P L s (t.setB f v) := h.wr _ _ ha
theorem Dev.Frame.count (h : Dev.Frame m P L s t) (f : Fld) (n : Nat) (ha : f.reg ∈ L) : Dev.Frame m P L s (t.count f n) := h.wr _ _ ha
theorem Dev.Frame.countR (h : Dev.Frame m P L s t) (a n : Nat) (ha : a ∈ L) : Dev.Frame m P L s (t.countR a n) := h.wr _ _ ha

/-- Parts replaced that the frame names. -/
theorem Dev.Frame.parts_only (h : Dev.Frame m P L s t) (k : t.changesOnly u P) (hr : ∀ a, u.rd a = t.rd a) : Dev.Frame m P L s u where
  parts := Dev.changesOnly_trans h.parts (Dev.changesOnly_mono k fun p hp => List.mem_append.mpr (Or.inl hp))
  act := by
    by_cases hp : Part.act ∈ P
    · exact Or.inl hp
    · have : u.act = t.act := k .act hp
      rw [this]
      exact h.act
  hif := by
    by_cases hp : Part.hif ∈ P
    · exact Or.inl hp
    · have : u.hif = t.hif := k .hif hp
      rw [this]
      exact h.hif
  mem := by
    by_cases hp : Part.mem ∈ P
    · exact Or.inl hp
    · exact h.mem.imp id fun h => h.trans (.of_eq (k .mem hp))
  regs := fun a ha hm => (hr a).trans (h.regs a ha hm)

/-- A signalled vector: host link and output, where messages are allowed for or the frame names them. -/
theorem Dev.Frame.signal (h : Dev.Frame true P L s t) (v : Nat) : Dev.Frame true P L s (t.signal v) := h.sends (t.sends_signal v)

/-- A cause raised. -/
theorem Dev.Frame.raise (h : Dev.Frame true P L s t) (f : Fld) (ha : f.reg ∈ L) : Dev.Frame true P L s (t.raise f) := by
  unfold Dev.raise Dev.irq
  simp only
  split
  · exact (h.set f _ ha).signal _
  · exact h.set f _ ha

theorem Dev.Frame.raiseAt (h : Dev.Frame true P L s t) (f : Fld) (i : Nat) (ha : f.reg ∈ L) : Dev.Frame true P L s (t.raiseAt f i) :=
  h.raise _ ha

theorem Dev.Frame.event (h : Dev.Frame true P L s t) (typ : Nat) (b : List Byte) : Dev.Frame true P L s (t.event typ b) :=
  h.sends (t.sends_event typ b)
theorem Dev.Frame.eventRated (h : Dev.Frame true P L s t) (typ c n : Nat) (b : Nat → List Byte) : Dev.Frame true P L s (t.eventRated typ c n b) :=
  h.sends (t.sends_eventRated typ c n b)
theorem Dev.Frame.ack (h : Dev.Frame true P L s t) (p : Path) (n : Nat) (st : AckStatus) (b : List Byte) :
    Dev.Frame true P L s (t.ack p n st b) := h.sends (t.sends_ack p n st b)

/-- Time brought forward. -/
theorem Dev.Frame.until_ (h : Dev.Frame m P L s t) (n : Nat) (ht : Part.ticks ∈ P ∧ Part.tmb ∈ P) : Dev.Frame m P L s (t.until_ n) :=
  h.parts_only (by intro p hp; cases p <;> first | rfl | exact absurd ht.1 hp | exact absurd ht.2 hp) fun _ => rfl

theorem Dev.Frame.ticks_ (h : Dev.Frame m P L s t) (x : Nat) (hp : Part.ticks ∈ P) : Dev.Frame m P L s { t with ticks := x } :=
  h.parts_only (by intro p hq; cases p <;> first | rfl | exact absurd hp hq) fun _ => rfl
theorem Dev.Frame.free_ (h : Dev.Frame m P L s t) (x : Nat) (hp : Part.free ∈ P) : Dev.Frame m P L s { t with free := x } :=
  h.parts_only (by intro p hq; cases p <;> first | rfl | exact absurd hp hq) fun _ => rfl
theorem Dev.Frame.lastRead_ (h : Dev.Frame m P L s t) (x : Word) (hp : Part.lastRead ∈ P) : Dev.Frame m P L s { t with lastRead := x } :=
  h.parts_only (by intro p hq; cases p <;> first | rfl | exact absurd hp hq) fun _ => rfl
theorem Dev.Frame.shadows_ (h : Dev.Frame m P L s t) (x : List (Nat × Word)) (hp : Part.shadows ∈ P) : Dev.Frame m P L s { t with shadows := x } :=
  h.parts_only (by intro p hq; cases p <;> first | rfl | exact absurd hp hq) fun _ => rfl
theorem Dev.Frame.heldHigh_ (h : Dev.Frame m P L s t) (x : List (Nat × Word)) (hp : Part.heldHigh ∈ P) : Dev.Frame m P L s { t with heldHigh := x } :=
  h.parts_only (by intro p hq; cases p <;> first | rfl | exact absurd hp hq) fun _ => rfl
theorem Dev.Frame.out_ (h : Dev.Frame m P L s t) (x : List Out) (hp : Part.out ∈ P) : Dev.Frame m P L s { t with out := x } :=
  h.parts_only (by intro p hq; cases p <;> first | rfl | exact absurd hp hq) fun _ => rfl
theorem Dev.Frame.sup_ (h : Dev.Frame m P L s t) (x : Sup) (hp : Part.sup ∈ P) : Dev.Frame m P L s { t with sup := x } :=
  h.parts_only (by intro p hq; cases p <;> first | rfl | exact absurd hp hq) fun _ => rfl
theorem Dev.Frame.img_ (h : Dev.Frame m P L s t) (x : Img) (hp : Part.img ∈ P) : Dev.Frame m P L s { t with img := x } :=
  h.parts_only (by intro p hq; cases p <;> first | rfl | exact absurd hp hq) fun _ => rfl
theorem Dev.Frame.hif_ (h : Dev.Frame m P L s t) (x : Hif) (hp : Part.hif ∈ P) : Dev.Frame m P L s { t with hif := x } :=
  h.parts_only (by intro p hq; cases p <;> first | rfl | exact absurd hp hq) fun _ => rfl
theorem Dev.Frame.pwr_ (h : Dev.Frame m P L s t) (x : Pwr) (hp : Part.pwr ∈ P) : Dev.Frame m P L s { t with pwr := x } :=
  h.parts_only (by intro p hq; cases p <;> first | rfl | exact absurd hp hq) fun _ => rfl
theorem Dev.Frame.lfe_ (h : Dev.Frame m P L s t) (x : Lfe) (hp : Part.lfe ∈ P) : Dev.Frame m P L s { t with lfe := x } :=
  h.parts_only (by intro p hq; cases p <;> first | rfl | exact absurd hp hq) fun _ => rfl
theorem Dev.Frame.lfr_ (h : Dev.Frame m P L s t) (x : Lfr) (hp : Part.lfr ∈ P) : Dev.Frame m P L s { t with lfr := x } :=
  h.parts_only (by intro p hq; cases p <;> first | rfl | exact absurd hp hq) fun _ => rfl
theorem Dev.Frame.act_ (h : Dev.Frame m P L s t) (x : Act) (hp : Part.act ∈ P) : Dev.Frame m P L s { t with act := x } :=
  h.parts_only (by intro p hq; cases p <;> first | rfl | exact absurd hp hq) fun _ => rfl
theorem Dev.Frame.cph_ (h : Dev.Frame m P L s t) (x : Cph) (hp : Part.cph ∈ P) : Dev.Frame m P L s { t with cph := x } :=
  h.parts_only (by intro p hq; cases p <;> first | rfl | exact absurd hp hq) fun _ => rfl
theorem Dev.Frame.sch_ (h : Dev.Frame m P L s t) (x : Sch) (hp : Part.sch ∈ P) : Dev.Frame m P L s { t with sch := x } :=
  h.parts_only (by intro p hq; cases p <;> first | rfl | exact absurd hp hq) fun _ => rfl
theorem Dev.Frame.thk_ (h : Dev.Frame m P L s t) (x : Thk) (hp : Part.thk ∈ P) : Dev.Frame m P L s { t with thk := x } :=
  h.parts_only (by intro p hq; cases p <;> first | rfl | exact absurd hp hq) fun _ => rfl
theorem Dev.Frame.tsk_ (h : Dev.Frame m P L s t) (x : Tsk) (hp : Part.tsk ∈ P) : Dev.Frame m P L s { t with tsk := x } :=
  h.parts_only (by intro p hq; cases p <;> first | rfl | exact absurd hp hq) fun _ => rfl
theorem Dev.Frame.engs_ (h : Dev.Frame m P L s t) (x : List (Nat × Eng)) (hp : Part.engs ∈ P) : Dev.Frame m P L s { t with engs := x } :=
  h.parts_only (by intro p hq; cases p <;> first | rfl | exact absurd hp hq) fun _ => rfl
theorem Dev.Frame.clusters_ (h : Dev.Frame m P L s t) (x : List (Nat × Cluster)) (hp : Part.clusters ∈ P) : Dev.Frame m P L s { t with clusters := x } :=
  h.parts_only (by intro p hq; cases p <;> first | rfl | exact absurd hp hq) fun _ => rfl
theorem Dev.Frame.rate_ (h : Dev.Frame m P L s t) (x : List (Nat × Nat × List Nat)) (hp : Part.rate ∈ P) : Dev.Frame m P L s { t with rate := x } :=
  h.parts_only (by intro p hq; cases p <;> first | rfl | exact absurd hp hq) fun _ => rfl
theorem Dev.Frame.decls_ (h : Dev.Frame m P L s t) (x : List (Nat × Decl)) (hp : Part.decls ∈ P) : Dev.Frame m P L s { t with decls := x } :=
  h.parts_only (by intro p hq; cases p <;> first | rfl | exact absurd hp hq) fun _ => rfl
theorem Dev.Frame.tmb_ (h : Dev.Frame m P L s t) (x : Tmb) (hp : Part.tmb ∈ P) : Dev.Frame m P L s { t with tmb := x } :=
  h.parts_only (by intro p hq; cases p <;> first | rfl | exact absurd hp hq) fun _ => rfl
theorem Dev.Frame.trb_ (h : Dev.Frame m P L s t) (x : Trb) (hp : Part.trb ∈ P) : Dev.Frame m P L s { t with trb := x } :=
  h.parts_only (by intro p hq; cases p <;> first | rfl | exact absurd hp hq) fun _ => rfl
theorem Dev.Frame.prs_ (h : Dev.Frame m P L s t) (x : Prs) (hp : Part.prs ∈ P) : Dev.Frame m P L s { t with prs := x } :=
  h.parts_only (by intro p hq; cases p <;> first | rfl | exact absurd hp hq) fun _ => rfl
theorem Dev.Frame.rop_ (h : Dev.Frame m P L s t) (x : Rop) (hp : Part.rop ∈ P) : Dev.Frame m P L s { t with rop := x } :=
  h.parts_only (by intro p hq; cases p <;> first | rfl | exact absurd hp hq) fun _ => rfl
theorem Dev.Frame.mac_ (h : Dev.Frame m P L s t) (x : List (Nat × MacPort)) (hp : Part.mac ∈ P) : Dev.Frame m P L s { t with mac := x } :=
  h.parts_only (by intro p hq; cases p <;> first | rfl | exact absurd hp hq) fun _ => rfl
theorem Dev.Frame.twn_ (h : Dev.Frame m P L s t) (x : Twn) (hp : Part.twn ∈ P) : Dev.Frame m P L s { t with twn := x } :=
  h.parts_only (by intro p hq; cases p <;> first | rfl | exact absurd hp hq) fun _ => rfl
theorem Dev.Frame.lan_ (h : Dev.Frame m P L s t) (x : List (Nat × LanLane)) (hp : Part.lan ∈ P) : Dev.Frame m P L s { t with lan := x } :=
  h.parts_only (by intro p hq; cases p <;> first | rfl | exact absurd hp hq) fun _ => rfl
theorem Dev.Frame.mem_ (h : Dev.Frame m P L s t) (x : Mem) (hp : Part.mem ∈ P) : Dev.Frame m P L s { t with mem := x } :=
  h.parts_only (by intro p hq; cases p <;> first | rfl | exact absurd hp hq) fun _ => rfl
theorem Dev.Frame.dma_ (h : Dev.Frame m P L s t) (x : Dma) (hp : Part.dma ∈ P) : Dev.Frame m P L s { t with dma := x } :=
  h.parts_only (by intro p hq; cases p <;> first | rfl | exact absurd hp hq) fun _ => rfl
theorem Dev.Frame.bel_ (h : Dev.Frame m P L s t) (x : Bel) (hp : Part.bel ∈ P) : Dev.Frame m P L s { t with bel := x } :=
  h.parts_only (by intro p hq; cases p <;> first | rfl | exact absurd hp hq) fun _ => rfl

/-- Both branches of a choice. -/
theorem Dev.Frame.ite {c : Prop} [Decidable c] (h : c → Dev.Frame m P L s t) (k : ¬c → Dev.Frame m P L s u) :
    Dev.Frame m P L s (if c then t else u) := by
  split
  · exact h ‹_›
  · exact k ‹_›

/-- Frames widen. -/
theorem Dev.Frame.mono {Q : List Part} {M : List Nat} (h : Dev.Frame m P L s t) (hp : ∀ p, p ∈ P → p ∈ Q) (hl : ∀ a, a ∈ L → a ∈ M) :
    Dev.Frame m Q M s t where
  parts := Dev.changesOnly_mono h.parts fun p hq => by
    rcases List.mem_append.mp hq with hq | hq
    · exact List.mem_append.mpr (Or.inl (hp p hq))
    · exact List.mem_append.mpr (Or.inr hq)
  act := h.act.imp (hp _) id
  hif := h.hif.imp (hp _) id
  mem := h.mem.imp (hp _) id
  regs := fun a ha hm => h.regs a (fun hq => ha (hl a hq)) hm

/-- A command that sends no message has the frame of one that may. -/
theorem Dev.Frame.may (h : Dev.Frame false P L s t) : Dev.Frame true P L s t where
  parts := Dev.changesOnly_mono h.parts fun p hq => by
    rcases List.mem_append.mp hq with hq | hq
    · exact List.mem_append.mpr (Or.inl hq)
    · refine List.mem_append.mpr (Or.inr ?_)
      have : p = Part.regs := by simpa using hq
      rw [this]
      decide
  act := h.act
  hif := h.hif
  mem := h.mem
  regs := fun a ha _ => h.regs a ha rfl

/-- One frame after another. -/
theorem Dev.Frame.trans (h : Dev.Frame m P L s t) (k : Dev.Frame m P L t u) : Dev.Frame m P L s u where
  parts := Dev.changesOnly_trans h.parts k.parts
  act := by
    rcases h.act with h | h
    · exact Or.inl h
    · rcases k.act with k | k
      · exact Or.inl k
      · refine Or.inr ?_
        rw [← h, ← k]
  hif := by
    rcases h.hif with h | h
    · exact Or.inl h
    · exact k.hif.imp id fun k => k.trans h
  mem := by
    rcases h.mem with h | h
    · exact Or.inl h
    · exact k.mem.imp id fun k => h.trans k
  regs := fun a ha hm => (k.regs a ha hm).trans (h.regs a ha hm)

theorem Dev.Frame.setLfeP (h : Dev.Frame m P L s t) (p : Port) (x : LfePort) (hp : Part.lfe ∈ P) : Dev.Frame m P L s (t.setLfeP p x) := by
  cases p <;> exact h.lfe_ _ hp

theorem Dev.Frame.setLfrP (h : Dev.Frame m P L s t) (p : Port) (x : LfrPort) (hp : Part.lfr ∈ P) : Dev.Frame m P L s (t.setLfrP p x) := by
  cases p <;> exact h.lfr_ _ hp

/-- Domains that follow votes and holds change nothing else. -/
theorem Dev.Frame.domStep (h : Dev.Frame m P L s t) (d : Nat) (hp : Part.pwr ∈ P) : Dev.Frame m P L s (t.domStep d) := by
  unfold Dev.domStep
  simp only
  split
  · exact h
  · split
    · exact ((h.pwr_ _ hp).pwr_ _ hp).pwr_ _ hp
    · exact (h.pwr_ _ hp).pwr_ _ hp

theorem Dev.Frame.forEach {α : Type} (l : List α) (f : α → Dev → Dev) (hf : ∀ (x : α) (u : Dev), Dev.Frame m P L s u → Dev.Frame m P L s (f x u))
    (h : Dev.Frame m P L s t) : Dev.Frame m P L s (forEach l t f) := by
  unfold Sys2Proof.Machine.forEach
  induction l generalizing t with
  | nil => exact h
  | cons x l ih => exact ih (hf x t h)

theorem Dev.Frame.revote (h : Dev.Frame m P L s t) (hp : Part.pwr ∈ P) : Dev.Frame m P L s t.revote :=
  Dev.Frame.forEach _ _ (fun d _ k => k.domStep d hp) h

theorem Dev.Frame.access (h : Dev.Frame m P L s t) (d c : Nat) (hp : Part.pwr ∈ P) : Dev.Frame m P L s (t.access d c) := by
  unfold Dev.access
  split
  · exact h
  · exact (h.pwr_ _ hp).revote hp

end Sys2Proof.Machine
end

