-- ==== Sys2Proof/Laws/Mem.lean ====
section
/-!
SUPPORT. Sys2Proof/Laws/Mem.lean: protected words without errors: reading and writing them leaves the block as it is (R452, R453).
-/
namespace Sys2Proof.Machine

theorem Dev.memRead_clean (s : Dev) (source k : Nat) (h : s.errsOf k = 0) : s.memRead source k = (s, some 0) := by
  unfold Dev.memRead
  simp [h]

theorem Dev.memFull_clean (s : Dev) (source k : Nat) (h : s.errsOf k = 0) : s.memFull source k = s := by
  unfold Dev.memFull
  simp [h]

theorem Dev.memReads_clean (s : Dev) (source : Nat) (l : List Nat) (h : ∀ k, k ∈ l → s.errsOf k = 0) : s.memReads source l = (s, false) := by
  unfold Dev.memReads
  induction l with
  | nil => rfl
  | cons k l ih =>
    rw [List.foldl_cons]
    simp only [s.memRead_clean source k (h k (by simp)), Bool.false_or, Option.isNone_some]
    exact ih fun j hj => h j (by simp [hj])

theorem Dev.memFulls_clean (s : Dev) (source : Nat) (l : List Nat) (h : ∀ k, k ∈ l → s.errsOf k = 0) : s.memFulls source l = s := by
  unfold Dev.memFulls
  induction l with
  | nil => rfl
  | cons k l ih =>
    rw [List.foldl_cons, s.memFull_clean source k (h k (by simp))]
    exact ih fun j hj => h j (by simp [hj])

theorem Dev.wordBad_clean (s : Dev) (k : Nat) (h : s.errsOf k = 0) : s.wordBad k = false := by
  unfold Dev.wordBad
  rw [h]
  decide

theorem QFrame.words_subset (f : QFrame) : ∀ k, k ∈ f.words → k ∈ Config.cellWords f.queue f.rx := by
  intro k hk
  unfold QFrame.words at hk
  split at hk
  · exact absurd hk (by simp)
  · exact hk

theorem Dev.takeCells_clean (s : Dev) (f : QFrame) (h : s.clean f) : s.takeCells f = (s, false) := by
  unfold Dev.takeCells
  simp [s.memReads_clean srcBlock f.words fun k hk => h k (f.words_subset k hk)]

end Sys2Proof.Machine
end

