-- ==== Sys2Proof/Tests/Slice0.lean ====
section
/-!
SUPPORT. Sys2Proof/Tests/Slice0.lean: the model's own tests: ill-formed operands, words and figures that the spec works out, and for every
statement with hypotheses one theorem witness_<statement>: states and operands that meet all hypotheses together, clause by clause. An
equation that only names a value, and is met whatever the rest, is left out.
-/
namespace Sys2Proof.Tests
open Sys2Proof Sys2Proof.Machine
set_option Elab.async false

-- States for the tests.

/-- The block after reset with nothing fused, every domain up and no access hold, changed as the list says. -/
def wst (l : List (Dev → Dev)) : State :=
  { State.reset with
    fuses := { epoch := 0, advances := 0, revoked := 0 }
    dev := l.foldl (fun d f => f d)
      ({ State.reset.dev with pwr := { State.reset.dev.pwr with doms := List.replicate 43 .up } }.set R.PWR_LINGER_US 0) }
def svc (d : Dev) : Dev := { d with sup := { d.sup with mode := .service } }
def fld (f : Fld) (v : Nat) (d : Dev) : Dev := d.set f v
def used (p : Nat) (d : Dev) : Dev := { d with decls := [(p, { (default : Decl) with used := true })] }
def twoTasks (d : Dev) : Dev :=
  { d with tsk := { d.tsk with tasks :=
    [(4, { (default : Task) with st := .running, pitch := 1, cmask := 15, flags := 5, mask := 1, succ := [(true, 9), (false, 0)] }),
     (9, { (default : Task) with st := .idle, pitch := 1, dep := 2, mask := 1 })] } }
def code (w : Nat) (d : Dev) : Dev :=
  d.setCluster 1 { d.cluster 1 with iram := swrite 8 (le 4 w) [], shared := swrite 0x10000 [1, 0x82, 3, 0x84, 5, 6, 7, 8] [] }
def eng17 (r : List (Nat × Word)) (d : Dev) : Dev := d.setEng 17 { Eng.idle with st := .running, task := 4, pc := 8, regs := r }
/-- Engine 17, of cluster 1, at the instruction w. -/
def engAt (w : Nat) : State := wst [svc, used 1, twoTasks, code w, eng17 [(1, 0x80000011), (2, 0x7), (3, 0x12345678)]]
def ins (w : Nat) : Ins := (decodeEng w).getD (Ins.mk .add 0 0 0 0 0)

-- Operands that no interface delivers are refused, one term for each check of WellFormed.

theorem test_wf_addr : (Instr.lowWordRead 0x4000000).wf = false := by decide
theorem test_wf_fetched_image : (Instr.imageFetchDone (.data (List.replicate 268435457 0))).wf = false := by simp only [Instr.wf, FetchEnd.wf, List.length_replicate]; decide
theorem test_wf_ring_entries : (Instr.h2dTailWrite 0 (List.replicate 4096 0)).wf = false := by simp only [Instr.wf, List.length_replicate]; decide
theorem test_wf_frame_empty : (Instr.ibFrameReceive 0 []).wf = false := by decide
theorem test_wf_frame_position : (Instr.psyncHuntMatch .a 13312000).wf = false := by decide
theorem test_wf_frame_position_odd : (Instr.psyncCandidateMiss .a 3).wf = false := by decide
theorem test_wf_downstream_frame : (Instr.downstreamFrame .a (DsFrame.mk 0 [] [])).wf = false := by decide
theorem test_wf_code_phase : (Instr.preambleDetect .a 1024 ⟨[0, 0, 0, 0, 0, 0, 0, 0], 5⟩).wf = false := by decide
theorem test_wf_preamble_symbols : (Instr.preambleDetect .a 0 ⟨[0], 5⟩).wf = false := by decide
theorem test_wf_belay_length : (Instr.belayPacketEnd .a (List.replicate 77 0)).wf = false := by simp only [Instr.wf, List.length_replicate]; decide
theorem test_wf_batch : (Instr.thkBatch 0 (List.replicate 1048576 none)).wf = false := by simp only [Instr.wf, List.length_replicate]; decide
theorem test_wf_virtual_page : (Instr.pageFillDone 0 0xFFFF []).wf = false := by decide
theorem test_wf_host_data : (Instr.move 0 (.data (List.replicate 16384 0))).wf = false := by simp only [Instr.wf, HostData.wf, List.length_replicate]; decide
theorem test_wf_underrun_length : (Instr.underrun 0 9745).wf = false := by decide
theorem test_wf_failing_bit : (Instr.bistTestDone [(0, 80)] []).wf = false := by decide
theorem test_wf_line_taps : (Instr.adaptationUpdate .a 0 [1]).wf = false := by decide
theorem test_wf_lane_taps : (Instr.laneAdaptationUpdate 0 0 [1]).wf = false := by decide
/-- The least and the greatest address of BAR0 are well formed. -/
theorem test_wf_bounds : (Instr.lowWordRead 0).wf = true ∧ (Instr.lowWordRead 0x3FFFFFF).wf = true ∧ (Instr.psyncHuntMatch .a 13311998).wf = true := by decide

-- Words and figures that the spec works out.

/-- Table 13-11. -/
theorem test_word_pnext : decodeEng 0xA8200000 = some (Ins.mk .pnext 1 0 0 0 0) := by decide +kernel
theorem test_word_bne : (decodeEng 0x44010005).map (fun i => (i.op, i.rs1, i.rs2, i.imm)) = some (.bne, 1, 0, 5) := by decide +kernel
theorem test_word_addi : (decodeEng 0x08400032).map (fun i => (i.op, i.rd, i.rs1, i.imm)) = some (.addi, 2, 0, 50) := by decide +kernel
theorem test_word_phead : (decodeEng 0xA8220002).map (fun i => (i.op, i.rd, i.rs1)) = some (.phead, 1, 2) := by decide +kernel
theorem test_word_precirc : (decodeEng 0xA8200005).map (fun i => (i.op, i.rd)) = some (.precirc, 1) := by decide +kernel
theorem test_word_jal : (decodeEng 0x381FFFFB).map (fun i => (i.op, i.rd, i.imm)) = some (.jal, 0, -5) := by decide +kernel
theorem test_word_end : (decodeEng 0xA4000001).map (·.op) = some .end_ := by decide +kernel
theorem test_word_tlkp : (decodeEng 0xAC8A5805).map (fun i => (i.op, i.rd, i.rs1, i.rs2, i.func)) = some (.tlkp, 4, 10, 11, 5) := by decide +kernel
/-- 06, DS at the default threshold: 532,152,320. -/
theorem test_ds_threshold : (wst []).dev.dsThreshold = 532152320 := by decide +kernel
/-- Table 11-3: COMMIT at 5,012.0000934 s with a lead of 50 µs starts 12,000,250,000 ns after BASE. -/
theorem test_gate_start : gclStartFrom (5000 * 1000000000) 250000 (5012000093400 + 50000) = 5012000250000 := by decide
/-- Table 11-2: frame B finds −2,250 tokens and is dropped, frame C finds 250 and passes. -/
def police812 (tokens : Int) : Dev :=
  (wst []).dev.setPolicer 812 { rate := 1000000, burst := 3000, monitor := false, bucket := { tokens := tokens * byteUnits, last := (wst []).dev.tmb.run }, out := 0 }
theorem test_policer_drops : ((police812 (-2250)).police 812 64).2 = false := by decide +kernel
theorem test_policer_passes : ((police812 250).police 812 1500).2 = true := by decide +kernel
/-- 21: bit 37 alone in error has R = 0x10 and C = 0x20, and is found. -/
theorem test_syndrome : rowSyn (2 ^ 37) = 0x10 ∧ colSyn (2 ^ 37) = 0x20 ∧ synClass 0x10 0x20 = .data 37 := by decide +kernel
/-- Table 12-3: INCR 0x1_33B1_2F96 lies in the range that a write accepts. -/
theorem test_incr : (doIncrWrite 0x33B12F96 { (wst []).dev with heldHigh := [(R.TMB_INCR_HI, 1)] }).incr = 0x133B12F96 := by decide +kernel
/-- RFC 4493, which R179 cites: the CMAC of the empty message. -/
theorem test_cmac_empty : aesCmac [0x2b, 0x7e, 0x15, 0x16, 0x28, 0xae, 0xd2, 0xa6, 0xab, 0xf7, 0x15, 0x88, 0x09, 0xcf, 0x4f, 0x3c] [] =
    [0xbb, 0x1d, 0x69, 0x29, 0xe9, 0x59, 0x37, 0x28, 0x7f, 0xa3, 0x7d, 0x12, 0x9b, 0x75, 0x67, 0x46] := by decide +kernel
/-- SHA-384 (R27), the worked example of FIPS 180-4: the first bytes of the digest of "abc". -/
theorem test_sha384_abc : (sha384 [0x61, 0x62, 0x63]).take 8 = [0xcb, 0x00, 0x75, 0x3f, 0x45, 0xa3, 0x5e, 0x8b] := by decide +kernel
/-- Table 17-3: a PAUSE while a frame is in progress waits for its end. -/
theorem test_pause_waits :
    ((((wst []).dev.setLaunching 4 (some (default, 0))).pauseRx 3 1000).macP 3).pauseWait = some 1000 := by decide +kernel

-- What the checks of a witness rest on.

theorem no_errs {s : Dev} (h : s.mem.errs = []) (hp : s.mem.pitons = []) (k : Nat) : s.errsOf k = 0 := by
  have hq : ∀ i q, s.piton i q = default := fun i q => by unfold Dev.piton; rw [hp]; rfl
  have ha : s.anchor k = none := by unfold Dev.anchor; simp only [hq]; rfl
  unfold Dev.errsOf
  rw [ha, h]
  rfl
theorem not_missing {s : Dev} {t : Nat} {key : List Byte} (h : s.mem.errs = []) (hp : s.mem.pitons = [])
    (hc : ([(s.buckets t key).1, (s.buckets t key).2].all fun x => s.thk.cached.contains x && !s.thk.heldBanks.contains (x % 16)) = true) :
    s.missing t key = [] := by
  have hb : ∀ k, s.wordBad k = false := fun k => by
    unfold Dev.wordBad
    rw [no_errs h hp]
    decide
  unfold Dev.missing
  split
  · rfl
  · refine List.filter_eq_nil_iff.mpr fun x hx => ?_
    have := List.all_eq_true.mp hc x hx
    have hn : (Config.bucketWords x).any s.wordBad = false := List.any_eq_false.mpr fun k _ => by simp [hb k]
    simp_all
theorem inst_up {s : Dev} (h : ∀ d : Fin 43, s.isUp d = true) (i : Nat) : s.instUp i = true := by
  unfold Dev.instUp
  split
  · exact h _
  · rfl
theorem no_id {s : Dev} (hdb : s.rop.db = (List.range 1024).map fun i => Lsr.mk i 0x99 9 0 100 0 []) (hs : 0x99 < s.serial) :
    s.chooseId 0 = none := by
  have h : ∀ id, id < 1024 → s.idTaken id = true := fun id hid => by
    simp only [Dev.idTaken, hdb, List.any_map, List.any_eq_true, List.mem_range]
    exact ⟨id, hid, by simp [hs]⟩
  have h1 : (List.range (256 - 0)).find? (fun k => !s.idTaken (ropHash s.serial (0 + k))) = none :=
    List.find?_eq_none.mpr fun k _ => by rw [h (ropHash s.serial (0 + k)) (Nat.mod_lt _ (by decide))]; decide
  have h2 : ((List.range 1024).map fun k => (ropHash s.serial 255 + k) % 1024).find? (fun id => !s.idTaken id) = none :=
    List.find?_eq_none.mpr fun id hid => by
      obtain ⟨k, _, rfl⟩ := List.mem_map.mp hid
      rw [h _ (Nat.mod_lt _ (by decide))]; decide
  simp only [Dev.chooseId, h1, h2, Option.map_none]
theorem no_fit {x : Cluster} {n p : Nat} (h : x.allocs.any (fun l => decide (l.page ≤ 0x10000) && decide (0xFFFFF ≤ l.page + l.pages)) = true) (hn : 0 < n) :
    x.fits p n = false := by
  obtain ⟨l, hl, hd⟩ := List.any_eq_true.mp h
  simp only [Bool.and_eq_true, decide_eq_true_eq] at hd
  cases hf : x.fits p n
  · rfl
  · simp only [Cluster.fits, Bool.and_eq_true, Bool.or_eq_true, decide_eq_true_eq, List.all_eq_true] at hf
    have := hf.2 l hl
    omega
theorem tail_slice {x y : List Byte} {n k : Nat} (hx : x.length = n) (hy : y.length = k) : slice (x ++ y) n k = y := by
  subst hx hy
  simp [slice]
theorem head_slice {x y : List Byte} {o k : Nat} (h : o + k ≤ x.length) : slice (x ++ y) o k = slice x o k := by
  simp only [slice, List.drop_append, List.take_append, List.length_append, List.length_take, List.length_drop]
  have h1 : k - (x.length - o) = 0 := by omega
  simp [h1]
theorem padTo_length (k : Nat) (y : List Byte) : (padTo k y).length = k := by
  simp only [padTo, slice, List.length_append, List.length_take, List.length_drop, List.length_replicate]
  omega
theorem opened {s : Dev} {a : Nat} (h : (s.addrUp a && s.get R.PWR_LINGER_US == 0 && decide (s.heldWrites < 64)) = true) : s.open_ a := by
  simp only [Bool.and_eq_true, beq_iff_eq, decide_eq_true_eq] at h
  exact ⟨h.1.1, .inr h.1.2, h.2⟩
theorem fetching {s : Dev} {e : Fin 512} {i : Ins}
    (h : (s.eng e).st = .running ∧ s.isUp (e.val / 16) = true ∧ (s.eng e).held = none ∧ s.errsOf (Config.codeWord (e.val / 16) (8 * ((s.eng e).pc / 8))) = 0 ∧
      decodeEng (ofLe (sbytes (s.cluster (e.val / 16)).iram (s.eng e).pc 4)) = some i ∧ i.touches.any (s.eng e).pendingRegs.contains = false) :
    s.Fetches e i :=
  let ⟨running, up, merged, clean, word, free⟩ := h
  { running, up, merged, clean, word, free }
theorem reaching {s : Dev} {e : Fin 512} {a n : Nat}
    (h : s.unmapped (e.val / 16) (.engine e) a n = none ∧ s.uncached (e.val / 16) a n = [] ∧
      ∀ b ∈ wordsOf a n, s.errsOf (wordKey (e.val / 16) (.engine e) b) = 0) : s.Reaches e a n :=
  let ⟨mapped, cached, clean⟩ := h
  { mapped, cached, clean }
theorem dmaReaching {s : Dev} {c d n : Nat}
    (h : s.isUp c = true ∧ s.unmapped c .dma d n = none ∧ s.uncached c d n = [] ∧ ∀ b ∈ wordsOf d n, s.errsOf (wordKey c .dma b) = 0) :
    s.DmaReaches c d n :=
  let ⟨up, mapped, cached, clean⟩ := h
  { up, mapped, cached, clean }
theorem executing {s : Dev} {p : Path} {m : HMsg} {rest : List HMsg}
    (h : (s.path p).inbox = m :: rest ∧ typeKnown m.typ = true ∧ lenOk m.typ m.len = true ∧ (m.typ = tHello ∨ seqSub m.seq (s.lastSeq p) = 1) ∧
      m.seq < 2 ^ 32 ∧ ∀ a ∈ m.addrs, (s.addrUp a && s.get R.PWR_LINGER_US == 0 && decide (s.heldWrites < 64)) = true) : s.Executes p m rest :=
  let ⟨queue, known, length, next, range, open_⟩ := h
  { queue, known, length, next, range, awake := fun a ha => opened (open_ a ha) }
theorem hit_below {r : RegRow} {a : Nat} (h : (r.s2 == 0 && decide (r.addr < a) && decide (r.addr + r.s1 * r.n1 ≤ a)) = true) : r.hit a = false := by
  simp only [Bool.and_eq_true, beq_iff_eq, decide_eq_true_eq] at h
  obtain ⟨⟨h2, h3⟩, h4⟩ := h
  unfold RegRow.hit
  rw [if_neg (by omega)]
  simp only [h2, ite_true]
  by_cases hs : r.s1 = 0
  · have : a - r.addr ≠ 0 := by omega
    simp [hs, this]
  · have : ¬ (a - r.addr) / r.s1 < r.n1 := by
      rw [Nat.div_lt_iff_lt_mul (by omega), Nat.mul_comm]
      omega
    simp [hs, this]
def qrow : RegRow := ⟨0xb10000, 0x10, 8192, 0, 1, .pitch, false, 0, 0, 0xffff0f00, 0, 0, .none, 0, [(8, 4, [(0, 12)])]⟩
theorem regs_split : regsSch = regsSch.take 24 ++ qrow :: regsSch.drop 25 := by decide +kernel
theorem queue_reset {q : Nat} (h : q < 8192) : regReset (R.SCH_Qn_CFG_EGRESS q).reg = 0 := by
  have h1 : (R.SCH_Qn_CFG_EGRESS q).reg / 2 ^ 20 = 11 := by simp only [R.SCH_Qn_CFG_EGRESS]; omega
  have hb : 0xb10000 ≤ (R.SCH_Qn_CFG_EGRESS q).reg := Nat.le_add_right ..
  have hq : qrow.hit (R.SCH_Qn_CFG_EGRESS q).reg = true := by
    simp only [RegRow.hit, qrow, R.SCH_Qn_CFG_EGRESS]
    rw [if_neg (by omega)]
    simp
    omega
  have hr : regRow (R.SCH_Qn_CFG_EGRESS q).reg = some qrow := by
    unfold regRow
    rw [h1, show regTable 11 = regsSch from rfl, regs_split, List.find?_append, List.find?_eq_none.mpr, Option.none_or, List.find?_cons, hq]
    intro r hr
    have := List.all_eq_true.mp (by decide +kernel : ((regsSch.take 24).all fun r => r.s2 == 0 && decide (r.addr < 0xb10000) && decide (r.addr + r.s1 * r.n1 ≤ 0xb10000)) = true) r hr
    simp only [Bool.and_eq_true, beq_iff_eq, decide_eq_true_eq] at this
    rw [hit_below]
    · decide
    · obtain ⟨⟨h2, h3⟩, h4⟩ := this
      simp [h2, Nat.lt_of_lt_of_le h3 hb, Nat.le_trans h4 hb]
  unfold regReset
  rw [hr]
  rfl
theorem sget_outside {d : Word} {k : Nat} {l : List (Nat × Word)} (h : ∀ x ∈ l, x.1 ≠ k) : sget d k l = d := by
  induction l with
  | nil => rfl
  | cons x t ih => simp only [sget]; rw [if_neg (h x (.head _)), ih fun y hy => h y (.tail _ hy)]
theorem no_queue {s : Dev} {p j : Nat} (h : (s.regs.all fun x => decide (x.1 < 0xb10000) || decide (0xb30000 ≤ x.1)) = true) : s.ropeQueue p j = none := by
  have : s.queuesOf (9 + p) = [] := by
    refine List.filter_eq_nil_iff.mpr fun q hq => ?_
    have hq := List.mem_range.mp hq
    have hk : s.rd (R.SCH_Qn_CFG_EGRESS q).reg = 0 := by
      unfold Dev.rd
      rw [sget_outside, queue_reset hq]
      intro x hx
      have := List.all_eq_true.mp h x hx
      simp only [Bool.or_eq_true, decide_eq_true_eq] at this
      simp only [R.SCH_Qn_CFG_EGRESS]
      omega
    unfold Dev.get
    rw [hk]
    simp [bits]
    omega
  simp [Dev.ropeQueue, this]
theorem lane_only {p l : Nat} (h : ((List.range 256).filter fun x => popcount 64 (p ^^^ markerPayload x) == 0) = [l]) : markerLane p = some l := by
  have hr : List.range 4 = [0, 1, 2, 3] := rfl
  simp only [markerLane, hr, List.findSome?_cons, h]
  simp [Nat.mod_one]
theorem marked {s : Dev} {i l : Nat} {p : BitVec 64} (h : ¬ s.laneUse i < 2)
    (hl : ((List.range 256).filter fun x => popcount 64 (p.toNat ^^^ markerPayload x) == 0) = [l]) : s.markerOf i false (.block p) = some l := by
  simp [Dev.markerOf, h, lane_only hl]
theorem markedInv {s : Dev} {i l : Nat} {p : BitVec 64} (h : ¬ s.laneUse i < 2)
    (hl : ((List.range 256).filter fun x => popcount 64 ((~~~p).toNat ^^^ markerPayload x) == 0) = [l]) : s.markerOf i true (.block p) = some l := by
  have := lane_only hl
  simp_all [Dev.markerOf]
theorem atStandby {s : Dev} (h : s.mirrorPath = true ∧ s.mirrorAt.is R.TWN_CFG_EN = true ∧ s.mirrorAt.sup.mode.traffic = true ∧
    s.mirrorAt.role = .standby ∧ s.mirrorAt.is R.TWN_STATUS_PAIRED = true) : s.MirrorAtStandby :=
  let ⟨path, enabled, traffic, standby, paired⟩ := h
  { path, enabled, traffic, standby, paired }
theorem mirrored {s : Dev} {n : Nat} (h : (s.mirrorPath = true ∧ s.mirrorAt.is R.TWN_CFG_EN = true ∧ s.mirrorAt.sup.mode.traffic = true ∧
    s.mirrorAt.role = .standby ∧ s.mirrorAt.is R.TWN_STATUS_PAIRED = true) ∧ s.mirrorAt.mirrorState = mSynced ∧ s.mirrorAt.twn.bulk = none ∧
    n = seqNext s.mirrorAt.twn.ack) : s.MirrorInOrder n :=
  let ⟨at_, synced, bulk, next⟩ := h
  { at_ := atStandby at_, synced, bulk, next }
theorem plain {s : Dev} {e : Nat} {f : QFrame} (h : f.cipher = 0 ∧ f.tsMode = 0 ∧ s.mem.errs = [] ∧ s.mem.pitons = [] ∧
    (decide (e < 1) || decide (8 < e) || decide (f.bytes.length + 4 ≤ s.get (R.MAC_En_CFG_MAX_FRAME (e - 1)))) = true) : s.Plain e f :=
  let ⟨cipher, stamp, errs, pitons, fits⟩ := h
  { cipher, stamp, clean := fun k _ => no_errs errs pitons k, size := fun h1 h2 => by
      simp only [Bool.or_eq_true, decide_eq_true_eq] at fits
      omega }
theorem ropeGood {s : Dev} {n : Fin 8} {b : List Byte}
    (h : s.ropReceives n = true ∧ 20 ≤ b.length ∧ hdrBits b 124 4 = 1 ∧ hdrKind b < 8 ∧ hec (b.take 14) = beAt b 14 2 ∧
      b.drop (b.length - 4) = fcs (b.take (b.length - 4))) : s.RopeGood n b :=
  let ⟨receives, length, version, kind, header, frame⟩ := h
  { receives, length, version, kind, header, frame }
theorem standing {s : Dev} {u : Fin 8} {k : Nat} {host : HostData} {i : DOp} (w : Nat)
    (h : s.runner u = some k ∧ s.is (R.DMA_u_CHk_CFG_MODE u k) = true ∧ ((s.chan u k).move.all fun m => decide (m.len ≤ m.done)) = true ∧
      (s.progAddr u k ((s.moveEnd u k).chPc u k)).1 ≠ 1 ∧
      ((s.moveEnd u k).progFetch u k ((s.moveEnd u k).chPc u k) ((s.moveEnd u k).chPc u k) host).2 = some w ∧ decodeDma w = some i) :
    s.Executing ((s.moveEnd u k).progFetch u k ((s.moveEnd u k).chPc u k) ((s.moveEnd u k).chPc u k) host).1 u k host i :=
  let ⟨running, program, done, inCluster, word, op⟩ := h
  { running, program, issued := fun m hm => by simpa [hm] using done, awake := fun _ _ hc => absurd hc inCluster
    fetched := ⟨w, Prod.ext rfl word, op⟩ }

-- The witnesses.

theorem witness_StepRunsFront : ∃ (s : State) (c : Instr) (rest : List Instr), s.pending = c :: rest :=
  ⟨{ State.reset with pending := [.hailTimer 0] }, .hailTimer 0, [], rfl⟩
theorem witness_IdleIsATick : ∃ (s : State), s.pending = [] :=
  ⟨(wst []), by decide +kernel⟩
theorem witness_EveryCommandAnswers : ∃ c : Instr, (∀ k, c ≠ .advanceEpoch k) ∧ (∀ n k, c ≠ .revokeKey n k) ∧ (∀ a v, c ≠ .registerWrite a v) ∧
    (∀ a v, c ≠ .highWordWrite a v) ∧ (∀ p, c ≠ .regWrite p) ∧ (∀ n, c ≠ .domainReady n) :=
  ⟨.hailTimer 0, nofun, nofun, nofun, nofun, nofun, nofun⟩
theorem witness_ResetHoldsCommands : ∃ (c : Instr) (s : State), s.dev.sup.inReset ≠ none ∧
    c ≠ .powerApplied ∧ c ≠ .bootDone ∧ c ≠ .resetRelease ∧ c ≠ .rstNLow ∧ (∀ r, c ≠ .brownout r) ∧ c ≠ .watchdogPlatform ∧
    c ≠ .supervisorStopped ∧ c ≠ .acFail ∧ c ≠ .acRestored ∧ (∀ p f, c ≠ .gpioWakeEdge p f) ∧ (∀ l, c ≠ .arbInVerdict l) :=
  ⟨.hailTimer 0, wst [fun d => { d with sup := { d.sup with inReset := some .hard } }], by decide +kernel,
    nofun, nofun, nofun, nofun, nofun, nofun, nofun, nofun, nofun, nofun, nofun⟩
theorem witness_FusesOnlyBurn : ∃ s t : State, step s = .next t := ⟨State.reset, _, rfl⟩
theorem witness_ResetState : ∃ a, a ∉ [R.PLT_SUPPLY, R.HIF_D2H_NEXT_SEQ, R.HIF_BOOT_COUNT, R.MOD_TRANSITIONS, R.MOD_IRQ] := ⟨0, by decide⟩
theorem witness_RegisterReads :
    (∃ (s : State) (a : Nat) (r : RegRow), s.runs ∧ regRow a = some r ∧ a % 4 = 0 ∧ a < 0x1700000 ∧ s.dev.open_ a ∧ s.dev.heldWrites = 0 ∧
      a ∉ latching ∧ r.part = .lo) ∧
    (∃ (s : State) (a : Nat) (r : RegRow) (v : Word), s.runs ∧ regRow a = some r ∧ a % 4 = 0 ∧ a < 0x1700000 ∧ s.dev.open_ a ∧ s.dev.heldWrites = 0 ∧
      a ∉ latching ∧ r.part = .hi ∧ s.dev.shadow a = some v) ∧
    (∃ (s : State) (a : Nat) (r : RegRow), s.runs ∧ regRow a = some r ∧ a % 4 = 0 ∧ a < 0x1700000 ∧ s.dev.open_ a ∧ s.dev.heldWrites = 0 ∧
      a ∉ latching ∧ r.part = .hi ∧ s.dev.shadow a = none) ∧
    (∃ (s : State) (a : Nat) (r : RegRow), s.runs ∧ regRow a = some r ∧ a % 4 = 0 ∧ a < 0x1700000 ∧ s.dev.open_ a ∧ s.dev.heldWrites = 0 ∧
      a ∉ latching ∧ r.part = .none ∧ s.dev.measuredBits a = 0) ∧
    (∃ (s : State) (a : Nat) (r : RegRow) (o : _), s.runs ∧ regRow a = some r ∧ a % 4 = 0 ∧ a < 0x1700000 ∧ s.dev.open_ a ∧ s.dev.heldWrites = 0 ∧
      a ∉ latching ∧ r.part = .none ∧ s.dev.measuredBits a = 0 ∧ 1 ≤ o ∧ o ≤ 3 ∧ s.dev.open_ (a + o)) :=
  ⟨⟨(wst [fun d => { d with hif := { d.hif with waiting := [] } }]), R.HIF_SNAP_BASE_LO, (regRow R.HIF_SNAP_BASE_LO).get (by decide +kernel), rfl,
    by decide +kernel, by decide +kernel, by decide +kernel, opened (by decide +kernel), by decide +kernel⟩,
   ⟨(wst [fun d => { d with hif := { d.hif with waiting := [] } }, fun d => { d with shadows := [(R.HIF_SNAP_BASE_LO + 4, 7)] }]),
     (R.HIF_SNAP_BASE_LO + 4), (regRow (R.HIF_SNAP_BASE_LO + 4)).get (by decide +kernel), (7 : Word), rfl, by decide +kernel, by decide +kernel,
     by decide +kernel, opened (by decide +kernel), by decide +kernel⟩,
   ⟨(wst [fun d => { d with hif := { d.hif with waiting := [] } }]), (R.HIF_SNAP_BASE_LO + 4),
     (regRow (R.HIF_SNAP_BASE_LO + 4)).get (by decide +kernel), rfl, by decide +kernel, by decide +kernel, by decide +kernel,
     opened (by decide +kernel), by decide +kernel⟩,
   ⟨(wst [fun d => { d with hif := { d.hif with waiting := [] } }, fun d => d.wr (R.TRB_n_DS_FRAMES_MISSING 1).reg 0x12345]),
     (R.TRB_n_DS_FRAMES_MISSING 1).reg, (regRow (R.TRB_n_DS_FRAMES_MISSING 1).reg).get (by decide +kernel), rfl, by decide +kernel,
     by decide +kernel, by decide +kernel, opened (by decide +kernel), by decide +kernel⟩,
   ⟨(wst [fun d => { d with hif := { d.hif with waiting := [] } }, fun d => d.wr (R.TRB_n_DS_FRAMES_MISSING 1).reg 0x12345]),
     (R.TRB_n_DS_FRAMES_MISSING 1).reg, (regRow (R.TRB_n_DS_FRAMES_MISSING 1).reg).get (by decide +kernel), 1, rfl, by decide +kernel,
     by decide +kernel, by decide +kernel, opened (by decide +kernel), by decide +kernel, by decide +kernel, by decide +kernel, by decide +kernel,
     by decide +kernel, by decide +kernel, opened (by decide +kernel)⟩⟩
theorem witness_ReadsThatWait :
    (∃ (s : State) (a : _), s.runs ∧ s.dev.mapped (a / 4 * 4) = false) ∧
    (∃ (s : State) (a : _) (x : _), s.runs ∧ s.dev.mapped (a / 4 * 4) = true ∧ domOf a = some x ∧ (s.dev.dom x ∈ [.waking, .stopping, .retain,
      .off] ∨ s.dev.heldWrites ≠ 0)) ∧
    (∃ (s : State) (a : _) (due : _) (rest : _), s.runs ∧ firstRead s.dev.hif.waiting = some ((a, due), rest)) :=
  ⟨⟨(wst []), 0x1900000, rfl, by decide +kernel⟩,
   ⟨(wst [fun d => d.setDom domThk .waking]), R.THK_OP, domThk, rfl, by decide +kernel⟩,
   ⟨(wst [fun d => { d with hif := { d.hif with waiting := [.read R.THK_OP 50, .write 4 5] } }]), R.THK_OP, 50, ([HostAcc.write 4 5]), rfl,
     by decide +kernel⟩⟩
theorem witness_RegisterWrites :
    (∃ (s : State) (a : Nat) (r : RegRow), s.runs ∧ regRow a = some r ∧ a % 4 = 0 ∧ ((a ∈ plainRegs ∨ a / 2 ^ 20 = 9)) ∧ s.dev.open_ a ∧
      r.part = .none ∧ r.w1c = 0) ∧
    (∃ (s : State) (a : Nat) (r : RegRow), s.runs ∧ regRow a = some r ∧ a % 4 = 0 ∧ ((a ∈ plainRegs ∨ a / 2 ^ 20 = 9)) ∧ s.dev.open_ a ∧
      r.part = .none ∧ r.rw = 0) ∧
    (∃ (s : State) (a : Nat) (r : RegRow), s.runs ∧ regRow a = some r ∧ a % 4 = 0 ∧ ((a ∈ plainRegs ∨ a / 2 ^ 20 = 9)) ∧ s.dev.open_ a ∧
      r.part = .hi ∧ r.rw ≠ 0) ∧
    (∃ (s : State) (a : Nat) (r : RegRow) (q : _), s.runs ∧ regRow a = some r ∧ a % 4 = 0 ∧ ((a ∈ plainRegs ∨ a / 2 ^ 20 = 9)) ∧ s.dev.open_ a ∧
      r.part = .lo ∧ r.rw ≠ 0 ∧ regRow (a + r.pairOff) = some q ∧ r.pairOff ≠ 0) ∧
    (∃ (s : State) (a : _), s.runs ∧ s.dev.mapped (a / 4 * 4) = true) ∧
    (∃ (s : State) (a : _), s.runs ∧ s.dev.mapped (a / 4 * 4) = false) ∧
    (∃ (s : State) (a : _) (x : _), s.runs ∧ s.dev.mapped a = true ∧ domOf a = some x ∧ s.dev.dom x ∈ [.waking, .stopping, .retain, .off]) :=
  ⟨⟨(wst []), R.HIF_ERR_EN, (regRow R.HIF_ERR_EN).get (by decide +kernel), rfl, by decide +kernel, by decide +kernel, by decide +kernel,
    opened (by decide +kernel), by decide +kernel⟩,
   ⟨(wst [fun d => d.wr R.HIF_ERR 3]), R.HIF_ERR, (regRow R.HIF_ERR).get (by decide +kernel), rfl, by decide +kernel, by decide +kernel,
     by decide +kernel, opened (by decide +kernel), by decide +kernel⟩,
   ⟨(wst []), (R.HIF_SNAP_BASE_LO + 4), (regRow (R.HIF_SNAP_BASE_LO + 4)).get (by decide +kernel), rfl, by decide +kernel, by decide +kernel,
     by decide +kernel, opened (by decide +kernel), by decide +kernel⟩,
   ⟨(wst []), R.HIF_SNAP_BASE_LO, (regRow R.HIF_SNAP_BASE_LO).get (by decide +kernel), (regRow (R.HIF_SNAP_BASE_LO + 4)).get (by decide +kernel),
     rfl, by decide +kernel, by decide +kernel, by decide +kernel, opened (by decide +kernel), by decide +kernel⟩,
   ⟨(wst []), (R.HIF_ERR + 2), rfl, by decide +kernel⟩,
   ⟨(wst []), 0x1900000, rfl, by decide +kernel⟩,
   ⟨(wst [fun d => d.setDom domThk .waking]), R.THK_OP, domThk, rfl, by decide +kernel⟩⟩
theorem witness_HostRings :
    (∃ (s : State), s.runs) ∧
    (∃ (s : State) (v : Word), s.runs ∧ v.toNat % 4096 < s.dev.h2dSize ∧ s.dev.is R.HIF_CTL_H2D_EN = true) ∧
    (∃ (s : State) (v : Word), s.runs ∧ v.toNat % 4096 < s.dev.h2dSize ∧ s.dev.is R.HIF_CTL_H2D_EN = false) ∧
    (∃ (s : State) (v : Word), s.runs ∧ s.dev.h2dSize ≤ v.toNat % 4096) ∧
    (∃ (s : State), s.runs ∧ s.dev.is R.HIF_CTL_H2D_EN = true ∧ s.dev.get R.HIF_H2D_HEAD_INDEX < s.dev.h2dSize ∧
      s.dev.get R.HIF_H2D_TAIL_INDEX < s.dev.h2dSize ∧ s.dev.get R.HIF_H2D_HEAD_INDEX ≠ s.dev.get R.HIF_H2D_TAIL_INDEX) ∧
    (∃ (s : State) (v : Word), let n := v.toNat % 4096; let h := s.dev.get R.HIF_D2H_HEAD_INDEX; s.runs ∧ n < s.dev.d2hSize ∧
      (n + s.dev.d2hSize - h) % s.dev.d2hSize ≤ (s.dev.get R.HIF_D2H_TAIL_INDEX + s.dev.d2hSize - h) % s.dev.d2hSize) ∧
    (∃ (s : State) (v : Word), let n := v.toNat % 4096; let h := s.dev.get R.HIF_D2H_HEAD_INDEX; s.runs ∧ ¬(n < s.dev.d2hSize ∧
      (n + s.dev.d2hSize - h) % s.dev.d2hSize ≤ (s.dev.get R.HIF_D2H_TAIL_INDEX + s.dev.d2hSize - h) % s.dev.d2hSize)) ∧
    (∃ (s : State) (m : _), s.runs ∧ s.dev.is R.HIF_CTL_D2H_EN = true ∧ s.dev.hif.pcie.replay = none ∧ s.dev.hif.pcie.next ≠ s.dev.nextSeq ∧
      s.dev.journalAt s.dev.hif.pcie.next = some m ∧ (s.dev.hif.pcie.next + 1) % 2 ^ 32 = s.dev.nextSeq ∧ s.dev.ringFull = false) ∧
    (∃ (s : State) (m : _), s.runs ∧ s.dev.is R.HIF_CTL_D2H_EN = true ∧ s.dev.hif.pcie.replay = none ∧ s.dev.hif.pcie.next ≠ s.dev.nextSeq ∧
      s.dev.journalAt s.dev.hif.pcie.next = some m ∧ s.dev.ringFull = true) ∧
    (∃ (s : State), s.runs ∧ s.dev.is R.HIF_CTL_D2H_EN = true ∧ s.dev.hif.pcie.replay = none ∧ s.dev.hif.pcie.next ≠ s.dev.nextSeq ∧
      s.dev.journalAt s.dev.hif.pcie.next = none ∧ s.dev.ringFull = true) ∧
    (∃ (s : State), s.runs ∧ s.dev.is R.HIF_CTL_D2H_EN = false) ∧
    (∃ (s : State), s.runs ∧ s.dev.get R.HIF_D2H_COAL_TIME ≠ 0 ∧ s.dev.hif.unsignalled ≠ 0) :=
  ⟨⟨(wst []), rfl⟩,
   ⟨(wst [fld R.HIF_CTL_H2D_EN 1]), (0 : Word), rfl, by decide +kernel⟩,
   ⟨(wst [fld R.HIF_CTL_H2D_EN 0]), 2, rfl, by decide +kernel⟩,
   ⟨(wst [fld R.HIF_H2D_SIZE_LOG2 8]), 4095, rfl, by decide +kernel⟩,
   ⟨(wst [fld R.HIF_CTL_H2D_EN 1, fld R.HIF_H2D_TAIL_INDEX 1]), rfl, by decide +kernel⟩,
   ⟨(wst [fld R.HIF_D2H_TAIL_INDEX 2, fun d => { d with hif := { d.hif with pcie := { d.hif.pcie with next := d.nextSeq } } }]), 1, rfl,
     by decide +kernel⟩,
   ⟨(wst [fld R.HIF_D2H_SIZE_LOG2 8]), 4095, rfl, by decide +kernel⟩,
   ⟨(wst [fld R.HIF_CTL_D2H_EN 1, fun d => { d with hif := { d.hif with pcie := { d.hif.pcie with next := State.reset.dev.nextSeq - 1 } } }]),
     (State.reset.dev.hif.journal.getLast (by decide +kernel)), rfl, by decide +kernel⟩,
   ⟨(wst [fld R.HIF_CTL_D2H_EN 1, fun d => { d with hif := { d.hif with pcie := { d.hif.pcie with next := 0 } } }, fld R.HIF_D2H_TAIL_INDEX 1023,
     fld R.HIF_D2H_SIZE_LOG2 10]), (State.reset.dev.hif.journal.head (by decide +kernel)), rfl, by decide +kernel⟩,
   ⟨(wst [fld R.HIF_CTL_D2H_EN 1, fun d => { d with hif := { d.hif with journal := [DMsg.mk 0 5 none []], pcie := { d.hif.pcie with next := 9 } } },
     fld R.HIF_D2H_TAIL_INDEX 1023, fld R.HIF_D2H_SIZE_LOG2 10]), rfl, by decide +kernel⟩,
   ⟨(wst [fld R.HIF_CTL_D2H_EN 0]), rfl, by decide +kernel⟩,
   ⟨(wst [fld R.HIF_D2H_COAL_TIME 1, fun d => { d with hif := { d.hif with unsignalled := 1 } }]), rfl, by decide +kernel⟩⟩
theorem witness_LineSignals :
    (∃ (s : State) (p : Port) (w : BitVec 16), s.runs ∧ s.dev.is (R.LFE_x_STATUS_LOS p.ix) = false ∧
      signed 16 w.toNat < signed 16 (s.dev.get (R.LFE_x_LOS_CFG_LEVEL p.ix))) ∧
    (∃ (s : State) (p : Port) (w : BitVec 16), s.runs ∧ s.dev.is (R.LFE_x_STATUS_LOS p.ix) = true ∧
      signed 16 (s.dev.get (R.LFE_x_LOS_CFG_LEVEL p.ix)) + s.dev.get (R.LFE_x_LOS_CFG_HYST p.ix) < signed 16 w.toNat) ∧
    (∃ (s : State) (p : Port), s.runs ∧ s.dev.powered p = true ∧ s.dev.get (R.LFE_x_STATUS_ROLE p.ix) ≠ 0 ∧
      s.dev.is (R.LFE_x_STATUS_CAL_BUSY p.ix) = false) ∧
    (∃ (s : State) (p : Port), s.runs ∧ s.dev.powered p = true ∧ s.dev.is (R.LFE_x_STATUS_READY p.ix) = true ∧
      s.dev.is (R.LFE_x_STATUS_LOS p.ix) = false ∧ s.dev.is (R.LFE_x_STATUS_CAL_BUSY p.ix) = false) ∧
    (∃ (s : State) (p : Port) (w : BitVec 16), s.runs ∧ s.dev.is (R.LFE_x_STATUS_OVERLOAD p.ix) = false ∧ -50 < signed 16 w.toNat) ∧
    (∃ (s : State) (w : BitVec 16), s.runs ∧ signed 16 w.toNat < -60) :=
  ⟨⟨(wst [fld (R.LFE_x_STATUS_LOS Port.a.ix) 0]), Port.a, (0xF000 : BitVec 16), rfl, by decide +kernel⟩,
   ⟨(wst [fld (R.LFE_x_STATUS_LOS Port.a.ix) 1]), Port.a, (0x0100 : BitVec 16), rfl, by decide +kernel⟩,
   ⟨(wst [fld (R.LFE_x_STATUS_ROLE Port.a.ix) 1, fld (R.LFE_x_STATUS_CAL_BUSY Port.a.ix) 0]), Port.a, rfl, by decide +kernel⟩,
   ⟨(wst [fld (R.LFE_x_STATUS_READY Port.a.ix) 1, fld (R.LFE_x_STATUS_LOS Port.a.ix) 0, fld (R.LFE_x_STATUS_CAL_BUSY Port.a.ix) 0]), Port.a, rfl,
     by decide +kernel⟩,
   ⟨(wst [fld (R.LFE_x_STATUS_OVERLOAD Port.a.ix) 0]), Port.a, (5 : BitVec 16), rfl, by decide +kernel⟩,
   ⟨(wst []), (0xFF00 : BitVec 16), rfl, by decide +kernel⟩⟩
theorem witness_LineCalibration :
    (∃ (s : State) (p : Port), s.runs ∧ s.dev.powered p = true ∧ s.dev.get (R.LFE_x_STATUS_ROLE p.ix) ≠ 0 ∧
      s.dev.is (R.LFE_x_STATUS_READY p.ix) = false) ∧
    (∃ (s : State), s.runs) ∧
    (∃ (s : State) (p : Port), s.runs ∧ s.dev.powered p = true ∧ s.dev.get R.PWR_LINGER_US = 0 ∧ s.dev.heldWrites < 64 ∧
      s.dev.get (R.LFE_x_STATUS_ROLE p.ix) = 1) ∧
    (∃ (s : State) (p : Port), s.runs ∧ s.dev.powered p = true ∧ s.dev.get R.PWR_LINGER_US = 0 ∧ s.dev.heldWrites < 64 ∧
      s.dev.get (R.LFE_x_STATUS_ROLE p.ix) ≠ 1) ∧
    (∃ (s : State) (p : Port), s.runs ∧ s.dev.is (R.LFE_x_STATUS_CAL_BUSY p.ix) = true) ∧
    (∃ (s : State) (p : Port) (since : _), s.runs ∧ s.dev.tecRuns p = true ∧ s.dev.is (R.LFE_x_STATUS_TEC_LOCK p.ix) = false ∧
      s.dev.is (R.LFE_x_STATUS_TEC_FAULT p.ix) = false ∧ (s.dev.lfeP p).tecOpenSince = some since) ∧
    (∃ (s : State) (p : Port), s.runs ∧ s.dev.is (R.LFE_x_STATUS_ROGUE p.ix) = false) ∧
    (∃ (s : State) (p : Port), s.runs ∧ s.dev.powered p = true ∧ s.dev.get R.PWR_LINGER_US = 0 ∧ s.dev.heldWrites < 64) :=
  ⟨⟨(wst [fld (R.LFE_x_STATUS_ROLE Port.a.ix) 1, fld (R.LFE_x_STATUS_READY Port.a.ix) 0]), Port.a, rfl, by decide +kernel⟩,
   ⟨(wst []), rfl⟩,
   ⟨(wst [fld (R.LFE_x_STATUS_ROLE Port.a.ix) 1]), Port.a, rfl, by decide +kernel⟩,
   ⟨(wst [fld (R.LFE_x_STATUS_ROLE Port.a.ix) (1 + 1)]), Port.a, rfl, by decide +kernel⟩,
   ⟨(wst [fld (R.LFE_x_STATUS_CAL_BUSY Port.a.ix) 1]), Port.a, rfl, by decide +kernel⟩,
   ⟨(wst [fld (R.LFE_x_STATUS_TEC_LOCK Port.a.ix) 0, fld (R.LFE_x_STATUS_TEC_FAULT Port.a.ix) 0, svc, fld (R.LFE_x_STATUS_ROLE Port.a.ix) 2,
     fun d => d.setLfeP Port.a { d.lfeP Port.a with tecOpenSince := some 3 }]), Port.a, 3, rfl, by decide +kernel⟩,
   ⟨(wst [fld (R.LFE_x_STATUS_ROGUE Port.a.ix) 0]), Port.a, rfl, by decide +kernel⟩,
   ⟨(wst []), Port.a, rfl, by decide +kernel⟩⟩
theorem witness_LinePortChoice :
    (∃ (s : State) (p : Port), s.runs ∧ s.dev.sourcePort ≠ some p ∧ s.dev.switchable = true ∧ s.dev.lfe.switching = none ∧
      s.dev.is (R.LFE_x_STATUS_READY p.ix) = true) ∧
    (∃ (s : State) (p : Port), s.runs ∧ s.dev.sourcePort ≠ some p ∧
      (s.dev.switchable = false ∨ s.dev.lfe.switching ≠ none ∨ s.dev.is (R.LFE_x_STATUS_READY p.ix) = false)) ∧
    (∃ (s : State) (p : Port) (t1 : _) (t2 : _), s.runs ∧ s.dev.activePort = some p ∧ (s.dev.lfeP p).faultySince = some t1 ∧
      (s.dev.lfeP p.other).clearSince = some t2 ∧ s.dev.get R.LFE_SEL_POLICY = 1 ∧ s.dev.switchable = true ∧ s.dev.lfe.switching = none ∧
      s.dev.is R.LFE_STATUS_HOLD = false) ∧
    (∃ (s : State) (p : Port) (auto : _), s.runs ∧ s.dev.lfe.switching = some (p, auto) ∧ (s.dev.lfeP p.other).sending = false) ∧
    (∃ (s : State), s.runs ∧ s.dev.is R.LFE_STATUS_HOLD = true) ∧
    (∃ (s : State) (p : Port), s.runs ∧ s.dev.get (R.LFE_x_STATUS_ROLE p.ix) ≠ 0 ∧ s.dev.powered p = true ∧
      s.dev.is (R.LFE_x_STATUS_LOL p.ix) = false ∧ s.dev.is (R.LFE_x_CTL_FREEZE p.ix) = false) ∧
    (∃ (s : State) (p : Port), s.runs ∧ s.dev.sup.mode = .test ∧ s.dev.is (R.LFE_x_TEST_PRBS_CHK p.ix) = true) ∧
    (∃ (s : State) (p : Port), s.runs ∧ (s.dev.sup.mode ≠ .test ∨ s.dev.is (R.LFE_x_TEST_PRBS_CHK p.ix) = false)) ∧
    (∃ (s : State) (p : Port), s.runs ∧ s.dev.sourcePort = some p) :=
  ⟨⟨(wst [fun d => { d with lfe := { d.lfe with switching := none } }, fld (R.LFE_x_STATUS_READY Port.a.ix) 1, svc, fld R.LFE_STATUS_ENABLED 3,
    fld R.LFE_STATUS_SOURCE 1]), Port.a, rfl, by decide +kernel⟩,
   ⟨(wst []), Port.a, rfl, by decide +kernel⟩,
   ⟨(wst [fld R.LFE_SEL_POLICY 1, fun d => { d with lfe := { d.lfe with switching := none } }, fld R.LFE_STATUS_HOLD 0, svc,
     fld R.LFE_STATUS_ENABLED 3, fld R.LFE_STATUS_SOURCE 1, fld (R.LFE_x_STATUS_ROLE Port.a.ix) 2,
     fun d => d.setLfeP Port.a { d.lfeP Port.a with faultySince := some 3 },
     fun d => d.setLfeP Port.a.other { d.lfeP Port.a.other with clearSince := some 4 }]), Port.a, 3, 4, rfl, by decide +kernel⟩,
   ⟨(wst [fun d => { d with lfe := { d.lfe with switching := some (Port.a, true) } }, svc, fld R.LFE_STATUS_ENABLED 3, fld R.LFE_STATUS_SOURCE 1]),
     Port.a, true, rfl, by decide +kernel⟩,
   ⟨(wst [fld R.LFE_STATUS_HOLD 1]), rfl, by decide +kernel⟩,
   ⟨(wst [fld (R.LFE_x_STATUS_ROLE Port.a.ix) 1, fld (R.LFE_x_STATUS_LOL Port.a.ix) 0, fld (R.LFE_x_CTL_FREEZE Port.a.ix) 0]), Port.a, rfl,
     by decide +kernel⟩,
   ⟨(wst [fun d => { d with sup := { d.sup with mode := .test } }, fld (R.LFE_x_TEST_PRBS_CHK Port.a.ix) 1]), Port.a, rfl, by decide +kernel⟩,
   ⟨(wst []), Port.a, rfl, by decide +kernel⟩,
   ⟨(wst [fun d => d.set R.LFE_STATUS_SOURCE Port.a.ix]), Port.a, rfl, by decide +kernel⟩⟩
theorem witness_Resets :
    (∃ (s : State), s.dev.sup.running = true) ∧
    (∃ (s : State), s.dev.sup.running = true ∧ s.dev.sup.released = true ∧ s.dev.sup.inReset ≠ some .soft) ∧
    (∃ (s : State) (e : _), s.runs ∧ s.dev.sup.hostWdog = some e) ∧
    (∃ (s : State) (v : Word), s.runs ∧ bits v.toNat 16 16 = 0x534F ∧ s.dev.sup.mode ≠ .bivouac) ∧
    (∃ (s : State) (v : Word), s.runs ∧ bits v.toNat 16 16 = 0x534F ∧ s.dev.sup.mode = .bivouac ∧ s.dev.sup.transit = none) ∧
    (∃ (s : State) (v : Word), s.runs ∧ bits v.toNat 16 16 ≠ 0x534F) ∧
    (∃ (s : State), s.dev.sup.running = false) :=
  ⟨⟨(wst [fun d => { d with sup := { d.sup with running := true } }]), by decide +kernel⟩,
   ⟨(wst [fun d => { d with sup := { d.sup with running := true } }, fun d => { d with sup := { d.sup with released := true } }]), by decide +kernel⟩,
   ⟨(wst [fun d => { d with sup := { d.sup with hostWdog := some 40 } }]), 40, rfl, by decide +kernel⟩,
   ⟨(wst []), 0x534F0000, rfl, by decide +kernel⟩,
   ⟨(wst [fun d => { d with sup := { d.sup with mode := .bivouac } }, fun d => { d with sup := { d.sup with transit := none } }]), 0x534F0000, rfl,
     by decide +kernel⟩,
   ⟨(wst []), (3 : Word), rfl, by decide +kernel⟩,
   ⟨(wst [fun d => { d with sup := { d.sup with running := false } }]), by decide +kernel⟩⟩
theorem witness_ResetEnds :
    (∃ (s : State), s.dev.sup.running = true ∧ s.dev.sup.released = false ∧ s.dev.sup.inReset ≠ none) ∧
    (∃ (s : State) (k : _), s.dev.sup.inReset = some k ∧ s.dev.sup.released = true) ∧
    (∃ (s : State), s.dev.sup.running = true ∧ s.dev.sup.inReset ≠ none ∧ s.dev.sup.released = false ∧ s.dev.is R.PLT_SUPPLY_AC_OK = false ∧
      s.dev.get (R.PLT_SUPPLY_RAIL_OK.at 0) = 0) ∧
    (∃ (s : State), s.dev.sup.running = true ∧ s.dev.is R.PLT_SUPPLY_AC_OK = true) ∧
    (∃ (s : State), s.dev.sup.running = true ∧ s.dev.is R.PLT_SUPPLY_AC_OK = false) ∧
    (∃ (s : State), s.runs) :=
  ⟨⟨(wst [fun d => { d with sup := { d.sup with running := true } }, fun d => { d with sup := { d.sup with released := false } },
    fun d => { d with sup := { d.sup with inReset := some .hard } }]), by decide +kernel⟩,
   ⟨(wst [fun d => { d with sup := { d.sup with inReset := some ResetKind.hard } }, fun d => { d with sup := { d.sup with released := true } }]),
     ResetKind.hard, by decide +kernel⟩,
   ⟨(wst [fun d => { d with sup := { d.sup with running := true } }, fun d => { d with sup := { d.sup with inReset := some .hard } },
     fun d => { d with sup := { d.sup with released := false } }, fld R.PLT_SUPPLY_AC_OK 0, fld (R.PLT_SUPPLY_RAIL_OK.at 0) 0]), by decide +kernel⟩,
   ⟨(wst [fun d => { d with sup := { d.sup with running := true } }, fld R.PLT_SUPPLY_AC_OK 1]), by decide +kernel⟩,
   ⟨(wst [fun d => { d with sup := { d.sup with running := true } }, fld R.PLT_SUPPLY_AC_OK 0]), by decide +kernel⟩,
   ⟨(wst []), rfl⟩⟩
theorem witness_WatchdogAndPace :
    (∃ (s : State) (v : Word), s.runs ∧ bits v.toNat 0 16 = 0x5A5A ∧ s.dev.is R.PLT_WDOG_STATUS_EXPECT = false) ∧
    (∃ (s : State) (v : Word) (e : Nat), s.runs ∧ bits v.toNat 0 16 = 0xA5A5 ∧ s.dev.is R.PLT_WDOG_STATUS_EXPECT = true ∧
      s.dev.sup.hostWdog = some e ∧ s.dev.get R.PLT_WDOG_CFG_HOST_TIMEOUT ≠ 0) ∧
    (∃ (s : State) (v : Word), s.runs ∧ bits v.toNat 0 16 ≠ (if s.dev.is R.PLT_WDOG_STATUS_EXPECT = true then 0xA5A5 else 0x5A5A)) ∧
    (∃ (s : State) (v : Word), s.runs ∧ 100 ≤ bits v.toNat 0 14 ∧ bits v.toNat 0 14 ≤ 10000 ∧ s.dev.sup.mode ≠ .bivouac ∧ s.dev.sup.mode ≠ .test) ∧
    (∃ (s : State) (v : Word), s.runs ∧ bits v.toNat 0 14 = 0) ∧
    (∃ (s : State) (v : Word), s.runs ∧ bits v.toNat 0 14 ≠ 0 ∧ (bits v.toNat 0 14 < 100 ∨ 10000 < bits v.toNat 0 14)) ∧
    (∃ (s : State) (e : _), s.runs ∧ s.dev.sup.hostWdog = some e ∧ s.dev.sup.wdogWarned ≠ some e) ∧
    (∃ (s : State) (r : BitVec 16), s.runs ∧ s.dev.sup.mode ≠ .bivouac ∧ s.dev.get R.MOD_PACE_TARGET_TARGET ≠ 0 ∧
      r.toNat < 2 ^ R.MOD_PACE_STATUS_MEASURED.w) ∧
    (∃ (s : State) (r : BitVec 16), s.runs ∧ s.dev.sup.mode ≠ .bivouac ∧ s.dev.get R.MOD_PACE_TARGET_TARGET = 0 ∧
      r.toNat < 2 ^ R.MOD_PACE_STATUS_MEASURED.w) :=
  ⟨⟨(wst [fld R.PLT_WDOG_STATUS_EXPECT 0]), 0x5A5A, rfl, by decide +kernel⟩,
   ⟨(wst [fld R.PLT_WDOG_STATUS_EXPECT 1, fun d => { d with sup := { d.sup with hostWdog := some 40 } }, fld R.PLT_WDOG_CFG_HOST_TIMEOUT 1]), 0xA5A5,
     40, rfl, by decide +kernel⟩,
   ⟨(wst []), 0xA5A5, rfl, by decide +kernel⟩,
   ⟨(wst []), 100, rfl, by decide +kernel⟩,
   ⟨(wst []), (0 : Word), rfl, by decide +kernel⟩,
   ⟨(wst []), 5, rfl, by decide +kernel⟩,
   ⟨(wst [fun d => { d with sup := { d.sup with hostWdog := some 40 } }]), 40, rfl, by decide +kernel⟩,
   ⟨(wst [fld R.MOD_PACE_TARGET_TARGET 1]), (60 : BitVec 16), rfl, by decide +kernel⟩,
   ⟨(wst [fld R.MOD_PACE_TARGET_TARGET 0]), (5 : BitVec 16), rfl, by decide +kernel⟩⟩
theorem witness_LimitsAndPins :
    (∃ (s : State), s.runs ∧ s.dev.sup.mode ≠ .acquire) ∧
    (∃ (s : State) (v : Word), s.runs ∧ s.dev.sup.mode = .acquire ∧ bits v.toNat 0 16 ≠ 0 ∧
      s.dev.sup.acqSince + bits v.toNat 0 16 * msTicks ≤ s.dev.ticks) ∧
    (∃ (s : State), s.runs ∧ s.dev.sup.mode = .acquire ∧ s.dev.get R.MOD_ACQ_LIMIT_MS ≠ 0 ∧ s.dev.sup.transit = none) ∧
    (∃ (s : State) (pin : Fin 8), s.runs ∧ bit (s.dev.get R.MOD_WAKE_EN_GPIO) pin = false) ∧
    (∃ (s : State) (pin : Fin 8) (falling : Bool), s.runs ∧ bit (s.dev.get R.MOD_WAKE_EN_GPIO) pin = true ∧
      bit (s.dev.get R.MOD_WAKE_EN_EDGE) pin = falling ∧ s.dev.sup.transit = none) :=
  ⟨⟨(wst []), rfl, by decide +kernel⟩,
   ⟨(wst [fun d => { d with sup := { d.sup with mode := .acquire } }, fun d => { d with ticks := 10000000 }]), 5, rfl, by decide +kernel⟩,
   ⟨(wst [fun d => { d with sup := { d.sup with mode := .acquire } }, fld R.MOD_ACQ_LIMIT_MS 1,
     fun d => { d with sup := { d.sup with transit := none } }]), rfl, by decide +kernel⟩,
   ⟨(wst []), (1 : Fin 8), rfl, by decide +kernel⟩,
   ⟨(wst [fun d => { d with sup := { d.sup with transit := none } }, fld R.MOD_WAKE_EN_GPIO 255, fld R.MOD_WAKE_EN_EDGE 255]), (1 : Fin 8), true,
     rfl, by decide +kernel⟩⟩
theorem witness_MessagesRefused :
    (∃ (s : State) (p : Path) (m : HMsg) (rest : List HMsg), s.runs ∧ (s.dev.path p).inbox = m :: rest ∧ m.typ = tReplay ∧ m.seq < 2 ^ 32 ∧
      (seqSub m.seq (s.dev.lastSeq p) = 0 ∨ 2 ^ 31 ≤ seqSub m.seq (s.dev.lastSeq p))) ∧
    (∃ (s : State) (p : Path) (m : HMsg) (rest : List HMsg), s.runs ∧ (s.dev.path p).inbox = m :: rest ∧ m.typ = tReplay ∧ m.seq < 2 ^ 32 ∧
      1 < seqSub m.seq (s.dev.lastSeq p) ∧ seqSub m.seq (s.dev.lastSeq p) < 2 ^ 31) ∧
    (∃ (s : State) (p : Path) (m : HMsg) (rest : List HMsg), s.runs ∧ (s.dev.path p).inbox = m :: rest ∧ m.typ = tReplay ∧ m.seq < 2 ^ 32 ∧
      seqSub m.seq (s.dev.lastSeq p) = 1 ∧ m.len ≠ 6) :=
  ⟨⟨(wst [fun d => d.setPath Path.pcie { d.path Path.pcie with inbox := [(HMsg.mk 0 tReplay 6 (padTo 52 []))] }]), Path.pcie,
    (HMsg.mk 0 tReplay 6 (padTo 52 [])), ([] : List HMsg), rfl, by decide +kernel⟩,
   ⟨(wst [fun d => d.setPath Path.pcie { d.path Path.pcie with inbox := [(HMsg.mk 5 tReplay 6 (padTo 52 []))] }]), Path.pcie,
     (HMsg.mk 5 tReplay 6 (padTo 52 [])), ([] : List HMsg), rfl, by decide +kernel⟩,
   ⟨(wst [fun d => d.setPath Path.pcie { d.path Path.pcie with inbox := [(HMsg.mk 1 tReplay 5 (padTo 52 []))] }]), Path.pcie,
     (HMsg.mk 1 tReplay 5 (padTo 52 [])), ([] : List HMsg), rfl, by decide +kernel⟩⟩
theorem witness_HostMessages :
    (∃ (s : State) (p : Path) (m : HMsg) (rest : List HMsg), s.runs ∧ Dev.Executes s.dev p m rest ∧ m.typ = tHello ∧
      s.dev.is R.MOD_WAKE_EN_HOST = false) ∧
    (∃ (s : State) (p : Path) (m : HMsg) (rest : List HMsg), s.runs ∧ Dev.Executes s.dev p m rest ∧ m.typ = tHello ∧
      s.dev.is R.MOD_WAKE_EN_HOST = true) ∧
    (∃ (s : State) (p : Path) (m : HMsg) (rest : List HMsg), s.runs ∧ Dev.Executes s.dev p m rest ∧ m.typ = tReplay ∧ s.dev.pathBusy p = false ∧
      leAt m.payload 4 2 ≤ 4096 ∧ leAt m.payload 4 2 ≠ 0) ∧
    (∃ (s : State) (p : Path) (m : HMsg) (rest : List HMsg), s.runs ∧ Dev.Executes s.dev p m rest ∧ m.typ = tSnapshot ∧ p = .pcie ∧
      s.dev.pathBusy p = false) ∧
    (∃ (s : State) (p : Path) (m : HMsg) (rest : List HMsg), s.runs ∧ Dev.Executes s.dev p m rest ∧ (m.typ = tSnapshot ∨ m.typ = tReplay) ∧
      s.dev.pathBusy p = true) ∧
    (∃ (s : State) (p : Path) (m : HMsg) (rest : List HMsg), s.runs ∧ Dev.Executes s.dev p m rest ∧ m.typ = tSnapshot ∧ p ≠ .pcie ∧
      s.dev.pathBusy p = false) ∧
    (∃ (s : State) (p : Path) (m : HMsg) (rest : List HMsg), s.runs ∧ Dev.Executes s.dev p m rest ∧ m.typ = tRegRead ∧ leAt m.payload 4 1 ≤ 12) ∧
    (∃ (s : State) (p : Path) (m : HMsg) (rest : List HMsg), s.runs ∧ Dev.Executes s.dev p m rest ∧ m.typ = tRegWrite ∧ s.dev.mayWrite p = true ∧
      ((∀ x, x ∈ m.writes → x.1 ∈ plainRegs))) ∧
    (∃ (s : State) (p : Path) (m : HMsg) (rest : List HMsg) (v : Word), s.runs ∧ Dev.Executes s.dev p m rest ∧ m.typ = tRegWrite ∧
      s.dev.mayWrite p = true ∧ m.writes = [(R.PLT_RESET, v)] ∧ bits v.toNat 16 16 = 0x534F ∧ s.dev.sup.mode ≠ .bivouac) ∧
    (∃ (s : State) (p : Path) (m : HMsg) (rest : List HMsg), s.runs ∧ Dev.Executes s.dev p m rest ∧ m.typ = tRegRead ∧ 12 < leAt m.payload 4 1) ∧
    (∃ (s : State) (p : Path) (m : HMsg) (rest : List HMsg), s.runs ∧ Dev.Executes s.dev p m rest ∧ m.typ = tRegWrite ∧ s.dev.mayWrite p = false) ∧
    (∃ (s : State) (p : Path) (m : HMsg) (rest : List HMsg), s.runs ∧ Dev.Executes s.dev p m rest ∧ m.typ = tImgXfer ∧ m.payload.length = 52 ∧
      s.dev.img.op = none ∧ leAt m.payload 0 4 + (m.len - 4) ≤ 268435456) ∧
    (∃ (s : State) (p : Path) (m : HMsg) (rest : List HMsg) (r : _), s.runs ∧ Dev.Executes s.dev p m rest ∧ m.typ = tModeReq ∧
      reqOf (leAt m.payload 0 1) = some r) :=
  ⟨⟨(wst [fld R.MOD_WAKE_EN_HOST 0, fun d => d.setPath Path.pcie { d.path Path.pcie with inbox := [(HMsg.mk 9 tHello 0 (padTo 52 []))] }]),
    Path.pcie, (HMsg.mk 9 tHello 0 (padTo 52 [])), ([] : List HMsg), rfl, executing (by decide +kernel), by decide +kernel⟩,
   ⟨(wst [fld R.MOD_WAKE_EN_HOST 1, fun d => d.setPath Path.pcie { d.path Path.pcie with inbox := [(HMsg.mk 9 tHello 0 (padTo 52 []))] }]),
     Path.pcie, (HMsg.mk 9 tHello 0 (padTo 52 [])), ([] : List HMsg), rfl, executing (by decide +kernel), by decide +kernel⟩,
   ⟨(wst [fun d => d.setPath Path.pcie { d.path Path.pcie with inbox := [(HMsg.mk 1 tReplay 6 (padTo 52 [0,0,0,0,2,0]))] }]), Path.pcie,
     (HMsg.mk 1 tReplay 6 (padTo 52 [0,0,0,0,2,0])), ([] : List HMsg), rfl, executing (by decide +kernel), by decide +kernel⟩,
   ⟨(wst [fun d => d.setPath Path.pcie { d.path Path.pcie with inbox := [(HMsg.mk 1 tSnapshot 0 (padTo 52 []))] }]), _,
     (HMsg.mk 1 tSnapshot 0 (padTo 52 [])), ([] : List HMsg), rfl, executing (by decide +kernel), by decide +kernel, rfl, by decide +kernel⟩,
   ⟨(wst [fun d => d.setPath Path.pcie { d.path Path.pcie with inbox := [(HMsg.mk 1 tReplay 6 (padTo 52 [0,0,0,0,2,0]))] },
     fun d => d.setPath Path.pcie { d.path Path.pcie with replay := some (0, 2, 5) }]), Path.pcie, (HMsg.mk 1 tReplay 6 (padTo 52 [0,0,0,0,2,0])),
     ([] : List HMsg), rfl, executing (by decide +kernel), by decide +kernel⟩,
   ⟨(wst [fun d => d.setPath Path.inBand { d.path Path.inBand with inbox := [(HMsg.mk 1 tSnapshot 0 (padTo 52 []))] }]), Path.inBand,
     (HMsg.mk 1 tSnapshot 0 (padTo 52 [])), ([] : List HMsg), rfl, executing (by decide +kernel), by decide +kernel⟩,
   ⟨(wst [fun d => d.setPath Path.pcie { d.path Path.pcie with inbox := [(HMsg.mk 1 tRegRead 5 (padTo 52 (le 4 R.HIF_H2D_LAST_SEQ ++ [2])))] }]),
     Path.pcie, (HMsg.mk 1 tRegRead 5 (padTo 52 (le 4 R.HIF_H2D_LAST_SEQ ++ [2]))), ([] : List HMsg), rfl, executing (by decide +kernel),
     by decide +kernel⟩,
   ⟨(wst [fun d => d.setPath Path.pcie { d.path Path.pcie with inbox := [(HMsg.mk 1 tRegWrite 8 (padTo 52 (le 4 R.PWR_LINGER_US.reg ++ [7])))] }]),
     Path.pcie, (HMsg.mk 1 tRegWrite 8 (padTo 52 (le 4 R.PWR_LINGER_US.reg ++ [7]))), ([] : List HMsg), rfl, executing (by decide +kernel),
     by decide +kernel⟩,
   ⟨(wst [fun d => d.setPath Path.pcie { d.path Path.pcie with inbox := [(HMsg.mk 1 tRegWrite 8 (padTo 52 (le 4 R.PLT_RESET ++ le 4 0x534F0000)))] }]), Path.pcie, (HMsg.mk 1 tRegWrite 8 (padTo 52 (le 4 R.PLT_RESET ++ le 4 0x534F0000))), ([] : List HMsg), 0x534F0000, rfl, executing (by decide +kernel), by decide +kernel⟩,
   ⟨(wst [fun d => d.setPath Path.pcie { d.path Path.pcie with inbox := [(HMsg.mk 1 tRegRead 5 (padTo 52 (le 4 R.HIF_H2D_LAST_SEQ ++ [13])))] }]),
     Path.pcie, (HMsg.mk 1 tRegRead 5 (padTo 52 (le 4 R.HIF_H2D_LAST_SEQ ++ [13]))), ([] : List HMsg), rfl, executing (by decide +kernel),
     by decide +kernel⟩,
   ⟨(wst [fun d => d.setPath Path.remote { d.path Path.remote with inbox := [(HMsg.mk 1 tRegWrite 8 (padTo 52 (le 4 R.PWR_LINGER_US.reg ++ [7])))] }]), Path.remote, (HMsg.mk 1 tRegWrite 8 (padTo 52 (le 4 R.PWR_LINGER_US.reg ++ [7]))), ([] : List HMsg), rfl, executing (by decide +kernel), by decide +kernel⟩,
   ⟨(wst [fun d => { d with img := { d.img with op := none } },
     fun d => d.setPath Path.pcie { d.path Path.pcie with inbox := [(HMsg.mk 1 tImgXfer 9 (padTo 52 [4,0,0,0,1,2,3,4,5]))] }]), Path.pcie,
     (HMsg.mk 1 tImgXfer 9 (padTo 52 [4,0,0,0,1,2,3,4,5])), ([] : List HMsg), rfl, executing (by decide +kernel), by decide +kernel⟩,
   ⟨(wst [fun d => d.setPath Path.pcie { d.path Path.pcie with inbox := [(HMsg.mk 1 tModeReq 3 (padTo 52 [1,0,0]))] }]), Path.pcie,
     (HMsg.mk 1 tModeReq 3 (padTo 52 [1,0,0])), ([] : List HMsg), Req.bivouac, rfl, executing (by decide +kernel), by decide +kernel⟩⟩
theorem witness_TaskCommands :
    (∃ (s : State) (p : Path) (m : HMsg) (rest : List HMsg), s.runs ∧ Dev.Executes s.dev p m rest ∧ m.typ = tTaskMsg ∧ leAt m.payload 2 1 ≤ 31 ∧
      s.dev.msgPool ≠ 0 ∧ (s.dev.task (leAt m.payload 0 2)).st ≠ .free) ∧
    (∃ (s : State) (p : Path) (m : HMsg) (rest : List HMsg), s.runs ∧ Dev.Executes s.dev p m rest ∧ m.typ = tTaskMsg ∧ leAt m.payload 2 1 ≤ 31 ∧
      s.dev.msgPool = 0) ∧
    (∃ (s : State) (p : Path) (m : HMsg) (rest : List HMsg), s.runs ∧ Dev.Executes s.dev p m rest ∧ m.typ = tTskFlags ∧ leAt m.payload 2 1 = 0 ∧
      (s.dev.task (leAt m.payload 0 2)).st ≠ .free) ∧
    (∃ (s : State) (p : Path) (m : HMsg) (rest : List HMsg), s.runs ∧ Dev.Executes s.dev p m rest ∧ m.typ = tTskFlags ∧ leAt m.payload 2 1 = 1 ∧
      (s.dev.task (leAt m.payload 0 2)).st ≠ .free) :=
  ⟨⟨(wst [fun d => d.setPath Path.pcie { d.path Path.pcie with inbox := [(HMsg.mk 1 tTaskMsg 52 (padTo 52 [2,0,5]))] },
    fun d => { d with tsk := { d.tsk with tasks := [(2, { d.task 2 with st := .waiting })] } }]), Path.pcie,
    (HMsg.mk 1 tTaskMsg 52 (padTo 52 [2,0,5])), ([] : List HMsg), rfl, executing (by decide +kernel), by decide +kernel⟩,
   ⟨(wst [fun d => d.setPath Path.pcie { d.path Path.pcie with inbox := [(HMsg.mk 1 tTaskMsg 52 (padTo 52 [2,0,5]))] },
     fun d => { d with tsk := { d.tsk with tasks := [(2, { d.task 2 with st := .waiting })] } },
     fun d => { d with tsk := { d.tsk with tasks := [(2, { d.task 2 with st := .waiting, msgs := List.replicate 65536 default })] } }]), Path.pcie,
     (HMsg.mk 1 tTaskMsg 52 (padTo 52 [2,0,5])), ([] : List HMsg), rfl, executing (by decide +kernel), by decide +kernel⟩,
   ⟨(wst [fun d => d.setPath Path.pcie { d.path Path.pcie with inbox := [(HMsg.mk 1 tTskFlags 8 (padTo 52 [2,0,0,0,255]))] },
     fun d => { d with tsk := { d.tsk with tasks := [(2, { d.task 2 with st := .waiting })] } }]), Path.pcie,
     (HMsg.mk 1 tTskFlags 8 (padTo 52 [2,0,0,0,255])), ([] : List HMsg), rfl, executing (by decide +kernel), by decide +kernel⟩,
   ⟨(wst [fun d => d.setPath Path.pcie { d.path Path.pcie with inbox := [(HMsg.mk 1 tTskFlags 8 (padTo 52 [2,0,1,0,255]))] },
     fun d => { d with tsk := { d.tsk with tasks := [(2, { d.task 2 with st := .waiting })] } }]), Path.pcie,
     (HMsg.mk 1 tTskFlags 8 (padTo 52 [2,0,1,0,255])), ([] : List HMsg), rfl, executing (by decide +kernel), by decide +kernel⟩⟩
theorem witness_ModeRequests :
    (∃ (s : State), s.runs ∧ s.dev.sup.transit = none ∧ s.dev.sup.mode.traffic = true ∧ s.dev.img.op = none) ∧
    (∃ (s : State), s.runs ∧ s.dev.sup.transit = none ∧ s.dev.sup.mode.traffic = false ∧ s.dev.reloading = false) ∧
    (∃ (s : State), s.runs ∧ s.dev.sup.transit = none ∧ s.dev.sup.mode = .bivouac ∧ s.dev.is R.MOD_WAKE_EN_HOST = true) ∧
    (∃ (s : State), s.runs ∧ s.dev.sup.transit = none ∧ (s.dev.sup.mode = .config ∨ s.dev.sup.mode.traffic = true) ∧ s.dev.img.op = none) ∧
    (∃ (s : State) (k : BitVec 16), s.runs ∧ s.dev.sup.transit = none ∧ k ≠ 0x5445) ∧
    (∃ (s : State), s.runs ∧ s.dev.sup.transit = none ∧ s.dev.sup.mode = .test) ∧
    (∃ (s : State) (h : _), s.runs ∧ s.dev.sup.transit = none ∧ s.dev.sup.heldReq = some h) :=
  ⟨⟨(wst [fun d => { d with sup := { d.sup with transit := none } }, svc, fun d => { d with img := { d.img with op := none } }]), rfl,
    by decide +kernel⟩,
   ⟨(wst [fun d => { d with sup := { d.sup with transit := none } }]), rfl, by decide +kernel⟩,
   ⟨(wst [fun d => { d with sup := { d.sup with transit := none } }, fun d => { d with sup := { d.sup with mode := .bivouac } },
     fld R.MOD_WAKE_EN_HOST 1, fld R.MOD_WAKE_EN_HOST 1]), rfl, by decide +kernel⟩,
   ⟨(wst [fun d => { d with sup := { d.sup with transit := none } }, fun d => { d with img := { d.img with op := none } }]), rfl, by decide +kernel⟩,
   ⟨(wst [fun d => { d with sup := { d.sup with transit := none } }]), 3, rfl, by decide +kernel⟩,
   ⟨(wst [fun d => { d with sup := { d.sup with transit := none } }, fun d => { d with sup := { d.sup with mode := .test } }]), rfl,
     by decide +kernel⟩,
   ⟨(wst [fun d => { d with sup := { d.sup with transit := none } },
     fun d => { d with sup := { d.sup with heldReq := some (HeldReq.mk .bivouac 0 .register) } }]), (HeldReq.mk .bivouac 0 .register), rfl,
     by decide +kernel⟩⟩
theorem witness_ImageCommands :
    (∃ (s : State), s.runs ∧ s.dev.img.op = none ∧ s.dev.sup.mode = .config ∧ s.dev.img.running = [] ∧ s.dev.img.state ≠ .fault ∧
      552 ≤ (s.dev.rd R.IMG_LEN).toNat ∧ (s.dev.rd R.IMG_LEN).toNat ≤ 268435456 ∧ s.dev.rd64 R.IMG_SRC_LO % 64 = 0) ∧
    (∃ (s : State), s.runs ∧ s.dev.img.op = none ∧ s.dev.sup.mode.traffic = true ∧ 552 ≤ (s.dev.rd R.IMG_LEN).toNat ∧
      (s.dev.rd R.IMG_LEN).toNat ≤ 268435456 ∧ s.dev.rd64 R.IMG_SRC_LO % 64 = 0) ∧
    (∃ (s : State), s.runs ∧ s.dev.img.op = none ∧ s.dev.sup.mode = .config ∧ s.dev.img.running = [] ∧ s.dev.img.state ≠ .fault ∧
      s.dev.img.storeValid = true) ∧
    (∃ (s : State), s.runs ∧ s.dev.img.op = none ∧ s.dev.sup.mode.traffic = false) ∧
    (∃ (s : State), s.runs ∧ s.dev.img.op = none ∧ s.dev.sup.mode ≠ .test ∧ s.fuses.epoch < s.dev.get R.IMG_RUN_EPOCH_EPOCH ∧ s.fuses.advances < 64) ∧
    (∃ (s : State), s.runs ∧ s.dev.img.op = none ∧ s.dev.sup.mode ≠ .test) ∧
    (∃ (s : State) (k : BitVec 16), s.runs ∧ s.dev.img.op = none ∧ k ≠ 0x4550) :=
  ⟨⟨(wst [fun d => { d with img := { d.img with op := none } }, fun d => { d with sup := { d.sup with mode := .config } },
    fun d => { d with img := { d.img with running := [] } }, fun d => d.wr R.IMG_LEN 600]), rfl, by decide +kernel⟩,
   ⟨(wst [fun d => { d with img := { d.img with op := none } }, svc, fun d => d.wr R.IMG_LEN 600]), rfl, by decide +kernel⟩,
   ⟨(wst [fun d => { d with img := { d.img with op := none } }, fun d => { d with sup := { d.sup with mode := .config } },
     fun d => { d with img := { d.img with running := [] } }, fun d => { d with img := { d.img with storeValid := true } }]), rfl, by decide +kernel⟩,
   ⟨(wst [fun d => { d with img := { d.img with op := none } }]), rfl, by decide +kernel⟩,
   ⟨(wst [fun d => { d with img := { d.img with op := none } }, fld R.IMG_RUN_EPOCH_EPOCH 65535]), rfl, by decide +kernel⟩,
   ⟨(wst [fun d => { d with img := { d.img with op := none } }]), rfl, by decide +kernel⟩,
   ⟨(wst [fun d => { d with img := { d.img with op := none } }]), (5 : BitVec 16), rfl, by decide +kernel⟩⟩
theorem witness_ImagePhases :
    (∃ (s : State) (o : ImgOp) (e : FetchEnd), s.runs ∧ s.dev.img.op = some o ∧ (e = .pcieError ∨ e = .uncorrectable) ∧ s.dev.img.state = .fetch) ∧
    (∃ (s : State) (o : ImgOp) (b : List Byte) (r : ImgRes) (d : Dev), s.runs ∧ s.dev.img.op = some o ∧ s.dev.img.state = .fetch ∧
      d = { s.dev with img := { s.dev.img with staging := swrite 0 (padTo o.len b) s.dev.img.staging } } ∧
      d.imgChecks s.fuses o (sbytes d.img.staging 0 o.len) = some r) ∧
    (∃ (s : State) (o : ImgOp), s.runs ∧ s.dev.img.op = some o ∧ s.dev.img.state = .fetch ∧ o.cmd = .loadFull) ∧
    (∃ (s : State) (o : ImgOp), s.runs ∧ s.dev.img.op = some o ∧ s.dev.img.state = .load ∧ o.cmd = .loadFull) ∧
    (∃ (s : State) (o : ImgOp) (p : Fin 16), s.runs ∧ s.dev.img.op = some o ∧ s.dev.img.state = .load ∧ o.cmd = .loadFull ∧ bit o.pitches p = true) ∧
    (∃ (s : State) (o : ImgOp), s.runs ∧ s.dev.img.op = some o ∧ s.dev.img.state = .load ∧ o.cmd = .loadPartial) ∧
    (∃ (s : State) (o : ImgOp), s.runs ∧ s.dev.img.op = some o ∧ s.dev.img.state = .fetch) ∧
    (∃ (s : State) (o : ImgOp), s.runs ∧ s.dev.img.op = some o ∧ s.dev.img.state = .drain) ∧
    (∃ (s : State) (o : ImgOp), s.runs ∧ s.dev.img.op = some o ∧ s.dev.img.state ≠ .fetch ∧ s.dev.img.state ≠ .drain) ∧
    (∃ (s : State) (o : ImgOp), s.runs ∧ s.dev.img.op = some o ∧ s.dev.img.state = .drain ∧ s.dev.drainedAll o.pitches = true) ∧
    (∃ (s : State) (o : ImgOp), s.runs ∧ s.dev.img.op = some o ∧ s.dev.img.state = .drain ∧ s.dev.get R.IMG_DRAIN_LIMIT_LIMIT ≠ 0 ∧
      s.dev.drainedAll o.pitches = false ∧ o.force = false) ∧
    (∃ (s : State) (o : ImgOp), s.runs ∧ s.dev.img.op = some o ∧ s.dev.img.state = .drain ∧ s.dev.get R.IMG_DRAIN_LIMIT_LIMIT ≠ 0 ∧
      s.dev.drainedAll o.pitches = true) :=
  ⟨⟨(wst [fun d => { d with img := { d.img with op := some (ImgOp.mk .loadFull false false 600 3 5 6 0 0 0 []) } },
    fun d => { d with img := { d.img with state := .fetch } }]), (ImgOp.mk .loadFull false false 600 3 5 6 0 0 0 []), (.pcieError : FetchEnd), rfl,
    by decide +kernel⟩,
   ⟨(wst [fun d => { d with img := { d.img with op := some (ImgOp.mk .loadFull false false 600 3 5 6 0 0 0 []) } },
     fun d => { d with img := { d.img with state := .fetch } }]), (ImgOp.mk .loadFull false false 600 3 5 6 0 0 0 []), [1], ImgRes.header, _, rfl,
     by decide +kernel, by decide +kernel, rfl, by decide +kernel⟩,
   ⟨(wst [fun d => { d with img := { d.img with op := some (ImgOp.mk .loadFull false false 600 3 5 6 0 0 0 []) } },
     fun d => { d with img := { d.img with state := .fetch } }]), (ImgOp.mk .loadFull false false 600 3 5 6 0 0 0 []), rfl, by decide +kernel⟩,
   ⟨(wst [fun d => { d with img := { d.img with op := some (ImgOp.mk .loadFull false false 600 3 5 6 0 0 0 []) } },
     fun d => { d with img := { d.img with state := .load } }]), (ImgOp.mk .loadFull false false 600 3 5 6 0 0 0 []), rfl, by decide +kernel⟩,
   ⟨(wst [fun d => { d with img := { d.img with op := some (ImgOp.mk .loadFull false false 600 3 5 6 0 0 0 []) } },
     fun d => { d with img := { d.img with state := .load } }]), (ImgOp.mk .loadFull false false 600 3 5 6 0 0 0 []), (1 : Fin 16), rfl,
     by decide +kernel⟩,
   ⟨(wst [fun d => { d with img := { d.img with op := some (ImgOp.mk .loadPartial false false 600 2 5 6 0 0 0 []) } },
     fun d => { d with img := { d.img with state := .load } }, fun d => { d with img := { d.img with state := .load } }]),
     (ImgOp.mk .loadPartial false false 600 2 5 6 0 0 0 []), rfl, by decide +kernel⟩,
   ⟨(wst [fun d => { d with img := { d.img with op := some (ImgOp.mk .loadFull false false 600 3 5 6 0 0 0 []) } },
     fun d => { d with img := { d.img with state := .fetch } }, fun d => { d with img := { d.img with state := .fetch } }]),
     (ImgOp.mk .loadFull false false 600 3 5 6 0 0 0 []), rfl, by decide +kernel⟩,
   ⟨(wst [fun d => { d with img := { d.img with op := some (ImgOp.mk .loadPartial false false 600 2 5 6 0 0 0 []) } },
     fun d => { d with img := { d.img with state := .drain } }, fun d => { d with img := { d.img with state := .drain } }]),
     (ImgOp.mk .loadPartial false false 600 2 5 6 0 0 0 []), rfl, by decide +kernel⟩,
   ⟨(wst [fun d => { d with img := { d.img with op := some (ImgOp.mk .loadFull false false 600 3 5 6 0 0 0 []) } },
     fun d => { d with img := { d.img with state := .load } }]), (ImgOp.mk .loadFull false false 600 3 5 6 0 0 0 []), rfl, by decide +kernel⟩,
   ⟨(wst [fun d => { d with img := { d.img with op := some (ImgOp.mk .loadPartial false false 600 0 5 6 0 0 0 []) } },
     fun d => { d with img := { d.img with state := .drain } }]), (ImgOp.mk .loadPartial false false 600 0 5 6 0 0 0 []), rfl, by decide +kernel⟩,
   ⟨(wst [fun d => { d with img := { d.img with op := some (ImgOp.mk .loadPartial false false 600 2 5 6 0 0 0 []) } },
     fun d => { d with img := { d.img with state := .drain } }, fld R.IMG_DRAIN_LIMIT_LIMIT 1, fld R.IMG_DRAIN_LIMIT_LIMIT 5,
     fun d => { d with tsk := { d.tsk with tasks := [(2, { d.task 2 with st := .running, pitch := 1 })] } }]),
     (ImgOp.mk .loadPartial false false 600 2 5 6 0 0 0 []), rfl, by decide +kernel⟩,
   ⟨(wst [fun d => { d with img := { d.img with op := some (ImgOp.mk .loadPartial false false 600 2 5 6 0 0 0 []) } },
     fun d => { d with img := { d.img with state := .drain } }, fld R.IMG_DRAIN_LIMIT_LIMIT 1, fld R.IMG_DRAIN_LIMIT_LIMIT 5]),
     (ImgOp.mk .loadPartial false false 600 2 5 6 0 0 0 []), rfl, by decide +kernel⟩⟩
theorem witness_PowerDomains :
    (∃ (s : State) (x : Fin 43), s.runs ∧ s.dev.pwr.doms.length = 43 ∧ 34 ≤ x.val ∧ s.dev.pwr.coord ≠ .entering ∧ s.dev.dom x = .draining ∧
      s.dev.blockReason x = 0) ∧
    (∃ (s : State) (x : Fin 43) (p : Port), s.runs ∧ s.dev.pwr.doms.length = 43 ∧ x.val = domLfe p ∧ s.dev.pwr.coord ≠ .entering ∧
      s.dev.dom x = .draining ∧ s.dev.blockReason x = 0) ∧
    (∃ (s : State) (x : Fin 43), s.runs ∧ s.dev.pwr.doms.length = 43 ∧ x.val < 32 ∧ s.dev.pwr.coord ≠ .entering ∧ s.dev.dom x = .draining ∧
      s.dev.blockReason x = 0) ∧
    (∃ (s : State) (x : Fin 43), s.runs ∧ s.dev.pwr.doms.length = 43 ∧ s.dev.dom x = .draining ∧ s.dev.blockReason x ≠ 0 ∧
      bit s.dev.pwr.refusedOnce x = false) ∧
    (∃ (s : State) (x : Fin 43), s.runs ∧ s.dev.pwr.doms.length = 43 ∧ s.dev.dom x = .stopping ∧ s.dev.pwr.coord ≠ .bivouac) ∧
    (∃ (s : State) (x : Fin 43), s.runs ∧ s.dev.pwr.doms.length = 43 ∧ x.val < 32 ∧ s.dev.dom x = .stopping ∧ s.dev.pwr.coord = .bivouac) ∧
    (∃ (s : State) (x : Fin 43), s.runs ∧ s.dev.pwr.doms.length = 43 ∧ s.dev.dom x = .waking ∧ ((needsDram x = true → s.dev.isUp domDram = true)) ∧
      s.dev.hif.waiting = [] ∧ bit s.dev.pwr.blank x = false) ∧
    (∃ (s : State) (x : Fin 43), s.runs ∧ s.dev.pwr.doms.length = 43 ∧ x.val < 32 ∧ s.dev.dom x = .waking ∧ s.dev.isUp domDram = true ∧
      s.dev.hif.waiting = [] ∧ bit s.dev.pwr.blank x = true ∧ s.dev.storeOk (x.val / 4 + 1) = true) ∧
    (∃ (s : State) (x : Fin 43) (h : _), s.runs ∧ s.dev.pwr.doms.length = 43 ∧ s.dev.firstHold x = some h) ∧
    (∃ (s : State), s.runs ∧ s.dev.pwr.doms.length = 43) :=
  ⟨⟨(wst [fun d => d.setDom (35 : Fin 43) .draining]), (35 : Fin 43), rfl, by decide +kernel⟩,
   ⟨(wst [fun d => d.setDom (32 : Fin 43) .draining]), (32 : Fin 43), Port.a, rfl, by decide +kernel⟩,
   ⟨(wst [fun d => d.setDom (1 : Fin 43) .draining]), (1 : Fin 43), rfl, by decide +kernel⟩,
   ⟨(wst [fun d => d.setDom (37 : Fin 43) .draining, fun d => { d with thk := { d.thk with missQ := [Miss.mk [1] (.engine 1 2)] } }]), (37 : Fin 43),
     rfl, by decide +kernel⟩,
   ⟨(wst [fun d => d.setDom (1 : Fin 43) .stopping]), (1 : Fin 43), rfl, by decide +kernel⟩,
   ⟨(wst [fun d => d.setDom (1 : Fin 43) .stopping, fun d => { d with pwr := { d.pwr with coord := .bivouac } }]), (1 : Fin 43), rfl,
     by decide +kernel⟩,
   ⟨(wst [fun d => d.setDom (35 : Fin 43) .waking, fun d => { d with hif := { d.hif with waiting := [] } }]), (35 : Fin 43), rfl, by decide +kernel⟩,
   ⟨(wst [fun d => d.setDom (4 : Fin 43) .waking, fun d => { d with hif := { d.hif with waiting := [] } },
     fun d => { d with pwr := { d.pwr with blank := 16 } }]), (4 : Fin 43), rfl, by decide +kernel⟩,
   ⟨(wst [fun d => { d with pwr := { d.pwr with holds := [(Hold.mk 1 0 900)] } }]), (1 : Fin 43), (Hold.mk 1 0 900), rfl, by decide +kernel⟩,
   ⟨(wst []), rfl, by decide +kernel⟩⟩
theorem witness_PowerTransitions :
    (∃ (s : State) (t : Transit), s.runs ∧ s.dev.sup.transit = some t ∧ s.dev.pwr.coord = .entering ∧ s.dev.allRetain = true ∧
      s.dev.tasksBlock = false) ∧
    (∃ (s : State) (t : Transit), s.runs ∧ s.dev.sup.transit = some t ∧ s.dev.pwr.coord = .entering ∧
      (s.dev.allRetain = false ∨ s.dev.tasksBlock = true)) ∧
    (∃ (s : State) (t : Transit) (x : _) (why : _), s.runs ∧ s.dev.sup.transit = some t ∧ s.dev.pwr.coord = .entering ∧
      s.dev.get R.PWR_ENTRY_LIMIT_MS ≠ 0 ∧ (s.dev.until_ (s.dev.pwr.reqStart + s.dev.get R.PWR_ENTRY_LIMIT_MS * msTicks)).refuser = some (x, why)) ∧
    (∃ (s : State) (t : Transit), s.runs ∧ s.dev.sup.transit = some t ∧ s.dev.pwr.coord = .exiting ∧ s.dev.isUp domDram = true ∧
      s.dev.isUp domUsr = true ∧ s.dev.isUp domThk = true ∧ s.dev.sourceUp = true) ∧
    (∃ (s : State) (t : Transit), s.runs ∧ s.dev.sup.transit = some t ∧ t.row = 3 ∧ s.dev.pwr.allOn = true ∧ s.dev.allUp = true) :=
  ⟨⟨(wst [fun d => { d with sup := { d.sup with transit := some (Transit.mk 16 .bivouac .hostReq) } },
    fun d => { d with pwr := { d.pwr with coord := .entering } }, fun d => { d with pwr := { d.pwr with doms := List.replicate 43 .retain } }]),
    (Transit.mk 16 .bivouac .hostReq), rfl, by decide +kernel⟩,
   ⟨(wst [fun d => { d with sup := { d.sup with transit := some (Transit.mk 16 .bivouac .hostReq) } },
     fun d => { d with pwr := { d.pwr with coord := .entering } }]), (Transit.mk 16 .bivouac .hostReq), rfl, by decide +kernel⟩,
   ⟨(wst [fun d => { d with sup := { d.sup with transit := some (Transit.mk 16 .bivouac .hostReq) } },
     fun d => { d with pwr := { d.pwr with coord := .entering } }, fld R.PWR_ENTRY_LIMIT_MS 1,
     fun d => { d with thk := { d.thk with missQ := [Miss.mk [1] (.engine 1 2)] } }, fld R.PWR_ENTRY_LIMIT_MS 5]), (Transit.mk 16 .bivouac .hostReq),
     37, 4, rfl, by decide +kernel⟩,
   ⟨(wst [fun d => { d with sup := { d.sup with transit := some (Transit.mk 16 .bivouac .hostReq) } },
     fun d => { d with pwr := { d.pwr with coord := .exiting } }]), (Transit.mk 16 .bivouac .hostReq), rfl, by decide +kernel⟩,
   ⟨(wst [fun d => { d with sup := { d.sup with transit := some (Transit.mk 3 .test .hostReq) } },
     fun d => { d with pwr := { d.pwr with allOn := true } }]), (Transit.mk 3 .test .hostReq), rfl, by decide +kernel⟩⟩
theorem witness_ActivationTimers :
    (∃ (s : State), s.runs ∧ s.dev.act.st = .ranging ∧ s.dev.get R.ACT_TIMERS_RANGE_TIMEOUT ≠ 0) ∧
    (∃ (s : State), s.runs ∧ s.dev.act.st = .resuming ∧ s.dev.get R.ACT_TIMERS_RESUME_WAIT ≠ 0) ∧
    (∃ (s : State), s.runs ∧ s.dev.act.st = .registered) ∧
    (∃ (s : State), s.runs ∧ s.dev.act.st ≠ .serial) ∧
    (∃ (s : State), s.runs ∧ s.dev.act.st = .serial) :=
  ⟨⟨(wst [fun d => { d with act := { d.act with st := .ranging } }, fld R.ACT_TIMERS_RANGE_TIMEOUT 1, fld R.ACT_STATUS_TID 77,
    fun d => d.wr (R.ACT_GRANT_ID_ID 0).reg 5, fld R.ACT_PRE_EQD_PRE_EQD 9]), rfl, by decide +kernel⟩,
   ⟨(wst [fun d => { d with act := { d.act with st := .resuming } }, fld R.ACT_TIMERS_RESUME_WAIT 1, fld R.ACT_STATUS_TID 77,
     fun d => d.wr (R.ACT_GRANT_ID_ID 0).reg 5, fld R.ACT_PRE_EQD_PRE_EQD 9]), rfl, by decide +kernel⟩,
   ⟨(wst [fun d => { d with act := { d.act with st := .registered } }, fld R.ACT_STATUS_TID 77, fun d => d.wr (R.ACT_GRANT_ID_ID 0).reg 5,
     fld R.ACT_PRE_EQD_PRE_EQD 9]), rfl, by decide +kernel⟩,
   ⟨(wst []), rfl, by decide +kernel⟩,
   ⟨(wst [fun d => { d with act := { d.act with st := .serial } }]), rfl, by decide +kernel⟩⟩
theorem witness_LmmWholeOrNot :
    (∃ (d : Dev) (c : List Byte), (d.lmmGrantIdSet c).2 ≠ lmmOk) ∧
    (∃ (d : Dev), d.grantIds.length ≤ 32) ∧
    (∃ (d : Dev) (c : List Byte), beAt c 0 1 = 2 ∧ (d.lmmGrantIdSet c).2 = lmmOk) ∧
    (∃ (d : Dev) (c : List Byte) (k : Nat), (d.lmmRangingTime c k).2 ≠ lmmOk) ∧
    (∃ (d : Dev) (c : List Byte), d.act.st = .ranging ∧ beAt c 0 1 = 0 ∧ beAt c 1 4 < 2 ^ 25) :=
  ⟨⟨State.reset.dev, (padTo 40 [9,2] : List Byte), by decide +kernel⟩,
   ⟨State.reset.dev, by decide +kernel⟩,
   ⟨State.reset.dev, (padTo 40 [2,2,0,5,0,5] : List Byte), by decide +kernel⟩,
   ⟨State.reset.dev, (padTo 40 [9] : List Byte), (1 : Nat), by decide +kernel⟩,
   ⟨({ State.reset.dev with act := { State.reset.dev.act with st := .ranging } } : Dev), (padTo 40 [0,0,0,1,2] : List Byte), by decide +kernel⟩⟩
theorem witness_LineAlignment :
    (∃ (s : State) (p : Port) (pos : Nat) (h : _), s.runs ∧ s.dev.framerRuns p = true ∧ s.dev.inSync p = false ∧ pos % 2 = 0 ∧ pos < frameBits ∧
      (s.dev.lfrP p).cands.find? (·.1 == pos) = some (pos, h) ∧ 2 ≤ h) ∧
    (∃ (s : State) (p : Port) (pos : Nat), s.runs ∧ s.dev.framerRuns p = true ∧ s.dev.inSync p = false ∧ pos % 2 = 0 ∧ pos < frameBits ∧
      (s.dev.lfrP p).cands.find? (·.1 == pos) = none ∧ (s.dev.lfrP p).cands.length < 4) ∧
    (∃ (s : State) (p : Port) (pos : Nat), s.runs ∧ s.dev.get (R.LFR_x_STATUS_FA p.ix) = 1 ∧ ((∃ n, (s.dev.lfrP p).cands = [(pos, n)]))) ∧
    (∃ (s : State) (p : Port), s.runs ∧ 8000 ≤ (s.dev.lfrP p).winFrames ∧ (s.dev.lfrP p).winCorr < 2 ^ 32 ∧ s.dev.get R.LFR_DS_CFG_BER_M ≠ 0 ∧
      s.dev.dsThreshold < (s.dev.lfrP p).winCorr) ∧
    (∃ (s : State), s.runs) :=
  ⟨⟨(wst [svc, fld R.LFE_STATUS_ENABLED 3, fld R.LFE_STATUS_SOURCE 1, fld (R.LFE_x_STATUS_ROLE Port.a.ix) 2,
    fun d => d.setLfrP Port.a { d.lfrP Port.a with cands := [(10, 2)] }]), Port.a, 10, 2, rfl, by decide +kernel⟩,
   ⟨(wst [svc, fld R.LFE_STATUS_ENABLED 3, fld R.LFE_STATUS_SOURCE 1, fld (R.LFE_x_STATUS_ROLE Port.a.ix) 2,
     fun d => d.setLfrP Port.a { d.lfrP Port.a with cands := [(4, 1)] }]), Port.a, 10, rfl, by decide +kernel⟩,
   ⟨(wst [fld (R.LFR_x_STATUS_FA Port.a.ix) 1, svc, fld R.LFE_STATUS_ENABLED 3, fld R.LFE_STATUS_SOURCE 1, fld (R.LFE_x_STATUS_ROLE Port.a.ix) 2,
     fun d => d.setLfrP Port.a { d.lfrP Port.a with cands := [(10, 1)] }]), Port.a, 10, rfl, by decide +kernel, ⟨1, by decide +kernel⟩⟩,
   ⟨(wst [fld R.LFR_DS_CFG_BER_M 1, svc, fld R.LFE_STATUS_ENABLED 3, fld R.LFE_STATUS_SOURCE 1, fld (R.LFE_x_STATUS_ROLE Port.a.ix) 2,
     fun d => d.setLfrP Port.a { d.lfrP Port.a with winFrames := 8000, winCorr := 4000000000 }, fld R.LFR_DS_CFG_BER_M 1]), Port.a, rfl,
     by decide +kernel⟩,
   ⟨(wst []), rfl⟩⟩
theorem witness_LineFrames :
    (∃ (s : State) (p : Port) (f : DsFrame), s.runs ∧ s.dev.framerRuns p = true ∧ s.dev.inSync p = true ∧
      hamming (toBits 128 f.psync.toNat) (toBits 128 psyncPattern.toNat) ≤ s.dev.get R.LFR_CFG_PSYNC_TOL) ∧
    (∃ (s : State) (p : Port) (f : DsFrame) (h : DsHeader) (b : List Byte), s.runs ∧ s.dev.framerRuns p = true ∧ s.dev.inSync p = true ∧
      hamming (toBits 128 f.psync.toNat) (toBits 128 psyncPattern.toNat) ≤ s.dev.get R.LFR_CFG_PSYNC_TOL ∧ s.dev.activePort ≠ some p ∧
      rsDecode (descramble (padTo 64 f.header)) = some (b, 0) ∧ h = DsHeader.of b ∧ h.valid = true ∧ s.dev.mfSync p = true ∧
      mfasIndex h.mfas = some ((s.dev.get (R.LFR_x_STATUS_MF_INDEX p.ix) + 1) % 16) ∧ (s.dev.lfrP p).winFrames < 8000) ∧
    (∃ (s : State) (p : Port) (f : DsFrame), s.runs ∧ s.dev.framerRuns p = true ∧ s.dev.inSync p = true ∧
      s.dev.get R.LFR_CFG_PSYNC_TOL < hamming (toBits 128 f.psync.toNat) (toBits 128 psyncPattern.toNat) ∧
      s.dev.get (R.LFR_x_STATUS_MISSES p.ix) < 3) ∧
    (∃ (s : State) (p : Port) (f : DsFrame), s.runs ∧ s.dev.framerRuns p = true ∧ s.dev.inSync p = true ∧
      s.dev.get R.LFR_CFG_PSYNC_TOL < hamming (toBits 128 f.psync.toNat) (toBits 128 psyncPattern.toNat) ∧
      s.dev.get (R.LFR_x_STATUS_MISSES p.ix) = 3 ∧ s.dev.activePort ≠ some p) ∧
    (∃ (s : State) (u : _) (rest : List UpFrame), s.runs ∧ s.dev.lfr.up = u :: rest ∧ u.started = false ∧ s.dev.act.pend = false) :=
  ⟨⟨(wst [svc, fld R.LFE_STATUS_ENABLED 3, fld R.LFE_STATUS_SOURCE 1, fld (R.LFE_x_STATUS_ROLE Port.a.ix) 2, fld (R.LFR_x_STATUS_FA Port.a.ix) 2]),
    Port.a, (DsFrame.mk psyncPattern [] []), rfl, by decide +kernel⟩,
   ⟨(wst [svc, fld R.LFE_STATUS_ENABLED 3, fld R.LFE_STATUS_SOURCE 1, fld (R.LFE_x_STATUS_ROLE Port.a.ix) 1, fld (R.LFR_x_STATUS_FA Port.a.ix) 2,
     fld (R.LFR_x_STATUS_MF_SYNC Port.a.ix) 1, fld (R.LFR_x_STATUS_MF_INDEX Port.a.ix) 2]), Port.a, (DsFrame.mk psyncPattern ([255, 255, 255, 254, 0,
     0, 0, 21, 90, 8, 0, 248, 0, 0, 28, 112, 0, 4, 255, 224, 0, 28, 1, 193, 1, 248, 31, 130, 28, 113, 199, 1, 255, 255, 254, 28, 0, 0, 29, 248, 0, 1,
     228, 112, 0, 29, 143, 224, 148, 232, 39, 13, 90, 107, 107, 159, 202, 68, 223, 104, 105, 247, 98, 9]) []), _, ([0, 0, 0, 0, 0, 0, 0, 9, 90, 8, 1,
     0, 0, 0, 0, 0, 0, 5, 0, 0, 0, 0, 0, 1, 0, 0, 0, 2, 0, 0, 0, 0, 0, 0, 0, 0, 0, 0, 0, 0, 0, 0, 0, 0, 0, 0, 0, 0, 149, 11, 198, 205, 71, 146, 180,
     30, 46, 42, 152, 117, 231, 207, 157, 234] : List Byte), rfl, by decide +kernel, by decide +kernel, by decide +kernel, by decide +kernel,
     by decide +kernel, rfl, by decide +kernel⟩,
   ⟨(wst [svc, fld R.LFE_STATUS_ENABLED 3, fld R.LFE_STATUS_SOURCE 1, fld (R.LFE_x_STATUS_ROLE Port.a.ix) 2, fld (R.LFR_x_STATUS_FA Port.a.ix) 2,
     fld (R.LFR_x_STATUS_MISSES Port.a.ix) 2]), Port.a, (DsFrame.mk 0 [] []), rfl, by decide +kernel⟩,
   ⟨(wst [fld (R.LFR_x_STATUS_MISSES Port.a.ix) 3, svc, fld R.LFE_STATUS_ENABLED 3, fld R.LFE_STATUS_SOURCE 1, fld (R.LFE_x_STATUS_ROLE Port.a.ix) 1,
     fld (R.LFR_x_STATUS_FA Port.a.ix) 2, fld (R.LFR_x_STATUS_MF_SYNC Port.a.ix) 1, fld (R.LFR_x_STATUS_MISSES Port.a.ix) 3]), Port.a,
     (DsFrame.mk 0 [] []), rfl, by decide +kernel⟩,
   ⟨(wst [fun d => { d with lfr := { d.lfr with up := (UpFrame.mk 3 0 8 0 0 false [] false [] false false) :: ([] : List UpFrame) } },
     fun d => { d with act := { d.act with pend := false } }]), (UpFrame.mk 3 0 8 0 0 false [] false [] false false), ([] : List UpFrame), rfl,
     by decide +kernel⟩⟩
theorem witness_TributaryInputs :
    (∃ (s : State) (n : Fin 16), s.runs ∧ (s.dev.isUp domTrb = false ∨ s.dev.trbLocal n = true)) ∧
    (∃ (s : State) (n : Fin 16), s.runs ∧ s.dev.isUp domTrb = true ∧ s.dev.trbLocal n = false ∧ s.dev.sup.mode ≠ .island ∧ s.dev.sup.mode ≠ .test ∧
      ((∀ d, s.dev.decl 13 = some d → bit d.packetTribs n = false)) ∧ s.dev.framed n = false) ∧
    (∃ (s : State) (n : Fin 16) (b : BitVec 256) (l : List Bool), s.runs ∧ l = (List.range 256).map (fun i => b.getMsbD i) ∧
      s.dev.isUp domTrb = true ∧ s.dev.trbLocal n = false ∧ s.dev.sup.mode ≠ .island ∧ s.dev.sup.mode ≠ .test ∧ ((∀ d, s.dev.decl 13 = some d →
      bit d.packetTribs n = false)) ∧ s.dev.get (R.TRB_n_CFG_FRAMING n) = 1 ∧ (s.dev.trbP n).aligned = true ∧ (s.dev.trbP n).stream = [] ∧
      (s.dev.trbP n).fas = true ∧ fasAt l = true) ∧
    (∃ (s : State) (n : Fin 16) (b : BitVec 256) (l : List Bool), s.runs ∧ l = (List.range 256).map (fun i => b.getMsbD i) ∧
      s.dev.isUp domTrb = true ∧ s.dev.trbLocal n = false ∧ s.dev.sup.mode ≠ .island ∧ s.dev.sup.mode ≠ .test ∧ ((∀ d, s.dev.decl 13 = some d →
      bit d.packetTribs n = false)) ∧ s.dev.get (R.TRB_n_CFG_FRAMING n) = 1 ∧ (s.dev.trbP n).aligned = true ∧ (s.dev.trbP n).stream = [] ∧
      (s.dev.trbP n).fas = true ∧ fasAt l = false ∧ (s.dev.trbP n).badFas = 2) ∧
    (∃ (s : State) (n : Fin 16), s.runs ∧ s.dev.isUp domTrb = true ∧ s.dev.trbLocal n = false ∧ s.dev.is (trbStatus n 0) = false) ∧
    (∃ (s : State) (n : Fin 16), s.runs ∧ s.dev.isUp domTrb = true ∧ s.dev.trbLocal n = false ∧ s.dev.is (trbStatus n 0) = true) ∧
    (∃ (s : State) (n : Fin 16), s.runs ∧ 1000 ≤ (s.dev.trbP n).winSmf) :=
  ⟨⟨(wst [fun d => d.setDom domTrb .stopping]), (3 : Fin 16), rfl, by decide +kernel⟩,
   ⟨(wst [fld (R.TRB_n_CFG_FRAMING (3 : Fin 16)) 0]), (3 : Fin 16), rfl, by decide +kernel⟩,
   ⟨(wst [fld (R.TRB_n_CFG_FRAMING (3 : Fin 16)) 1, fld (R.TRB_n_CFG_FRAMING (3 : Fin 16)) 1,
     fun d => d.setTrbP (3 : Fin 16) { d.trbP (3 : Fin 16) with aligned := true, stream := [], fas := true }]), (3 : Fin 16),
     ((0x1B : BitVec 256) <<< 248), _, rfl, rfl, by decide +kernel⟩,
   ⟨(wst [fld (R.TRB_n_CFG_FRAMING (3 : Fin 16)) 1, fld (R.TRB_n_CFG_FRAMING (3 : Fin 16)) 1,
     fun d => d.setTrbP (3 : Fin 16) { d.trbP (3 : Fin 16) with aligned := true, stream := [], fas := true, badFas := 2 }]), (3 : Fin 16),
     (5 : BitVec 256), _, rfl, rfl, by decide +kernel⟩,
   ⟨(wst [fld (trbStatus (3 : Fin 16) 0) 0]), (3 : Fin 16), rfl, by decide +kernel⟩,
   ⟨(wst [fld (trbStatus (3 : Fin 16) 0) 1]), (3 : Fin 16), rfl, by decide +kernel⟩,
   ⟨(wst [fun d => d.setTrbP (3 : Fin 16) { d.trbP (3 : Fin 16) with winSmf := 1000, winErr := 70000 }]), (3 : Fin 16), rfl, by decide +kernel⟩⟩
theorem witness_BelayReceiver :
    (∃ (s : State) (p : Port) (v : Word), s.runs ∧ v.toNat % 2048 ≤ 1024 ∧ v.toNat % 2048 ≠ s.dev.get (R.BEL_x_DS_CODE_CODE p.ix) ∧
      s.dev.belRx p ≠ bStopped) ∧
    (∃ (s : State) (v : Word), s.runs ∧ 1024 < v.toNat % 2048) ∧
    (∃ (s : State) (p : Port) (symbols : List Nat), s.runs ∧ symbols.length = 8 ∧ ((∀ x, x ∈ symbols → s.dev.get R.BEL_CFG_ACQ_TH ≤ x)) ∧
      s.dev.belRx p = bSearch) ∧
    (∃ (s : State) (p : Port), s.runs ∧ s.dev.belRx p = bStopped) ∧
    (∃ (s : State) (l : List Nat), s.runs ∧ ((l.length ≠ 8 ∨ ∃ x, x ∈ l ∧ x < s.dev.get R.BEL_CFG_ACQ_TH))) ∧
    (∃ (s : State) (p : Port) (phase : Nat) (symbols : List Nat), s.runs ∧ symbols.length = 8 ∧ ((∀ x, x ∈ symbols →
      s.dev.get R.BEL_CFG_ACQ_TH ≤ x)) ∧ s.dev.belRx p = bData ∧ s.dev.is (R.BEL_x_STATUS_CAND p.ix) = false ∧
      2 < (phase % 1024 + 1024 - s.dev.get (R.BEL_x_STATUS_PHASE p.ix)) % 1024 ∧
      (phase % 1024 + 1024 - s.dev.get (R.BEL_x_STATUS_PHASE p.ix)) % 1024 < 1022) ∧
    (∃ (s : State) (w : BitVec 32), s.runs ∧ s.dev.get R.BEL_CFG_SYNC_TOL < popcount 32 (w.toNat ^^^ 0x5B3ED0A7)) ∧
    (∃ (s : State) (p : Port) (phase : Nat) (word : BitVec 32), s.runs ∧ popcount 32 (word.toNat ^^^ 0x5B3ED0A7) ≤ s.dev.get R.BEL_CFG_SYNC_TOL ∧
      s.dev.belRx p = bPreamble ∧ phase % 1024 = s.dev.get (R.BEL_x_STATUS_PHASE p.ix)) ∧
    (∃ (s : State) (p : Port), s.runs ∧ s.dev.belRx p = bPreamble ∧ s.dev.is (R.BEL_x_STATUS_CAND p.ix) = false) ∧
    (∃ (s : State) (p : Port), s.runs ∧ s.dev.belRx p = bPreamble ∧ s.dev.is (R.BEL_x_STATUS_CAND p.ix) = true) ∧
    (∃ (s : State) (p : Port), s.runs ∧ s.dev.is (R.BEL_x_STATUS_CAND p.ix) = true) ∧
    (∃ (s : State) (p : Port) (soft : List (Fin 8)), s.runs ∧ s.dev.belRx p = bData ∧ 16 ≤ (viterbiSoFar soft).length ∧
      32 < belLen (belHeader (viterbiSoFar soft)) ∧ s.dev.is (R.BEL_x_STATUS_CAND p.ix) = false) ∧
    (∃ (s : State) (soft : List (Fin 8)), s.runs ∧ belLen (belHeader (viterbiSoFar soft)) ≤ 32) ∧
    (∃ (s : State) (p : Port), s.runs ∧ s.dev.get R.BEL_BEACON_LOSS_MS ≠ 0 ∧ s.dev.is (R.BEL_x_STATUS_BEACON_LOST p.ix) = false ∧
      s.dev.belRx p ≠ bStopped) ∧
    (∃ (s : State) (p : Port) (t : _) (code : _), s.runs ∧ (s.dev.belP p).merge = some (t, code) ∧ code ≤ 1024 ∧
      code ≠ s.dev.get (R.BEL_x_DS_CODE_CODE p.ix)) :=
  ⟨⟨(wst [fld (R.BEL_x_STATUS_RX Port.a.ix) 1]), Port.a, (1024 : Word), rfl, by decide +kernel⟩,
   ⟨(wst []), (1025 : Word), rfl, by decide +kernel⟩,
   ⟨(wst [fld (R.BEL_x_STATUS_RX Port.a.ix) bSearch]), Port.a, (List.replicate 8 65535 : List Nat), rfl, by decide +kernel⟩,
   ⟨(wst [fld (R.BEL_x_STATUS_RX Port.a.ix) bStopped]), Port.a, rfl, by decide +kernel⟩,
   ⟨(wst []), ([] : List Nat), rfl, by decide +kernel⟩,
   ⟨(wst [fld (R.BEL_x_STATUS_RX Port.a.ix) bData, fld (R.BEL_x_STATUS_CAND Port.a.ix) 0]), Port.a, 5, (List.replicate 8 65535 : List Nat), rfl,
     by decide +kernel⟩,
   ⟨(wst []), (0 : BitVec 32), rfl, by decide +kernel⟩,
   ⟨(wst [fld (R.BEL_x_STATUS_RX Port.a.ix) bPreamble, fld (R.BEL_x_STATUS_PHASE Port.a.ix) 5]), Port.a, 5, (0x5B3ED0A7 : BitVec 32), rfl,
     by decide +kernel⟩,
   ⟨(wst [fld (R.BEL_x_STATUS_RX Port.a.ix) bPreamble, fld (R.BEL_x_STATUS_CAND Port.a.ix) 0]), Port.a, rfl, by decide +kernel⟩,
   ⟨(wst [fld (R.BEL_x_STATUS_RX Port.a.ix) bPreamble, fld (R.BEL_x_STATUS_CAND Port.a.ix) 1]), Port.a, rfl, by decide +kernel⟩,
   ⟨(wst [fld (R.BEL_x_STATUS_CAND Port.a.ix) 1]), Port.a, rfl, by decide +kernel⟩,
   ⟨(wst [fld (R.BEL_x_STATUS_RX Port.a.ix) bData, fld (R.BEL_x_STATUS_CAND Port.a.ix) 0]), Port.a, (softOf (convEncode (be 2 0x2FF ++ be 12 0))),
     rfl, by decide +kernel⟩,
   ⟨(wst []), (softOf (convEncode (be 2 0 ++ be 2 (hec [0, 0])))), rfl, by decide +kernel⟩,
   ⟨(wst [fld R.BEL_BEACON_LOSS_MS 1, fld (R.BEL_x_STATUS_BEACON_LOST Port.a.ix) 0, fld (R.BEL_x_STATUS_RX Port.a.ix) 1]), Port.a, rfl,
     by decide +kernel⟩,
   ⟨(wst [fun d => d.setBelP Port.a { d.belP Port.a with merge := some (900, 3) }]), Port.a, 900, 3, rfl, by decide +kernel⟩⟩
theorem witness_BelayPackets :
    (∃ (s : State) (p : Port) (soft : List (Fin 8)) (b : List Byte), s.runs ∧ b = bytesOf (viterbi soft) (((viterbi soft).length - 6) / 8) ∧
      belLen (belHeader (viterbi soft)) ≤ 32 ∧ s.dev.belRx p = bData ∧ b.length = 4 + belLen (beAt b 0 2) ∧
      hec (b.take (b.length - 2)) = beAt b (b.length - 2) 2 ∧ s.dev.is (R.BEL_x_STATUS_CAND p.ix) = false) ∧
    (∃ (s : State) (p : Port) (soft : List (Fin 8)) (b : List Byte), s.runs ∧ b = bytesOf (viterbi soft) (((viterbi soft).length - 6) / 8) ∧
      belLen (belHeader (viterbi soft)) ≤ 32 ∧ s.dev.belRx p = bData ∧ hec (b.take (b.length - 2)) ≠ beAt b (b.length - 2) 2 ∧
      s.dev.is (R.BEL_x_STATUS_CAND p.ix) = false) ∧
    (∃ (s : State) (d : Dev) (h : Nat) (c : List Byte) (key : List Byte), s.runs ∧ d.lmmKey = some key ∧ bits h 8 8 ≠ 0 ∧
      belTypeLen (bits h 8 8) = some c.length ∧ Machine.slice (aesCmac key (be 2 h ++ c.take (c.length - 4))) 0 4 ≠ c.drop (c.length - 4)) ∧
    (∃ (s : State) (p : Port) (d : Dev) (h : Nat) (c : List Byte) (key : List Byte), s.runs ∧ d.lmmKey = some key ∧ bits h 8 8 = 1 ∧ c.length = 17 ∧
      Machine.slice (aesCmac key (be 2 h ++ c.take 13)) 0 4 = c.drop 13 ∧ d.is (R.BEL_x_STATUS_BEACON_LOST p.ix) = false ∧ beAt c 7 2 = 0) ∧
    (∃ (s : State) (d : Dev) (h : Nat) (c : List Byte), s.runs ∧ d.lmmKey = none ∧ bits h 8 8 ≠ 0 ∧ belTypeLen (bits h 8 8) = some c.length) ∧
    (∃ (s : State) (w : _), s.runs ∧ s.dev.bel.win = some w ∧ s.dev.bel.tx = none ∧ s.dev.belEligible w = true ∧
      s.dev.get R.ACT_TREE_BELAY_CODE ≤ 1024 ∧ s.dev.bel.queued = false ∧ s.dev.is R.BEL_CTL_KA_EN = true ∧ 172 ≤ w.len ∧
      s.dev.txReady w.port = true) ∧
    (∃ (s : State) (w : _) (key : List Byte), s.runs ∧ s.dev.bel.win = some w ∧ s.dev.bel.tx = none ∧ s.dev.belEligible w = true ∧
      s.dev.get R.ACT_TREE_BELAY_CODE ≤ 1024 ∧ s.dev.bel.queued = true ∧ s.dev.lmmKey = some key ∧ 492 ≤ w.len ∧ s.dev.txReady w.port = true) ∧
    (∃ (s : State) (w : _), s.runs ∧ s.dev.bel.win = some w ∧ s.dev.bel.tx = none ∧ 1024 < s.dev.get R.ACT_TREE_BELAY_CODE) ∧
    (∃ (s : State) (w : _), s.runs ∧ s.dev.bel.win = some w ∧ s.dev.bel.tx ≠ none) ∧
    (∃ (s : State) (p : Port) (t : _) (status : _), s.runs ∧ s.dev.bel.tx = some (p, t, status)) ∧
    (∃ (s : State), s.runs) :=
  ⟨⟨(wst [fld (R.BEL_x_STATUS_RX Port.a.ix) bData, fld (R.BEL_x_STATUS_CAND Port.a.ix) 0]), Port.a, (softOf (convEncode (let x : List Byte := [0,
    0]; x ++ be 2 (hec x)))), _, rfl, rfl, by decide +kernel⟩,
   ⟨(wst [fld (R.BEL_x_STATUS_RX Port.a.ix) bData, fld (R.BEL_x_STATUS_CAND Port.a.ix) 0]), Port.a, (softOf (convEncode [0, 0, 1, 1])), _, rfl, rfl,
     by decide +kernel⟩,
   ⟨(wst []), ({ State.reset.dev with cph := { State.reset.dev.cph with slots := [(State.reset.dev.get R.ACT_LMM_KEY_SLOT, KeySlot.mk (some (Key.mk 5 0 false ([0x2b,0x7e,0x15,0x16,0x28,0xae,0xd2,0xa6,0xab,0xf7,0x15,0x88,0x09,0xcf,0x4f,0x3c] : List Byte) [] [] [] 0)) none 0 0 0 0 false [])] } } : Dev), 0x100, (List.replicate 17 0 : List Byte), ([0x2b,0x7e,0x15,0x16,0x28,0xae,0xd2,0xa6,0xab,0xf7,0x15,0x88,0x09,0xcf,0x4f,0x3c] : List Byte), rfl, by decide +kernel⟩,
   ⟨(wst []), Port.a, ({ State.reset.dev with cph := { State.reset.dev.cph with slots := [(State.reset.dev.get R.ACT_LMM_KEY_SLOT, KeySlot.mk (some (Key.mk 5 0 false ([0x2b,0x7e,0x15,0x16,0x28,0xae,0xd2,0xa6,0xab,0xf7,0x15,0x88,0x09,0xcf,0x4f,0x3c] : List Byte) [] [] [] 0)) none 0 0 0 0 false [])] } } : Dev), 0x100, (let x : List Byte := [0, 7, 0, 9, 0, 0, 0, 0, 0, 0, 0, 0, 0]; x ++ Machine.slice (aesCmac ([0x2b,0x7e,0x15,0x16,0x28,0xae,0xd2,0xa6,0xab,0xf7,0x15,0x88,0x09,0xcf,0x4f,0x3c] : List Byte) (be 2 0x100 ++ x)) 0 4), ([0x2b,0x7e,0x15,0x16,0x28,0xae,0xd2,0xa6,0xab,0xf7,0x15,0x88,0x09,0xcf,0x4f,0x3c] : List Byte), rfl, by decide +kernel⟩,
   ⟨(wst []), State.reset.dev, 0x100, (List.replicate 17 0 : List Byte), rfl, by decide +kernel⟩,
   ⟨(wst [fun d => { d with bel := { d.bel with win := some (BelWin.mk 100 200 0 1024 .a true) } },
     fun d => { d with bel := { d.bel with tx := none } }, fun d => { d with bel := { d.bel with queued := false } }, fld R.BEL_CTL_KA_EN 1, svc,
     fld R.LFE_STATUS_ENABLED 3, fld R.LFE_STATUS_SOURCE 1, fld (R.LFE_x_STATUS_ROLE Port.a.ix) 2, fld R.LFE_STATUS_SOURCE 0, fld R.ACT_STATUS_TID 3,
     fld R.BEL_CTL_TX_EN 1, fld R.ACT_TREE_BELAY_CODE 5, fld (R.LFE_x_STATUS_TEC_LOCK 0) 1, fld R.ACT_CTL_SN_EN 1, fld R.BEL_CTL_KA_EN 1]),
     (BelWin.mk 100 200 0 1024 .a true), rfl, by decide +kernel⟩,
   ⟨(wst [fun d => { d with bel := { d.bel with win := some (BelWin.mk 100 600 0 1024 .a true) } },
     fun d => { d with bel := { d.bel with tx := none } }, fun d => { d with bel := { d.bel with queued := true } }, svc, fld R.LFE_STATUS_ENABLED 3,
     fld R.LFE_STATUS_SOURCE 1, fld (R.LFE_x_STATUS_ROLE Port.a.ix) 2, fld R.LFE_STATUS_SOURCE 0, fld R.ACT_STATUS_TID 3, fld R.BEL_CTL_TX_EN 1,
     fld R.ACT_TREE_BELAY_CODE 5, fld (R.LFE_x_STATUS_TEC_LOCK 0) 1, fld R.ACT_CTL_SN_EN 1,
     fun d => { d with cph := { d.cph with slots := [(d.get R.ACT_LMM_KEY_SLOT, KeySlot.mk (some (Key.mk 5 0 false ([0x2b,0x7e,0x15,0x16,0x28,0xae,0xd2,0xa6,0xab,0xf7,0x15,0x88,0x09,0xcf,0x4f,0x3c] : List Byte) [] [] [] 0)) none 0 0 0 0 false [])] } }]), (BelWin.mk 100 600 0 1024 .a true), ([0x2b,0x7e,0x15,0x16,0x28,0xae,0xd2,0xa6,0xab,0xf7,0x15,0x88,0x09,0xcf,0x4f,0x3c] : List Byte), rfl, by decide +kernel⟩,
   ⟨(wst [fun d => { d with bel := { d.bel with win := some (BelWin.mk 100 200 0 1024 .a true) } },
     fun d => { d with bel := { d.bel with tx := none } }, fld R.ACT_TREE_BELAY_CODE 1025]), (BelWin.mk 100 200 0 1024 .a true), rfl,
     by decide +kernel⟩,
   ⟨(wst [fun d => { d with bel := { d.bel with win := some (BelWin.mk 100 200 0 1024 .a true) } },
     fun d => { d with bel := { d.bel with tx := some (.a, 5, false) } }]), (BelWin.mk 100 200 0 1024 .a true), rfl, by decide +kernel⟩,
   ⟨(wst [fun d => { d with bel := { d.bel with tx := some (Port.a, 50, true) } }]), Port.a, 50, true, rfl, by decide +kernel⟩,
   ⟨(wst []), rfl⟩⟩
theorem witness_TimeOfDay :
    (∃ (s : State) (v : Word) (n : _), s.runs ∧ n = v.toNat + 2 ^ 32 * ((s.dev.highFor R.TMB_INCR_HI).toNat % 4) ∧ 0x133627628 ≤ n ∧
      n ≤ 0x134000000) ∧
    (∃ (s : State) (v : Word) (n : _), s.runs ∧ n = v.toNat + 2 ^ 32 * ((s.dev.highFor R.TMB_INCR_HI).toNat % 4) ∧
      (n < 0x133627628 ∨ 0x134000000 < n)) ∧
    (∃ (s : State), s.runs) ∧
    (∃ (s : State) (dest : Int), s.runs ∧
      dest = (((s.dev.tmb.time + s.dev.incr) % timeWrap : Nat) : Int) + (signed 48 s.dev.adjSec * 1000000000 + signed 32 (s.dev.rd R.TMB_ADJ_NS).toNat) * 2 ^ 32 ∧ (signed 32 (s.dev.rd R.TMB_ADJ_NS).toNat).natAbs < 1000000000 ∧ 0 ≤ dest) ∧
    (∃ (s : State) (dest : Int), s.runs ∧
      dest = (((s.dev.tmb.time + s.dev.incr) % timeWrap : Nat) : Int) + (signed 48 s.dev.adjSec * 1000000000 + signed 32 (s.dev.rd R.TMB_ADJ_NS).toNat) * 2 ^ 32 ∧ (1000000000 ≤ (signed 32 (s.dev.rd R.TMB_ADJ_NS).toNat).natAbs ∨ dest < 0)) ∧
    (∃ (s : State), s.runs ∧ (s.dev.rd R.TMB_ADJ_NS).toNat < 1000000000) ∧
    (∃ (s : State), s.runs ∧ 1000000000 ≤ (s.dev.rd R.TMB_ADJ_NS).toNat) :=
  ⟨⟨(wst [fun d => { d with heldHigh := [(R.TMB_INCR_HI, 1)] }]), (0x33627628 : Word), _, rfl, rfl, by decide +kernel⟩,
   ⟨(wst [fun d => { d with heldHigh := [(R.TMB_INCR_HI, 1)] }]), (0x33627627 : Word), _, rfl, rfl, by decide +kernel⟩,
   ⟨(wst []), rfl⟩,
   ⟨(wst [fun d => d.wr R.TMB_ADJ_NS 1]), _, rfl, rfl, by decide +kernel⟩,
   ⟨(wst [fun d => d.wr R.TMB_ADJ_NS 1000000000]), _, rfl, rfl, by decide +kernel⟩,
   ⟨(wst [fun d => d.wr R.TMB_ADJ_NS 999999999]), rfl, by decide +kernel⟩,
   ⟨(wst [fun d => d.wr R.TMB_ADJ_NS 1000000000]), rfl, by decide +kernel⟩⟩
theorem witness_TimeMeasurements :
    (∃ (s : State) (w : _), s.runs ∧ s.dev.tmb.lineDue = some w) ∧
    (∃ (s : State), s.runs) ∧
    (∃ (s : State), s.runs ∧ s.dev.get R.TMB_REF_CFG_WIN ≠ 0 ∧ s.dev.tmb.refBad = false) ∧
    (∃ (s : State), s.runs ∧ s.dev.get R.TMB_REF_CFG_WIN ≠ 0) ∧
    (∃ (s : State), s.runs ∧ s.dev.is R.TMB_PPS_CFG_IN_EN = true) ∧
    (∃ (s : State), s.runs ∧ s.dev.get R.TMB_PPS_CFG_WIDTH ≠ 0 ∧ s.dev.tmb.ppsOut = false) ∧
    (∃ (s : State), s.runs ∧ s.dev.tmb.ppsOut = true) ∧
    (∃ (s : State) (e : _) (rest : List TxStamp), s.runs ∧ s.dev.tmb.txs = e :: rest ∧ e.id < 2 ^ 16) ∧
    (∃ (s : State), s.runs ∧ s.dev.tmb.txs = []) :=
  ⟨⟨(wst [fun d => { d with tmb := { d.tmb with lineDue := some (LineDue.mk 5 9 10 { sec := 0, ns := 0 } true) } }]),
    (LineDue.mk 5 9 10 { sec := 0, ns := 0 } true), rfl, by decide +kernel⟩,
   ⟨(wst []), rfl⟩,
   ⟨(wst [fld R.TMB_REF_CFG_WIN 1, fun d => { d with tmb := { d.tmb with refBad := false } }]), rfl, by decide +kernel⟩,
   ⟨(wst [fld R.TMB_REF_CFG_WIN 1]), rfl, by decide +kernel⟩,
   ⟨(wst [fld R.TMB_PPS_CFG_IN_EN 1]), rfl, by decide +kernel⟩,
   ⟨(wst [fld R.TMB_PPS_CFG_WIDTH 1, fun d => { d with tmb := { d.tmb with ppsOut := false } }]), rfl, by decide +kernel⟩,
   ⟨(wst [fun d => { d with tmb := { d.tmb with ppsOut := true } }]), rfl, by decide +kernel⟩,
   ⟨(wst [fun d => { d with tmb := { d.tmb with txs := (TxStamp.mk 3 0 false { sec := 1, ns := 2 } 7) :: ([] : List TxStamp) } }]),
     (TxStamp.mk 3 0 false { sec := 1, ns := 2 } 7), ([] : List TxStamp), rfl, by decide +kernel⟩,
   ⟨(wst [fun d => { d with tmb := { d.tmb with txs := [] } }]), rfl, by decide +kernel⟩⟩
theorem witness_GatesAndQueues :
    (∃ (s : State) (q : Fin 8192), s.runs ∧ (s.dev.queue q).any (fun f => decide (f.cells.deep > 0)) = true ∧
      2 * cellSum (·.cells.front) (s.dev.framesOf q) < s.dev.get R.SCH_SPILL_CFG_HEAD ∧ ((∀ f, f ∈ s.dev.queue q → s.dev.clean f))) ∧
    (∃ (s : State) (e : Fin 18) (c : Fin 8) (q : Nat) (f : QFrame) (rest : List QFrame), s.runs ∧ s.dev.schRuns = true ∧
      (s.dev.fifo e c).length < 2 ∧ s.dev.wfqPick e c = some q ∧ s.dev.queue q = f :: rest) ∧
    (∃ (s : State) (e : Fin 18) (c : Fin 8), s.runs ∧ s.dev.schRuns = true ∧ s.dev.fifoFill e c = none) ∧
    (∃ (s : State) (e : Fin 18), s.runs ∧ s.dev.rd (R.SCH_Ee_ACT_CYCLE e) = 0) ∧
    (∃ (s : State) (e : Fin 18) (n : Nat), s.runs ∧ ((s.dev.gclPos e s.dev.nowNs = none ∧ s.dev.rd (R.SCH_Ee_ACT_CYCLE e) ≠ 0 ∧
      s.dev.nowNs < (sget default e.val s.dev.sch.actStart).toNs ∧ n = (sget default e.val s.dev.sch.actStart).toNs ∨ ∃ p,
      s.dev.gclPos e s.dev.nowNs = some p ∧
      n = s.dev.nowNs + ((s.dev.gclSegs e).find? (fun x => decide (p < x.1))).elim ((s.dev.rd (R.SCH_Ee_ACT_CYCLE e)).toNat - p) (fun x => x.1 - p)))) ∧
    (∃ (s : State) (e : Fin 18), s.runs ∧ s.dev.open_ (R.SCH_Ee_GCL_CTL e) ∧ s.dev.standby = false ∧ s.dev.rd (R.SCH_Ee_GCL_CYCLE e) ≠ 0 ∧
      1 ≤ e.val ∧ e.val ≤ 16 ∧ s.dev.draining 11 = false) ∧
    (∃ (s : State) (e : Fin 18), s.runs ∧ s.dev.open_ (R.SCH_Ee_GCL_CTL e) ∧ s.dev.standby = false ∧
      ((s.dev.rd (R.SCH_Ee_GCL_CYCLE e) = 0 ∨ e.val = 0 ∨ e.val = 17 ∨ s.dev.draining 11 = true))) ∧
    (∃ (s : State) (e : Fin 18), s.runs ∧ s.dev.open_ (R.SCH_Ee_GCL_CTL e) ∧ s.dev.standby = true) ∧
    (∃ (s : State) (e : Fin 18), s.runs ∧ s.dev.open_ (R.SCH_Ee_GCL_CTL e) ∧ s.dev.is (R.SCH_Ee_STATUS_PEND_COMMITTED e) = true) ∧
    (∃ (s : State) (e : Fin 18), s.runs ∧ s.dev.open_ (R.SCH_Ee_GCL_CTL e) ∧ s.dev.is (R.SCH_Ee_STATUS_PEND_COMMITTED e) = false) ∧
    (∃ (s : State) (e : Fin 18) (ns : _), s.runs ∧ s.dev.pendStart e = some ns) :=
  ⟨⟨(wst [fld R.SCH_SPILL_CFG_HEAD 4,
    fun d => d.setQueue 0 [({ (default : QFrame) with bytes := [1, 2, 3], queue := 0, cells := Cells.mk 1 2 3 0 } : QFrame),
    ({ (default : QFrame) with bytes := [1, 2, 3], queue := 0, cells := Cells.mk 0 1 1 0 } : QFrame)]]), (0 : Fin 8192), rfl, by decide +kernel,
    by decide +kernel, fun _ _ k _ => no_errs (by decide +kernel) (by decide +kernel) k⟩,
   ⟨(wst [svc, fun d => d.setQueue 0 [({ (default : QFrame) with bytes := [1, 2, 3], queue := 0, cells := Cells.mk 0 1 1 0 } : QFrame)],
     fld (R.SCH_Qn_CFG_EGRESS 0) 1, fld (R.SCH_Qn_CFG_CLASS 0) 0, fun d => d.tagHead 0 true]), (1 : Fin 18), (0 : Fin 8), 0,
     ({ (default : QFrame) with bytes := [1, 2, 3], queue := 0, cells := Cells.mk 0 1 1 0 } : QFrame), ([] : List QFrame), rfl, by decide +kernel⟩,
   ⟨(wst [svc]), (3 : Fin 18), (0 : Fin 8), rfl, by decide +kernel⟩,
   ⟨(wst []), (3 : Fin 18), rfl, by decide +kernel⟩,
   ⟨(wst [fun d => d.wr (R.SCH_Ee_ACT_CYCLE (1 : Fin 18)) 1000]), (1 : Fin 18), (1000 : Nat), rfl, by decide +kernel⟩,
   ⟨(wst [fun d => d.wr (R.SCH_Ee_GCL_CYCLE (3 : Fin 18)) 1000]), (3 : Fin 18), rfl, opened (by decide +kernel), by decide +kernel⟩,
   ⟨(wst []), (3 : Fin 18), rfl, opened (by decide +kernel), by decide +kernel⟩,
   ⟨(wst [fld R.TWN_STATUS_ROLE (Role.code .standby)]), (3 : Fin 18), rfl, opened (by decide +kernel), by decide +kernel⟩,
   ⟨(wst [fld (R.SCH_Ee_STATUS_PEND_COMMITTED (3 : Fin 18)) 1]), (3 : Fin 18), rfl, opened (by decide +kernel), by decide +kernel⟩,
   ⟨(wst [fld (R.SCH_Ee_STATUS_PEND_COMMITTED (3 : Fin 18)) 0]), (3 : Fin 18), rfl, opened (by decide +kernel), by decide +kernel⟩,
   ⟨(wst [fld (R.SCH_Ee_STATUS_PEND_COMMITTED (3 : Fin 18)) 1, fun d => d.wr (R.SCH_Ee_GCLi (3 : Fin 18) 0) 5]), (3 : Fin 18), 0, rfl,
     by decide +kernel⟩⟩
theorem witness_LaunchAndTokens :
    (∃ (s : State) (e : Fin 18) (f : QFrame) (at_ : Tod) (t : _), s.runs ∧ s.dev.nextOnTime e = some f ∧ f.launch = some at_ ∧
      t = s.dev.elapse (if s.dev.startOf e at_ ≤ s.dev.tmb.time then 0 else (s.dev.startOf e at_ - s.dev.tmb.time + s.dev.incr - 1) / max 1 s.dev.incr) ∧ 1 ≤ e.val ∧ t.passed e f = false ∧ t.ctlBusy e = false ∧ t.canStart e = true ∧ t.gateOk e (t.get (R.SCH_Qn_CFG_CLASS f.queue)) (t.lenL e f) = true ∧ t.Plain e f) ∧
    (∃ (s : State) (e : Fin 18) (f : QFrame) (at_ : Tod) (t : _) (u : _) (i : Nat), s.runs ∧ s.dev.nextOnTime e = some f ∧ f.launch = some at_ ∧
      t = s.dev.elapse (if s.dev.startOf e at_ ≤ s.dev.tmb.time then 0 else (s.dev.startOf e at_ - s.dev.tmb.time + s.dev.incr - 1) / max 1 s.dev.incr) ∧ 1 ≤ e.val ∧ t.schRuns = true ∧ t.egressDown e = false ∧ t.passed e f = true ∧ u = ((t.count (R.SCH_Ee_LATE_GATE e) 1).raise R.SCH_IRQ_LATE).schEvent 3 e ∧ (u.timedOf e).findIdx? (· == f) = some i ∧ u.is (R.SCH_Ee_CFG_LATE_MODE e) = false) ∧
    (∃ (s : State) (e : Fin 18), s.runs ∧ s.dev.nextOnTime e = none) ∧
    (∃ (s : State) (v : Word) (q : Fin 8192), s.runs ∧ s.dev.open_ (R.SCH_Qn_RESV q) ∧
      s.dev.get R.SCH_RESV_TOTAL_CELLS + v.toNat % 2 ^ 24 - s.dev.get (R.SCH_Qn_RESV_CELLS q) ≤ 4194304) ∧
    (∃ (s : State), s.runs ∧ s.dev.open_ R.SCH_POL_RATE) ∧
    (∃ (s : State) (n : Fin 8192), s.runs ∧ s.dev.open_ (R.SCH_SHn_RATE n)) ∧
    (∃ (s : State) (p : Fin 64), s.runs ∧ s.dev.open_ (R.SCH_PSp_RATE p)) ∧
    (∃ (s : State), s.runs ∧ s.dev.open_ R.SCH_POL_CFG) ∧
    (∃ (s : State) (n : Fin 8192), s.runs ∧ s.dev.open_ (R.SCH_SHn_CFG n)) ∧
    (∃ (s : State) (p : Fin 64), s.runs ∧ s.dev.open_ (R.SCH_PSp_CFG p)) :=
  ⟨⟨(wst [svc, fun d => (d.set R.DMA_HPATH_CTL_HRX_EN 1).set R.DMA_HRX_HEAD_INDEX 1, fld (R.SCH_Qn_CFG_EGRESS 0) 17,
    fun d => d.setTimed 17 [({ (default : QFrame) with bytes := [1, 2, 3], queue := 0, launch := some { sec := 0, ns := 5 } } : QFrame)]]),
    (17 : Fin 18), ({ (default : QFrame) with bytes := [1, 2, 3], queue := 0, launch := some { sec := 0, ns := 5 } } : QFrame),
    ({ sec := 0, ns := 5 } : Tod), _, rfl, by decide +kernel, by decide +kernel, rfl, by decide +kernel, by decide +kernel, by decide +kernel,
    by decide +kernel, by decide +kernel, plain (by decide +kernel)⟩,
   ⟨(wst [fld (R.SCH_Ee_CFG_LATE_MODE (17 : Fin 18)) 0, svc, fun d => { d with tmb := { d.tmb with time := 100 * 2 ^ 32 } },
     fun d => (d.set R.DMA_HPATH_CTL_HRX_EN 1).set R.DMA_HRX_HEAD_INDEX 1, fld (R.SCH_Qn_CFG_EGRESS 0) 17,
     fun d => d.setTimed 17 [({ (default : QFrame) with bytes := [1, 2, 3], queue := 0, launch := some { sec := 0, ns := 5 } } : QFrame)]]),
     (17 : Fin 18), ({ (default : QFrame) with bytes := [1, 2, 3], queue := 0, launch := some { sec := 0, ns := 5 } } : QFrame),
     ({ sec := 0, ns := 5 } : Tod), _, _, (0 : Nat), rfl, by decide +kernel, by decide +kernel, rfl, by decide +kernel, by decide +kernel,
     by decide +kernel, by decide +kernel, rfl, by decide +kernel⟩,
   ⟨(wst []), (17 : Fin 18), rfl, by decide +kernel⟩,
   ⟨(wst []), (4194304 : Word), (5 : Fin 8192), rfl, opened (by decide +kernel), by decide +kernel⟩,
   ⟨(wst []), rfl, opened (by decide +kernel)⟩,
   ⟨(wst []), (3 : Fin 8192), rfl, opened (by decide +kernel)⟩,
   ⟨(wst []), (3 : Fin 64), rfl, opened (by decide +kernel)⟩,
   ⟨(wst []), rfl, opened (by decide +kernel)⟩,
   ⟨(wst []), (3 : Fin 8192), rfl, opened (by decide +kernel)⟩,
   ⟨(wst []), (3 : Fin 64), rfl, opened (by decide +kernel)⟩⟩
theorem witness_FramesLeave :
    (∃ (s : State) (e : Fin 18) (t : _) (c : _) (f : QFrame), s.runs ∧ e.val ≠ 0 ∧ t = (if 1 ≤ e.val ∧
      e.val ≤ 8 then s.dev.pausePump (e - 1) else s.dev).freeCtl e ∧ t.canStart e = true ∧ t.lateReady e = none ∧ t.classPick e = some (c, f) ∧
      t.Plain e f) ∧
    (∃ (s : State) (e : Fin 18) (t : _) (i : _) (f : QFrame), s.runs ∧ e.val ≠ 0 ∧ t = (if 1 ≤ e.val ∧
      e.val ≤ 8 then s.dev.pausePump (e - 1) else s.dev).freeCtl e ∧ t.canStart e = true ∧ t.lateReady e = some (i, f) ∧ t.Plain e f) ∧
    (∃ (s : State) (e : Fin 18) (t : _), s.runs ∧ e.val ≠ 0 ∧ t = (if 1 ≤ e.val ∧ e.val ≤ 8 then s.dev.pausePump (e - 1) else s.dev).freeCtl e ∧
      ((t.schRuns = false ∨ t.canStart e = false ∧ (t.egressDown e = false ∨ t.is (R.SCH_Ee_CFG_DOWN_DROP e) = false)))) ∧
    (∃ (s : State) (e : Fin 18) (t : _), s.runs ∧ t = (if 1 ≤ e.val ∧ e.val ≤ 8 then s.dev.pausePump (e - 1) else s.dev).freeCtl e ∧
      t.schRuns = true ∧ t.egressDown e = true ∧ t.is (R.SCH_Ee_CFG_DOWN_DROP e) = true) ∧
    (∃ (s : State) (e : Fin 18), s.runs ∧ e.val = 0 ∧ s.dev.relay = false ∧ s.dev.ctlBusy 0 = false ∧
      ((s.dev.egressDown 0 = false ∨ s.dev.is (R.SCH_Ee_CFG_DOWN_DROP 0) = false))) ∧
    (∃ (s : State) (e : Fin 18) (c : _) (f : QFrame) (r : _), s.runs ∧ e.val = 0 ∧ s.dev.relay = true ∧ s.dev.ctlBusy 0 = false ∧
      s.dev.schRuns = true ∧ s.dev.egressDown 0 = false ∧ s.dev.classPick 0 = some (c, f) ∧ f.cipher = 0 ∧ r = (s.dev.takeHead 0 c f).takeCells f ∧
      r.2 = false) ∧
    (∃ (s : State) (e : Fin 18) (f : QFrame) (n : _) (h : List Byte), s.runs ∧ 9 ≤ e.val ∧ e.val ≤ 16 ∧ s.dev.launching e = some (f, n) ∧
      f.rope = some h ∧ s.dev.clean f ∧ sget [] e.val s.dev.sch.ctlWait = []) ∧
    (∃ (s : State) (e : Fin 18) (f : QFrame) (n : _), s.runs ∧ 1 ≤ e.val ∧ e.val ≤ 8 ∧ s.dev.launching e = some (f, n) ∧ s.dev.clean f ∧
      s.dev.standby = false ∧ (s.dev.macP (e - 1)).pauseWait = none ∧ (s.dev.macP (e - 1)).pauseTx = none) ∧
    (∃ (s : State) (e : Fin 18), s.runs ∧ 1 ≤ e.val ∧ e.val ≤ 16 ∧ s.dev.launching e = none) ∧
    (∃ (s : State) (e : Fin 18), s.runs ∧ ((e.val = 0 ∨ e.val = 17))) ∧
    (∃ (s : State) (u : UpFrame) (g : Grant) (p : Port) (t : Dev), s.runs ∧ nextGrant s.dev.lfr.up = some (u, g) ∧
      t = s.dev.until_ (u.ds + (upBits + u.eqd + g.start) / 64) ∧ t.activePort = some p ∧ t.upBlocked = false ∧ t.grantAllowed g = true ∧
      t.txReady p = true ∧ g.id ≠ 0xFFF ∧ g.length ≤ 2048 ∧ 64 * u.preLen + 128 ≤ g.length ∧ 2 ≤ u.grants.length) ∧
    (∃ (s : State) (u : UpFrame) (g : Grant) (p : Port) (t : Dev), s.runs ∧ nextGrant s.dev.lfr.up = some (u, g) ∧
      t = s.dev.until_ (u.ds + (upBits + u.eqd + g.start) / 64) ∧ t.activePort = some p ∧ t.upBlocked = false ∧ t.grantAllowed g = true ∧
      t.txReady p = true ∧ g.id ≠ 0xFFF ∧ g.length ≤ 2048 ∧ 64 * u.preLen + 128 ≤ g.length ∧ 2 ≤ u.grants.length ∧ g.tdm = false ∧ g.lmm = false ∧
      g.report = false ∧ t.timedOf 0 = [] ∧ ((∀ c, c < 8 → t.fifo 0 c = [])) ∧ ((∀ x, x ∈ t.sch.queues → x.2 ≠ [] →
      t.get (R.SCH_Qn_CFG_EGRESS x.1) ≠ 0))) ∧
    (∃ (s : State) (u : UpFrame) (g : Grant) (p : Port) (t : Dev), s.runs ∧ nextGrant s.dev.lfr.up = some (u, g) ∧
      t = s.dev.until_ (u.ds + (upBits + u.eqd + g.start) / 64) ∧ t.activePort = some p ∧ t.upBlocked = false ∧ t.grantAllowed g = true ∧
      t.txReady p = false ∧ g.tdm = false ∧ 2 ≤ u.grants.length) ∧
    (∃ (s : State) (u : UpFrame) (g : Grant) (p : Port) (t : Dev), s.runs ∧ nextGrant s.dev.lfr.up = some (u, g) ∧
      t = s.dev.until_ (u.ds + (upBits + u.eqd + g.start) / 64) ∧ t.activePort = some p ∧ t.upBlocked = true ∧ g.tdm = false ∧ 2 ≤ u.grants.length) ∧
    (∃ (s : State) (e : Fin 18) (f : QFrame) (n : _) (h : List Byte), s.runs ∧ 9 ≤ e.val ∧ e.val ≤ 16 ∧ s.dev.launching e = some (f, n) ∧
      f.rope = some h) :=
  ⟨⟨(wst [svc, fld (R.MAC_En_STATUS_LINK 0) 1, fld (R.MAC_En_CFG_MAX_FRAME 0) 1522, fld (R.MAC_En_CFG_CT_STEP 0) 5,
    fun d => d.setFifo 1 0 [({ (default : QFrame) with bytes := [1, 2, 3], queue := 0 } : QFrame)]]), (1 : Fin 18), _, 0,
    ({ (default : QFrame) with bytes := [1, 2, 3], queue := 0 } : QFrame), rfl, by decide +kernel, rfl, by decide +kernel, by decide +kernel,
    by decide +kernel, plain (by decide +kernel)⟩,
   ⟨(wst [svc, fun d => (d.set R.DMA_HPATH_CTL_HRX_EN 1).set R.DMA_HRX_HEAD_INDEX 1, fld (R.SCH_Qn_CFG_EGRESS 0) 17,
     fun d => d.setTimed 17 [({ (default : QFrame) with bytes := [1, 2, 3], queue := 0, late := true, launch := some { sec := 0, ns := 0 } } : QFrame)]]), (17 : Fin 18), _, 0, ({ (default : QFrame) with bytes := [1, 2, 3], queue := 0, late := true, launch := some { sec := 0, ns := 0 } } : QFrame), rfl, by decide +kernel, rfl, by decide +kernel, by decide +kernel, plain (by decide +kernel)⟩,
   ⟨(wst []), (1 : Fin 18), _, rfl, by decide +kernel, rfl, by decide +kernel⟩,
   ⟨(wst [svc, fld (R.SCH_Ee_CFG_DOWN_DROP 1) 1,
     fun d => d.setFifo 1 0 [({ (default : QFrame) with bytes := [1, 2, 3], queue := 0, cells := Cells.mk 0 1 1 0 } : QFrame)]]), (1 : Fin 18), _,
     rfl, rfl, by decide +kernel⟩,
   ⟨(wst []), (0 : Fin 18), rfl, by decide +kernel⟩,
   ⟨(wst [svc, fld R.LFE_STATUS_SOURCE 2, fld R.ROP_RELAY_STATUS_STATE 2,
     fun d => d.setFifo 0 0 [({ (default : QFrame) with bytes := [1, 2, 3], queue := 0 } : QFrame)]]), (0 : Fin 18), 0,
     ({ (default : QFrame) with bytes := [1, 2, 3], queue := 0 } : QFrame), _, rfl, by decide +kernel, by decide +kernel, by decide +kernel,
     by decide +kernel, by decide +kernel, by decide +kernel, by decide +kernel, rfl, by decide +kernel⟩,
   ⟨(wst [fun d => d.setLaunching (16 : Fin 18) (some (({ (default : QFrame) with bytes := [1, 2, 3], queue := 0, rope := some [9] } : QFrame),
     0))]), (16 : Fin 18), ({ (default : QFrame) with bytes := [1, 2, 3], queue := 0, rope := some [9] } : QFrame), 0, ([9] : List Byte), rfl,
     by decide +kernel, by decide +kernel, by decide +kernel, by decide +kernel, fun k _ => no_errs (by decide +kernel) (by decide +kernel) k,
     by decide +kernel⟩,
   ⟨(wst [fun d => d.setLaunching (3 : Fin 18) (some (({ (default : QFrame) with bytes := [1, 2, 3], queue := 0 } : QFrame), 5))]), (3 : Fin 18),
     ({ (default : QFrame) with bytes := [1, 2, 3], queue := 0 } : QFrame), 5, rfl, by decide +kernel, by decide +kernel, by decide +kernel,
     fun k _ => no_errs (by decide +kernel) (by decide +kernel) k, by decide +kernel⟩,
   ⟨(wst []), (1 : Fin 18), rfl, by decide +kernel⟩,
   ⟨(wst []), (0 : Fin 18), rfl, by decide +kernel⟩,
   ⟨(wst [svc, fld R.LFE_STATUS_ENABLED 1, fld (R.LFE_x_STATUS_ROLE 0) 2, fld (R.LFE_x_STATUS_TEC_LOCK 0) 1,
     fun d => { d with act := { d.act with st := .registered } },
     fun d => { d with lfr := { d.lfr with up := [(UpFrame.mk 3 0 8 5 0 true [(Grant.mk 4 false false false 0 2048), (Grant.mk 4 false false false 0 2048)] false [] false false)] } }]), (UpFrame.mk 3 0 8 5 0 true [(Grant.mk 4 false false false 0 2048), (Grant.mk 4 false false false 0 2048)] false [] false false), (Grant.mk 4 false false false 0 2048), Port.a, _, rfl, by decide +kernel, rfl, by decide +kernel⟩,
   ⟨(wst [svc, fld R.LFE_STATUS_ENABLED 1, fld (R.LFE_x_STATUS_ROLE 0) 2, fld (R.LFE_x_STATUS_TEC_LOCK 0) 1,
     fun d => { d with act := { d.act with st := .registered } },
     fun d => { d with lfr := { d.lfr with up := [(UpFrame.mk 3 0 8 5 0 true [(Grant.mk 4 false false false 0 2048), (Grant.mk 4 false false false 0 2048)] false [] false false)] } }]), (UpFrame.mk 3 0 8 5 0 true [(Grant.mk 4 false false false 0 2048), (Grant.mk 4 false false false 0 2048)] false [] false false), (Grant.mk 4 false false false 0 2048), Port.a, _, rfl, by decide +kernel, rfl, by decide +kernel⟩,
   ⟨(wst [svc, fld R.LFE_STATUS_ENABLED 1, fld (R.LFE_x_STATUS_ROLE 0) 2, fun d => { d with act := { d.act with st := .registered } },
     fun d => { d with lfr := { d.lfr with up := [(UpFrame.mk 3 0 8 5 0 true [(Grant.mk 4 false false false 0 2048), (Grant.mk 4 false false false 0 2048)] false [] false false)] } }]), (UpFrame.mk 3 0 8 5 0 true [(Grant.mk 4 false false false 0 2048), (Grant.mk 4 false false false 0 2048)] false [] false false), (Grant.mk 4 false false false 0 2048), Port.a, _, rfl, by decide +kernel, rfl, by decide +kernel⟩,
   ⟨(wst [svc, fld (R.LFE_x_STATUS_ROLE 0) 2,
     fun d => { d with lfr := { d.lfr with up := [(UpFrame.mk 3 0 8 5 0 true [(Grant.mk 4 false false false 0 2048), (Grant.mk 4 false false false 0 2048)] false [] false false)] } }, fld R.TWN_STATUS_ROLE 2]), (UpFrame.mk 3 0 8 5 0 true [(Grant.mk 4 false false false 0 2048), (Grant.mk 4 false false false 0 2048)] false [] false false), (Grant.mk 4 false false false 0 2048), Port.a, _, rfl, by decide +kernel, rfl, by decide +kernel⟩,
   ⟨(wst [fun d => d.setLaunching (16 : Fin 18) (some (({ (default : QFrame) with bytes := [1, 2, 3], queue := 0, rope := some [9] } : QFrame),
     0))]), (16 : Fin 18), ({ (default : QFrame) with bytes := [1, 2, 3], queue := 0, rope := some [9] } : QFrame), 0, ([9] : List Byte), rfl,
     by decide +kernel⟩⟩
theorem witness_FramesParsed :
    (∃ (s : State) (n : Fin 8) (b : List Byte) (o : Nat), s.runs ∧ s.dev.inBandAt n b = some o ∧ s.dev.parseRuns = true ∧ s.dev.pwr.closed = false ∧
      s.dev.cmacKey (s.dev.get R.HIF_MGMT_KEY_SLOT) = none) ∧
    (∃ (s : State) (n : Fin 8) (b : List Byte) (o : Nat) (k : List Byte) (c : Nat), s.runs ∧ s.dev.inBandAt n b = some o ∧ s.dev.parseRuns = true ∧
      s.dev.pwr.closed = false ∧ s.dev.cmacKey (s.dev.get R.HIF_MGMT_KEY_SLOT) = some k ∧ c = leAt b (o + 2) 1 ∧ leAt b o 1 = 1 ∧
      leAt b (o + 1) 1 = 1 ∧ 1 ≤ c ∧ c ≤ 16 ∧ o + 4 + 64 * c + 16 ≤ b.length ∧
      Machine.slice b (o + 4 + 64 * c) 16 = padTo 16 (aesCmac k (Machine.slice b o (4 + 64 * c)))) ∧
    (∃ (s : State) (f : Frame) (rest : List Frame) (t : _) (r : _), s.runs ∧ s.dev.prs.line = f :: rest ∧ s.dev.parseHeld = false ∧
      s.dev.parseRuns = true ∧ s.dev.pwr.closed = false ∧ s.dev.isUp domUsr = true ∧ s.dev.isUp domThk = true ∧ s.dev.get R.PWR_LINGER_US = 0 ∧
      f.second = false ∧ t = ({ s.dev with prs := { s.dev.prs with line := rest } } : Dev).countR R.PRS_FRAMES_LINE 1 ∧ r = t.takeVersion f ∧
      t.profileOf false r.2 = none) ∧
    (∃ (s : State) (f : Frame) (rest : List Frame) (t : _) (r : _) (p : Profile), s.runs ∧ s.dev.prs.line = f :: rest ∧ s.dev.parseHeld = false ∧
      s.dev.parseRuns = true ∧ s.dev.pwr.closed = false ∧ s.dev.isUp domUsr = true ∧ s.dev.isUp domThk = true ∧ s.dev.get R.PWR_LINGER_US = 0 ∧
      f.second = false ∧ t = ({ s.dev with prs := { s.dev.prs with line := rest } } : Dev).countR R.PRS_FRAMES_LINE 1 ∧ r = t.takeVersion f ∧
      t.profileOf false r.2 = some p ∧ (p.fields.map r.2.extract).any (·.isNone) = true) ∧
    (∃ (s : State) (f : Frame) (rest : List Frame) (r : _) (p : Profile) (d9 : Decl) (t0 : Template) (act : _) (a : _), s.runs ∧
      s.dev.prs.line = f :: rest ∧ s.dev.parseHeld = false ∧ s.dev.parseRuns = true ∧ s.dev.pwr.closed = false ∧ s.dev.isUp domUsr = true ∧
      s.dev.isUp domThk = true ∧ s.dev.get R.PWR_LINGER_US = 0 ∧ f.second = false ∧ f.version = none ∧
      r = { f with version := some s.dev.live, since := s.dev.ticks, aged := false } ∧ s.dev.profileOf false r = some p ∧
      (p.fields.map r.extract).any (·.isNone) = false ∧ (p.checks.all fun c => c.passes r.bytes.length (p.fields.map r.extract)) = true ∧
      s.dev.decl 10 = some d9 ∧ d9.templates.find? (·.number == p.template) = some t0 ∧ s.dev.get (R.THK_TMPLn_CFG_KLEN t0.number) = 0 ∧
      s.dev.is (R.THK_TMPLn_CFG_HEDGE_EN t0.number) = false ∧ act = s.dev.act5 (R.THK_TMPLn_DEFAULT_w t0.number 0) ∧ a = Action.of act ∧
      a.verdict = 1 ∧ a.cntEn = false ∧ a.notify = false) ∧
    (∃ (s : State) (user : Bool), s.runs ∧ (if user = true then s.dev.prs.user else s.dev.prs.line) = []) ∧
    (∃ (s : State) (b : Fin 262144), s.runs ∧ ((∀ m, m ∈ s.dev.thk.missQ → b.val ∉ m.buckets))) ∧
    (∃ (s : State) (b : Fin 262144), s.runs ∧ ((∃ m, m ∈ s.dev.thk.missQ ∧ b.val ∈ m.buckets)) ∧ s.dev.isUp domThk = true ∧ ((∀ m,
      m ∈ s.dev.thk.missQ → b.val ∈ m.buckets → ∃ f u t k h, m.who = .frame f u t k h))) ∧
    (∃ (s : State) (b : Fin 262144), s.runs ∧ ((∃ m, m ∈ s.dev.thk.missQ ∧ b.val ∈ m.buckets)) ∧ ((∀ m, m ∈ s.dev.thk.missQ → ∃ x, x ∈ m.buckets ∧
      x ≠ b.val)) ∧ s.dev.isUp domThk = true ∧ s.dev.cleanBucket b) :=
  ⟨⟨(wst [fun d => { d with pwr := { d.pwr with closed := false } }, svc, fld R.HIF_CTL_IB_EN 1, fld R.HIF_IB_CFG_PORTS 255,
    fld R.HIF_IB_CFG_VLAN 0]), (3 : Fin 8), (List.replicate 12 0 ++ [0x88, 0xB5] : List Byte), 14, rfl, by decide +kernel⟩,
   ⟨(wst [fun d => { d with pwr := { d.pwr with closed := false } }, svc, fld R.HIF_CTL_IB_EN 1, fld R.HIF_IB_CFG_PORTS 255, fld R.HIF_IB_CFG_VLAN 0,
     fun d => { d with cph := { d.cph with slots := [(d.get R.HIF_MGMT_KEY_SLOT, KeySlot.mk (some (Key.mk 5 0 false ([0x2b,0x7e,0x15,0x16,0x28,0xae,0xd2,0xa6,0xab,0xf7,0x15,0x88,0x09,0xcf,0x4f,0x3c] : List Byte) [] [] [] 0)) none 0 0 0 0 false [])] } }]), (3 : Fin 8), (List.replicate 12 0 ++ [0x88, 0xB5, 1, 1, 1, 0] ++ List.replicate 64 3 ++ padTo 16 (aesCmac ([0x2b,0x7e,0x15,0x16,0x28,0xae,0xd2,0xa6,0xab,0xf7,0x15,0x88,0x09,0xcf,0x4f,0x3c] : List Byte) ([1, 1, 1, 0] ++ List.replicate 64 3)) : List Byte), 14, ([0x2b,0x7e,0x15,0x16,0x28,0xae,0xd2,0xa6,0xab,0xf7,0x15,0x88,0x09,0xcf,0x4f,0x3c] : List Byte), _, rfl, by decide +kernel, by decide +kernel, by decide +kernel, by decide +kernel, rfl, by decide +kernel⟩,
   ⟨(wst [fun d => { d with prs := { d.prs with line := ({ (default : Frame) with bytes := [1, 2, 3] } : Frame) :: ([] : List Frame) } },
     fun d => { d with pwr := { d.pwr with closed := false } }, svc,
     fun d => { d with prs := { d.prs with line := [({ (default : Frame) with bytes := [1, 2, 3] } : Frame)] } }]),
     ({ (default : Frame) with bytes := [1, 2, 3] } : Frame), ([] : List Frame), _, _, rfl, by decide +kernel, by decide +kernel, by decide +kernel,
     by decide +kernel, by decide +kernel, by decide +kernel, by decide +kernel, by decide +kernel, rfl, rfl, by decide +kernel⟩,
   ⟨(wst [fun d => { d with prs := { d.prs with line := ({ (default : Frame) with bytes := [1, 2, 3] } : Frame) :: ([] : List Frame) } },
     fun d => { d with pwr := { d.pwr with closed := false } }, svc,
     fun d => { d with prs := { d.prs with line := [({ (default : Frame) with bytes := [1, 2, 3] } : Frame)] } },
     fun d => { d with decls := [(9, { (default : Decl) with selLine := [{ (default : SelEntry) with profile := 2 }], profiles := [({ (default : Profile) with number := 2, fields := [{ (default : Extraction) with off := 9, len := 4 }] } : Profile)] })] }]), ({ (default : Frame) with bytes := [1, 2, 3] } : Frame), ([] : List Frame), _, _, ({ (default : Profile) with number := 2, fields := [{ (default : Extraction) with off := 9, len := 4 }] } : Profile), rfl, by decide +kernel, by decide +kernel, by decide +kernel, by decide +kernel, by decide +kernel, by decide +kernel, by decide +kernel, by decide +kernel, rfl, rfl, by decide +kernel⟩,
   ⟨(wst [fun d => { d with prs := { d.prs with line := ({ (default : Frame) with bytes := [1, 2, 3] } : Frame) :: ([] : List Frame) } },
     fun d => { d with pwr := { d.pwr with closed := false } },
     fun d => d.set (R.THK_TMPLn_CFG_KLEN ({ (default : Template) with number := 3 } : Template).number) 0,
     fun d => d.set (R.THK_TMPLn_CFG_HEDGE_EN ({ (default : Template) with number := 3 } : Template).number) 0, svc,
     fun d => { d with prs := { d.prs with line := [({ (default : Frame) with bytes := [1, 2, 3] } : Frame)] } },
     fun d => { d with decls := [(9, { (default : Decl) with selLine := [{ (default : SelEntry) with profile := 2 }], profiles := [({ (default : Profile) with number := 2, template := 3, fields := [] } : Profile)] }), (10, ({ (default : Decl) with templates := [({ (default : Template) with number := 3 } : Template)] } : Decl))] }, fun d => d.wr (R.THK_TMPLn_DEFAULT_w ({ (default : Template) with number := 3 } : Template).number 0) 1]), ({ (default : Frame) with bytes := [1, 2, 3] } : Frame), ([] : List Frame), _, ({ (default : Profile) with number := 2, template := 3, fields := [] } : Profile), ({ (default : Decl) with templates := [({ (default : Template) with number := 3 } : Template)] } : Decl), ({ (default : Template) with number := 3 } : Template), _, _, rfl, by decide +kernel, by decide +kernel, by decide +kernel, by decide +kernel, by decide +kernel, by decide +kernel, by decide +kernel, by decide +kernel, by decide +kernel, rfl, by decide +kernel, by decide +kernel, by decide +kernel, by decide +kernel, by decide +kernel, by decide +kernel, by decide +kernel, rfl, rfl, by decide +kernel⟩,
   ⟨(wst []), true, rfl, by decide +kernel⟩,
   ⟨(wst []), (1 : Fin 262144), rfl, by decide +kernel⟩,
   ⟨(wst [fun d => { d with thk := { d.thk with missQ := [Miss.mk [7, 9] (.frame (default : Frame) true 0 [] [])] } }]), (7 : Fin 262144), rfl, ⟨_,
     .head _, by decide +kernel⟩, by decide +kernel, fun m hm _ => by rw [List.mem_singleton.mp hm]; exact ⟨_, _, _, _, _, rfl⟩⟩,
   ⟨(wst [fun d => { d with thk := { d.thk with missQ := [Miss.mk [7, 9] (.engine 1 2)] } }]), (7 : Fin 262144), rfl, by decide +kernel,
     by decide +kernel, by decide +kernel, fun k _ => no_errs (by decide +kernel) (by decide +kernel) k⟩⟩
theorem witness_ThicketOperations :
    (∃ (s : State) (t : Fin 64) (n : _) (c : _), s.runs ∧ s.dev.open_ R.THK_OP ∧ s.dev.standby = false ∧ s.dev.draining 10 = false ∧
      s.dev.keyed t = true ∧ s.dev.keyOk t s.dev.thkKey = true ∧ (Action.of s.dev.thkAct).legal = true ∧ s.dev.pendCount < 1048576 ∧
      s.dev.findEntry t s.dev.thkKey s.dev.pendVer = none ∧ s.dev.freeSlot (s.dev.buckets t s.dev.thkKey).1 = some n ∧
      (c = Instr.insert t ∨ c = Instr.replace t)) ∧
    (∃ (s : State) (t : Fin 64) (x : _), s.runs ∧ s.dev.open_ R.THK_OP ∧ s.dev.standby = false ∧ s.dev.draining 10 = false ∧ s.dev.keyed t = true ∧
      s.dev.keyOk t s.dev.thkKey = true ∧ (Action.of s.dev.thkAct).legal = true ∧ s.dev.pendCount < 1048576 ∧
      s.dev.findEntry t s.dev.thkKey s.dev.pendVer = some x) ∧
    (∃ (s : State) (t : Fin 64) (n : _) (e : _), s.runs ∧ s.dev.open_ R.THK_OP ∧ s.dev.standby = false ∧ s.dev.draining 10 = false ∧
      s.dev.keyed t = true ∧ s.dev.keyOk t s.dev.thkKey = true ∧ (Action.of s.dev.thkAct).legal = true ∧ s.dev.pendCount < 1048576 ∧
      s.dev.findEntry t s.dev.thkKey s.dev.pendVer = some (n, e) ∧ e.birth = s.dev.pendVer) ∧
    (∃ (s : State) (t : Fin 64) (n : _) (e : _) (k : _), s.runs ∧ s.dev.open_ R.THK_OP ∧ s.dev.standby = false ∧ s.dev.draining 10 = false ∧
      s.dev.keyed t = true ∧ s.dev.keyOk t s.dev.thkKey = true ∧ (Action.of s.dev.thkAct).legal = true ∧ s.dev.pendCount < 1048576 ∧
      s.dev.findEntry t s.dev.thkKey s.dev.pendVer = some (n, e) ∧ e.birth ≠ s.dev.pendVer ∧
      s.dev.freeSlot (s.dev.buckets t s.dev.thkKey).1 = some k) ∧
    (∃ (s : State) (t : Fin 64) (n : _) (e : _), s.runs ∧ s.dev.open_ R.THK_OP ∧ s.dev.standby = false ∧ s.dev.draining 10 = false ∧
      s.dev.keyed t = true ∧ s.dev.keyOk t s.dev.thkKey = true ∧ s.dev.pendCount < 1048576 ∧ s.dev.findEntry t s.dev.thkKey s.dev.pendVer = some (n,
      e)) ∧
    (∃ (s : State) (t : Fin 64), s.runs ∧ s.dev.open_ R.THK_OP ∧ s.dev.standby = false ∧ s.dev.draining 10 = false ∧ s.dev.keyed t = true ∧
      s.dev.keyOk t s.dev.thkKey = true ∧ s.dev.pendCount < 1048576 ∧ s.dev.findEntry t s.dev.thkKey s.dev.pendVer = none) ∧
    (∃ (s : State) (t : Fin 64) (view : _) (n : _) (e : _), s.runs ∧ s.dev.open_ R.THK_OP ∧ s.dev.standby = false ∧ s.dev.draining 10 = false ∧
      s.dev.keyed t = true ∧ s.dev.keyOk t s.dev.thkKey = true ∧
      s.dev.findEntry t s.dev.thkKey (if view = true then s.dev.pendVer else s.dev.live) = some (n, e)) ∧
    (∃ (s : State) (t : Fin 64) (view : _), s.runs ∧ s.dev.open_ R.THK_OP ∧ s.dev.standby = false ∧ s.dev.draining 10 = false ∧
      s.dev.keyed t = true ∧ s.dev.keyOk t s.dev.thkKey = true ∧
      s.dev.findEntry t s.dev.thkKey (if view = true then s.dev.pendVer else s.dev.live) = none) :=
  ⟨⟨(wst [fun d => ((d.set (R.THK_TMPLn_CFG_DEFINED (2 : Fin 64)) 1).set (R.THK_TMPLn_CFG_KLEN (2 : Fin 64)) 4).set (R.THK_TMPLn_CFG_SIZE (2 : Fin 64)) 1, fun d => d.wr (R.THK_KEY 0) 0xDEADBEEF]), (2 : Fin 64), (4 * (((wst [fun d => ((d.set (R.THK_TMPLn_CFG_DEFINED (2 : Fin 64)) 1).set (R.THK_TMPLn_CFG_KLEN (2 : Fin 64)) 4).set (R.THK_TMPLn_CFG_SIZE (2 : Fin 64)) 1, fun d => d.wr (R.THK_KEY 0) 0xDEADBEEF])).dev.buckets (2 : Fin 64) ((wst [fun d => ((d.set (R.THK_TMPLn_CFG_DEFINED (2 : Fin 64)) 1).set (R.THK_TMPLn_CFG_KLEN (2 : Fin 64)) 4).set (R.THK_TMPLn_CFG_SIZE (2 : Fin 64)) 1, fun d => d.wr (R.THK_KEY 0) 0xDEADBEEF])).dev.thkKey).1), (Instr.insert (2 : Fin 64)), rfl, opened (by decide +kernel), by decide +kernel⟩,
   ⟨(wst [fun d => ((d.set (R.THK_TMPLn_CFG_DEFINED (2 : Fin 64)) 1).set (R.THK_TMPLn_CFG_KLEN (2 : Fin 64)) 4).set (R.THK_TMPLn_CFG_SIZE (2 : Fin 64)) 1, fun d => d.wr (R.THK_KEY 0) 0xDEADBEEF, fun d => d.setTslot (4 * (d.buckets (2 : Fin 64) d.thkKey).1) (some (TEntry.mk (2 : Fin 64) d.thkKey 9 1 1))]), (2 : Fin 64), (4 * (((wst [fun d => ((d.set (R.THK_TMPLn_CFG_DEFINED (2 : Fin 64)) 1).set (R.THK_TMPLn_CFG_KLEN (2 : Fin 64)) 4).set (R.THK_TMPLn_CFG_SIZE (2 : Fin 64)) 1, fun d => d.wr (R.THK_KEY 0) 0xDEADBEEF, fun d => d.setTslot (4 * (d.buckets (2 : Fin 64) d.thkKey).1) (some (TEntry.mk (2 : Fin 64) d.thkKey 9 1 1))])).dev.buckets (2 : Fin 64) ((wst [fun d => ((d.set (R.THK_TMPLn_CFG_DEFINED (2 : Fin 64)) 1).set (R.THK_TMPLn_CFG_KLEN (2 : Fin 64)) 4).set (R.THK_TMPLn_CFG_SIZE (2 : Fin 64)) 1, fun d => d.wr (R.THK_KEY 0) 0xDEADBEEF, fun d => d.setTslot (4 * (d.buckets (2 : Fin 64) d.thkKey).1) (some (TEntry.mk (2 : Fin 64) d.thkKey 9 1 1))])).dev.thkKey).1, (TEntry.mk (2 : Fin 64) (((wst [fun d => ((d.set (R.THK_TMPLn_CFG_DEFINED (2 : Fin 64)) 1).set (R.THK_TMPLn_CFG_KLEN (2 : Fin 64)) 4).set (R.THK_TMPLn_CFG_SIZE (2 : Fin 64)) 1, fun d => d.wr (R.THK_KEY 0) 0xDEADBEEF, fun d => d.setTslot (4 * (d.buckets (2 : Fin 64) d.thkKey).1) (some (TEntry.mk (2 : Fin 64) d.thkKey 9 1 1))])).dev.thkKey) 9 1 1)), rfl, opened (by decide +kernel), by decide +kernel⟩,
   ⟨(wst [fun d => ((d.set (R.THK_TMPLn_CFG_DEFINED (2 : Fin 64)) 1).set (R.THK_TMPLn_CFG_KLEN (2 : Fin 64)) 4).set (R.THK_TMPLn_CFG_SIZE (2 : Fin 64)) 1, fun d => d.wr (R.THK_KEY 0) 0xDEADBEEF, fun d => d.setTslot (4 * (d.buckets (2 : Fin 64) d.thkKey).1) (some (TEntry.mk (2 : Fin 64) d.thkKey 9 1 1))]), (2 : Fin 64), (4 * (((wst [fun d => ((d.set (R.THK_TMPLn_CFG_DEFINED (2 : Fin 64)) 1).set (R.THK_TMPLn_CFG_KLEN (2 : Fin 64)) 4).set (R.THK_TMPLn_CFG_SIZE (2 : Fin 64)) 1, fun d => d.wr (R.THK_KEY 0) 0xDEADBEEF, fun d => d.setTslot (4 * (d.buckets (2 : Fin 64) d.thkKey).1) (some (TEntry.mk (2 : Fin 64) d.thkKey 9 1 1))])).dev.buckets (2 : Fin 64) ((wst [fun d => ((d.set (R.THK_TMPLn_CFG_DEFINED (2 : Fin 64)) 1).set (R.THK_TMPLn_CFG_KLEN (2 : Fin 64)) 4).set (R.THK_TMPLn_CFG_SIZE (2 : Fin 64)) 1, fun d => d.wr (R.THK_KEY 0) 0xDEADBEEF, fun d => d.setTslot (4 * (d.buckets (2 : Fin 64) d.thkKey).1) (some (TEntry.mk (2 : Fin 64) d.thkKey 9 1 1))])).dev.thkKey).1), (TEntry.mk (2 : Fin 64) (((wst [fun d => ((d.set (R.THK_TMPLn_CFG_DEFINED (2 : Fin 64)) 1).set (R.THK_TMPLn_CFG_KLEN (2 : Fin 64)) 4).set (R.THK_TMPLn_CFG_SIZE (2 : Fin 64)) 1, fun d => d.wr (R.THK_KEY 0) 0xDEADBEEF, fun d => d.setTslot (4 * (d.buckets (2 : Fin 64) d.thkKey).1) (some (TEntry.mk (2 : Fin 64) d.thkKey 9 1 1))])).dev.thkKey) 9 1 1), rfl, opened (by decide +kernel), by decide +kernel⟩,
   ⟨(wst [fun d => ((d.set (R.THK_TMPLn_CFG_DEFINED (2 : Fin 64)) 1).set (R.THK_TMPLn_CFG_KLEN (2 : Fin 64)) 4).set (R.THK_TMPLn_CFG_SIZE (2 : Fin 64)) 1, fun d => d.wr (R.THK_KEY 0) 0xDEADBEEF, fun d => d.setTslot (4 * (d.buckets (2 : Fin 64) d.thkKey).1) (some (TEntry.mk (2 : Fin 64) d.thkKey 9 0 0))]), (2 : Fin 64), (4 * (((wst [fun d => ((d.set (R.THK_TMPLn_CFG_DEFINED (2 : Fin 64)) 1).set (R.THK_TMPLn_CFG_KLEN (2 : Fin 64)) 4).set (R.THK_TMPLn_CFG_SIZE (2 : Fin 64)) 1, fun d => d.wr (R.THK_KEY 0) 0xDEADBEEF, fun d => d.setTslot (4 * (d.buckets (2 : Fin 64) d.thkKey).1) (some (TEntry.mk (2 : Fin 64) d.thkKey 9 0 0))])).dev.buckets (2 : Fin 64) ((wst [fun d => ((d.set (R.THK_TMPLn_CFG_DEFINED (2 : Fin 64)) 1).set (R.THK_TMPLn_CFG_KLEN (2 : Fin 64)) 4).set (R.THK_TMPLn_CFG_SIZE (2 : Fin 64)) 1, fun d => d.wr (R.THK_KEY 0) 0xDEADBEEF, fun d => d.setTslot (4 * (d.buckets (2 : Fin 64) d.thkKey).1) (some (TEntry.mk (2 : Fin 64) d.thkKey 9 0 0))])).dev.thkKey).1), (TEntry.mk (2 : Fin 64) (((wst [fun d => ((d.set (R.THK_TMPLn_CFG_DEFINED (2 : Fin 64)) 1).set (R.THK_TMPLn_CFG_KLEN (2 : Fin 64)) 4).set (R.THK_TMPLn_CFG_SIZE (2 : Fin 64)) 1, fun d => d.wr (R.THK_KEY 0) 0xDEADBEEF, fun d => d.setTslot (4 * (d.buckets (2 : Fin 64) d.thkKey).1) (some (TEntry.mk (2 : Fin 64) d.thkKey 9 0 0))])).dev.thkKey) 9 0 0), (4 * (((wst [fun d => ((d.set (R.THK_TMPLn_CFG_DEFINED (2 : Fin 64)) 1).set (R.THK_TMPLn_CFG_KLEN (2 : Fin 64)) 4).set (R.THK_TMPLn_CFG_SIZE (2 : Fin 64)) 1, fun d => d.wr (R.THK_KEY 0) 0xDEADBEEF, fun d => d.setTslot (4 * (d.buckets (2 : Fin 64) d.thkKey).1) (some (TEntry.mk (2 : Fin 64) d.thkKey 9 0 0))])).dev.buckets (2 : Fin 64) ((wst [fun d => ((d.set (R.THK_TMPLn_CFG_DEFINED (2 : Fin 64)) 1).set (R.THK_TMPLn_CFG_KLEN (2 : Fin 64)) 4).set (R.THK_TMPLn_CFG_SIZE (2 : Fin 64)) 1, fun d => d.wr (R.THK_KEY 0) 0xDEADBEEF, fun d => d.setTslot (4 * (d.buckets (2 : Fin 64) d.thkKey).1) (some (TEntry.mk (2 : Fin 64) d.thkKey 9 0 0))])).dev.thkKey).1 + 1), rfl, opened (by decide +kernel), by decide +kernel⟩,
   ⟨(wst [fun d => ((d.set (R.THK_TMPLn_CFG_DEFINED (2 : Fin 64)) 1).set (R.THK_TMPLn_CFG_KLEN (2 : Fin 64)) 4).set (R.THK_TMPLn_CFG_SIZE (2 : Fin 64)) 1, fun d => d.wr (R.THK_KEY 0) 0xDEADBEEF, fun d => d.setTslot (4 * (d.buckets (2 : Fin 64) d.thkKey).1) (some (TEntry.mk (2 : Fin 64) d.thkKey 9 0 0))]), (2 : Fin 64), (4 * (((wst [fun d => ((d.set (R.THK_TMPLn_CFG_DEFINED (2 : Fin 64)) 1).set (R.THK_TMPLn_CFG_KLEN (2 : Fin 64)) 4).set (R.THK_TMPLn_CFG_SIZE (2 : Fin 64)) 1, fun d => d.wr (R.THK_KEY 0) 0xDEADBEEF, fun d => d.setTslot (4 * (d.buckets (2 : Fin 64) d.thkKey).1) (some (TEntry.mk (2 : Fin 64) d.thkKey 9 0 0))])).dev.buckets (2 : Fin 64) ((wst [fun d => ((d.set (R.THK_TMPLn_CFG_DEFINED (2 : Fin 64)) 1).set (R.THK_TMPLn_CFG_KLEN (2 : Fin 64)) 4).set (R.THK_TMPLn_CFG_SIZE (2 : Fin 64)) 1, fun d => d.wr (R.THK_KEY 0) 0xDEADBEEF, fun d => d.setTslot (4 * (d.buckets (2 : Fin 64) d.thkKey).1) (some (TEntry.mk (2 : Fin 64) d.thkKey 9 0 0))])).dev.thkKey).1), (TEntry.mk (2 : Fin 64) (((wst [fun d => ((d.set (R.THK_TMPLn_CFG_DEFINED (2 : Fin 64)) 1).set (R.THK_TMPLn_CFG_KLEN (2 : Fin 64)) 4).set (R.THK_TMPLn_CFG_SIZE (2 : Fin 64)) 1, fun d => d.wr (R.THK_KEY 0) 0xDEADBEEF, fun d => d.setTslot (4 * (d.buckets (2 : Fin 64) d.thkKey).1) (some (TEntry.mk (2 : Fin 64) d.thkKey 9 0 0))])).dev.thkKey) 9 0 0), rfl, opened (by decide +kernel), by decide +kernel⟩,
   ⟨(wst [fun d => ((d.set (R.THK_TMPLn_CFG_DEFINED (2 : Fin 64)) 1).set (R.THK_TMPLn_CFG_KLEN (2 : Fin 64)) 4).set (R.THK_TMPLn_CFG_SIZE (2 : Fin 64)) 1, fun d => d.wr (R.THK_KEY 0) 0xDEADBEEF]), (2 : Fin 64), rfl, opened (by decide +kernel), by decide +kernel⟩,
   ⟨(wst [fun d => ((d.set (R.THK_TMPLn_CFG_DEFINED (2 : Fin 64)) 1).set (R.THK_TMPLn_CFG_KLEN (2 : Fin 64)) 4).set (R.THK_TMPLn_CFG_SIZE (2 : Fin 64)) 1, fun d => d.wr (R.THK_KEY 0) 0xDEADBEEF, fun d => d.setTslot (4 * (d.buckets (2 : Fin 64) d.thkKey).1) (some (TEntry.mk (2 : Fin 64) d.thkKey 9 0 0))]), (2 : Fin 64), false, (4 * (((wst [fun d => ((d.set (R.THK_TMPLn_CFG_DEFINED (2 : Fin 64)) 1).set (R.THK_TMPLn_CFG_KLEN (2 : Fin 64)) 4).set (R.THK_TMPLn_CFG_SIZE (2 : Fin 64)) 1, fun d => d.wr (R.THK_KEY 0) 0xDEADBEEF, fun d => d.setTslot (4 * (d.buckets (2 : Fin 64) d.thkKey).1) (some (TEntry.mk (2 : Fin 64) d.thkKey 9 0 0))])).dev.buckets (2 : Fin 64) ((wst [fun d => ((d.set (R.THK_TMPLn_CFG_DEFINED (2 : Fin 64)) 1).set (R.THK_TMPLn_CFG_KLEN (2 : Fin 64)) 4).set (R.THK_TMPLn_CFG_SIZE (2 : Fin 64)) 1, fun d => d.wr (R.THK_KEY 0) 0xDEADBEEF, fun d => d.setTslot (4 * (d.buckets (2 : Fin 64) d.thkKey).1) (some (TEntry.mk (2 : Fin 64) d.thkKey 9 0 0))])).dev.thkKey).1), (TEntry.mk (2 : Fin 64) (((wst [fun d => ((d.set (R.THK_TMPLn_CFG_DEFINED (2 : Fin 64)) 1).set (R.THK_TMPLn_CFG_KLEN (2 : Fin 64)) 4).set (R.THK_TMPLn_CFG_SIZE (2 : Fin 64)) 1, fun d => d.wr (R.THK_KEY 0) 0xDEADBEEF, fun d => d.setTslot (4 * (d.buckets (2 : Fin 64) d.thkKey).1) (some (TEntry.mk (2 : Fin 64) d.thkKey 9 0 0))])).dev.thkKey) 9 0 0), rfl, opened (by decide +kernel), by decide +kernel⟩,
   ⟨(wst [fun d => ((d.set (R.THK_TMPLn_CFG_DEFINED (2 : Fin 64)) 1).set (R.THK_TMPLn_CFG_KLEN (2 : Fin 64)) 4).set (R.THK_TMPLn_CFG_SIZE (2 : Fin 64)) 1, fun d => d.wr (R.THK_KEY 0) 0xDEADBEEF]), (2 : Fin 64), true, rfl, opened (by decide +kernel), by decide +kernel⟩⟩
theorem witness_HedgeAndBatches :
    (∃ (s : State) (i : Fin 4096), s.runs ∧ s.dev.standby = false ∧ s.dev.open_ R.THK_OP ∧ s.dev.noThicket = false ∧ s.dev.draining 10 = false ∧
      s.dev.pendCount < 1048576 ∧ (Action.of s.dev.thkAct).legal = true ∧ s.dev.hrow (2 * i + 1) = none ∧ s.dev.hrow (2 * i) = none) ∧
    (∃ (s : State) (i : Fin 4096) (r : _), s.runs ∧ s.dev.standby = false ∧ s.dev.open_ R.THK_OP ∧ s.dev.noThicket = false ∧
      s.dev.draining 10 = false ∧ s.dev.pendCount < 1048576 ∧ (Action.of s.dev.thkAct).legal = true ∧ s.dev.hrow (2 * i + 1) = none ∧
      s.dev.hrow (2 * i) = some r ∧ s.dev.rowLive r = true) ∧
    (∃ (s : State) (i : Fin 4096) (r : _), s.runs ∧ s.dev.standby = false ∧ s.dev.open_ R.THK_OP ∧ s.dev.noThicket = false ∧
      s.dev.draining 10 = false ∧ s.dev.pendCount < 1048576 ∧ s.dev.hrow (2 * i) = some r ∧ (s.dev.hrow (2 * i + 1) = none) ∧
      ((r.birth = s.dev.pendVer ∨ s.dev.rowLive r = true))) ∧
    (∃ (s : State), s.runs ∧ s.dev.standby = false ∧ s.dev.open_ R.THK_BATCH_CMD) ∧
    (∃ (s : State) (v : Word) (w : BitVec 512) (x : _), s.runs ∧ s.dev.standby = false ∧ s.dev.open_ R.THK_BATCH_CMD ∧ 0 < v.toNat % 2 ^ 20 ∧
      x = s.dev.thkOp (leAt (le 64 (w.toNat)) 61 1) (leAt (le 64 w.toNat) 60 1) ((le 64 w.toNat).take 40) (leAt (le 64 w.toNat) 40 20) ∧
      x.2.1 ≠ .ok) ∧
    (∃ (s : State) (v : Word) (w : BitVec 512) (x : _), s.runs ∧ s.dev.standby = false ∧ s.dev.open_ R.THK_BATCH_CMD ∧ 0 < v.toNat % 2 ^ 20 ∧
      x = s.dev.thkOp (leAt (le 64 (w.toNat)) 61 1) (leAt (le 64 w.toNat) 60 1) ((le 64 w.toNat).take 40) (leAt (le 64 w.toNat) 40 20) ∧
      x.2.1 = .ok) :=
  ⟨⟨(wst [fun d => { d with decls := [(10, default)] }]), (5 : Fin 4096), rfl, by decide +kernel, opened (by decide +kernel), by decide +kernel⟩,
   ⟨(wst [fun d => { d with decls := [(10, default)] }, fun d => d.setHrow (2 * (5 : Fin 4096)) (some (HRow.mk 5 0 0 [] [] 0 9 0 0))]),
     (5 : Fin 4096), (HRow.mk 5 0 0 [] [] 0 9 0 0), rfl, by decide +kernel, opened (by decide +kernel), by decide +kernel⟩,
   ⟨(wst [fun d => { d with decls := [(10, default)] }, fun d => d.setHrow (2 * (5 : Fin 4096)) (some (HRow.mk 5 0 0 [] [] 0 9 0 0))]),
     (5 : Fin 4096), (HRow.mk 5 0 0 [] [] 0 9 0 0), rfl, by decide +kernel, opened (by decide +kernel), by decide +kernel⟩,
   ⟨(wst [fun d => { d with decls := [(10, default)] }]), rfl, by decide +kernel, opened (by decide +kernel)⟩,
   ⟨(wst [fun d => { d with decls := [(10, default)] }]), (3 : Word), (0 : BitVec 512), _, rfl, by decide +kernel, opened (by decide +kernel),
     by decide +kernel, rfl, by decide +kernel⟩,
   ⟨(wst [fun d => { d with decls := [(10, default)] },
     fun d => ((d.set (R.THK_TMPLn_CFG_DEFINED 2) 1).set (R.THK_TMPLn_CFG_KLEN 2) 4).set (R.THK_TMPLn_CFG_SIZE 2) 1]), (3 : Word),
     (BitVec.ofNat 512 (2 ^ 480 * 2 + 2 ^ 488 * 1 + 5)), _, rfl, by decide +kernel, opened (by decide +kernel), by decide +kernel, rfl,
     by decide +kernel⟩⟩
theorem witness_CommitsAndAging :
    (∃ (s : State), s.runs ∧ s.dev.open_ R.THK_COMMIT ∧ s.dev.standby = false ∧ s.dev.noThicket = false ∧ s.dev.thk.commitHeld = false ∧
      s.dev.commitReason = 0 ∧ ((s.dev.role = .active ∧ s.dev.is R.TWN_CFG_EN = true → s.dev.is R.TWN_CFG_SYNC_COMMIT = false))) ∧
    (∃ (s : State), s.runs ∧ s.dev.open_ R.THK_COMMIT ∧ s.dev.standby = false ∧ s.dev.noThicket = false ∧ s.dev.thk.commitHeld = false ∧
      s.dev.commitReason = 0 ∧ s.dev.role = .active ∧ s.dev.is R.TWN_CFG_EN = true ∧ s.dev.is R.TWN_CFG_SYNC_COMMIT = true) ∧
    (∃ (s : State), s.runs ∧ s.dev.open_ R.THK_COMMIT ∧ s.dev.standby = false ∧ s.dev.noThicket = false ∧ s.dev.thk.commitHeld = false ∧
      s.dev.commitReason ≠ 0) ∧
    (∃ (s : State), s.runs ∧ s.dev.thk.commitHeld = true ∧ s.dev.isUp domThk = true ∧ s.dev.commitReason = 0 ∧ ((s.dev.role = .active ∧
      s.dev.is R.TWN_CFG_EN = true → s.dev.is R.TWN_CFG_SYNC_COMMIT = false))) ∧
    (∃ (s : State), s.runs ∧ s.dev.open_ R.THK_COMMIT ∧ s.dev.standby = false) ∧
    (∃ (s : State) (t : _) (lim : _), s.runs ∧ lim = s.dev.get R.THK_AGE_LIMIT_US * usTicks ∧ lim ≠ 0 ∧
      ((s.dev.versionFrames.filter fun f => f.version.isSome && !f.aged).map (·.since)).min? = some t) ∧
    (∃ (s : State) (n : _) (e : _), s.runs ∧ s.dev.isUp domThk = true ∧ s.dev.noThicket = false ∧
      s.dev.thk.slots.find? (fun x => decide (s.dev.thk.walkPos ≤ x.1)) = some (n, some e)) ∧
    (∃ (s : State), s.runs ∧ s.dev.isUp domThk = true ∧ s.dev.noThicket = false ∧
      s.dev.thk.slots.find? (fun x => decide (s.dev.thk.walkPos ≤ x.1)) = none ∧
      s.dev.thk.rows.find? (fun x => decide (s.dev.thk.walkPos ≤ 1048576 + x.1)) = none) :=
  ⟨⟨(wst [fun d => { d with thk := { d.thk with commitHeld := false } }, fld R.TWN_STATUS_ROLE (Role.code .active),
    fun d => { d with decls := [(10, default)] }]), rfl, opened (by decide +kernel), by decide +kernel⟩,
   ⟨(wst [fun d => { d with thk := { d.thk with commitHeld := false } }, fld R.TWN_STATUS_ROLE (Role.code .active), fld R.TWN_CFG_EN 1,
     fld R.TWN_CFG_SYNC_COMMIT 1, fun d => { d with decls := [(10, default)] }]), rfl, opened (by decide +kernel), by decide +kernel⟩,
   ⟨(wst [fun d => { d with thk := { d.thk with commitHeld := false } }, fun d => { d with decls := [(10, default)] },
     fld R.THK_VERSION_LIVE 20000]), rfl, opened (by decide +kernel), by decide +kernel⟩,
   ⟨(wst [fun d => { d with thk := { d.thk with commitHeld := true } }, fld R.TWN_STATUS_ROLE (Role.code .active),
     fun d => { d with decls := [(10, default)] }]), rfl, by decide +kernel⟩,
   ⟨(wst [fun d => { d with decls := [(10, default)] }, fun d => d.setTslot 9 (some (TEntry.mk 0 [1] 9 0 1)),
     fun d => d.setTslot 3 (some (TEntry.mk 0 [1] 9 1 1)), fun d => d.setHrow 3 (some (HRow.mk 5 0 0 [] [] 0 9 0 1))]), rfl,
     opened (by decide +kernel), by decide +kernel⟩,
   ⟨(wst [fun d => { d with decls := [(10, default)] }, fld R.THK_AGE_LIMIT_US 7,
     fun d => { d with prs := { d.prs with user := [({ (default : Frame) with bytes := [1], version := some 3, since := 10 } : Frame)] } }]), 10, _,
     rfl, rfl, by decide +kernel⟩,
   ⟨(wst [fun d => { d with decls := [(10, default)] }, fun d => d.setTslot 9 (some (TEntry.mk 0 [1] 9 0 0))]), 9, (TEntry.mk 0 [1] 9 0 0), rfl,
     by decide +kernel⟩,
   ⟨(wst [fun d => { d with decls := [(10, default)] }]), rfl, by decide +kernel⟩⟩
theorem witness_TasksRun :
    (∃ (s : State) (n : _) (t : Task) (rest : _) (e : _), s.runs ∧ s.dev.tskRuns = true ∧ s.dev.readyList = (n, t) :: rest ∧ s.dev.task n = t ∧
      (((s.dev.usable t).filter s.dev.isUp).filterMap fun c => (enginesOf c).find? fun e => (s.dev.eng e).st == .idle).min? = some e) ∧
    (∃ (s : State) (n : _) (t : Task) (rest : _) (c : _), s.runs ∧ s.dev.tskRuns = true ∧ s.dev.readyList = (n, t) :: rest ∧
      ((s.dev.usable t).filter s.dev.isUp).filterMap (fun c => (enginesOf c).find? fun e => (s.dev.eng e).st == .idle) = [] ∧
      ((s.dev.usable t).filter fun c => !s.dev.isUp c && ((enginesOf c).find? fun e => (s.dev.eng e).st == .idle).isSome).min? = some c ∧
      c ∉ s.dev.tsk.wake) ∧
    (∃ (s : State) (n : _) (t : Task) (rest : _) (e : _), s.runs ∧ s.dev.tskRuns = true ∧ s.dev.readyList = (n, t) :: rest ∧ ((∀ c,
      c ∈ s.dev.usable t → ∀ e, e ∈ enginesOf c → (s.dev.eng e).st ≠ .idle)) ∧ ((∀ r, r ∈ s.dev.tsk.requests → r.2.1 ≠ n)) ∧
      s.dev.victim t (s.dev.usable t) = some e) ∧
    (∃ (s : State), s.runs ∧ s.dev.tskRuns = true ∧ s.dev.readyList.findSome? (fun x => s.dev.seekEngine x.1 x.2) = none) ∧
    (∃ (s : State) (e : _) (x : Eng), s.runs ∧ s.dev.engs.find? (fun e => e.2.st == .leaving && e.2.ops.isEmpty) = some (e, x) ∧ s.dev.eng e = x ∧
      x.held = none) :=
  ⟨⟨(wst [svc, used 1,
    fun d => { d with tsk := { d.tsk with tasks := [(4, ({ (default : Task) with st := .ready, pitch := 1, cmask := 1, flags := 7, clear := 3 } : Task))] } }]), 4, ({ (default : Task) with st := .ready, pitch := 1, cmask := 1, flags := 7, clear := 3 } : Task), ([] : List (Nat × Task)), 0, rfl, by decide +kernel⟩,
   ⟨(wst [svc, used 1,
     fun d => { d with tsk := { d.tsk with tasks := [(2, ({ (default : Task) with st := .ready, pitch := 1, cmask := 1, flags := 7, clear := 3 } : Task))] } }, fun d => d.setDom 0 .off]), 2, ({ (default : Task) with st := .ready, pitch := 1, cmask := 1, flags := 7, clear := 3 } : Task), ([] : List (Nat × Task)), 0, rfl, by decide +kernel⟩,
   ⟨(wst [svc, used 1,
     fun d => { d with tsk := { d.tsk with tasks := [(2, ({ (default : Task) with st := .ready, pitch := 1, cmask := 1, flags := 7, clear := 3 } : Task)), (5, ({ (default : Task) with st := .running, pitch := 1, cmask := 1, prio := 9, preempt := true } : Task))] } }, fun d => (List.range 16).foldl (fun z j => z.setEng j { Eng.idle with st := .running, task := 5, pc := 8 }) d]), 2, ({ (default : Task) with st := .ready, pitch := 1, cmask := 1, flags := 7, clear := 3 } : Task), ([] : List (Nat × Task)), 0, rfl, by decide +kernel⟩,
   ⟨(wst [svc, used 1]), rfl, by decide +kernel⟩,
   ⟨(wst [svc, used 1, fun d => d.setEng 3 ({ Eng.idle with st := .leaving, task := 4, pc := 8 } : Eng),
     fun d => { d with tsk := { d.tsk with tasks := [(4, ({ (default : Task) with st := .running, pitch := 1, cmask := 1, readyAt := 5 } : Task))] } }]), 3, ({ Eng.idle with st := .leaving, task := 4, pc := 8 } : Eng), rfl, by decide +kernel⟩⟩
theorem witness_TaskWindow :
    (∃ (s : State) (n : _) (t : Task), s.runs ∧ n = s.dev.selTask ∧ t = s.dev.task n ∧ (t.st = .free ∨ t.st = .idle) ∧
      s.dev.pitchUsed (s.dev.get R.TSK_D_CTL_PITCH) = true ∧ s.dev.get R.TSK_D_CTL_CMASK ≠ 0 ∧ s.dev.get R.TSK_D_ENTRY_PC % 4 = 0) ∧
    (∃ (s : State) (n : _) (t : _), s.runs ∧ n = s.dev.selTask ∧ t = s.dev.task n ∧ (t.st = .free ∨ t.st = .idle) ∧
      (s.dev.pitchUsed (s.dev.get R.TSK_D_CTL_PITCH) = false ∨ s.dev.get R.TSK_D_CTL_CMASK = 0 ∨ s.dev.get R.TSK_D_ENTRY_PC % 4 ≠ 0)) ∧
    (∃ (s : State) (n : _) (t : Task), s.runs ∧ n = s.dev.selTask ∧ t = s.dev.task n ∧ t.st ≠ .free ∧ t.st ≠ .idle) ∧
    (∃ (s : State), s.runs) ∧
    (∃ (s : State) (n : _) (t : Task), s.runs ∧ n = s.dev.selTask ∧ t = s.dev.task n ∧ (t.st = .idle ∨ t.st = .faulted)) ∧
    (∃ (s : State) (n : _) (t : _), s.runs ∧ n = s.dev.selTask ∧ t = s.dev.task n ∧ t.st ≠ .idle ∧ t.st ≠ .faulted) ∧
    (∃ (s : State) (n : _) (t : Task), s.runs ∧ n = s.dev.selTask ∧ t = s.dev.task n ∧ t.st ≠ .free) ∧
    (∃ (s : State) (n : _) (t : _), s.runs ∧ n = s.dev.selTask ∧ t = s.dev.task n ∧ t.st = .free) ∧
    (∃ (s : State) (n : _) (t : Task), s.runs ∧ n = s.dev.selTask ∧ t = s.dev.task n ∧ t.st = .faulted) ∧
    (∃ (s : State) (n : _) (t : Task), s.runs ∧ n = s.dev.selTask ∧ t = s.dev.task n ∧ t.st ≠ .faulted) :=
  ⟨⟨(wst [fld R.TSK_D_CTL_CMASK 1, fld R.TSK_SEL_TASK 6, used 1,
    fun d => { d with tsk := { d.tsk with tasks := [(6, ({ (default : Task) with st := .idle, pitch := 1, cmask := 1, flags := 7 } : Task))] } },
    fun d => ((d.set R.TSK_D_CTL_PITCH 1).set R.TSK_D_CTL_CMASK 3).set R.TSK_D_ENTRY_PC 8]), _, _, rfl, rfl, rfl, by decide +kernel⟩,
   ⟨(wst []), _, _, rfl, rfl, rfl, by decide +kernel⟩,
   ⟨(wst [fld R.TSK_SEL_TASK 6, used 1,
     fun d => { d with tsk := { d.tsk with tasks := [(6, ({ (default : Task) with st := .ready, pitch := 1, cmask := 1, flags := 7 } : Task))] } }]),
     _, _, rfl, rfl, rfl, by decide +kernel⟩,
   ⟨(wst [fld R.TSK_SEL_TASK 6, used 1,
     fun d => { d with tsk := { d.tsk with tasks := [(6, ({ (default : Task) with st := .waiting, pitch := 1, cmask := 1, flags := 7 } : Task))] } }]), rfl⟩,
   ⟨(wst [fld R.TSK_SEL_TASK 6, used 1,
     fun d => { d with tsk := { d.tsk with tasks := [(6, ({ (default : Task) with st := .faulted, pitch := 1, cmask := 1, flags := 7 } : Task))] } }]), _, _, rfl, rfl, rfl, by decide +kernel⟩,
   ⟨(wst []), _, _, rfl, rfl, rfl, by decide +kernel⟩,
   ⟨(wst [fld R.TSK_SEL_TASK 6, used 1,
     fun d => { d with tsk := { d.tsk with tasks := [(6, ({ (default : Task) with st := .idle, pitch := 1, cmask := 1, flags := 7 } : Task))] } }]),
     _, _, rfl, rfl, rfl, by decide +kernel⟩,
   ⟨(wst [fld R.TSK_SEL_TASK 6, used 1]), _, _, rfl, rfl, rfl, by decide +kernel⟩,
   ⟨(wst [fld R.TSK_SEL_TASK 6, used 1,
     fun d => { d with tsk := { d.tsk with tasks := [(6, ({ (default : Task) with st := .faulted, pitch := 1, cmask := 1, flags := 7 } : Task))] } }]), _, _, rfl, rfl, rfl, by decide +kernel⟩,
   ⟨(wst [fld R.TSK_SEL_TASK 6, used 1,
     fun d => { d with tsk := { d.tsk with tasks := [(6, ({ (default : Task) with st := .running, pitch := 1, cmask := 1, flags := 7 } : Task))] } }]), _, _, rfl, rfl, rfl, by decide +kernel⟩⟩
theorem witness_EngineArithmetic :
    (∃ (s : State) (e : Fin 512) (i : Ins), s.runs ∧ s.dev.Fetches e i ∧ i.op = .add) ∧
    (∃ (s : State) (e : Fin 512) (i : Ins), s.runs ∧ s.dev.Fetches e i ∧ i.op = .sub) ∧
    (∃ (s : State) (e : Fin 512) (i : Ins), s.runs ∧ s.dev.Fetches e i ∧ i.op = .and) ∧
    (∃ (s : State) (e : Fin 512) (i : Ins), s.runs ∧ s.dev.Fetches e i ∧ i.op = .or) ∧
    (∃ (s : State) (e : Fin 512) (i : Ins), s.runs ∧ s.dev.Fetches e i ∧ i.op = .xor) ∧
    (∃ (s : State) (e : Fin 512) (i : Ins), s.runs ∧ s.dev.Fetches e i ∧ i.op = .sll) ∧
    (∃ (s : State) (e : Fin 512) (i : Ins), s.runs ∧ s.dev.Fetches e i ∧ i.op = .srl) ∧
    (∃ (s : State) (e : Fin 512) (i : Ins), s.runs ∧ s.dev.Fetches e i ∧ i.op = .sra) ∧
    (∃ (s : State) (e : Fin 512) (i : Ins), s.runs ∧ s.dev.Fetches e i ∧ i.op = .slt) ∧
    (∃ (s : State) (e : Fin 512) (i : Ins), s.runs ∧ s.dev.Fetches e i ∧ i.op = .sltu) ∧
    (∃ (s : State) (e : Fin 512) (i : Ins), s.runs ∧ s.dev.Fetches e i ∧ i.op = .mul) ∧
    (∃ (s : State) (e : Fin 512) (i : Ins), s.runs ∧ s.dev.Fetches e i ∧ i.op = .mulhu) ∧
    (∃ (s : State) (e : Fin 512) (i : Ins), s.runs ∧ s.dev.Fetches e i ∧ i.op = .rev) ∧
    (∃ (s : State) (e : Fin 512) (i : Ins), s.runs ∧ s.dev.Fetches e i ∧ i.op = .revh) ∧
    (∃ (s : State) (e : Fin 512) (i : Ins), s.runs ∧ s.dev.Fetches e i ∧ i.op = .clz) ∧
    (∃ (s : State) (e : Fin 512) (i : Ins), s.runs ∧ s.dev.Fetches e i ∧ i.op = .popc) ∧
    (∃ (s : State) (e : Fin 512) (i : Ins), s.runs ∧ s.dev.Fetches e i ∧ i.op = .addi) ∧
    (∃ (s : State) (e : Fin 512) (i : Ins), s.runs ∧ s.dev.Fetches e i ∧ i.op = .andi) ∧
    (∃ (s : State) (e : Fin 512) (i : Ins), s.runs ∧ s.dev.Fetches e i ∧ i.op = .ori) ∧
    (∃ (s : State) (e : Fin 512) (i : Ins), s.runs ∧ s.dev.Fetches e i ∧ i.op = .xori) ∧
    (∃ (s : State) (e : Fin 512) (i : Ins), s.runs ∧ s.dev.Fetches e i ∧ i.op = .slli) ∧
    (∃ (s : State) (e : Fin 512) (i : Ins), s.runs ∧ s.dev.Fetches e i ∧ i.op = .srli) ∧
    (∃ (s : State) (e : Fin 512) (i : Ins), s.runs ∧ s.dev.Fetches e i ∧ i.op = .srai) ∧
    (∃ (s : State) (e : Fin 512) (i : Ins), s.runs ∧ s.dev.Fetches e i ∧ i.op = .slti) ∧
    (∃ (s : State) (e : Fin 512) (i : Ins), s.runs ∧ s.dev.Fetches e i ∧ i.op = .sltiu) ∧
    (∃ (s : State) (e : Fin 512) (i : Ins), s.runs ∧ s.dev.Fetches e i ∧ i.op = .bext) ∧
    (∃ (s : State) (e : Fin 512) (i : Ins), s.runs ∧ s.dev.Fetches e i ∧ i.op = .bins) ∧
    (∃ (s : State) (e : Fin 512) (i : Ins), s.runs ∧ s.dev.Fetches e i ∧ i.op = .lui) ∧
    (∃ (s : State) (e : Fin 512) (i : Ins), s.runs ∧ s.dev.Fetches e i ∧ i.op = .evget) ∧
    (∃ (s : State) (e : Fin 512) (i : Ins), s.runs ∧ s.dev.Fetches e i ∧ i.op = .tsrh) ∧
    (∃ (s : State) (e : Fin 512) (i : Ins), s.runs ∧ s.dev.Fetches e i ∧ i.op = .tsr) :=
  ⟨⟨(wst [svc, used 1, twoTasks, code 0x4a11800,
    fun d => d.setEng 17 ({ Eng.idle with st := .running, task := 4, pc := 8, regs := [(1, 0x80000011), (2, 0x7), (3, 0x12345678)], latch := 77 } : Eng)]), (17 : Fin 512), (ins 0x4a11800), rfl, fetching (by decide +kernel), by decide +kernel⟩,
   ⟨(wst [svc, used 1, twoTasks, code 0x4a11801,
     fun d => d.setEng 17 ({ Eng.idle with st := .running, task := 4, pc := 8, regs := [(1, 0x80000011), (2, 0x7), (3, 0x12345678)], latch := 77 } : Eng)]), (17 : Fin 512), (ins 0x4a11801), rfl, fetching (by decide +kernel), by decide +kernel⟩,
   ⟨(wst [svc, used 1, twoTasks, code 0x4a11802,
     fun d => d.setEng 17 ({ Eng.idle with st := .running, task := 4, pc := 8, regs := [(1, 0x80000011), (2, 0x7), (3, 0x12345678)], latch := 77 } : Eng)]), (17 : Fin 512), (ins 0x4a11802), rfl, fetching (by decide +kernel), by decide +kernel⟩,
   ⟨(wst [svc, used 1, twoTasks, code 0x4a11803,
     fun d => d.setEng 17 ({ Eng.idle with st := .running, task := 4, pc := 8, regs := [(1, 0x80000011), (2, 0x7), (3, 0x12345678)], latch := 77 } : Eng)]), (17 : Fin 512), (ins 0x4a11803), rfl, fetching (by decide +kernel), by decide +kernel⟩,
   ⟨(wst [svc, used 1, twoTasks, code 0x4a11804,
     fun d => d.setEng 17 ({ Eng.idle with st := .running, task := 4, pc := 8, regs := [(1, 0x80000011), (2, 0x7), (3, 0x12345678)], latch := 77 } : Eng)]), (17 : Fin 512), (ins 0x4a11804), rfl, fetching (by decide +kernel), by decide +kernel⟩,
   ⟨(wst [svc, used 1, twoTasks, code 0x4a11805,
     fun d => d.setEng 17 ({ Eng.idle with st := .running, task := 4, pc := 8, regs := [(1, 0x80000011), (2, 0x7), (3, 0x12345678)], latch := 77 } : Eng)]), (17 : Fin 512), (ins 0x4a11805), rfl, fetching (by decide +kernel), by decide +kernel⟩,
   ⟨(wst [svc, used 1, twoTasks, code 0x4a11806,
     fun d => d.setEng 17 ({ Eng.idle with st := .running, task := 4, pc := 8, regs := [(1, 0x80000011), (2, 0x7), (3, 0x12345678)], latch := 77 } : Eng)]), (17 : Fin 512), (ins 0x4a11806), rfl, fetching (by decide +kernel), by decide +kernel⟩,
   ⟨(wst [svc, used 1, twoTasks, code 0x4a11807,
     fun d => d.setEng 17 ({ Eng.idle with st := .running, task := 4, pc := 8, regs := [(1, 0x80000011), (2, 0x7), (3, 0x12345678)], latch := 77 } : Eng)]), (17 : Fin 512), (ins 0x4a11807), rfl, fetching (by decide +kernel), by decide +kernel⟩,
   ⟨(wst [svc, used 1, twoTasks, code 0x4a11808,
     fun d => d.setEng 17 ({ Eng.idle with st := .running, task := 4, pc := 8, regs := [(1, 0x80000011), (2, 0x7), (3, 0x12345678)], latch := 77 } : Eng)]), (17 : Fin 512), (ins 0x4a11808), rfl, fetching (by decide +kernel), by decide +kernel⟩,
   ⟨(wst [svc, used 1, twoTasks, code 0x4a11809,
     fun d => d.setEng 17 ({ Eng.idle with st := .running, task := 4, pc := 8, regs := [(1, 0x80000011), (2, 0x7), (3, 0x12345678)], latch := 77 } : Eng)]), (17 : Fin 512), (ins 0x4a11809), rfl, fetching (by decide +kernel), by decide +kernel⟩,
   ⟨(wst [svc, used 1, twoTasks, code 0x4a1180a,
     fun d => d.setEng 17 ({ Eng.idle with st := .running, task := 4, pc := 8, regs := [(1, 0x80000011), (2, 0x7), (3, 0x12345678)], latch := 77 } : Eng)]), (17 : Fin 512), (ins 0x4a1180a), rfl, fetching (by decide +kernel), by decide +kernel⟩,
   ⟨(wst [svc, used 1, twoTasks, code 0x4a1180b,
     fun d => d.setEng 17 ({ Eng.idle with st := .running, task := 4, pc := 8, regs := [(1, 0x80000011), (2, 0x7), (3, 0x12345678)], latch := 77 } : Eng)]), (17 : Fin 512), (ins 0x4a1180b), rfl, fetching (by decide +kernel), by decide +kernel⟩,
   ⟨(wst [svc, used 1, twoTasks, code 0x4a1000c,
     fun d => d.setEng 17 ({ Eng.idle with st := .running, task := 4, pc := 8, regs := [(1, 0x80000011), (2, 0x7), (3, 0x12345678)], latch := 77 } : Eng)]), (17 : Fin 512), (ins 0x4a1000c), rfl, fetching (by decide +kernel), by decide +kernel⟩,
   ⟨(wst [svc, used 1, twoTasks, code 0x4a1000d,
     fun d => d.setEng 17 ({ Eng.idle with st := .running, task := 4, pc := 8, regs := [(1, 0x80000011), (2, 0x7), (3, 0x12345678)], latch := 77 } : Eng)]), (17 : Fin 512), (ins 0x4a1000d), rfl, fetching (by decide +kernel), by decide +kernel⟩,
   ⟨(wst [svc, used 1, twoTasks, code 0x4a1000e,
     fun d => d.setEng 17 ({ Eng.idle with st := .running, task := 4, pc := 8, regs := [(1, 0x80000011), (2, 0x7), (3, 0x12345678)], latch := 77 } : Eng)]), (17 : Fin 512), (ins 0x4a1000e), rfl, fetching (by decide +kernel), by decide +kernel⟩,
   ⟨(wst [svc, used 1, twoTasks, code 0x4a1000f,
     fun d => d.setEng 17 ({ Eng.idle with st := .running, task := 4, pc := 8, regs := [(1, 0x80000011), (2, 0x7), (3, 0x12345678)], latch := 77 } : Eng)]), (17 : Fin 512), (ins 0x4a1000f), rfl, fetching (by decide +kernel), by decide +kernel⟩,
   ⟨(wst [svc, used 1, twoTasks, code 0x8a1fffb,
     fun d => d.setEng 17 ({ Eng.idle with st := .running, task := 4, pc := 8, regs := [(1, 0x80000011), (2, 0x7), (3, 0x12345678)], latch := 77 } : Eng)]), (17 : Fin 512), (ins 0x8a1fffb), rfl, fetching (by decide +kernel), by decide +kernel⟩,
   ⟨(wst [svc, used 1, twoTasks, code 0xca1fffb,
     fun d => d.setEng 17 ({ Eng.idle with st := .running, task := 4, pc := 8, regs := [(1, 0x80000011), (2, 0x7), (3, 0x12345678)], latch := 77 } : Eng)]), (17 : Fin 512), (ins 0xca1fffb), rfl, fetching (by decide +kernel), by decide +kernel⟩,
   ⟨(wst [svc, used 1, twoTasks, code 0x10a1fffb,
     fun d => d.setEng 17 ({ Eng.idle with st := .running, task := 4, pc := 8, regs := [(1, 0x80000011), (2, 0x7), (3, 0x12345678)], latch := 77 } : Eng)]), (17 : Fin 512), (ins 0x10a1fffb), rfl, fetching (by decide +kernel), by decide +kernel⟩,
   ⟨(wst [svc, used 1, twoTasks, code 0x14a1fffb,
     fun d => d.setEng 17 ({ Eng.idle with st := .running, task := 4, pc := 8, regs := [(1, 0x80000011), (2, 0x7), (3, 0x12345678)], latch := 77 } : Eng)]), (17 : Fin 512), (ins 0x14a1fffb), rfl, fetching (by decide +kernel), by decide +kernel⟩,
   ⟨(wst [svc, used 1, twoTasks, code 0x18a10007,
     fun d => d.setEng 17 ({ Eng.idle with st := .running, task := 4, pc := 8, regs := [(1, 0x80000011), (2, 0x7), (3, 0x12345678)], latch := 77 } : Eng)]), (17 : Fin 512), (ins 0x18a10007), rfl, fetching (by decide +kernel), by decide +kernel⟩,
   ⟨(wst [svc, used 1, twoTasks, code 0x1ca10007,
     fun d => d.setEng 17 ({ Eng.idle with st := .running, task := 4, pc := 8, regs := [(1, 0x80000011), (2, 0x7), (3, 0x12345678)], latch := 77 } : Eng)]), (17 : Fin 512), (ins 0x1ca10007), rfl, fetching (by decide +kernel), by decide +kernel⟩,
   ⟨(wst [svc, used 1, twoTasks, code 0x20a10007,
     fun d => d.setEng 17 ({ Eng.idle with st := .running, task := 4, pc := 8, regs := [(1, 0x80000011), (2, 0x7), (3, 0x12345678)], latch := 77 } : Eng)]), (17 : Fin 512), (ins 0x20a10007), rfl, fetching (by decide +kernel), by decide +kernel⟩,
   ⟨(wst [svc, used 1, twoTasks, code 0x24a1fffb,
     fun d => d.setEng 17 ({ Eng.idle with st := .running, task := 4, pc := 8, regs := [(1, 0x80000011), (2, 0x7), (3, 0x12345678)], latch := 77 } : Eng)]), (17 : Fin 512), (ins 0x24a1fffb), rfl, fetching (by decide +kernel), by decide +kernel⟩,
   ⟨(wst [svc, used 1, twoTasks, code 0x28a1fffb,
     fun d => d.setEng 17 ({ Eng.idle with st := .running, task := 4, pc := 8, regs := [(1, 0x80000011), (2, 0x7), (3, 0x12345678)], latch := 77 } : Eng)]), (17 : Fin 512), (ins 0x28a1fffb), rfl, fetching (by decide +kernel), by decide +kernel⟩,
   ⟨(wst [svc, used 1, twoTasks, code 0x2c610124,
     fun d => d.setEng 17 ({ Eng.idle with st := .running, task := 4, pc := 8, regs := [(1, 0x80000011), (2, 0x7), (3, 0x12345678)], latch := 77 } : Eng)]), (17 : Fin 512), (ins 0x2c610124), rfl, fetching (by decide +kernel), by decide +kernel⟩,
   ⟨(wst [svc, used 1, twoTasks, code 0x30610124,
     fun d => d.setEng 17 ({ Eng.idle with st := .running, task := 4, pc := 8, regs := [(1, 0x80000011), (2, 0x7), (3, 0x12345678)], latch := 77 } : Eng)]), (17 : Fin 512), (ins 0x30610124), rfl, fetching (by decide +kernel), by decide +kernel⟩,
   ⟨(wst [svc, used 1, twoTasks, code 0x34babcde,
     fun d => d.setEng 17 ({ Eng.idle with st := .running, task := 4, pc := 8, regs := [(1, 0x80000011), (2, 0x7), (3, 0x12345678)], latch := 77 } : Eng)]), (17 : Fin 512), (ins 0x34babcde), rfl, fetching (by decide +kernel), by decide +kernel⟩,
   ⟨(wst [svc, used 1, twoTasks, code 0xa4c00007,
     fun d => d.setEng 17 ({ Eng.idle with st := .running, task := 4, pc := 8, regs := [(1, 0x80000011), (2, 0x7), (3, 0x12345678)], latch := 77 } : Eng)]), (17 : Fin 512), (ins 0xa4c00007), rfl, fetching (by decide +kernel), by decide +kernel⟩,
   ⟨(wst [svc, used 1, twoTasks, code 0xa4c00009,
     fun d => d.setEng 17 ({ Eng.idle with st := .running, task := 4, pc := 8, regs := [(1, 0x80000011), (2, 0x7), (3, 0x12345678)], latch := 77 } : Eng)]), (17 : Fin 512), (ins 0xa4c00009), rfl, fetching (by decide +kernel), by decide +kernel⟩,
   ⟨(wst [svc, used 1, twoTasks, code 0xa4c00008,
     fun d => d.setEng 17 ({ Eng.idle with st := .running, task := 4, pc := 8, regs := [(1, 0x80000011), (2, 0x7), (3, 0x12345678)], latch := 77 } : Eng)]), (17 : Fin 512), (ins 0xa4c00008), rfl, fetching (by decide +kernel), by decide +kernel⟩⟩
theorem witness_EngineBranches :
    (∃ (s : State) (e : Fin 512) (i : Ins), s.runs ∧ s.dev.Fetches e i ∧ i.op = .beq) ∧
    (∃ (s : State) (e : Fin 512) (i : Ins), s.runs ∧ s.dev.Fetches e i ∧ i.op = .bne) ∧
    (∃ (s : State) (e : Fin 512) (i : Ins), s.runs ∧ s.dev.Fetches e i ∧ i.op = .blt) ∧
    (∃ (s : State) (e : Fin 512) (i : Ins), s.runs ∧ s.dev.Fetches e i ∧ i.op = .bge) ∧
    (∃ (s : State) (e : Fin 512) (i : Ins), s.runs ∧ s.dev.Fetches e i ∧ i.op = .bltu) ∧
    (∃ (s : State) (e : Fin 512) (i : Ins), s.runs ∧ s.dev.Fetches e i ∧ i.op = .bgeu) ∧
    (∃ (s : State) (e : Fin 512) (i : Ins), s.runs ∧ s.dev.Fetches e i ∧ i.op = .jal) ∧
    (∃ (s : State) (e : Fin 512) (i : Ins) (x : Eng) (a : Word), s.runs ∧ s.dev.Fetches e i ∧ x = s.dev.eng e ∧ a = x.g i.rs1 ∧ i.op = .jalr ∧
      (a + BitVec.ofInt 32 i.imm).toNat % 4 = 0) ∧
    (∃ (s : State) (e : Fin 512) (i : Ins) (x : Eng) (a : Word), s.runs ∧ s.dev.Fetches e i ∧ x = s.dev.eng e ∧ a = x.g i.rs1 ∧ i.op = .jalr ∧
      (a + BitVec.ofInt 32 i.imm).toNat % 4 ≠ 0 ∧ x.ops = [] ∧ x.pkt.item = none ∧ x.pc < 131072 ∧
      s.dev.is (R.ENG_c_TRAP_VALID (e.val / 16)) = false) :=
  ⟨⟨(engAt 0x4041fffc), (17 : Fin 512), (ins 0x4041fffc), rfl, fetching (by decide +kernel), by decide +kernel⟩,
   ⟨(engAt 0x4441fffc), (17 : Fin 512), (ins 0x4441fffc), rfl, fetching (by decide +kernel), by decide +kernel⟩,
   ⟨(engAt 0x4841fffc), (17 : Fin 512), (ins 0x4841fffc), rfl, fetching (by decide +kernel), by decide +kernel⟩,
   ⟨(engAt 0x4c41fffc), (17 : Fin 512), (ins 0x4c41fffc), rfl, fetching (by decide +kernel), by decide +kernel⟩,
   ⟨(engAt 0x5041fffc), (17 : Fin 512), (ins 0x5041fffc), rfl, fetching (by decide +kernel), by decide +kernel⟩,
   ⟨(engAt 0x5441fffc), (17 : Fin 512), (ins 0x5441fffc), rfl, fetching (by decide +kernel), by decide +kernel⟩,
   ⟨(engAt 0x389ffffd), (17 : Fin 512), (ins 0x389ffffd), rfl, fetching (by decide +kernel), by decide +kernel⟩,
   ⟨(engAt 0x3c820001), (17 : Fin 512), (ins 0x3c820001), _, _, rfl, fetching (by decide +kernel), rfl, rfl, by decide +kernel⟩,
   ⟨(wst [fun d => d.set (R.ENG_c_TRAP_VALID ((17 : Fin 512).val / 16)) 0, svc, used 1, twoTasks, code 0x3c820002, eng17 [(1, 0x80000011), (2, 0x7),
     (3, 0x12345678)]]), (17 : Fin 512), (ins 0x3c820002), _, _, rfl, fetching (by decide +kernel), rfl, rfl, by decide +kernel⟩⟩
theorem witness_EngineLoads :
    (∃ (s : State) (e : Fin 512) (i : Ins) (x : Eng) (a : Nat), s.runs ∧ s.dev.Fetches e i ∧ x = s.dev.eng e ∧
      a = (x.g i.rs1 + BitVec.ofInt 32 i.imm).toNat ∧ i.op = .lb ∧ s.dev.Reaches e a 1) ∧
    (∃ (s : State) (e : Fin 512) (i : Ins) (x : Eng) (a : Nat), s.runs ∧ s.dev.Fetches e i ∧ x = s.dev.eng e ∧
      a = (x.g i.rs1 + BitVec.ofInt 32 i.imm).toNat ∧ i.op = .lbu ∧ s.dev.Reaches e a 1) ∧
    (∃ (s : State) (e : Fin 512) (i : Ins) (x : Eng) (a : Nat), s.runs ∧ s.dev.Fetches e i ∧ x = s.dev.eng e ∧
      a = (x.g i.rs1 + BitVec.ofInt 32 i.imm).toNat ∧ i.op = .lh ∧ a % 2 = 0 ∧ s.dev.Reaches e a 2) ∧
    (∃ (s : State) (e : Fin 512) (i : Ins) (x : Eng) (a : Nat), s.runs ∧ s.dev.Fetches e i ∧ x = s.dev.eng e ∧
      a = (x.g i.rs1 + BitVec.ofInt 32 i.imm).toNat ∧ i.op = .lhu ∧ a % 2 = 0 ∧ s.dev.Reaches e a 2) ∧
    (∃ (s : State) (e : Fin 512) (i : Ins) (x : Eng) (a : Nat), s.runs ∧ s.dev.Fetches e i ∧ x = s.dev.eng e ∧
      a = (x.g i.rs1 + BitVec.ofInt 32 i.imm).toNat ∧ i.op = .lw ∧ a % 4 = 0 ∧ s.dev.Reaches e a 4) ∧
    (∃ (s : State) (e : Fin 512) (i : Ins) (x : Eng) (a : Nat) (n : _), s.runs ∧ s.dev.Fetches e i ∧ x = s.dev.eng e ∧
      a = (x.g i.rs1 + BitVec.ofInt 32 i.imm).toNat ∧ n = (x.g i.rs2).toNat ∧ 0 < n ∧ n ≤ 4096 ∧ i.imm = 0 ∧ s.dev.Reaches e a n ∧ i.op = .crc32c) ∧
    (∃ (s : State) (e : Fin 512) (i : Ins) (x : Eng) (a : Nat) (n : _), s.runs ∧ s.dev.Fetches e i ∧ x = s.dev.eng e ∧
      a = (x.g i.rs1 + BitVec.ofInt 32 i.imm).toNat ∧ n = (x.g i.rs2).toNat ∧ 0 < n ∧ n ≤ 4096 ∧ i.imm = 0 ∧ s.dev.Reaches e a n ∧ i.op = .crc32) ∧
    (∃ (s : State) (e : Fin 512) (i : Ins) (x : Eng) (a : Nat) (n : _), s.runs ∧ s.dev.Fetches e i ∧ x = s.dev.eng e ∧
      a = (x.g i.rs1 + BitVec.ofInt 32 i.imm).toNat ∧ n = (x.g i.rs2).toNat ∧ 0 < n ∧ n ≤ 4096 ∧ i.imm = 0 ∧ s.dev.Reaches e a n ∧ i.op = .crc16) ∧
    (∃ (s : State) (e : Fin 512) (i : Ins) (x : Eng), s.runs ∧ s.dev.Fetches e i ∧ x = s.dev.eng e ∧ x.g i.rs2 = 0 ∧ i.op = .crc32c) ∧
    (∃ (s : State) (e : Fin 512) (i : Ins) (x : Eng), s.runs ∧ s.dev.Fetches e i ∧ x = s.dev.eng e ∧ x.g i.rs2 = 0 ∧ i.op = .crc32) ∧
    (∃ (s : State) (e : Fin 512) (i : Ins) (x : Eng), s.runs ∧ s.dev.Fetches e i ∧ x = s.dev.eng e ∧ x.g i.rs2 = 0 ∧ i.op = .crc16) :=
  ⟨⟨(wst [svc, used 1, twoTasks, code 0x60a10001, eng17 [(1, 0x10000), (2, 6), (3, 0x92345678), (5, 99)]]), (17 : Fin 512), (ins 0x60a10001), _, _,
    rfl, fetching (by decide +kernel), rfl, rfl, by decide +kernel, reaching (by decide +kernel)⟩,
   ⟨(wst [svc, used 1, twoTasks, code 0x64a10001, eng17 [(1, 0x10000), (2, 6), (3, 0x92345678), (5, 99)]]), (17 : Fin 512), (ins 0x64a10001), _, _,
     rfl, fetching (by decide +kernel), rfl, rfl, by decide +kernel, reaching (by decide +kernel)⟩,
   ⟨(wst [svc, used 1, twoTasks, code 0x68a10002, eng17 [(1, 0x10000), (2, 6), (3, 0x92345678), (5, 99)]]), (17 : Fin 512), (ins 0x68a10002), _, _,
     rfl, fetching (by decide +kernel), rfl, rfl, by decide +kernel, by decide +kernel, reaching (by decide +kernel)⟩,
   ⟨(wst [svc, used 1, twoTasks, code 0x6ca10002, eng17 [(1, 0x10000), (2, 6), (3, 0x92345678), (5, 99)]]), (17 : Fin 512), (ins 0x6ca10002), _, _,
     rfl, fetching (by decide +kernel), rfl, rfl, by decide +kernel, by decide +kernel, reaching (by decide +kernel)⟩,
   ⟨(wst [svc, used 1, twoTasks, code 0x70a10004, eng17 [(1, 0x10000), (2, 6), (3, 0x92345678), (5, 99)]]), (17 : Fin 512), (ins 0x70a10004), _, _,
     rfl, fetching (by decide +kernel), rfl, rfl, by decide +kernel, by decide +kernel, reaching (by decide +kernel)⟩,
   ⟨(wst [svc, used 1, twoTasks, code 0xb8a11000, eng17 [(1, 0x10000), (2, 6), (3, 0x92345678), (5, 99)]]), (17 : Fin 512), (ins 0xb8a11000), _, _,
     _, rfl, fetching (by decide +kernel), rfl, rfl, rfl, by decide +kernel, by decide +kernel, by decide +kernel, reaching (by decide +kernel),
     by decide +kernel⟩,
   ⟨(wst [svc, used 1, twoTasks, code 0xb8a11001, eng17 [(1, 0x10000), (2, 6), (3, 0x92345678), (5, 99)]]), (17 : Fin 512), (ins 0xb8a11001), _, _,
     _, rfl, fetching (by decide +kernel), rfl, rfl, rfl, by decide +kernel, by decide +kernel, by decide +kernel, reaching (by decide +kernel),
     by decide +kernel⟩,
   ⟨(wst [svc, used 1, twoTasks, code 0xb8a11002, eng17 [(1, 0x10000), (2, 6), (3, 0x92345678), (5, 99)]]), (17 : Fin 512), (ins 0xb8a11002), _, _,
     _, rfl, fetching (by decide +kernel), rfl, rfl, rfl, by decide +kernel, by decide +kernel, by decide +kernel, reaching (by decide +kernel),
     by decide +kernel⟩,
   ⟨(wst [svc, used 1, twoTasks, code 0xb8a10000, eng17 [(1, 0x10000), (2, 6), (3, 0x92345678), (5, 99)]]), (17 : Fin 512), (ins 0xb8a10000), _, rfl,
     fetching (by decide +kernel), rfl, by decide +kernel⟩,
   ⟨(wst [svc, used 1, twoTasks, code 0xb8a10001, eng17 [(1, 0x10000), (2, 6), (3, 0x92345678), (5, 99)]]), (17 : Fin 512), (ins 0xb8a10001), _, rfl,
     fetching (by decide +kernel), rfl, by decide +kernel⟩,
   ⟨(wst [svc, used 1, twoTasks, code 0xb8a10002, eng17 [(1, 0x10000), (2, 6), (3, 0x92345678), (5, 99)]]), (17 : Fin 512), (ins 0xb8a10002), _, rfl,
     fetching (by decide +kernel), rfl, by decide +kernel⟩⟩
theorem witness_EngineStores :
    (∃ (s : State) (e : Fin 512) (i : Ins) (x : Eng) (a : Nat), s.runs ∧ s.dev.Fetches e i ∧ x = s.dev.eng e ∧
      a = (x.g i.rs1 + BitVec.ofInt 32 i.imm).toNat ∧ i.op = .sb ∧ s.dev.Reaches e a 1) ∧
    (∃ (s : State) (e : Fin 512) (i : Ins) (x : Eng) (a : Nat), s.runs ∧ s.dev.Fetches e i ∧ x = s.dev.eng e ∧
      a = (x.g i.rs1 + BitVec.ofInt 32 i.imm).toNat ∧ i.op = .sh ∧ a % 2 = 0 ∧ s.dev.Reaches e a 2) ∧
    (∃ (s : State) (e : Fin 512) (i : Ins) (x : Eng) (a : Nat), s.runs ∧ s.dev.Fetches e i ∧ x = s.dev.eng e ∧
      a = (x.g i.rs1 + BitVec.ofInt 32 i.imm).toNat ∧ i.op = .sw ∧ a % 8 = 4 ∧ s.dev.Reaches e a 4) ∧
    (∃ (s : State) (e : Fin 512) (i : Ins) (x : Eng) (a : Nat), s.runs ∧ s.dev.Fetches e i ∧ x = s.dev.eng e ∧
      a = (x.g i.rs1 + BitVec.ofInt 32 i.imm).toNat ∧ i.op = .sw ∧ a % 8 = 0 ∧ s.dev.Reaches e a 4) ∧
    (∃ (s : State) (e : Fin 512) (i : Ins) (x : Eng) (a : Nat), s.runs ∧ s.dev.Fetches e i ∧ x = s.dev.eng e ∧
      a = (x.g i.rs1 + BitVec.ofInt 32 i.imm).toNat ∧ i.imm = 0 ∧ region a = .shared ∧ a % 4 = 0 ∧ s.dev.Reaches e a 4 ∧ i.op = .aadd) ∧
    (∃ (s : State) (e : Fin 512) (i : Ins) (x : Eng) (a : Nat), s.runs ∧ s.dev.Fetches e i ∧ x = s.dev.eng e ∧
      a = (x.g i.rs1 + BitVec.ofInt 32 i.imm).toNat ∧ i.imm = 0 ∧ region a = .shared ∧ a % 4 = 0 ∧ s.dev.Reaches e a 4 ∧ i.op = .aand) ∧
    (∃ (s : State) (e : Fin 512) (i : Ins) (x : Eng) (a : Nat), s.runs ∧ s.dev.Fetches e i ∧ x = s.dev.eng e ∧
      a = (x.g i.rs1 + BitVec.ofInt 32 i.imm).toNat ∧ i.imm = 0 ∧ region a = .shared ∧ a % 4 = 0 ∧ s.dev.Reaches e a 4 ∧ i.op = .aor) ∧
    (∃ (s : State) (e : Fin 512) (i : Ins) (x : Eng) (a : Nat), s.runs ∧ s.dev.Fetches e i ∧ x = s.dev.eng e ∧
      a = (x.g i.rs1 + BitVec.ofInt 32 i.imm).toNat ∧ i.imm = 0 ∧ region a = .shared ∧ a % 4 = 0 ∧ s.dev.Reaches e a 4 ∧ i.op = .aswap) ∧
    (∃ (s : State) (e : Fin 512) (i : Ins) (x : Eng) (a : Nat), s.runs ∧ s.dev.Fetches e i ∧ x = s.dev.eng e ∧
      a = (x.g i.rs1 + BitVec.ofInt 32 i.imm).toNat ∧ i.imm = 0 ∧ region a = .shared ∧ a % 4 = 0 ∧ s.dev.Reaches e a 4 ∧ i.op = .acas) ∧
    (∃ (s : State) (e : Fin 512) (i : Ins) (x : Eng), s.runs ∧ s.dev.Fetches e i ∧ x = s.dev.eng e ∧ i.op = .fence ∧ x.ops = []) ∧
    (∃ (s : State) (e : Fin 512) (i : Ins) (x : Eng), s.runs ∧ s.dev.Fetches e i ∧ x = s.dev.eng e ∧ i.op = .fence ∧ x.ops ≠ []) ∧
    (∃ (s : State) (e : Fin 512) (i : Ins) (x : Eng) (a : Nat) (h : HeldStore), s.runs ∧ s.dev.Fetches e i ∧ x = s.dev.eng e ∧
      a = (x.g i.rs1 + BitVec.ofInt 32 i.imm).toNat ∧ h.addr % 8 = 0 ∧ s.dev.Reaches e h.addr 8 ∧ i.op = .sw ∧ a = h.addr + 4) ∧
    (∃ (s : State) (e : Fin 512) (i : Ins) (x : Eng) (h : HeldStore), s.runs ∧ s.dev.Fetches e i ∧ x = s.dev.eng e ∧ h.addr % 8 = 0 ∧
      s.dev.Reaches e h.addr 8 ∧ i.op = .fence ∧ x.ops = []) :=
  ⟨⟨(wst [svc, used 1, twoTasks, code 0x74610003, eng17 [(1, 0x10000), (2, 6), (3, 0x92345678), (5, 99)]]), (17 : Fin 512), (ins 0x74610003), _, _,
    rfl, fetching (by decide +kernel), rfl, rfl, by decide +kernel, reaching (by decide +kernel)⟩,
   ⟨(wst [svc, used 1, twoTasks, code 0x78610006, eng17 [(1, 0x10000), (2, 6), (3, 0x92345678), (5, 99)]]), (17 : Fin 512), (ins 0x78610006), _, _,
     rfl, fetching (by decide +kernel), rfl, rfl, by decide +kernel, by decide +kernel, reaching (by decide +kernel)⟩,
   ⟨(wst [svc, used 1, twoTasks, code 0x7c610004, eng17 [(1, 0x10000), (2, 6), (3, 0x92345678), (5, 99)]]), (17 : Fin 512), (ins 0x7c610004), _, _,
     rfl, fetching (by decide +kernel), rfl, rfl, by decide +kernel, by decide +kernel, reaching (by decide +kernel)⟩,
   ⟨(wst [svc, used 1, twoTasks, code 0x7c610008, eng17 [(1, 0x10000), (2, 6), (3, 0x92345678), (5, 99)]]), (17 : Fin 512), (ins 0x7c610008), _, _,
     rfl, fetching (by decide +kernel), rfl, rfl, by decide +kernel, by decide +kernel, reaching (by decide +kernel)⟩,
   ⟨(wst [svc, used 1, twoTasks, code 0xa0a11800, eng17 [(1, 0x10000), (2, 6), (3, 0x92345678), (5, 99)]]), (17 : Fin 512), (ins 0xa0a11800), _, _,
     rfl, fetching (by decide +kernel), rfl, rfl, by decide +kernel, by decide +kernel, by decide +kernel, reaching (by decide +kernel),
     by decide +kernel⟩,
   ⟨(wst [svc, used 1, twoTasks, code 0xa0a11801, eng17 [(1, 0x10000), (2, 6), (3, 0x92345678), (5, 99)]]), (17 : Fin 512), (ins 0xa0a11801), _, _,
     rfl, fetching (by decide +kernel), rfl, rfl, by decide +kernel, by decide +kernel, by decide +kernel, reaching (by decide +kernel),
     by decide +kernel⟩,
   ⟨(wst [svc, used 1, twoTasks, code 0xa0a11802, eng17 [(1, 0x10000), (2, 6), (3, 0x92345678), (5, 99)]]), (17 : Fin 512), (ins 0xa0a11802), _, _,
     rfl, fetching (by decide +kernel), rfl, rfl, by decide +kernel, by decide +kernel, by decide +kernel, reaching (by decide +kernel),
     by decide +kernel⟩,
   ⟨(wst [svc, used 1, twoTasks, code 0xa0a11803, eng17 [(1, 0x10000), (2, 6), (3, 0x92345678), (5, 99)]]), (17 : Fin 512), (ins 0xa0a11803), _, _,
     rfl, fetching (by decide +kernel), rfl, rfl, by decide +kernel, by decide +kernel, by decide +kernel, reaching (by decide +kernel),
     by decide +kernel⟩,
   ⟨(wst [svc, used 1, twoTasks, code 0xa0a11804, eng17 [(1, 0x10000), (2, 6), (3, 0x92345678), (5, 0x84038201)]]), (17 : Fin 512), (ins 0xa0a11804),
     _, _, rfl, fetching (by decide +kernel), rfl, rfl, by decide +kernel, by decide +kernel, by decide +kernel, reaching (by decide +kernel),
     by decide +kernel⟩,
   ⟨(wst [svc, used 1, twoTasks, code 0xa4000000, eng17 [(1, 0x10000), (2, 6), (3, 0x92345678), (5, 99)]]), (17 : Fin 512), (ins 0xa4000000), _, rfl,
     fetching (by decide +kernel), rfl, by decide +kernel⟩,
   ⟨(wst [svc, used 1, twoTasks, code 0xa4000000,
     fun d => d.setEng 17 ({ Eng.idle with st := .running, task := 4, pc := 8, regs := [(1, 0x10000), (2, 6), (3, 0x92345678), (5, 99)], ops := [Async.mk 6 .commit 0 0 0] } : Eng)]), (17 : Fin 512), (ins 0xa4000000), _, rfl, fetching (by decide +kernel), rfl, by decide +kernel⟩,
   ⟨(wst [svc, used 1, twoTasks, code 0x7c610004, eng17 [(1, 0x10000), (2, 6), (3, 0x92345678), (5, 99)]]), (17 : Fin 512), (ins 0x7c610004), _, _,
     (HeldStore.mk 0x10000 77 4 0), rfl, fetching (by decide +kernel), rfl, rfl, by decide +kernel, reaching (by decide +kernel), by decide +kernel⟩,
   ⟨(wst [svc, used 1, twoTasks, code 0xa4000000, eng17 [(1, 0x10000), (2, 6), (3, 0x92345678), (5, 99)]]), (17 : Fin 512), (ins 0xa4000000), _,
     (HeldStore.mk 0x10000 77 4 0), rfl, fetching (by decide +kernel), rfl, by decide +kernel, reaching (by decide +kernel), by decide +kernel⟩⟩
theorem witness_EngineTasks :
    (∃ (s : State) (e : Fin 512) (i : Ins) (x : Eng) (a : Word), s.runs ∧ s.dev.Fetches e i ∧ x = s.dev.eng e ∧ a = x.g i.rs1 ∧ i.op = .evset ∧
      (s.dev.task (a.toNat % 65536)).st ≠ .free) ∧
    (∃ (s : State) (e : Fin 512) (i : Ins) (x : Eng) (a : Word), s.runs ∧ s.dev.Fetches e i ∧ x = s.dev.eng e ∧ a = x.g i.rs1 ∧ i.op = .evset ∧
      (s.dev.task (a.toNat % 65536)).st = .free) ∧
    (∃ (s : State) (e : Fin 512) (i : Ins) (x : Eng) (n : Nat), s.runs ∧ s.dev.Fetches e i ∧ x = s.dev.eng e ∧ n = x.task ∧ i.op = .evclr ∧
      (s.dev.task n).st ≠ .free) ∧
    (∃ (s : State) (e : Fin 512) (i : Ins) (x : Eng) (n : Nat) (a : Word) (c : Instr) (all : _), s.runs ∧ s.dev.Fetches e i ∧ x = s.dev.eng e ∧
      n = x.task ∧ a = x.g i.rs1 ∧ ((c = .evwaitAny e ∧ i.op = .evwaitAny ∧ all = false) ∨ (c = .evwaitAll e ∧ i.op = .evwaitAll ∧ all = true)) ∧
      condHolds (s.dev.task n).flags a.toNat all = true) ∧
    (∃ (s : State) (e : Fin 512) (i : Ins) (x : Eng) (n : Nat) (a : Word) (c : Instr) (all : _), s.runs ∧ s.dev.Fetches e i ∧ x = s.dev.eng e ∧
      n = x.task ∧ a = x.g i.rs1 ∧ ((c = .evwaitAny e ∧ i.op = .evwaitAny ∧ all = false) ∨ (c = .evwaitAll e ∧ i.op = .evwaitAll ∧ all = true)) ∧
      condHolds (s.dev.task n).flags a.toNat all = false ∧ x.ops = []) ∧
    (∃ (s : State) (e : Fin 512) (i : Ins) (x : Eng) (n : Nat) (a : Word) (c : Instr) (all : _), s.runs ∧ s.dev.Fetches e i ∧ x = s.dev.eng e ∧
      n = x.task ∧ a = x.g i.rs1 ∧ ((c = .evwaitAny e ∧ i.op = .evwaitAny ∧ all = false) ∨ (c = .evwaitAll e ∧ i.op = .evwaitAll ∧ all = true)) ∧
      condHolds (s.dev.task n).flags a.toNat all = false ∧ x.ops ≠ []) ∧
    (∃ (s : State) (e : Fin 512) (i : Ins), s.runs ∧ s.dev.Fetches e i ∧ i.op = .yieldpt ∧ ((∀ r, r ∈ s.dev.tsk.requests → r.1 = e.val →
      r.2.2 = false))) ∧
    (∃ (s : State) (e : Fin 512) (i : Ins) (x : Eng) (m : _), s.runs ∧ s.dev.Fetches e i ∧ x = s.dev.eng e ∧ i.op = .yieldpt ∧ (e.val, m,
      true) ∈ s.dev.tsk.requests ∧ x.ops ≠ []) ∧
    (∃ (s : State) (e : Fin 512) (i : Ins) (x : Eng) (m : _), s.runs ∧ s.dev.Fetches e i ∧ x = s.dev.eng e ∧ i.op = .yieldpt ∧ (e.val, m,
      true) ∈ s.dev.tsk.requests ∧ x.ops = []) ∧
    (∃ (s : State) (e : Fin 512) (i : Ins) (x : Eng), s.runs ∧ s.dev.Fetches e i ∧ x = s.dev.eng e ∧ i.op = .end_ ∧ x.ops = []) :=
  ⟨⟨(wst [svc, used 1, twoTasks, code 0xa4031005, eng17 [(3, 9), (2, 6)]]), (17 : Fin 512), (ins 0xa4031005), _, _, rfl,
    fetching (by decide +kernel), rfl, rfl, by decide +kernel⟩,
   ⟨(wst [svc, used 1, twoTasks, code 0xa4031005, eng17 [(3, 10), (2, 6)]]), (17 : Fin 512), (ins 0xa4031005), _, _, rfl,
     fetching (by decide +kernel), rfl, rfl, by decide +kernel⟩,
   ⟨(wst [svc, used 1, twoTasks, code 0xa4030006, eng17 [(3, 4)]]), (17 : Fin 512), (ins 0xa4030006), _, _, rfl, fetching (by decide +kernel), rfl,
     rfl, by decide +kernel⟩,
   ⟨(wst [svc, used 1, twoTasks, code 0xa4030003, eng17 [(3, 6)]]), (17 : Fin 512), (ins 0xa4030003), _, _, _, (.evwaitAny (17 : Fin 512) : Instr),
     false, rfl, fetching (by decide +kernel), rfl, rfl, rfl, by decide +kernel⟩,
   ⟨(wst [svc, used 1, twoTasks, code 0xa4030004, eng17 [(3, 6)]]), (17 : Fin 512), (ins 0xa4030004), _, _, _, (.evwaitAll (17 : Fin 512) : Instr),
     true, rfl, fetching (by decide +kernel), rfl, rfl, rfl, by decide +kernel⟩,
   ⟨(wst [svc, used 1, twoTasks, code 0xa4030003,
     fun d => d.setEng 17 ({ Eng.idle with st := .running, task := 4, pc := 8, regs := [(3, 8)], ops := [Async.mk 6 .commit 0 0 0] } : Eng)]),
     (17 : Fin 512), (ins 0xa4030003), _, _, _, (.evwaitAny (17 : Fin 512) : Instr), false, rfl, fetching (by decide +kernel), rfl, rfl, rfl,
     by decide +kernel⟩,
   ⟨(engAt 0xa4000002), (17 : Fin 512), (ins 0xa4000002), rfl, fetching (by decide +kernel), by decide +kernel⟩,
   ⟨(wst [svc, used 1, twoTasks, code 0xa4000002,
     fun d => d.setEng 17 ({ Eng.idle with st := .running, task := 4, pc := 8, regs := [(1, 0x80000011), (2, 0x7), (3, 0x12345678)], ops := [Async.mk 6 .commit 0 0 0] } : Eng), fun d => { d with tsk := { d.tsk with requests := [(17, 9, true)] } }]), (17 : Fin 512), (ins 0xa4000002), _, 9, rfl, fetching (by decide +kernel), rfl, by decide +kernel⟩,
   ⟨(wst [svc, used 1, twoTasks, code 0xa4000002, eng17 [(1, 0x80000011), (2, 0x7), (3, 0x12345678)],
     fun d => { d with tsk := { d.tsk with requests := [(17, 9, true)] } }]), (17 : Fin 512), (ins 0xa4000002), _, 9, rfl,
     fetching (by decide +kernel), rfl, by decide +kernel⟩,
   ⟨(engAt 0xa4000001), (17 : Fin 512), (ins 0xa4000001), _, rfl, fetching (by decide +kernel), rfl, by decide +kernel⟩⟩
theorem witness_EnginePages :
    (∃ (s : State) (c : Fin 32) (e : Fin 512) (i : Ins) (x : Eng) (a : Word), s.runs ∧ e.val / 16 = c.val ∧ s.dev.Fetches e i ∧ x = s.dev.eng e ∧
      a = x.g i.rs1 ∧ i.op = .palloc ∧ a = 0) ∧
    (∃ (s : State) (c : Fin 32) (e : Fin 512) (i : Ins) (x : Eng) (a : Word) (k : Cluster) (n : _), s.runs ∧ e.val / 16 = c.val ∧ s.dev.Fetches e i ∧
      x = s.dev.eng e ∧ a = x.g i.rs1 ∧ k = s.dev.cluster c ∧ n = (a.toNat + 4095) / 4096 ∧ i.op = .palloc ∧ a ≠ 0 ∧
      s.dev.get (R.ENG_c_QUOTA_VALUE c) < k.pages + n) ∧
    (∃ (s : State) (c : Fin 32) (e : Fin 512) (i : Ins) (x : Eng) (a : Word) (k : Cluster) (n : _), s.runs ∧ e.val / 16 = c.val ∧ s.dev.Fetches e i ∧
      x = s.dev.eng e ∧ a = x.g i.rs1 ∧ k = s.dev.cluster c ∧ n = (a.toNat + 4095) / 4096 ∧ i.op = .palloc ∧ a ≠ 0 ∧
      k.pages + n ≤ s.dev.get (R.ENG_c_QUOTA_VALUE c) ∧ ((∀ p, k.fits p n = false))) ∧
    (∃ (s : State) (c : Fin 32) (e : Fin 512) (i : Ins) (x : Eng) (a : Word) (k : Cluster) (n : _), s.runs ∧ e.val / 16 = c.val ∧ s.dev.Fetches e i ∧
      x = s.dev.eng e ∧ a = x.g i.rs1 ∧ k = s.dev.cluster c ∧ n = (a.toNat + 4095) / 4096 ∧ i.op = .palloc ∧ a ≠ 0 ∧
      k.pages + n ≤ s.dev.get (R.ENG_c_QUOTA_VALUE c) ∧ ((∃ p, k.fits p n = true)) ∧ 1024 ≤ k.allocs.length) ∧
    (∃ (s : State) (c : Fin 32) (e : Fin 512) (i : Ins) (x : Eng) (a : Word) (k : Cluster) (n : _), s.runs ∧ e.val / 16 = c.val ∧ s.dev.Fetches e i ∧
      x = s.dev.eng e ∧ a = x.g i.rs1 ∧ k = s.dev.cluster c ∧ n = (a.toNat + 4095) / 4096 ∧ i.op = .palloc ∧ a ≠ 0 ∧
      k.pages + n ≤ s.dev.get (R.ENG_c_QUOTA_VALUE c) ∧ ((∃ p, k.fits p n = true)) ∧ k.allocs.length < 1024) ∧
    (∃ (s : State) (c : Fin 32) (e : Fin 512) (i : Ins) (x : Eng) (a : Word) (k : Cluster) (l : _), s.runs ∧ e.val / 16 = c.val ∧ s.dev.Fetches e i ∧
      x = s.dev.eng e ∧ a = x.g i.rs1 ∧ k = s.dev.cluster c ∧ i.op = .pfree ∧ k.allocs.find? (fun l => 4096 * l.page == a.toNat) = some l) ∧
    (∃ (s : State) (c : Fin 32) (e : Fin 512) (i : Ins) (x : Eng) (a : Word) (k : Cluster), s.runs ∧ e.val / 16 = c.val ∧ s.dev.Fetches e i ∧
      x = s.dev.eng e ∧ a = x.g i.rs1 ∧ k = s.dev.cluster c ∧ i.op = .pfree ∧ k.allocs.find? (fun l => 4096 * l.page == a.toNat) = none) ∧
    (∃ (s : State) (c : Fin 32) (p : _), s.runs ∧ ((∃ x, x ∈ s.dev.engs ∧ x.1 / 16 = c.val ∧ x.2.page = some p)) ∧ s.dev.isUp c = true) ∧
    (∃ (s : State) (c : Fin 32) (o : Fin 32768), s.runs ∧ s.dev.pitchUsed (c.val / 4 + 1) = true ∧
      s.dev.open_ (0x2000000 + 0x100000 * c.val + 4 * o.val)) :=
  ⟨⟨(wst [svc, used 1, twoTasks, code 0xb4a10000, eng17 [],
    fun d => d.setCluster 1 { d.cluster 1 with allocs := [], virt := swrite 4096 [1,2,3] []  }, fld (R.ENG_c_QUOTA_VALUE 1) 100]), (1 : Fin 32),
    (17 : Fin 512), (ins 0xb4a10000), _, _, rfl, by decide +kernel, fetching (by decide +kernel), rfl, rfl, by decide +kernel⟩,
   ⟨(wst [svc, used 1, twoTasks, code 0xb4a10000, eng17 [(1, 4097)],
     fun d => d.setCluster 1 { d.cluster 1 with allocs := [{ page := 1, pages := 1 }], virt := swrite 4096 [1,2,3] []  },
     fld (R.ENG_c_QUOTA_VALUE 1) 2]), (1 : Fin 32), (17 : Fin 512), (ins 0xb4a10000), _, _, _, _, rfl, by decide +kernel,
     fetching (by decide +kernel), rfl, rfl, rfl, rfl, by decide +kernel⟩,
   ⟨(wst [svc, used 1, twoTasks, code 0xb4a10000, eng17 [(1, 4097)],
     fun d => d.setCluster 1 { d.cluster 1 with allocs := [{ page := 65536, pages := 983039 }], virt := swrite 4096 [1,2,3] []  },
     fld (R.ENG_c_QUOTA_VALUE 1) 1048575]), (1 : Fin 32), (17 : Fin 512), (ins 0xb4a10000), _, _, _, _, rfl, by decide +kernel,
     fetching (by decide +kernel), rfl, rfl, rfl, rfl, by decide +kernel, by decide +kernel, by decide +kernel,
     fun p => no_fit (by decide +kernel) (by decide +kernel)⟩,
   ⟨(wst [svc, used 1, twoTasks, code 0xb4a10000, eng17 [(1, 1)],
     fun d => d.setCluster 1 { d.cluster 1 with allocs := ((List.range 1024).map fun n => { page := 2 * n, pages := 1 }), virt := swrite 4096 [1,2,3] []  }, fld (R.ENG_c_QUOTA_VALUE 1) 2000]), (1 : Fin 32), (17 : Fin 512), (ins 0xb4a10000), _, _, _, _, rfl, by decide +kernel, fetching (by decide +kernel), rfl, rfl, rfl, rfl, by decide +kernel, by decide +kernel, by decide +kernel, ⟨0x20000, by decide +kernel⟩, by decide +kernel⟩,
   ⟨(wst [svc, used 1, twoTasks, code 0xb4a10000, eng17 [(1, 4097)],
     fun d => d.setCluster 1 { d.cluster 1 with allocs := [{ page := 1, pages := 1 }], virt := swrite 4096 [1,2,3] []  },
     fld (R.ENG_c_QUOTA_VALUE 1) 10]), (1 : Fin 32), (17 : Fin 512), (ins 0xb4a10000), _, _, _, _, rfl, by decide +kernel,
     fetching (by decide +kernel), rfl, rfl, rfl, rfl, by decide +kernel, by decide +kernel, by decide +kernel, ⟨0x20000, by decide +kernel⟩,
     by decide +kernel⟩,
   ⟨(wst [svc, used 1, twoTasks, code 0xb4a10001, eng17 [(1, 4096)],
     fun d => d.setCluster 1 { d.cluster 1 with allocs := [{ page := 1, pages := 1 }], virt := swrite 4096 [1,2,3] [] , pcache := [(1, true), (7, false)] }, fld (R.ENG_c_QUOTA_VALUE 1) 10]), (1 : Fin 32), (17 : Fin 512), (ins 0xb4a10001), _, _, _, (Alloc.mk 1 1), rfl, by decide +kernel, fetching (by decide +kernel), rfl, rfl, rfl, by decide +kernel⟩,
   ⟨(wst [svc, used 1, twoTasks, code 0xb4a10001, eng17 [(1, 8192)],
     fun d => d.setCluster 1 { d.cluster 1 with allocs := [{ page := 1, pages := 1 }], virt := swrite 4096 [1,2,3] []  },
     fld (R.ENG_c_QUOTA_VALUE 1) 10]), (1 : Fin 32), (17 : Fin 512), (ins 0xb4a10001), _, _, _, rfl, by decide +kernel, fetching (by decide +kernel),
     rfl, rfl, rfl, by decide +kernel⟩,
   ⟨(wst [fun d => d.setEng 17 { Eng.idle with st := .stalled, task := 4, page := some 7 }]), (1 : Fin 32), 7, rfl, by decide +kernel⟩,
   ⟨(wst [used 1]), (1 : Fin 32), (3 : Fin 32768), rfl, by decide +kernel, opened (by decide +kernel)⟩⟩
theorem witness_EnginePackets :
    (∃ (s : State) (e : Fin 512) (i : Ins) (x : Eng) (o : Nat) (a : Word), s.runs ∧ s.dev.Fetches e i ∧ x = s.dev.eng e ∧ a = x.g i.rs1 ∧
      o = (a + BitVec.ofInt 32 i.imm).toNat ∧ i.op = .lbp ∧ o + 1 ≤ 512) ∧
    (∃ (s : State) (e : Fin 512) (i : Ins) (x : Eng) (o : Nat) (a : Word), s.runs ∧ s.dev.Fetches e i ∧ x = s.dev.eng e ∧ a = x.g i.rs1 ∧
      o = (a + BitVec.ofInt 32 i.imm).toNat ∧ i.op = .lhp ∧ o + 2 ≤ 512) ∧
    (∃ (s : State) (e : Fin 512) (i : Ins) (x : Eng) (o : Nat) (a : Word), s.runs ∧ s.dev.Fetches e i ∧ x = s.dev.eng e ∧ a = x.g i.rs1 ∧
      o = (a + BitVec.ofInt 32 i.imm).toNat ∧ i.op = .lwp ∧ o + 4 ≤ 512) ∧
    (∃ (s : State) (e : Fin 512) (i : Ins) (x : Eng) (o : Nat) (a : Word) (k : Instr) (n : _) (f : Frame), s.runs ∧ s.dev.Fetches e i ∧
      x = s.dev.eng e ∧ a = x.g i.rs1 ∧ o = (a + BitVec.ofInt 32 i.imm).toNat ∧ ((k = .sbp e ∧ i.op = .sbp ∧ n = 1) ∨ (k = .shp e ∧ i.op = .shp ∧
      n = 2) ∨ (k = .swp e ∧ i.op = .swp ∧ n = 4)) ∧ x.pkt.frame = some f ∧ o + n ≤ 256 ∧ o + n ≤ f.bytes.length) ∧
    (∃ (s : State) (e : Fin 512) (i : Ins) (x : Eng) (o : Nat) (a : Word) (k : Instr) (n : _), s.runs ∧ s.dev.Fetches e i ∧ x = s.dev.eng e ∧
      a = x.g i.rs1 ∧ o = (a + BitVec.ofInt 32 i.imm).toNat ∧ ((k = .sbp e ∧ i.op = .sbp ∧ n = 1) ∨ (k = .shp e ∧ i.op = .shp ∧
      n = 2) ∨ (k = .swp e ∧ i.op = .swp ∧ n = 4)) ∧ 0x180 ≤ o ∧ o + n ≤ 0x1C0 ∧ x.pkt.desc.length = 64) ∧
    (∃ (s : State) (e : Fin 512) (i : Ins) (x : Eng) (o : Nat) (a : Word) (k : Instr) (n : _), s.runs ∧ s.dev.Fetches e i ∧ x = s.dev.eng e ∧
      a = x.g i.rs1 ∧ o = (a + BitVec.ofInt 32 i.imm).toNat ∧ ((k = .sbp e ∧ i.op = .sbp ∧ n = 1) ∨ (k = .shp e ∧ i.op = .shp ∧
      n = 2) ∨ (k = .swp e ∧ i.op = .swp ∧ n = 4)) ∧ 0x100 ≤ o ∧ o + n ≤ 0x180) ∧
    (∃ (s : State) (e : Fin 512) (i : Ins) (x : Eng), s.runs ∧ s.dev.Fetches e i ∧ x = s.dev.eng e ∧ i.op = .pnext ∧ x.pkt.frame.isSome = true) ∧
    (∃ (s : State) (e : Fin 512) (i : Ins) (x : Eng), s.runs ∧ s.dev.Fetches e i ∧ x = s.dev.eng e ∧ i.op = .pnext ∧ x.pkt.frame = none ∧
      (s.dev.task x.task).posts = []) ∧
    (∃ (s : State) (e : Fin 512) (i : Ins) (x : Eng) (p : PostItem) (rest : List PostItem), s.runs ∧ s.dev.Fetches e i ∧ x = s.dev.eng e ∧
      i.op = .pnext ∧ x.pkt.frame = none ∧ (s.dev.task x.task).posts = p :: rest) ∧
    (∃ (s : State) (e : Fin 512) (i : Ins) (x : Eng) (a : Word), s.runs ∧ s.dev.Fetches e i ∧ x = s.dev.eng e ∧ a = x.g i.rs1 ∧ i.op = .pnew ∧
      x.pkt.item = none ∧ 1 ≤ a.toNat ∧ a.toNat ≤ 256) ∧
    (∃ (s : State) (e : Fin 512) (i : Ins) (x : Eng) (a : Word), s.runs ∧ s.dev.Fetches e i ∧ x = s.dev.eng e ∧ a = x.g i.rs1 ∧ i.op = .pnew ∧
      x.pkt.item = none ∧ (a.toNat = 0 ∨ 256 < a.toNat)) ∧
    (∃ (s : State) (e : Fin 512) (i : Ins) (x : Eng) (a : Word) (f : Frame), s.runs ∧ s.dev.Fetches e i ∧ x = s.dev.eng e ∧ a = x.g i.rs1 ∧
      i.op = .phead ∧ x.pkt.frame = some f ∧ 0 < a.toInt ∧ a.toInt + 1 ≤ f.bytes.length) ∧
    (∃ (s : State) (e : Fin 512) (i : Ins) (x : Eng) (a : Word) (f : Frame), s.runs ∧ s.dev.Fetches e i ∧ x = s.dev.eng e ∧ a = x.g i.rs1 ∧
      i.op = .phead ∧ x.pkt.frame = some f ∧ 0 < a.toInt ∧ f.bytes.length < a.toInt + 1) ∧
    (∃ (s : State) (e : Fin 512) (i : Ins) (x : Eng) (a : Word) (f : Frame) (n : Nat), s.runs ∧ s.dev.Fetches e i ∧ x = s.dev.eng e ∧ a = x.g i.rs1 ∧
      i.op = .phead ∧ x.pkt.frame = some f ∧ a.toInt = -(n : Int) ∧ x.pkt.prepended + n ≤ 64 ∧ f.bytes.length + n ≤ 9744) ∧
    (∃ (s : State) (e : Fin 512) (i : Ins) (x : Eng) (a : Word) (f : Frame), s.runs ∧ s.dev.Fetches e i ∧ x = s.dev.eng e ∧ a = x.g i.rs1 ∧
      i.op = .plen ∧ x.pkt.frame = some f ∧ 1 ≤ a.toNat ∧ a.toNat ≤ max f.bytes.length 256) ∧
    (∃ (s : State) (e : Fin 512) (i : Ins) (x : Eng) (f : Frame), s.runs ∧ s.dev.Fetches e i ∧ x = s.dev.eng e ∧ i.op = .psend ∧
      x.pkt.frame = some f ∧ s.dev.sendDescOf x.pkt.desc = none) ∧
    (∃ (s : State) (e : Fin 512) (i : Ins) (x : Eng) (f : Frame) (p : _) (desc : _), s.runs ∧ s.dev.Fetches e i ∧ x = s.dev.eng e ∧ i.op = .psend ∧
      x.pkt.frame = some f ∧ s.dev.sendDescOf x.pkt.desc = some (p, desc)) ∧
    (∃ (s : State) (e : Fin 512) (i : Ins) (x : Eng) (f : Frame), s.runs ∧ s.dev.Fetches e i ∧ x = s.dev.eng e ∧ i.op = .precirc ∧
      x.pkt.frame = some f ∧ f.second = true) ∧
    (∃ (s : State) (e : Fin 512) (i : Ins) (x : Eng) (f : Frame), s.runs ∧ s.dev.Fetches e i ∧ x = s.dev.eng e ∧ i.op = .precirc ∧
      x.pkt.frame = some f ∧ f.second = false ∧ ((s.dev.sup.mode.traffic = true ∨ s.dev.sup.mode = .test ∧ s.dev.overLoop f = true)) ∧
      s.dev.pwr.closed = false) ∧
    (∃ (s : State) (e : Fin 512) (i : Ins) (x : Eng), s.runs ∧ s.dev.Fetches e i ∧ x = s.dev.eng e ∧ i.op = .pdrop ∧ x.pkt.frame.isSome = true) ∧
    (∃ (s : State) (e : Fin 512) (i : Ins) (x : Eng) (k : Instr), s.runs ∧ s.dev.Fetches e i ∧ x = s.dev.eng e ∧ x.pkt.frame = none ∧
      ((k = .phead e ∧ i.op = .phead) ∨ (k = .plen e ∧ i.op = .plen) ∨ (k = .psend e ∧ i.op = .psend) ∨ (k = .precirc e ∧
      i.op = .precirc) ∨ (k = .pdrop e ∧ i.op = .pdrop))) :=
  ⟨⟨(wst [svc, used 1, twoTasks, code 0x80a10003,
    fun d => d.setEng 17 ({ Eng.idle with st := .running, task := 4, pc := 8, regs := [(1, 4), (2, 6), (3, 0x92345678)], pkt := { item := some { (default : PostItem) with frame := some ({ (default : Frame) with bytes := List.replicate 100 7, second := false } : Frame), info := [1, 2] }, desc := List.replicate 64 0, prepended := 0 } } : Eng)]), (17 : Fin 512), (ins 0x80a10003), _, _, _, rfl, fetching (by decide +kernel), rfl, rfl, rfl, by decide +kernel⟩,
   ⟨(wst [svc, used 1, twoTasks, code 0x84a10110,
     fun d => d.setEng 17 ({ Eng.idle with st := .running, task := 4, pc := 8, regs := [(1, 4), (2, 6), (3, 0x92345678)], pkt := { item := some { (default : PostItem) with frame := some ({ (default : Frame) with bytes := List.replicate 100 7, second := false } : Frame), info := [1, 2] }, desc := List.replicate 64 0, prepended := 0 } } : Eng)]), (17 : Fin 512), (ins 0x84a10110), _, _, _, rfl, fetching (by decide +kernel), rfl, rfl, rfl, by decide +kernel⟩,
   ⟨(wst [svc, used 1, twoTasks, code 0x88a1018c,
     fun d => d.setEng 17 ({ Eng.idle with st := .running, task := 4, pc := 8, regs := [(1, 4), (2, 6), (3, 0x92345678)], pkt := { item := some { (default : PostItem) with frame := some ({ (default : Frame) with bytes := List.replicate 100 7, second := false } : Frame), info := [1, 2] }, desc := List.replicate 64 0, prepended := 0 } } : Eng)]), (17 : Fin 512), (ins 0x88a1018c), _, _, _, rfl, fetching (by decide +kernel), rfl, rfl, rfl, by decide +kernel⟩,
   ⟨(wst [svc, used 1, twoTasks, code 0x90610008,
     fun d => d.setEng 17 ({ Eng.idle with st := .running, task := 4, pc := 8, regs := [(1, 4), (2, 6), (3, 0x92345678)], pkt := { item := some { (default : PostItem) with frame := some ({ (default : Frame) with bytes := List.replicate 100 7, second := false } : Frame), info := [1, 2] }, desc := List.replicate 64 0, prepended := 0 } } : Eng)]), (17 : Fin 512), (ins 0x90610008), _, _, _, (.shp (17 : Fin 512) : Instr), 2, ({ (default : Frame) with bytes := List.replicate 100 7, second := false } : Frame), rfl, fetching (by decide +kernel), rfl, rfl, rfl, by decide +kernel⟩,
   ⟨(wst [svc, used 1, twoTasks, code 0x90610190,
     fun d => d.setEng 17 ({ Eng.idle with st := .running, task := 4, pc := 8, regs := [(1, 4), (2, 6), (3, 0x92345678)], pkt := { item := some { (default : PostItem) with frame := some ({ (default : Frame) with bytes := List.replicate 100 7, second := false } : Frame), info := [1, 2] }, desc := List.replicate 64 0, prepended := 0 } } : Eng)]), (17 : Fin 512), (ins 0x90610190), _, _, _, (.shp (17 : Fin 512) : Instr), 2, rfl, fetching (by decide +kernel), rfl, rfl, rfl, by decide +kernel⟩,
   ⟨(wst [svc, used 1, twoTasks, code 0x90610108,
     fun d => d.setEng 17 ({ Eng.idle with st := .running, task := 4, pc := 8, regs := [(1, 4), (2, 6), (3, 0x92345678)], pkt := { item := some { (default : PostItem) with frame := some ({ (default : Frame) with bytes := List.replicate 100 7, second := false } : Frame), info := [1, 2] }, desc := List.replicate 64 0, prepended := 0 } } : Eng)]), (17 : Fin 512), (ins 0x90610108), _, _, _, (.shp (17 : Fin 512) : Instr), 2, rfl, fetching (by decide +kernel), rfl, rfl, rfl, by decide +kernel⟩,
   ⟨(wst [svc, used 1, twoTasks, code 0xa8a00000,
     fun d => d.setEng 17 ({ Eng.idle with st := .running, task := 4, pc := 8, regs := [(1, 4), (2, 6), (3, 0x92345678)], pkt := { item := some { (default : PostItem) with frame := some ({ (default : Frame) with bytes := List.replicate 100 7, second := false } : Frame), info := [1, 2] }, desc := List.replicate 64 0, prepended := 0 } } : Eng)]), (17 : Fin 512), (ins 0xa8a00000), _, rfl, fetching (by decide +kernel), rfl, by decide +kernel⟩,
   ⟨(engAt 0xa8a00000), (17 : Fin 512), (ins 0xa8a00000), _, rfl, fetching (by decide +kernel), rfl, by decide +kernel⟩,
   ⟨(wst [svc, used 1, twoTasks, code 0xa8a00000, eng17 [(1, 0x80000011), (2, 0x7), (3, 0x12345678)],
     fun d => { d with tsk := { d.tsk with tasks := [(4, ({ (default : Task) with st := .running, pitch := 1, posts := [({ (default : PostItem) with key := [5] } : PostItem)] } : Task))] } }]), (17 : Fin 512), (ins 0xa8a00000), _, ({ (default : PostItem) with key := [5] } : PostItem), ([] : List PostItem), rfl, fetching (by decide +kernel), rfl, by decide +kernel⟩,
   ⟨(wst [svc, used 1, twoTasks, code 0xa8a10001, eng17 [(1, 60), (2, 6), (3, 0x92345678)]]), (17 : Fin 512), (ins 0xa8a10001), _, _, rfl,
     fetching (by decide +kernel), rfl, rfl, by decide +kernel⟩,
   ⟨(wst [svc, used 1, twoTasks, code 0xa8a10001, eng17 [(1, 257), (2, 6), (3, 0x92345678)]]), (17 : Fin 512), (ins 0xa8a10001), _, _, rfl,
     fetching (by decide +kernel), rfl, rfl, by decide +kernel⟩,
   ⟨(wst [svc, used 1, twoTasks, code 0xa8a10002,
     fun d => d.setEng 17 ({ Eng.idle with st := .running, task := 4, pc := 8, regs := [(1, 99), (2, 6), (3, 0x92345678)], pkt := { item := some { (default : PostItem) with frame := some ({ (default : Frame) with bytes := List.replicate 100 7, second := false } : Frame), info := [1, 2] }, desc := List.replicate 64 0, prepended := 0 } } : Eng)]), (17 : Fin 512), (ins 0xa8a10002), _, _, ({ (default : Frame) with bytes := List.replicate 100 7, second := false } : Frame), rfl, fetching (by decide +kernel), rfl, rfl, by decide +kernel⟩,
   ⟨(wst [svc, used 1, twoTasks, code 0xa8a10002,
     fun d => d.setEng 17 ({ Eng.idle with st := .running, task := 4, pc := 8, regs := [(1, 100), (2, 6), (3, 0x92345678)], pkt := { item := some { (default : PostItem) with frame := some ({ (default : Frame) with bytes := List.replicate 100 7, second := false } : Frame), info := [1, 2] }, desc := List.replicate 64 0, prepended := 0 } } : Eng)]), (17 : Fin 512), (ins 0xa8a10002), _, _, ({ (default : Frame) with bytes := List.replicate 100 7, second := false } : Frame), rfl, fetching (by decide +kernel), rfl, rfl, by decide +kernel⟩,
   ⟨(wst [svc, used 1, twoTasks, code 0xa8a10002,
     fun d => d.setEng 17 ({ Eng.idle with st := .running, task := 4, pc := 8, regs := [(1, 0xFFFFFFFC), (2, 6), (3, 0x92345678)], pkt := { item := some { (default : PostItem) with frame := some ({ (default : Frame) with bytes := List.replicate 100 7, second := false } : Frame), info := [1, 2] }, desc := List.replicate 64 0, prepended := 0 } } : Eng)]), (17 : Fin 512), (ins 0xa8a10002), _, _, ({ (default : Frame) with bytes := List.replicate 100 7, second := false } : Frame), 4, rfl, fetching (by decide +kernel), rfl, rfl, by decide +kernel⟩,
   ⟨(wst [svc, used 1, twoTasks, code 0xa8a10003,
     fun d => d.setEng 17 ({ Eng.idle with st := .running, task := 4, pc := 8, regs := [(1, 256), (2, 6), (3, 0x92345678)], pkt := { item := some { (default : PostItem) with frame := some ({ (default : Frame) with bytes := List.replicate 100 7, second := false } : Frame), info := [1, 2] }, desc := List.replicate 64 0, prepended := 0 } } : Eng)]), (17 : Fin 512), (ins 0xa8a10003), _, _, ({ (default : Frame) with bytes := List.replicate 100 7, second := false } : Frame), rfl, fetching (by decide +kernel), rfl, rfl, by decide +kernel⟩,
   ⟨(wst [svc, used 1, twoTasks, code 0xa8a00004,
     fun d => d.setEng 17 ({ Eng.idle with st := .running, task := 4, pc := 8, regs := [(1, 4), (2, 6), (3, 0x92345678)], pkt := { item := some { (default : PostItem) with frame := some ({ (default : Frame) with bytes := List.replicate 100 7, second := false } : Frame), info := [1, 2] }, desc := (le 2 9000 ++ List.replicate 62 0), prepended := 0 } } : Eng)]), (17 : Fin 512), (ins 0xa8a00004), _, ({ (default : Frame) with bytes := List.replicate 100 7, second := false } : Frame), rfl, fetching (by decide +kernel), rfl, by decide +kernel⟩,
   ⟨(wst [svc, used 1, twoTasks, code 0xa8a00004,
     fun d => d.setEng 17 ({ Eng.idle with st := .running, task := 4, pc := 8, regs := [(1, 4), (2, 6), (3, 0x92345678)], pkt := { item := some { (default : PostItem) with frame := some ({ (default : Frame) with bytes := List.replicate 100 7, second := false } : Frame), info := [1, 2] }, desc := List.replicate 64 0, prepended := 0 } } : Eng)]), (17 : Fin 512), (ins 0xa8a00004), _, ({ (default : Frame) with bytes := List.replicate 100 7, second := false } : Frame), ((((wst [svc, used 1, twoTasks, code 0xa8a00004, fun d => d.setEng 17 ({ Eng.idle with st := .running, task := 4, pc := 8, regs := [(1, 4), (2, 6), (3, 0x92345678)], pkt := { item := some { (default : PostItem) with frame := some ({ (default : Frame) with bytes := List.replicate 100 7, second := false } : Frame), info := [1, 2] }, desc := List.replicate 64 0, prepended := 0 } } : Eng)])).dev.sendDescOf (((wst [svc, used 1, twoTasks, code 0xa8a00004, fun d => d.setEng 17 ({ Eng.idle with st := .running, task := 4, pc := 8, regs := [(1, 4), (2, 6), (3, 0x92345678)], pkt := { item := some { (default : PostItem) with frame := some ({ (default : Frame) with bytes := List.replicate 100 7, second := false } : Frame), info := [1, 2] }, desc := List.replicate 64 0, prepended := 0 } } : Eng)])).dev.eng 17).pkt.desc).getD (false, SendDesc.mk 0 0 0 0 0 0 0 none 0 0 0)).1, ((((wst [svc, used 1, twoTasks, code 0xa8a00004, fun d => d.setEng 17 ({ Eng.idle with st := .running, task := 4, pc := 8, regs := [(1, 4), (2, 6), (3, 0x92345678)], pkt := { item := some { (default : PostItem) with frame := some ({ (default : Frame) with bytes := List.replicate 100 7, second := false } : Frame), info := [1, 2] }, desc := List.replicate 64 0, prepended := 0 } } : Eng)])).dev.sendDescOf (((wst [svc, used 1, twoTasks, code 0xa8a00004, fun d => d.setEng 17 ({ Eng.idle with st := .running, task := 4, pc := 8, regs := [(1, 4), (2, 6), (3, 0x92345678)], pkt := { item := some { (default : PostItem) with frame := some ({ (default : Frame) with bytes := List.replicate 100 7, second := false } : Frame), info := [1, 2] }, desc := List.replicate 64 0, prepended := 0 } } : Eng)])).dev.eng 17).pkt.desc).getD (false, SendDesc.mk 0 0 0 0 0 0 0 none 0 0 0)).2, rfl, fetching (by decide +kernel), rfl, by decide +kernel⟩,
   ⟨(wst [svc, used 1, twoTasks, code 0xa8a00005,
     fun d => d.setEng 17 ({ Eng.idle with st := .running, task := 4, pc := 8, regs := [(1, 4), (2, 6), (3, 0x92345678)], pkt := { item := some { (default : PostItem) with frame := some ({ (default : Frame) with bytes := List.replicate 100 7, second := true } : Frame), info := [1, 2] }, desc := List.replicate 64 0, prepended := 0 } } : Eng)]), (17 : Fin 512), (ins 0xa8a00005), _, ({ (default : Frame) with bytes := List.replicate 100 7, second := true } : Frame), rfl, fetching (by decide +kernel), rfl, by decide +kernel⟩,
   ⟨(wst [fun d => { d with pwr := { d.pwr with closed := false } }, svc, used 1, twoTasks, code 0xa8a00005,
     fun d => d.setEng 17 ({ Eng.idle with st := .running, task := 4, pc := 8, regs := [(1, 4), (2, 6), (3, 0x92345678)], pkt := { item := some { (default : PostItem) with frame := some ({ (default : Frame) with bytes := List.replicate 100 7, second := false } : Frame), info := [1, 2] }, desc := List.replicate 64 0, prepended := 0 } } : Eng)]), (17 : Fin 512), (ins 0xa8a00005), _, ({ (default : Frame) with bytes := List.replicate 100 7, second := false } : Frame), rfl, fetching (by decide +kernel), rfl, by decide +kernel⟩,
   ⟨(wst [svc, used 1, twoTasks, code 0xa8a00006,
     fun d => d.setEng 17 ({ Eng.idle with st := .running, task := 4, pc := 8, regs := [(1, 4), (2, 6), (3, 0x92345678)], pkt := { item := some { (default : PostItem) with frame := some ({ (default : Frame) with bytes := List.replicate 100 7, second := false } : Frame), info := [1, 2] }, desc := List.replicate 64 0, prepended := 0 } } : Eng)]), (17 : Fin 512), (ins 0xa8a00006), _, rfl, fetching (by decide +kernel), rfl, by decide +kernel⟩,
   ⟨(engAt 0xa8a10003), (17 : Fin 512), (ins 0xa8a10003), _, (.plen (17 : Fin 512) : Instr), rfl, fetching (by decide +kernel), rfl,
     by decide +kernel⟩⟩
theorem witness_EngineOperations :
    (∃ (s : State) (e : Fin 512) (x : Eng) (i : _) (t : _), s.runs ∧ x = s.dev.eng e ∧ s.dev.isUp domThk = true ∧ s.dev.get R.PWR_LINGER_US = 0 ∧
      s.dev.Fetches e i ∧ i.op = .tlkp ∧ (x.g i.rs1).toNat % 4 = 0 ∧ (x.g i.rs2).toNat % 4 = 0 ∧
      s.dev.unmapped (e.val / 16) (.engine e) (x.g i.rs2).toNat 20 = none ∧ s.dev.Reaches e (x.g i.rs1).toNat 40 ∧ x.ops.length < 4 ∧
      x.pkt.frame = none ∧ t = i.func % 64 ∧ s.dev.is (R.THK_TMPLn_CFG_DEFINED t) = true ∧ s.dev.draining 10 = false ∧
      s.dev.missing t (padTo 40 ((s.dev.rawBytes (e.val / 16) (.engine e) (x.g i.rs1).toNat 40).take (s.dev.get (R.THK_TMPLn_CFG_KLEN t)))) = [] ∧
      ((∀ b, b ∈ s.dev.thk.cached → s.dev.cleanBucket b))) ∧
    (∃ (s : State) (e : Fin 512) (x : Eng) (i : _), s.runs ∧ x = s.dev.eng e ∧ s.dev.isUp domThk = true ∧ s.dev.get R.PWR_LINGER_US = 0 ∧
      s.dev.Fetches e i ∧ i.op = .top ∧ (x.g i.rs1).toNat % 8 = 0 ∧ s.dev.Reaches e (x.g i.rs1).toNat 64 ∧ x.ops.length < 4) ∧
    (∃ (s : State) (e : Fin 512) (x : Eng) (i : _), s.runs ∧ x = s.dev.eng e ∧ s.dev.isUp domThk = true ∧ s.dev.get R.PWR_LINGER_US = 0 ∧
      s.dev.Fetches e i ∧ i.op = .tcommit ∧ x.ops.length < 4) ∧
    (∃ (s : State) (e : Fin 512) (x : Eng) (o : _) (rec : List Byte) (r : _), s.runs ∧ x = s.dev.eng e ∧ s.dev.isUp domThk = true ∧
      s.dev.get R.PWR_LINGER_US = 0 ∧ s.dev.pickOp e [] x.ops = some o ∧ o.op = .op rec ∧ 1 ≤ leAt rec 61 1 ∧ leAt rec 61 1 ≤ 3 ∧ 1 ≤ o.rd ∧
      r = s.dev.thkOp (leAt rec 61 1) (leAt rec 60 1) (rec.take 40) (leAt rec 40 20) ∧ r.2.1 ≠ .template ∧ r.2.1 ≠ .key ∧ r.2.1 ≠ .action) ∧
    (∃ (s : State) (e : Fin 512) (x : Eng) (o : _) (l : _), s.runs ∧ x = s.dev.eng e ∧ s.dev.isUp domThk = true ∧ s.dev.get R.PWR_LINGER_US = 0 ∧
      s.dev.pickOp e [] x.ops = some o ∧ o.op = .lookup l ∧ l.stage = 1 ∧ l.view = false ∧ 1 ≤ o.rd ∧ s.dev.draining 10 = false ∧
      s.dev.is (R.THK_TMPLn_CFG_DEFINED l.template) = true ∧ s.dev.Reaches e l.dest 20) ∧
    (∃ (s : State) (e : Fin 512) (x : Eng) (o : _), s.runs ∧ x = s.dev.eng e ∧ s.dev.isUp domThk = true ∧ s.dev.get R.PWR_LINGER_US = 0 ∧
      s.dev.pickOp e [] x.ops = some o ∧ o.op = .commit ∧ 1 ≤ o.rd ∧ s.dev.standby = false ∧ s.dev.noThicket = false ∧ s.dev.thk.commitHeld = false ∧
      s.dev.commitReason = 0 ∧ s.dev.role ≠ .active) ∧
    (∃ (s : State) (e : Fin 512) (x : Eng) (o : _) (l : _), s.runs ∧ x = s.dev.eng e ∧ s.dev.isUp domThk = true ∧ s.dev.get R.PWR_LINGER_US = 0 ∧
      s.dev.pickOp e [] x.ops = some o ∧ o.op = .lookup l ∧ l.stage = 1 ∧ l.view = false ∧ 1 ≤ o.rd ∧ s.dev.draining 10 = true ∧
      s.dev.is (R.THK_TMPLn_CFG_DEFINED l.template) = true) ∧
    (∃ (s : State) (e : Fin 512) (x : Eng) (o : _), s.runs ∧ x = s.dev.eng e ∧ s.dev.isUp domThk = true ∧ s.dev.get R.PWR_LINGER_US = 0 ∧
      s.dev.pickOp e [] x.ops = some o ∧ o.op = .commit ∧ 1 ≤ o.rd ∧ s.dev.standby = true) ∧
    (∃ (s : State) (e : Fin 512) (x : Eng), s.runs ∧ x = s.dev.eng e ∧ s.dev.isUp domThk = true ∧ s.dev.get R.PWR_LINGER_US = 0 ∧
      s.dev.pickOp e [] x.ops = none) ∧
    (∃ (s : State) (e : Fin 512) (x : Eng) (i : _) (a : _) (dst : _) (n : _) (k : _), s.runs ∧ x = s.dev.eng e ∧ s.dev.isUp domThk = true ∧
      s.dev.get R.PWR_LINGER_US = 0 ∧ s.dev.Fetches e i ∧ a = (x.g i.rs1).toNat ∧ a % 4 = 0 ∧ s.dev.Reaches e a 48 ∧ dst = (x.g i.rs2).toNat ∧
      n = dst % 65536 ∧ (k = Instr.msendTask e ∧ i.op = .msendTask ∨ k = .msendNode e ∧ i.op = .msendNode ∧ s.dev.claimed = true ∧
      bits dst 21 10 = s.dev.nodeId) ∧ s.dev.msgPool ≠ 0 ∧ (s.dev.task n).st ≠ .free) ∧
    (∃ (s : State) (e : Fin 512) (x : Eng) (i : _) (a : _) (dst : _) (k : _), s.runs ∧ x = s.dev.eng e ∧ s.dev.isUp domThk = true ∧
      s.dev.get R.PWR_LINGER_US = 0 ∧ s.dev.Fetches e i ∧ a = (x.g i.rs1).toNat ∧ a % 4 = 0 ∧ s.dev.Reaches e a 48 ∧ dst = (x.g i.rs2).toNat ∧
      (k = Instr.msendTask e ∧ i.op = .msendTask ∨ k = .msendNode e ∧ i.op = .msendNode ∧ s.dev.claimed = true ∧ bits dst 21 10 = s.dev.nodeId) ∧
      s.dev.msgPool = 0) ∧
    (∃ (s : State) (e : Fin 512) (x : Eng) (i : _) (a : _), s.runs ∧ x = s.dev.eng e ∧ s.dev.isUp domThk = true ∧ s.dev.get R.PWR_LINGER_US = 0 ∧
      s.dev.Fetches e i ∧ a = (x.g i.rs1).toNat ∧ a % 4 = 0 ∧ s.dev.Reaches e a 48 ∧ i.op = .msendHost) ∧
    (∃ (s : State) (e : Fin 512) (x : Eng) (i : _) (a : _), s.runs ∧ x = s.dev.eng e ∧ s.dev.isUp domThk = true ∧ s.dev.get R.PWR_LINGER_US = 0 ∧
      s.dev.Fetches e i ∧ a = (x.g i.rs1).toNat ∧ a % 4 = 0 ∧ s.dev.Reaches e a 48 ∧ i.op = .msendNode ∧ s.dev.claimed = false) ∧
    (∃ (s : State) (e : Fin 512) (x : Eng) (i : _) (a : _) (dst : _) (r : _), s.runs ∧ x = s.dev.eng e ∧ s.dev.isUp domThk = true ∧
      s.dev.get R.PWR_LINGER_US = 0 ∧ s.dev.Fetches e i ∧ a = (x.g i.rs1).toNat ∧ a % 4 = 0 ∧ s.dev.Reaches e a 48 ∧ dst = (x.g i.rs2).toNat ∧
      i.op = .msendNode ∧ s.dev.claimed = true ∧ bits dst 21 10 ≠ s.dev.nodeId ∧ s.dev.route (bits dst 21 10) = some r) ∧
    (∃ (s : State) (e : Fin 512) (x : Eng) (i : _) (a : _) (k : _), s.runs ∧ x = s.dev.eng e ∧ s.dev.isUp domThk = true ∧
      s.dev.get R.PWR_LINGER_US = 0 ∧ s.dev.Fetches e i ∧ i.op = .mrecv ∧ a = (x.g i.rs1).toNat ∧ a % 4 = 0 ∧ k = s.dev.task x.task ∧ k.msgs = []) ∧
    (∃ (s : State) (e : Fin 512) (x : Eng) (i : _) (a : _) (k : _) (m : _) (rest : List TMsg), s.runs ∧ x = s.dev.eng e ∧ s.dev.isUp domThk = true ∧
      s.dev.get R.PWR_LINGER_US = 0 ∧ s.dev.Fetches e i ∧ i.op = .mrecv ∧ a = (x.g i.rs1).toNat ∧ a % 4 = 0 ∧ k = s.dev.task x.task ∧
      k.msgs = m :: rest ∧ s.dev.Reaches e a 64) :=
  ⟨⟨(wst [fld (R.THK_TMPLn_CFG_DEFINED 2) 1, svc, used 1, twoTasks, code 0xacc11002, eng17 [(1, 0x10000), (2, 0x10100), (3, 0x00050009)],
    fun d => ((d.set (R.THK_TMPLn_CFG_DEFINED 2) 1).set (R.THK_TMPLn_CFG_KLEN 2) 4).set (R.THK_TMPLn_CFG_SIZE 2) 1,
    fun d => { d with thk := { d.thk with cached := [(d.buckets 2 (padTo 40 ((d.rawBytes 1 (.engine 17) 0x10000 40).take 4))).1, (d.buckets 2 (padTo 40 ((d.rawBytes 1 (.engine 17) 0x10000 40).take 4))).2] } }]), (17 : Fin 512), _, (ins 0xacc11002), _, rfl, rfl, by decide +kernel, by decide +kernel, fetching (by decide +kernel), by decide +kernel, by decide +kernel, by decide +kernel, by decide +kernel, reaching (by decide +kernel), by decide +kernel, by decide +kernel, rfl, by decide +kernel, by decide +kernel, not_missing (by decide +kernel) (by decide +kernel) (by decide +kernel), fun _ _ k _ => no_errs (by decide +kernel) (by decide +kernel) k⟩,
   ⟨(wst [svc, used 1, twoTasks, code 0xacc10200, eng17 [(1, 0x10000), (2, 0x10100), (3, 0x00050009)]]), (17 : Fin 512), _, (ins 0xacc10200), rfl,
     rfl, by decide +kernel, by decide +kernel, fetching (by decide +kernel), by decide +kernel, by decide +kernel, reaching (by decide +kernel),
     by decide +kernel⟩,
   ⟨(wst [svc, used 1, twoTasks, code 0xacc00400, eng17 [(1, 0x10000), (2, 0x10100), (3, 0x00050009)]]), (17 : Fin 512), _, (ins 0xacc00400), rfl,
     rfl, by decide +kernel, by decide +kernel, fetching (by decide +kernel), by decide +kernel⟩,
   ⟨(wst [svc, used 1, twoTasks, code 0x0,
     fun d => d.setEng 17 ({ Eng.idle with st := .running, task := 4, pc := 8, regs := [(1, 0x10000), (2, 0x10100), (3, 0x00050009)], ops := [Async.mk 6 (.op (padTo 40 [1, 2, 3, 4] ++ le 20 9 ++ [2, 1, 0, 0] : List Byte)) 0 0 0] } : Eng), fun d => ((d.set (R.THK_TMPLn_CFG_DEFINED 2) 1).set (R.THK_TMPLn_CFG_KLEN 2) 4).set (R.THK_TMPLn_CFG_SIZE 2) 1]), (17 : Fin 512), _, (Async.mk 6 (.op (padTo 40 [1, 2, 3, 4] ++ le 20 9 ++ [2, 1, 0, 0] : List Byte)) 0 0 0), (padTo 40 [1, 2, 3, 4] ++ le 20 9 ++ [2, 1, 0, 0] : List Byte), _, rfl, rfl, by decide +kernel, by decide +kernel, by decide +kernel, by decide +kernel, by decide +kernel, by decide +kernel, by decide +kernel, rfl, by decide +kernel⟩,
   ⟨(wst [fun d => d.set (R.THK_TMPLn_CFG_DEFINED (EngLookup.mk 2 false (padTo 40 [1, 2, 3, 4]) 0x10100 0 1).template) 1, svc, used 1, twoTasks,
     code 0x0, fun d => d.setEng 17 ({ Eng.idle with st := .running, task := 4, pc := 8, regs := [(1, 0x10000), (2, 0x10100), (3, 0x00050009)], ops := [Async.mk 6 (.lookup (EngLookup.mk 2 false (padTo 40 [1, 2, 3, 4]) 0x10100 0 1)) 0 0 0] } : Eng), fun d => ((d.set (R.THK_TMPLn_CFG_DEFINED 2) 1).set (R.THK_TMPLn_CFG_KLEN 2) 4).set (R.THK_TMPLn_CFG_SIZE 2) 1]), (17 : Fin 512), _, (Async.mk 6 (.lookup (EngLookup.mk 2 false (padTo 40 [1, 2, 3, 4]) 0x10100 0 1)) 0 0 0), (EngLookup.mk 2 false (padTo 40 [1, 2, 3, 4]) 0x10100 0 1), rfl, rfl, by decide +kernel, by decide +kernel, by decide +kernel, by decide +kernel, by decide +kernel, by decide +kernel, by decide +kernel, by decide +kernel, by decide +kernel, reaching (by decide +kernel)⟩,
   ⟨(wst [fun d => { d with thk := { d.thk with commitHeld := false } }, svc, used 1, twoTasks, code 0x0,
     fun d => d.setEng 17 ({ Eng.idle with st := .running, task := 4, pc := 8, regs := [(1, 0x10000), (2, 0x10100), (3, 0x00050009)], ops := [Async.mk 6 .commit 0 0 0] } : Eng), fun d => { d with decls := [(10, default)] }]), (17 : Fin 512), _, (Async.mk 6 .commit 0 0 0), rfl, rfl, by decide +kernel⟩,
   ⟨(wst [fld (R.THK_TMPLn_CFG_DEFINED (EngLookup.mk 3 false [1] 0x10000 9 1).template) 1,
     fun d => d.setEng 17 ({ Eng.idle with st := .stalled, task := 4, pc := 8, ops := [(Async.mk 6 (.lookup (EngLookup.mk 3 false [1] 0x10000 9 1)) 0 0 0)] } : Eng), fld (R.THK_TMPLn_CFG_DEFINED 3) 1, fun d => { d with img := { d.img with op := some (ImgOp.mk .loadFull false false 600 (2 ^ 10) 5 6 0 0 0 []), state := .drain } }]), (17 : Fin 512), _, (Async.mk 6 (.lookup (EngLookup.mk 3 false [1] 0x10000 9 1)) 0 0 0), (EngLookup.mk 3 false [1] 0x10000 9 1), rfl, rfl, by decide +kernel⟩,
   ⟨(wst [fun d => d.setEng 17 ({ Eng.idle with st := .stalled, task := 4, pc := 8, ops := [(Async.mk 6 .commit 0 0 0)] } : Eng),
     fld R.TWN_STATUS_ROLE (Role.code .standby)]), (17 : Fin 512), _, (Async.mk 6 .commit 0 0 0), rfl, rfl, by decide +kernel⟩,
   ⟨(wst [svc, used 1, twoTasks, code 0x0, eng17 [(1, 0x10000), (2, 0x10100), (3, 0x00050009)]]), (17 : Fin 512), _, rfl, rfl, by decide +kernel⟩,
   ⟨(wst [svc, used 1, twoTasks, code 0xb0a11800, eng17 [(1, 0x10000), (2, 0x10100), (3, 0x00050009)]]), (17 : Fin 512), _, (ins 0xb0a11800), _, _,
     _, (Instr.msendTask (17 : Fin 512)), rfl, rfl, by decide +kernel, by decide +kernel, fetching (by decide +kernel), rfl, by decide +kernel,
     reaching (by decide +kernel), rfl, rfl, by decide +kernel⟩,
   ⟨(wst [svc, used 1, twoTasks, code 0xb0a11800, eng17 [(1, 0x10000), (2, 0x10100), (3, 0x00050009)],
     fun d => { d with tsk := { d.tsk with tasks := [(2, { d.task 2 with st := .waiting, msgs := List.replicate 65536 default })] } }]),
     (17 : Fin 512), _, (ins 0xb0a11800), _, _, (Instr.msendTask (17 : Fin 512)), rfl, rfl, by decide +kernel, by decide +kernel,
     fetching (by decide +kernel), rfl, by decide +kernel, reaching (by decide +kernel), rfl, by decide +kernel⟩,
   ⟨(wst [svc, used 1, twoTasks, code 0xb0a11801, eng17 [(1, 0x10000), (2, 0x10100), (3, 0x00050009)]]), (17 : Fin 512), _, (ins 0xb0a11801), _, rfl,
     rfl, by decide +kernel, by decide +kernel, fetching (by decide +kernel), rfl, by decide +kernel, reaching (by decide +kernel),
     by decide +kernel⟩,
   ⟨(wst [svc, used 1, twoTasks, code 0xb0a11802, eng17 [(1, 0x10000), (2, 0x10100), (3, 0x00050009)]]), (17 : Fin 512), _, (ins 0xb0a11802), _, rfl,
     rfl, by decide +kernel, by decide +kernel, fetching (by decide +kernel), rfl, by decide +kernel, reaching (by decide +kernel),
     by decide +kernel⟩,
   ⟨(wst [svc, used 1, twoTasks, code 0xb0a11802, eng17 [(1, 0x10000), (2, 0x10100), (3, 0x00E50009)],
     fun d => { d with rop := { d.rop with running := true, routes := [(7, (Route.mk 1 none 1 9))] } },
     fun d => (d.set R.ROP_STATUS_CLAIMED 1).set R.ROP_STATUS_NODE_ID 3]), (17 : Fin 512), _, (ins 0xb0a11802), _, _, (Route.mk 1 none 1 9), rfl,
     rfl, by decide +kernel, by decide +kernel, fetching (by decide +kernel), rfl, by decide +kernel, reaching (by decide +kernel), rfl,
     by decide +kernel⟩,
   ⟨(wst [svc, used 1, twoTasks, code 0xb0a10003, eng17 [(1, 0x10000), (2, 0x10100), (3, 0x00050009)]]), (17 : Fin 512), _, (ins 0xb0a10003), _, _,
     rfl, rfl, by decide +kernel, by decide +kernel, fetching (by decide +kernel), by decide +kernel, rfl, by decide +kernel, rfl, by decide +kernel⟩,
   ⟨(wst [svc, used 1, twoTasks, code 0xb0a10003, eng17 [(1, 0x10000), (2, 0x10100), (3, 0x00050009)],
     fun d => { d with tsk := { d.tsk with tasks := [(4, ({ (default : Task) with st := .running, msgs := [(TMsg.mk 1 4 9 3 [1, 2])] } : Task))] } }]), (17 : Fin 512), _, (ins 0xb0a10003), _, _, (TMsg.mk 1 4 9 3 [1, 2]), ([] : List TMsg), rfl, rfl, by decide +kernel, by decide +kernel, fetching (by decide +kernel), by decide +kernel, rfl, by decide +kernel, rfl, by decide +kernel, reaching (by decide +kernel)⟩⟩
theorem witness_DmaChannels :
    (∃ (s : State) (u : Fin 8) (k : Fin 16), s.runs ∧ s.dev.open_ (R.DMA_u_CHk_CTL u k) ∧ s.dev.chIs u k .idle = true ∧
      s.dev.pitchUsed (u + 1) = true ∧ s.dev.draining (u + 1) = false ∧ ((s.dev.is (R.DMA_u_CHk_CFG_MODE u k) = true →
      s.dev.get (R.DMA_u_CHk_PROG_HI_SPACE u k) ≤ 1))) ∧
    (∃ (s : State) (u : Fin 8) (k : Fin 16), s.runs ∧ s.dev.open_ (R.DMA_u_CHk_CTL u k) ∧
      (s.dev.chIs u k .idle = false ∨ s.dev.pitchUsed (u + 1) = false ∨ s.dev.draining (u + 1) = true)) ∧
    (∃ (s : State) (u : Fin 8) (k : Fin 16), s.runs ∧ s.dev.open_ (R.DMA_u_CHk_CTL u k) ∧
      (s.dev.chIs u k .ready = true ∨ s.dev.chIs u k .running = true ∨ s.dev.chIs u k .waiting = true)) ∧
    (∃ (s : State) (u : Fin 8) (k : Fin 16), s.runs ∧ s.dev.open_ (R.DMA_u_CHk_CTL u k) ∧ s.dev.chIs u k .halted = true) ∧
    (∃ (s : State) (u : Fin 8) (k : Fin 16), s.runs ∧ s.dev.isUp domDma = true ∧ s.dev.holder u = none ∧ s.dev.draining (u + 1) = false ∧
      s.dev.chIs u k .ready = true ∧ ((∀ j, j < k.val → s.dev.chIs u j .ready = false)) ∧ s.dev.is (R.DMA_u_CHk_CFG_MODE u k) = true) ∧
    (∃ (s : State) (u : Fin 8) (k : Fin 16) (m : _) (w : _), s.runs ∧ s.dev.isUp domDma = true ∧ s.dev.holder u = none ∧
      s.dev.draining (u + 1) = false ∧ s.dev.chIs u k .ready = true ∧ ((∀ j, j < k.val → s.dev.chIs u j .ready = false)) ∧
      s.dev.is (R.DMA_u_CHk_CFG_MODE u k) = false ∧ m = s.dev.regMove u k ∧ swapUnit m.swap = some w ∧ m.len % w = 0 ∧ m.len ≠ 0 ∧ ((m.paced = true →
      m.srcSpace = 2 ∨ m.dstSpace = 2))) ∧
    (∃ (s : State) (u : Fin 8) (k : Fin 16) (m : Move), s.runs ∧ s.dev.runner u = some k.val ∧ s.dev.is (R.DMA_u_CHk_CFG_MODE u k) = false ∧
      (s.dev.chan u k).move = some m ∧ m.len ≤ m.done) ∧
    (∃ (s : State) (u : Fin 8) (k : Fin 16) (m : Move) (n : _) (c : _) (a : _), s.runs ∧ s.dev.runner u = some k.val ∧
      (s.dev.chan u k).move = some m ∧ s.dev.get R.PWR_LINGER_US = 0 ∧ m.swap = 0 ∧ m.paced = false ∧ n = m.len - m.done ∧ 1 ≤ n ∧ n ≤ 32 ∧
      (m.src + m.done) % 256 + n ≤ 256 ∧ (m.dst + m.done) % 256 + n ≤ 256 ∧ m.srcSpace = 0 ∧ m.src + m.done < 2 ^ 48 ∧ m.dstSpace = 1 ∧
      clusterAt u m.dst = some (c, a) ∧ clusterAt u (m.dst + m.done) = some (c, a + m.done) ∧ s.dev.DmaReaches c (a + m.done) n) ∧
    (∃ (s : State) (u : Fin 8) (k : Fin 16) (m : Move) (n : _) (c : _) (a : _), s.runs ∧ s.dev.runner u = some k.val ∧
      (s.dev.chan u k).move = some m ∧ s.dev.get R.PWR_LINGER_US = 0 ∧ m.swap = 0 ∧ m.paced = false ∧ n = m.len - m.done ∧ 1 ≤ n ∧ n ≤ 32 ∧
      (m.src + m.done) % 256 + n ≤ 256 ∧ (m.dst + m.done) % 256 + n ≤ 256 ∧ m.srcSpace = 1 ∧ m.dstSpace = 0 ∧ m.dst + m.done < 2 ^ 48 ∧
      clusterAt u m.src = some (c, a) ∧ clusterAt u (m.src + m.done) = some (c, a + m.done) ∧ s.dev.DmaReaches c (a + m.done) n) ∧
    (∃ (s : State) (u : Fin 8) (k : Fin 16) (m : Move), s.runs ∧ s.dev.runner u = some k.val ∧ (s.dev.chan u k).move = some m ∧ m.done < m.len ∧
      m.paced = false ∧ m.srcSpace = 0 ∧ m.dstSpace ≠ 1 ∧ 2 ^ 48 ≤ m.src + m.done) ∧
    (∃ (s : State) (u : Fin 8) (k : Fin 16) (m : Move), s.runs ∧ s.dev.runner u = some k.val ∧ (s.dev.chan u k).move = some m ∧ m.len ≤ m.done ∧
      m.len ≠ 0 ∧ m.dst < 2 ^ 48 ∧ m.len < 2 ^ 24 ∧ m.dstSpace < 3) ∧
    (∃ (s : State) (n : Fin 16), s.runs ∧ bit (s.dev.get R.TRB_ENABLE_EN) n = true ∧ s.dev.isUp domTrb = true ∧ s.dev.aligned = true) ∧
    (∃ (s : State) (n : Fin 16), s.runs ∧ (bit (s.dev.get R.TRB_ENABLE_EN) n = false ∨ s.dev.isUp domTrb = false)) ∧
    (∃ (s : State) (u : Fin 8), s.runs ∧ s.dev.runner u = none) :=
  ⟨⟨(wst [used 3]), (2 : Fin 8), (5 : Fin 16), rfl, opened (by decide +kernel), by decide +kernel⟩,
   ⟨(wst [used 3, fld (R.DMA_u_CHk_STATE_STATE (2 : Fin 8) (5 : Fin 16)) 1]), (2 : Fin 8), (5 : Fin 16), rfl, opened (by decide +kernel),
     by decide +kernel⟩,
   ⟨(wst [used 3, fld (R.DMA_u_CHk_STATE_STATE (2 : Fin 8) (5 : Fin 16)) 2]), (2 : Fin 8), (5 : Fin 16), rfl, opened (by decide +kernel),
     by decide +kernel⟩,
   ⟨(wst [used 3, fld (R.DMA_u_CHk_STATE_STATE (2 : Fin 8) (5 : Fin 16)) 4]), (2 : Fin 8), (5 : Fin 16), rfl, opened (by decide +kernel),
     by decide +kernel⟩,
   ⟨(wst [fld (R.DMA_u_CHk_CFG_MODE (2 : Fin 8) (5 : Fin 16)) 1, used 3, fld (R.DMA_u_CHk_STATE_STATE (2 : Fin 8) (5 : Fin 16)) 1]), (2 : Fin 8),
     (5 : Fin 16), rfl, by decide +kernel⟩,
   ⟨(wst [fld (R.DMA_u_CHk_CFG_MODE (2 : Fin 8) (5 : Fin 16)) 0, used 3, fld (R.DMA_u_CHk_STATE_STATE (2 : Fin 8) (5 : Fin 16)) 1,
     fld (R.DMA_u_CHk_CNT_BYTES (2 : Fin 8) (5 : Fin 16)) 40]), (2 : Fin 8), (5 : Fin 16), _, 1, rfl, by decide +kernel, by decide +kernel,
     by decide +kernel, by decide +kernel, by decide +kernel, by decide +kernel, rfl, by decide +kernel⟩,
   ⟨(wst [fld (R.DMA_u_CHk_CFG_MODE (2 : Fin 8) (5 : Fin 16)) 0, used 3, fld (R.DMA_u_CHk_STATE_STATE (2 : Fin 8) (5 : Fin 16)) 2,
     fun d => d.setChan (2 : Fin 8) (5 : Fin 16) { d.chan (2 : Fin 8) (5 : Fin 16) with move := some (Move.mk 0 0 0 false 0 0 40 40) }]),
     (2 : Fin 8), (5 : Fin 16), (Move.mk 0 0 0 false 0 0 40 40), rfl, by decide +kernel⟩,
   ⟨(wst [used 3, fld (R.DMA_u_CHk_STATE_STATE (2 : Fin 8) (5 : Fin 16)) 2,
     fun d => d.setChan (2 : Fin 8) (5 : Fin 16) { d.chan (2 : Fin 8) (5 : Fin 16) with move := some (Move.mk 0 1 0 false 0 0x100010000 40 32) }]),
     (2 : Fin 8), (5 : Fin 16), (Move.mk 0 1 0 false 0 0x100010000 40 32), _, 9, 0x10000, rfl, by decide +kernel, by decide +kernel,
     by decide +kernel, by decide +kernel, by decide +kernel, rfl, by decide +kernel, by decide +kernel, by decide +kernel, by decide +kernel,
     by decide +kernel, by decide +kernel, by decide +kernel, by decide +kernel, by decide +kernel, dmaReaching (by decide +kernel)⟩,
   ⟨(wst [used 3, fld (R.DMA_u_CHk_STATE_STATE (2 : Fin 8) (5 : Fin 16)) 2,
     fun d => d.setChan (2 : Fin 8) (5 : Fin 16) { d.chan (2 : Fin 8) (5 : Fin 16) with move := some (Move.mk 1 0 0 false 0x100010000 256 8 0) },
     fun d => d.setCluster 9 { d.cluster 9 with shared := swrite 0x10000 [1,2,3] [] }]), (2 : Fin 8), (5 : Fin 16),
     (Move.mk 1 0 0 false 0x100010000 256 8 0), _, 9, 0x10000, rfl, by decide +kernel, by decide +kernel, by decide +kernel, by decide +kernel,
     by decide +kernel, rfl, by decide +kernel, by decide +kernel, by decide +kernel, by decide +kernel, by decide +kernel, by decide +kernel,
     by decide +kernel, by decide +kernel, by decide +kernel, dmaReaching (by decide +kernel)⟩,
   ⟨(wst [used 3, fld (R.DMA_u_CHk_STATE_STATE (2 : Fin 8) (5 : Fin 16)) 2,
     fun d => d.setChan (2 : Fin 8) (5 : Fin 16) { d.chan (2 : Fin 8) (5 : Fin 16) with move := some (Move.mk 0 0 0 false 0x1000000000000 256 8 0) }]), (2 : Fin 8), (5 : Fin 16), (Move.mk 0 0 0 false 0x1000000000000 256 8 0), rfl, by decide +kernel⟩,
   ⟨(wst [used 3, fld (R.DMA_u_CHk_STATE_STATE (2 : Fin 8) (5 : Fin 16)) 2,
     fun d => d.setChan (2 : Fin 8) (5 : Fin 16) { d.chan (2 : Fin 8) (5 : Fin 16) with move := some (Move.mk 0 1 0 false 0 0x100010000 40 40) }]),
     (2 : Fin 8), (5 : Fin 16), (Move.mk 0 1 0 false 0 0x100010000 40 40), rfl, by decide +kernel⟩,
   ⟨(wst [used 3, svc, fld R.LFE_STATUS_ENABLED 1, fld (R.LFE_x_STATUS_ROLE 0) 2, fld (R.LFR_x_STATUS_FA 0) 2, fld (R.LFR_x_STATUS_MF_SYNC 0) 1,
     fld R.TRB_ENABLE_EN 255]), (3 : Fin 16), rfl, by decide +kernel⟩,
   ⟨(wst [used 3]), (1 : Fin 16), rfl, by decide +kernel⟩,
   ⟨(wst [used 3]), (2 : Fin 8), rfl, by decide +kernel⟩⟩
theorem witness_DmaPrograms :
    (∃ (s : State) (u : Fin 8) (k : Nat) (host : HostData) (f : _) (m : Move) (sx : _) (dx : _) (w : _), s.runs ∧
      s.dev.Executing f u k host (.move m sx dx) ∧ swapUnit m.swap = some w ∧ m.len % w = 0 ∧ ((m.paced = true → m.srcSpace = 2 ∨ m.dstSpace = 2)) ∧
      m.len ≠ 0) ∧
    (∃ (s : State) (u : Fin 8) (k : Nat) (host : HostData) (f : _) (m : Move) (sx : _) (dx : _) (w : _), s.runs ∧
      s.dev.Executing f u k host (.move m sx dx) ∧ swapUnit m.swap = some w ∧ m.len % w = 0 ∧ ((m.paced = true → m.srcSpace = 2 ∨ m.dstSpace = 2)) ∧
      m.len = 0) ∧
    (∃ (s : State) (u : Fin 8) (k : Nat) (host : HostData) (f : _) (m : Move) (sx : _) (dx : _) (w : _), s.runs ∧
      s.dev.Executing f u k host (.move m sx dx) ∧ swapUnit m.swap = some w ∧ m.len % w ≠ 0) ∧
    (∃ (s : State) (u : Fin 8) (k : Nat) (host : HostData) (f : _) (n : _), s.runs ∧ s.dev.Executing f u k host (.loop n) ∧ n ≠ 0 ∧
      (f.chan u k).loops.length < 4) ∧
    (∃ (s : State) (u : Fin 8) (k : Nat) (host : HostData) (f : _) (b : _), s.runs ∧ s.dev.Executing f u k host (.loop 0) ∧
      (f.chan u k).loops.length < 4 ∧ f.get (R.DMA_u_CHk_PROG_HI_SPACE u k) = 0 ∧ host = .data b ∧ (f.progAddr u k (f.chPc u k + 1)).2 < 2 ^ 48 ∧
      32 ≤ b.length ∧ decodeDma (leAt b 16 16) = some .endloop) ∧
    (∃ (s : State) (u : Fin 8) (k : Nat) (host : HostData) (f : _) (pc : _) (n : _) (i : _) (rest : _), s.runs ∧
      s.dev.Executing f u k host .endloop ∧ (f.chan u k).loops = (pc, n, i) :: rest) ∧
    (∃ (s : State) (u : Fin 8) (k : Nat) (host : HostData) (f : _) (t : _) (g : _) (c : _), s.runs ∧ s.dev.Executing f u k host (.waitFlag t g c) ∧
      (f.task t).st ≠ .free ∧ bit (f.task t).flags g = true) ∧
    (∃ (s : State) (u : Fin 8) (k : Nat) (host : HostData) (f : _) (t : _) (g : _) (c : _), s.runs ∧ s.dev.Executing f u k host (.waitFlag t g c) ∧
      (f.task t).st ≠ .free ∧ bit (f.task t).flags g = false) ∧
    (∃ (s : State) (u : Fin 8) (k : Nat) (host : HostData) (f : _) (n : _), s.runs ∧ s.dev.Executing f u k host (.waitReq n)) ∧
    (∃ (s : State) (u : Fin 8) (k : Nat) (c : _) (t : _) (g : _) (cl : _), s.runs ∧ k < 16 ∧ s.dev.isUp domDma = true ∧
      (List.range 16).find? (fun j => s.dev.chIs u j .waiting) = some k ∧ c = s.dev.chan u k ∧ c.wait = some (.flag t g cl) ∧
      (s.dev.task t).st ≠ .free ∧ bit (s.dev.task t).flags g = true) ∧
    (∃ (s : State) (u : Fin 8) (k : Nat) (c : _) (n : _), s.runs ∧ k < 16 ∧ s.dev.isUp domDma = true ∧
      (List.range 16).find? (fun j => s.dev.chIs u j .waiting) = some k ∧ c = s.dev.chan u k ∧ c.wait = some (.request n) ∧ s.dev.request n = true) ∧
    (∃ (s : State) (u : Fin 8) (k : Nat) (c : _) (m : Move), s.runs ∧ k < 16 ∧ s.dev.isUp domDma = true ∧
      (List.range 16).find? (fun j => s.dev.chIs u j .waiting) = some k ∧ c = s.dev.chan u k ∧ c.wait = none ∧ c.move = some m ∧
      s.dev.request m.req = true) ∧
    (∃ (s : State) (u : Fin 8) (k : Nat) (host : HostData) (f : _) (t : _) (g : _), s.runs ∧ s.dev.Executing f u k host (.sigTask t g) ∧
      (f.task t).st ≠ .free) ∧
    (∃ (s : State) (u : Fin 8) (k : Nat) (host : HostData) (f : _), s.runs ∧ s.dev.Executing f u k host .sigHost) ∧
    (∃ (s : State) (u : Fin 8) (k : Nat) (host : HostData) (f : _) (n : Fin 16), s.runs ∧ s.dev.Executing f u k host (.sigChan n) ∧
      f.chIs u n .idle = true ∧ f.pitchUsed (u + 1) = true ∧ f.draining (u + 1) = false ∧ ((f.is (R.DMA_u_CHk_CFG_MODE u n) = true →
      f.get (R.DMA_u_CHk_PROG_HI_SPACE u n) ≤ 1))) ∧
    (∃ (s : State) (u : Fin 8) (k : Nat) (host : HostData) (f : _), s.runs ∧ s.dev.Executing f u k host .nop) ∧
    (∃ (s : State) (u : Fin 8) (k : Nat) (host : HostData) (f : _), s.runs ∧ s.dev.Executing f u k host .end_) :=
  ⟨⟨(wst [used 3, fld (R.DMA_u_CHk_STATE_STATE (2 : Fin 8) 5) 2, fld (R.DMA_u_CHk_CFG_MODE (2 : Fin 8) 5) 1,
    fld (R.DMA_u_CHk_PROG_HI_SPACE (2 : Fin 8) 5) 0, fld (R.DMA_u_CHk_STATE_PC (2 : Fin 8) 5) 7,
    fun d => d.setChan (2 : Fin 8) 5 { d.chan (2 : Fin 8) 5 with loops := [(4, 9, 3)] }]), (2 : Fin 8), 5,
    (HostData.data (le 16 0x10480028000000001000000000002000)), _, (Move.mk 0 0 2 false 0x1000 0x2000 40 0), true, false, 4, rfl,
    standing 0x10480028000000001000000000002000 (by decide +kernel), by decide +kernel⟩,
   ⟨(wst [used 3, fld (R.DMA_u_CHk_STATE_STATE (2 : Fin 8) 5) 2, fld (R.DMA_u_CHk_CFG_MODE (2 : Fin 8) 5) 1,
     fld (R.DMA_u_CHk_PROG_HI_SPACE (2 : Fin 8) 5) 0, fld (R.DMA_u_CHk_STATE_PC (2 : Fin 8) 5) 7]), (2 : Fin 8), 5,
     (HostData.data (le 16 0x10400000000000001000000000002000)), _, (Move.mk 0 0 2 false 0x1000 0x2000 0 0), false, false, 4, rfl,
     standing 0x10400000000000001000000000002000 (by decide +kernel), by decide +kernel⟩,
   ⟨(wst [used 3, fld (R.DMA_u_CHk_STATE_STATE (2 : Fin 8) 5) 2, fld (R.DMA_u_CHk_CFG_MODE (2 : Fin 8) 5) 1,
     fld (R.DMA_u_CHk_PROG_HI_SPACE (2 : Fin 8) 5) 0, fld (R.DMA_u_CHk_STATE_PC (2 : Fin 8) 5) 7]), (2 : Fin 8), 5,
     (HostData.data (le 16 0x10400029000000001000000000002000)), _, (Move.mk 0 0 2 false 0x1000 0x2000 41 0), false, false, 4, rfl,
     standing 0x10400029000000001000000000002000 (by decide +kernel), by decide +kernel⟩,
   ⟨(wst [used 3, fld (R.DMA_u_CHk_STATE_STATE (2 : Fin 8) 5) 2, fld (R.DMA_u_CHk_CFG_MODE (2 : Fin 8) 5) 1,
     fld (R.DMA_u_CHk_PROG_HI_SPACE (2 : Fin 8) 5) 0, fld (R.DMA_u_CHk_STATE_PC (2 : Fin 8) 5) 7]), (2 : Fin 8), 5,
     (HostData.data (le 16 0x20000000000000000000000000000005)), _, 5, rfl, standing 0x20000000000000000000000000000005 (by decide +kernel),
     by decide +kernel⟩,
   ⟨(wst [used 3, fld (R.DMA_u_CHk_STATE_STATE (2 : Fin 8) 5) 2, fld (R.DMA_u_CHk_CFG_MODE (2 : Fin 8) 5) 1,
     fld (R.DMA_u_CHk_PROG_HI_SPACE (2 : Fin 8) 5) 0, fld (R.DMA_u_CHk_STATE_PC (2 : Fin 8) 5) 7]), (2 : Fin 8), 5, _, _,
     (le 16 0x20000000000000000000000000000000 ++ le 16 0x30000000000000000000000000000000), rfl,
     standing 0x20000000000000000000000000000000 (by decide +kernel), by decide +kernel, by decide +kernel, rfl, by decide +kernel⟩,
   ⟨(wst [used 3, fld (R.DMA_u_CHk_STATE_STATE (2 : Fin 8) 5) 2, fld (R.DMA_u_CHk_CFG_MODE (2 : Fin 8) 5) 1,
     fld (R.DMA_u_CHk_PROG_HI_SPACE (2 : Fin 8) 5) 0, fld (R.DMA_u_CHk_STATE_PC (2 : Fin 8) 5) 7,
     fun d => d.setChan (2 : Fin 8) 5 { d.chan (2 : Fin 8) 5 with loops := [(4, 9, 3)] }]), (2 : Fin 8), 5,
     (HostData.data (le 16 0x30000000000000000000000000000000)), _, 4, 9, 3, ([] : List (Nat × Nat × Nat)), rfl,
     standing 0x30000000000000000000000000000000 (by decide +kernel), by decide +kernel⟩,
   ⟨(wst [used 3, fld (R.DMA_u_CHk_STATE_STATE (2 : Fin 8) 5) 2, fld (R.DMA_u_CHk_CFG_MODE (2 : Fin 8) 5) 1,
     fld (R.DMA_u_CHk_PROG_HI_SPACE (2 : Fin 8) 5) 0, fld (R.DMA_u_CHk_STATE_PC (2 : Fin 8) 5) 7,
     fun d => { d with tsk := { d.tsk with tasks := [(9, { (default : Task) with st := .idle, flags := 64 })] } }]), (2 : Fin 8), 5,
     (HostData.data (le 16 0x42000000000000000000000000060009)), _, 9, 6, true, rfl, standing 0x42000000000000000000000000060009 (by decide +kernel),
     by decide +kernel⟩,
   ⟨(wst [used 3, fld (R.DMA_u_CHk_STATE_STATE (2 : Fin 8) 5) 2, fld (R.DMA_u_CHk_CFG_MODE (2 : Fin 8) 5) 1,
     fld (R.DMA_u_CHk_PROG_HI_SPACE (2 : Fin 8) 5) 0, fld (R.DMA_u_CHk_STATE_PC (2 : Fin 8) 5) 7,
     fun d => { d with tsk := { d.tsk with tasks := [(9, { (default : Task) with st := .idle, flags := 32 })] } }]), (2 : Fin 8), 5,
     (HostData.data (le 16 0x42000000000000000000000000060009)), _, 9, 6, true, rfl, standing 0x42000000000000000000000000060009 (by decide +kernel),
     by decide +kernel⟩,
   ⟨(wst [used 3, fld (R.DMA_u_CHk_STATE_STATE (2 : Fin 8) 5) 2, fld (R.DMA_u_CHk_CFG_MODE (2 : Fin 8) 5) 1,
     fld (R.DMA_u_CHk_PROG_HI_SPACE (2 : Fin 8) 5) 0, fld (R.DMA_u_CHk_STATE_PC (2 : Fin 8) 5) 7]), (2 : Fin 8), 5,
     (HostData.data (le 16 0x44000000000000000000000000000003)), _, 3, rfl, standing 0x44000000000000000000000000000003 (by decide +kernel)⟩,
   ⟨(wst [used 3, fld (R.DMA_u_CHk_STATE_STATE (2 : Fin 8) 5) 3,
     fun d => d.setChan (2 : Fin 8) 5 { d.chan (2 : Fin 8) 5 with wait := some (.flag 9 6 true) },
     fun d => { d with tsk := { d.tsk with tasks := [(9, { (default : Task) with st := .idle, flags := 64 })] } }]), (2 : Fin 8), 5, _, 9, 6, true,
     rfl, by decide +kernel, by decide +kernel, by decide +kernel, rfl, by decide +kernel⟩,
   ⟨(wst [used 3, fld (R.DMA_u_CHk_STATE_STATE (2 : Fin 8) 5) 3,
     fun d => d.setChan (2 : Fin 8) 5 { d.chan (2 : Fin 8) 5 with wait := some (.request 3) },
     fun d => { d.set R.TRB_ENABLE_EN 255 with dma := { d.dma with taps := [(3, Tap.mk [] true)] } }]), (2 : Fin 8), 5, _, 3, rfl, by decide +kernel,
     by decide +kernel, by decide +kernel, rfl, by decide +kernel⟩,
   ⟨(wst [used 3, fld (R.DMA_u_CHk_STATE_STATE (2 : Fin 8) 5) 3,
     fun d => d.setChan (2 : Fin 8) 5 { d.chan (2 : Fin 8) 5 with move := some (Move.mk 2 0 0 true 96 0 32 0) },
     fun d => { d.set R.TRB_ENABLE_EN 255 with dma := { d.dma with taps := [(3, Tap.mk [] true)] } }]), (2 : Fin 8), 5, _,
     (Move.mk 2 0 0 true 96 0 32 0), rfl, by decide +kernel, by decide +kernel, by decide +kernel, rfl, by decide +kernel⟩,
   ⟨(wst [used 3, fld (R.DMA_u_CHk_STATE_STATE (2 : Fin 8) 5) 2, fld (R.DMA_u_CHk_CFG_MODE (2 : Fin 8) 5) 1,
     fld (R.DMA_u_CHk_PROG_HI_SPACE (2 : Fin 8) 5) 0, fld (R.DMA_u_CHk_STATE_PC (2 : Fin 8) 5) 7,
     fun d => { d with tsk := { d.tsk with tasks := [(9, { (default : Task) with st := .idle, flags := 1 })] } }]), (2 : Fin 8), 5,
     (HostData.data (le 16 0x50000000000000000000000000060009)), _, 9, 6, rfl, standing 0x50000000000000000000000000060009 (by decide +kernel),
     by decide +kernel⟩,
   ⟨(wst [used 3, fld (R.DMA_u_CHk_STATE_STATE (2 : Fin 8) 5) 2, fld (R.DMA_u_CHk_CFG_MODE (2 : Fin 8) 5) 1,
     fld (R.DMA_u_CHk_PROG_HI_SPACE (2 : Fin 8) 5) 0, fld (R.DMA_u_CHk_STATE_PC (2 : Fin 8) 5) 7]), (2 : Fin 8), 5,
     (HostData.data (le 16 0x54000000000000000000000000000000)), _, rfl, standing 0x54000000000000000000000000000000 (by decide +kernel)⟩,
   ⟨(wst [used 3, fld (R.DMA_u_CHk_STATE_STATE (2 : Fin 8) 5) 2, fld (R.DMA_u_CHk_CFG_MODE (2 : Fin 8) 5) 1,
     fld (R.DMA_u_CHk_PROG_HI_SPACE (2 : Fin 8) 5) 0, fld (R.DMA_u_CHk_STATE_PC (2 : Fin 8) 5) 7]), (2 : Fin 8), 5,
     (HostData.data (le 16 0x58000000000000000000000000000003)), _, (3 : Fin 16), rfl,
     standing 0x58000000000000000000000000000003 (by decide +kernel), by decide +kernel⟩,
   ⟨(wst [used 3, fld (R.DMA_u_CHk_STATE_STATE (2 : Fin 8) 5) 2, fld (R.DMA_u_CHk_CFG_MODE (2 : Fin 8) 5) 1,
     fld (R.DMA_u_CHk_PROG_HI_SPACE (2 : Fin 8) 5) 0, fld (R.DMA_u_CHk_STATE_PC (2 : Fin 8) 5) 7]), (2 : Fin 8), 5,
     (HostData.data (le 16 0x60000000000000000000000000000000)), _, rfl, standing 0x60000000000000000000000000000000 (by decide +kernel)⟩,
   ⟨(wst [used 3, fld (R.DMA_u_CHk_STATE_STATE (2 : Fin 8) 5) 2, fld (R.DMA_u_CHk_CFG_MODE (2 : Fin 8) 5) 1,
     fld (R.DMA_u_CHk_PROG_HI_SPACE (2 : Fin 8) 5) 0, fld (R.DMA_u_CHk_STATE_PC (2 : Fin 8) 5) 7]), (2 : Fin 8), 5,
     (HostData.data (le 16 0x70000000000000000000000000000000)), _, rfl, standing 0x70000000000000000000000000000000 (by decide +kernel)⟩⟩
theorem witness_HostPathAndKeys :
    (∃ (s : State), s.runs ∧ s.dev.open_ R.DMA_HPATH_CTL) ∧
    (∃ (s : State) (v : Word), s.runs ∧ s.dev.open_ R.DMA_HRX_TAIL ∧ v.toNat % 4096 < 2 ^ s.dev.get R.DMA_HRX_SIZE_LOG2) ∧
    (∃ (s : State) (v : Word), s.runs ∧ s.dev.open_ R.DMA_HTX_TAIL ∧ v.toNat % 4096 < 2 ^ s.dev.get R.DMA_HTX_SIZE_LOG2) ∧
    (∃ (s : State) (v : Word), s.runs ∧ s.dev.open_ R.DMA_HRX_TAIL ∧ 2 ^ s.dev.get R.DMA_HRX_SIZE_LOG2 ≤ v.toNat % 4096) ∧
    (∃ (s : State) (f : QFrame) (n : _), s.runs ∧ s.dev.launching 17 = some (f, n) ∧ s.dev.isUp domDma = true ∧
      s.dev.is R.DMA_HPATH_CTL_HRX_EN = true ∧ s.dev.get R.DMA_HRX_HEAD_INDEX ≠ s.dev.get R.DMA_HRX_TAIL_INDEX) ∧
    (∃ (s : State) (b : List Byte) (n : Nat) (p : _) (x : SendDesc), s.runs ∧ s.dev.isUp domDma = true ∧ s.dev.is R.DMA_HPATH_CTL_HTX_EN = true ∧
      s.dev.pwr.closed = false ∧ s.dev.get R.DMA_HTX_HEAD_INDEX ≠ s.dev.get R.DMA_HTX_TAIL_INDEX ∧ n = leAt b 0x24 2 ∧ 1 ≤ n ∧ n ≤ 9744 ∧
      s.dev.sendDescOf (padTo 64 (padTo 0x1C b)) = some (p, x)) ∧
    (∃ (s : State) (b : List Byte), s.runs ∧ s.dev.isUp domDma = true ∧ s.dev.is R.DMA_HPATH_CTL_HTX_EN = true ∧ s.dev.pwr.closed = false ∧
      s.dev.get R.DMA_HTX_HEAD_INDEX ≠ s.dev.get R.DMA_HTX_TAIL_INDEX ∧
      (leAt b 0x24 2 = 0 ∨ 9744 < leAt b 0x24 2 ∨ s.dev.sendDescOf (padTo 64 (padTo 0x1C b)) = none)) ∧
    (∃ (s : State) (force : _) (n : Fin 4096), s.runs ∧ s.dev.cphGate = none ∧ ((force = true ∨ s.dev.prevHolders n = 0))) ∧
    (∃ (s : State) (kek : Fin 16) (n : Fin 4096) (r : _), s.runs ∧ s.dev.cphGate = none ∧ s.dev.checkBlob kek n s.dev.blobBytes = .error r) ∧
    (∃ (s : State), s.runs ∧ s.dev.cphGate = none) ∧
    (∃ (s : State), s.runs ∧ s.dev.draining 15 = true) ∧
    (∃ (s : State) (r : _), s.runs ∧ s.dev.cphGate = some r) ∧
    (∃ (s : State), s.runs ∧ s.dev.draining 15 = false) :=
  ⟨⟨(wst [fld R.DMA_HPATH_CTL_HRX_EN 1, fld R.DMA_HPATH_CTL_HTX_EN 1, fld R.DMA_HRX_SIZE_LOG2 4, fld R.DMA_HTX_SIZE_LOG2 4,
    fld R.DMA_HRX_HEAD_INDEX 1, fld R.DMA_HTX_HEAD_INDEX 1, svc, fld R.DMA_HPATH_CTL_HRX_EN 0]), rfl, opened (by decide +kernel)⟩,
   ⟨(wst [fld R.DMA_HPATH_CTL_HRX_EN 1, fld R.DMA_HPATH_CTL_HTX_EN 1, fld R.DMA_HRX_SIZE_LOG2 4, fld R.DMA_HTX_SIZE_LOG2 4,
     fld R.DMA_HRX_HEAD_INDEX 1, fld R.DMA_HTX_HEAD_INDEX 1, svc]), (0 : Word), rfl, opened (by decide +kernel), by decide +kernel⟩,
   ⟨(wst [fld R.DMA_HPATH_CTL_HRX_EN 1, fld R.DMA_HPATH_CTL_HTX_EN 1, fld R.DMA_HRX_SIZE_LOG2 4, fld R.DMA_HTX_SIZE_LOG2 4,
     fld R.DMA_HRX_HEAD_INDEX 1, fld R.DMA_HTX_HEAD_INDEX 1, svc]), (0 : Word), rfl, opened (by decide +kernel), by decide +kernel⟩,
   ⟨(wst [fld R.DMA_HPATH_CTL_HRX_EN 1, fld R.DMA_HPATH_CTL_HTX_EN 1, fld R.DMA_HRX_SIZE_LOG2 4, fld R.DMA_HTX_SIZE_LOG2 4,
     fld R.DMA_HRX_HEAD_INDEX 1, fld R.DMA_HTX_HEAD_INDEX 1, svc]), (16 : Word), rfl, opened (by decide +kernel), by decide +kernel⟩,
   ⟨(wst [fld R.DMA_HPATH_CTL_HRX_EN 1, fld R.DMA_HPATH_CTL_HRX_EN 1, fld R.DMA_HPATH_CTL_HTX_EN 1, fld R.DMA_HRX_SIZE_LOG2 4,
     fld R.DMA_HTX_SIZE_LOG2 4, fld R.DMA_HRX_HEAD_INDEX 1, fld R.DMA_HTX_HEAD_INDEX 1, svc,
     fun d => d.setLaunching 17 (some (({ (default : QFrame) with bytes := [1, 2, 3], queue := 0 } : QFrame), 0))]),
     ({ (default : QFrame) with bytes := [1, 2, 3], queue := 0 } : QFrame), 0, rfl, by decide +kernel⟩,
   ⟨(wst [fld R.DMA_HPATH_CTL_HTX_EN 1, fun d => { d with pwr := { d.pwr with closed := false } }, fld R.DMA_HPATH_CTL_HRX_EN 1,
     fld R.DMA_HPATH_CTL_HTX_EN 1, fld R.DMA_HRX_SIZE_LOG2 4, fld R.DMA_HTX_SIZE_LOG2 4, fld R.DMA_HRX_HEAD_INDEX 1, fld R.DMA_HTX_HEAD_INDEX 1,
     svc]), (le 2 5 ++ List.replicate 34 0 ++ le 2 3 : List Byte), _, false,
     ({ queue := 5, cipher := 0, slot := 0, gen := 0, destKind := 0, dest := 0, user := 0, launch := none, tsMode := 0, tsOff := 0, csumOff := 0 } : SendDesc), rfl, by decide +kernel, by decide +kernel, by decide +kernel, by decide +kernel, rfl, by decide +kernel⟩,
   ⟨(wst [fld R.DMA_HPATH_CTL_HTX_EN 1, fun d => { d with pwr := { d.pwr with closed := false } }, fld R.DMA_HPATH_CTL_HRX_EN 1,
     fld R.DMA_HPATH_CTL_HTX_EN 1, fld R.DMA_HRX_SIZE_LOG2 4, fld R.DMA_HTX_SIZE_LOG2 4, fld R.DMA_HRX_HEAD_INDEX 1, fld R.DMA_HTX_HEAD_INDEX 1,
     svc]), ([] : List Byte), rfl, by decide +kernel⟩,
   ⟨(wst [fld R.DMA_HPATH_CTL_HRX_EN 1, fld R.DMA_HPATH_CTL_HTX_EN 1, fld R.DMA_HRX_SIZE_LOG2 4, fld R.DMA_HTX_SIZE_LOG2 4,
     fld R.DMA_HRX_HEAD_INDEX 1, fld R.DMA_HTX_HEAD_INDEX 1, svc,
     fun d => { d with cph := { d.cph with keks := [({ (default : KekDecl) with index := 3, last := 4095 }, [])], blob := [(0, 5)] } }]), true,
     (3 : Fin 4096), rfl, by decide +kernel⟩,
   ⟨(wst [fld R.DMA_HPATH_CTL_HRX_EN 1, fld R.DMA_HPATH_CTL_HTX_EN 1, fld R.DMA_HRX_SIZE_LOG2 4, fld R.DMA_HTX_SIZE_LOG2 4,
     fld R.DMA_HRX_HEAD_INDEX 1, fld R.DMA_HTX_HEAD_INDEX 1, svc]), (3 : Fin 16), (3 : Fin 4096), CphRes.kek, rfl, by decide +kernel, rfl⟩,
   ⟨(wst [fld R.DMA_HPATH_CTL_HRX_EN 1, fld R.DMA_HPATH_CTL_HTX_EN 1, fld R.DMA_HRX_SIZE_LOG2 4, fld R.DMA_HTX_SIZE_LOG2 4,
     fld R.DMA_HRX_HEAD_INDEX 1, fld R.DMA_HTX_HEAD_INDEX 1, svc,
     fun d => { d with cph := { d.cph with slots := [(3, KeySlot.mk (some (Key.mk 5 0 false [7] [] [] [] 0)) none 0 0 0 0 false [])] } }]), rfl,
     by decide +kernel⟩,
   ⟨(wst [fld R.DMA_HPATH_CTL_HRX_EN 1, fld R.DMA_HPATH_CTL_HTX_EN 1, fld R.DMA_HRX_SIZE_LOG2 4, fld R.DMA_HTX_SIZE_LOG2 4,
     fld R.DMA_HRX_HEAD_INDEX 1, fld R.DMA_HTX_HEAD_INDEX 1, svc,
     fun d => { d with img := { d.img with op := some (ImgOp.mk .loadFull false false 600 (2 ^ 15) 5 6 0 0 0 []), state := .drain } }]), rfl,
     by decide +kernel⟩,
   ⟨(wst [fld R.DMA_HPATH_CTL_HRX_EN 1, fld R.DMA_HPATH_CTL_HTX_EN 1, fld R.DMA_HRX_SIZE_LOG2 4, fld R.DMA_HTX_SIZE_LOG2 4,
     fld R.DMA_HRX_HEAD_INDEX 1, fld R.DMA_HTX_HEAD_INDEX 1, svc, fld R.TWN_STATUS_ROLE (Role.code .standby)]), CphRes.mode, rfl, by decide +kernel⟩,
   ⟨(wst [fld R.DMA_HPATH_CTL_HRX_EN 1, fld R.DMA_HPATH_CTL_HTX_EN 1, fld R.DMA_HRX_SIZE_LOG2 4, fld R.DMA_HTX_SIZE_LOG2 4,
     fld R.DMA_HRX_HEAD_INDEX 1, fld R.DMA_HTX_HEAD_INDEX 1, svc, fun d => { d with sup := { d.sup with mode := .test } }]), rfl, by decide +kernel⟩⟩
theorem witness_EthernetPorts :
    (∃ (s : State) (n : Fin 8) (body : List Byte), s.runs ∧ s.dev.macRuns n = true ∧ s.dev.is (R.MAC_En_STATUS_LINK n) = true ∧
      s.dev.macFec n = false ∧ 60 ≤ body.length ∧ body.length + 4 ≤ s.dev.get (R.MAC_En_CFG_MAX_FRAME n) ∧ beAt body 12 2 ≠ 0x8808 ∧
      s.dev.parseRuns = true ∧ s.dev.pwr.closed = false ∧ s.dev.parseHeld = false) ∧
    (∃ (s : State) (n : Fin 8) (b : List Byte), s.runs ∧ s.dev.macRuns n = true ∧ s.dev.is (R.MAC_En_STATUS_LINK n) = true ∧ s.dev.macFec n = false ∧
      4 ≤ b.length ∧ b.drop (b.length - 4) ≠ fcs (b.take (b.length - 4))) ∧
    (∃ (s : State) (n : Fin 8) (t : _), s.runs ∧ s.dev.macRuns n = true ∧ (s.dev.macP n).pauseEnd = some t) ∧
    (∃ (s : State) (n : Fin 8), s.runs ∧ s.dev.macRuns n = true ∧ s.dev.open_ (R.MAC_En_PAUSE_TX n)) ∧
    (∃ (s : State) (n : Fin 8) (f : QFrame) (step : _) (sent : _), s.runs ∧ s.dev.macRuns n = true ∧ s.dev.launching (n + 1) = some (f, step) ∧
      step ≠ 5 ∧ sent < f.bytes.length) ∧
    (∃ (s : State) (n : Fin 8) (u : _), s.runs ∧ s.dev.macRuns n = true ∧
      u = s.dev.until_ ((s.dev.macP n).idleSince + s.dev.get (R.MAC_En_EEE_IDLE n) * usTicks) ∧ s.dev.lpiBusy n = false ∧ u.timedAhead n = none ∧
      s.dev.is (R.MAC_En_STATUS_TX_LPI n) = false ∧ s.dev.is (R.MAC_En_STATUS_LINK n) = true) ∧
    (∃ (s : State) (n : Fin 8), s.runs ∧ s.dev.macRuns n = true ∧ s.dev.is (R.MAC_En_STATUS_TX_LPI n) = true ∧ s.dev.lpiBusy n = true) ∧
    (∃ (s : State) (n : Fin 8) (k : Nat), s.runs ∧ s.dev.macRuns n = true ∧ s.dev.is (R.MAC_En_STATUS_TX_LPI n) = true ∧ s.dev.lpiBusy n = false ∧
      s.dev.timedAhead n = some k) ∧
    (∃ (s : State) (n : Fin 8), s.runs ∧ s.dev.macRuns n = true ∧ s.dev.is (R.MAC_En_STATUS_RX_LPI n) = false) ∧
    (∃ (s : State) (n : Fin 8), s.runs ∧ s.dev.macRuns n = true) :=
  ⟨⟨(wst [fld (R.MAC_En_STATUS_LINK (3 : Fin 8)) 1, fun d => { d with pwr := { d.pwr with closed := false } }, svc,
    fld (R.MAC_En_CFG_TYPE (3 : Fin 8)) 1, fld (R.MAC_En_STATUS_LINK (3 : Fin 8)) 1, fld (R.MAC_En_CFG_MAX_FRAME (3 : Fin 8)) 1518]), (3 : Fin 8),
    (List.replicate 70 3 : List Byte), rfl, by decide +kernel⟩,
   ⟨(wst [fld (R.MAC_En_STATUS_LINK (3 : Fin 8)) 1, svc, fld (R.MAC_En_CFG_TYPE (3 : Fin 8)) 1, fld (R.MAC_En_STATUS_LINK (3 : Fin 8)) 1,
     fld (R.MAC_En_CFG_MAX_FRAME (3 : Fin 8)) 1518]), (3 : Fin 8), ([1,2,3,4,5] : List Byte), rfl, by decide +kernel⟩,
   ⟨(wst [svc, fld (R.MAC_En_CFG_TYPE (3 : Fin 8)) 1, fld (R.MAC_En_STATUS_LINK (3 : Fin 8)) 1, fld (R.MAC_En_CFG_MAX_FRAME (3 : Fin 8)) 1518,
     fun d => d.setMacP (3 : Fin 8) { d.macP (3 : Fin 8) with pauseEnd := some 5000 }, fld (R.MAC_En_STATUS_PAUSED (3 : Fin 8)) 1]), (3 : Fin 8),
     5000, rfl, by decide +kernel⟩,
   ⟨(wst [svc, fld (R.MAC_En_CFG_TYPE (3 : Fin 8)) 1, fld (R.MAC_En_STATUS_LINK (3 : Fin 8)) 1, fld (R.MAC_En_CFG_MAX_FRAME (3 : Fin 8)) 1518]),
     (3 : Fin 8), rfl, by decide +kernel, opened (by decide +kernel)⟩,
   ⟨(wst [svc, fld (R.MAC_En_CFG_TYPE (3 : Fin 8)) 1, fld (R.MAC_En_STATUS_LINK (3 : Fin 8)) 1, fld (R.MAC_En_CFG_MAX_FRAME (3 : Fin 8)) 1518,
     fun d => d.setLaunching ((3 : Fin 8) + 1) (some (({ (default : QFrame) with bytes := [1, 2, 3], queue := 0 } : QFrame), 2)),
     fld (R.MAC_En_CFG_CT_STEP (3 : Fin 8)) 4]), (3 : Fin 8), ({ (default : QFrame) with bytes := [1, 2, 3], queue := 0 } : QFrame), 2, 2, rfl,
     by decide +kernel⟩,
   ⟨(wst [fld (R.MAC_En_STATUS_TX_LPI (3 : Fin 8)) 0, fld (R.MAC_En_STATUS_LINK (3 : Fin 8)) 1, svc, fld (R.MAC_En_CFG_TYPE (3 : Fin 8)) 1,
     fld (R.MAC_En_STATUS_LINK (3 : Fin 8)) 1, fld (R.MAC_En_CFG_MAX_FRAME (3 : Fin 8)) 1518, fld (R.MAC_En_EEE_LPI_EN (3 : Fin 8)) 1,
     fld (R.MAC_En_EEE_IDLE (3 : Fin 8)) 3]), (3 : Fin 8), _, rfl, by decide +kernel, rfl, by decide +kernel⟩,
   ⟨(wst [fld (R.MAC_En_STATUS_TX_LPI (3 : Fin 8)) 1, svc, fld (R.MAC_En_CFG_TYPE (3 : Fin 8)) 1, fld (R.MAC_En_STATUS_LINK (3 : Fin 8)) 1,
     fld (R.MAC_En_CFG_MAX_FRAME (3 : Fin 8)) 1518, fld (R.MAC_En_EEE_TW (3 : Fin 8)) 4]), (3 : Fin 8), rfl, by decide +kernel⟩,
   ⟨(wst [fld (R.MAC_En_STATUS_TX_LPI (3 : Fin 8)) 1, svc, fld (R.MAC_En_CFG_TYPE (3 : Fin 8)) 1, fld (R.MAC_En_STATUS_LINK (3 : Fin 8)) 1,
     fld (R.MAC_En_CFG_MAX_FRAME (3 : Fin 8)) 1518, svc,
     fun d => d.setTimed 4 [({ (default : QFrame) with bytes := [1, 2, 3], queue := 0, launch := some { sec := 0, ns := 0 } } : QFrame)],
     fld (R.MAC_En_EEE_LPI_EN (3 : Fin 8)) 1, fld (R.MAC_En_STATUS_TX_LPI (3 : Fin 8)) 1]), (3 : Fin 8), (0 : Nat), rfl, by decide +kernel⟩,
   ⟨(wst [fld (R.MAC_En_STATUS_RX_LPI (3 : Fin 8)) 0, svc, fld (R.MAC_En_CFG_TYPE (3 : Fin 8)) 1, fld (R.MAC_En_STATUS_LINK (3 : Fin 8)) 1,
     fld (R.MAC_En_CFG_MAX_FRAME (3 : Fin 8)) 1518]), (3 : Fin 8), rfl, by decide +kernel⟩,
   ⟨(wst [svc, fld (R.MAC_En_CFG_TYPE (3 : Fin 8)) 1, fld (R.MAC_En_STATUS_LINK (3 : Fin 8)) 1, fld (R.MAC_En_CFG_MAX_FRAME (3 : Fin 8)) 1518,
     fld (R.MAC_En_STATUS_RX_LPI (3 : Fin 8)) 1]), (3 : Fin 8), rfl, by decide +kernel⟩⟩
theorem witness_SerialLanes :
    (∃ (s : State) (i : Fin 18), s.runs ∧ s.dev.laneRuns i = true ∧ s.dev.sleepsByRequest i true = false ∧ s.dev.sleepsInLpi i true = false) ∧
    (∃ (s : State) (i : Fin 18), s.runs ∧ s.dev.laneRuns i = true ∧ s.dev.sleepsByRequest i false = false ∧ s.dev.sleepsInLpi i false = false ∧
      s.dev.laneSt i = lsOff) ∧
    (∃ (s : State) (i : Fin 18), s.runs ∧ s.dev.laneRx i = true ∧ s.dev.laneSt i = lsCal) ∧
    (∃ (s : State) (i : Fin 18) (c : _), s.runs ∧ s.dev.laneRx i = true ∧
      (s.dev.laneSt i = lsHunt ∨ s.dev.laneSt i = lsCheck ∨ s.dev.laneSt i = lsFail) ∧ (c = Instr.laneLosOn i ∨ (c = .cdrLockLoss i ∧
      s.dev.is (R.LAN_x_STATUS_CDR_LOCK i) = true))) ∧
    (∃ (s : State) (i : Fin 18), s.runs ∧ s.dev.laneRx i = true) ∧
    (∃ (s : State) (i : Fin 18), s.runs ∧ s.dev.laneRx i = true ∧ s.dev.is (R.LAN_x_STATUS_LOS i) = false ∧ s.dev.laneSt i = lsCdr) ∧
    (∃ (s : State) (i : Fin 18) (headers : List (Fin 4)), s.runs ∧ s.dev.laneRx i = true ∧ s.dev.laneSt i = lsHunt ∧ ((s.dev.laneUse i = 1 ∨ (∀ h,
      h ∈ headers → h = 1 ∨ h = 2) ∧ (s.dev.lane i).align.count ≤ 96 ∧ 96 ≤ (s.dev.lane i).align.count + headers.length))) ∧
    (∃ (s : State) (i : Fin 18) (headers : List (Fin 4)) (x : _), s.runs ∧ s.dev.laneRx i = true ∧ s.dev.laneSt i = lsHunt ∧ s.dev.laneUse i ≠ 1 ∧
      x = (s.dev.lane i).align.hunt headers ∧ x.count ≠ 96) ∧
    (∃ (s : State) (i : Fin 18), s.runs ∧ s.dev.laneRx i = true ∧ s.dev.laneSt i = lsCheck ∧ s.dev.plainEth i = true) ∧
    (∃ (s : State) (i : Fin 18) (l : Nat), s.runs ∧ l < 256 ∧ 2 ≤ s.dev.laneUse i) ∧
    (∃ (s : State) (i : Fin 18) (m : _) (l : Nat), s.runs ∧ s.dev.laneRx i = true ∧ s.dev.laneSt i = lsCheck ∧ s.dev.markerOf i true m = some l ∧
      s.dev.is (R.LAN_x_CTL_POL_AUTO i) = true) ∧
    (∃ (s : State) (i : Fin 18) (m : _) (l : Nat), s.runs ∧ s.dev.laneRx i = true ∧ s.dev.laneSt i = lsCheck ∧ s.dev.markerOf i false m = some l ∧
      s.dev.bonded i = false) ∧
    (∃ (s : State) (i : Fin 18) (m : _) (l : Nat), s.runs ∧ s.dev.laneRx i = true ∧ s.dev.laneSt i = lsCheck ∧ s.dev.markerOf i false m = some l ∧
      s.dev.bonded i = true) ∧
    (∃ (s : State) (i : Fin 18) (m : _) (c : _), s.runs ∧ (s.dev.laneRx i = false ∨ s.dev.laneSt i ≠ lsCheck ∨ s.dev.markerOf i c m = none)) ∧
    (∃ (s : State) (i : Fin 18), s.runs ∧ s.dev.laneSt i = lsCheck ∧ s.dev.plainEth i = true ∧ s.dev.is (R.LAN_x_CTL_POL_AUTO i) = false) ∧
    (∃ (s : State) (i : Fin 18), s.runs ∧ s.dev.laneSt i = lsCheck ∧ s.dev.plainEth i = false) ∧
    (∃ (s : State) (i : Fin 18), s.runs ∧ s.dev.laneSt i = lsFail) ∧
    (∃ (s : State) (i : Fin 18) (headers : List (Fin 4)) (x : _) (n : _), s.runs ∧ s.dev.laneRx i = true ∧ s.dev.laneSt i = lsUp ∧
      s.dev.laneUse i ≠ 1 ∧ (s.dev.lane i).align.hold headers 0 = (x, n) ∧ 24 ≤ x.bad) ∧
    (∃ (s : State) (i : Fin 18) (headers : List (Fin 4)) (x : _) (n : _), s.runs ∧ s.dev.laneRx i = true ∧ s.dev.laneSt i = lsUp ∧
      s.dev.laneUse i ≠ 1 ∧ (s.dev.lane i).align.hold headers 0 = (x, n) ∧ x.bad < 24) ∧
    (∃ (s : State) (i : Fin 18), s.runs ∧ s.dev.laneRx i = true ∧ s.dev.laneSt i = lsUp ∧ s.dev.laneUse i = 1) ∧
    (∃ (s : State) (i : Fin 18), s.runs ∧ s.dev.laneRx i = true ∧ 2 ≤ s.dev.laneUse i ∧ s.dev.is (R.LAN_Gg_CFG_CLOCK (groupOf i)) = false ∧
      s.dev.laneSt i = lsUp) ∧
    (∃ (s : State) (i : Fin 18), s.runs ∧ s.dev.laneRx i = true ∧ (s.dev.laneSt i = lsHunt ∨ s.dev.laneSt i = lsCheck ∨ s.dev.laneSt i = lsUp) ∧
      s.dev.is (R.LAN_x_CTL_FREEZE i) = false) ∧
    (∃ (s : State) (i : Fin 18), s.runs ∧ s.dev.sup.mode = .test ∧ s.dev.is (R.LAN_x_TEST_CHK i) = true) ∧
    (∃ (s : State) (i : Fin 18), s.runs ∧ (s.dev.sup.mode ≠ .test ∨ s.dev.is (R.LAN_x_TEST_CHK i) = false)) :=
  ⟨⟨(wst [svc, used 12, fld (R.LAN_x_STATUS_RX_AWAKE (5 : Fin 18)) 1, fld (R.LAN_x_CFG_USE (5 : Fin 18)) 2]), (5 : Fin 18), rfl, by decide +kernel⟩,
   ⟨(wst [fld (R.LAN_x_STATUS_STATE (5 : Fin 18)) lsOff, svc, used 12, fld (R.LAN_x_STATUS_RX_AWAKE (5 : Fin 18)) 1,
     fld (R.LAN_x_CFG_USE (5 : Fin 18)) 2, fld (R.LAN_x_STATUS_RX_AWAKE (5 : Fin 18)) 0]), (5 : Fin 18), rfl, by decide +kernel⟩,
   ⟨(wst [fld (R.LAN_x_STATUS_STATE (5 : Fin 18)) lsCal, svc, used 12, fld (R.LAN_x_STATUS_RX_AWAKE (5 : Fin 18)) 1,
     fld (R.LAN_x_CFG_USE (5 : Fin 18)) 2]), (5 : Fin 18), rfl, by decide +kernel⟩,
   ⟨(wst [svc, used 12, fld (R.LAN_x_STATUS_RX_AWAKE (5 : Fin 18)) 1, fld (R.LAN_x_CFG_USE (5 : Fin 18)) 2,
     fld (R.LAN_x_STATUS_STATE (5 : Fin 18)) lsCheck, fld (R.LAN_x_STATUS_CDR_LOCK (5 : Fin 18)) 1]), (5 : Fin 18), (Instr.cdrLockLoss (5 : Fin 18)),
     rfl, by decide +kernel⟩,
   ⟨(wst [svc, used 12, fld (R.LAN_x_STATUS_RX_AWAKE (5 : Fin 18)) 1, fld (R.LAN_x_CFG_USE (5 : Fin 18)) 2]), (5 : Fin 18), rfl, by decide +kernel⟩,
   ⟨(wst [fld (R.LAN_x_STATUS_LOS (5 : Fin 18)) 0, fld (R.LAN_x_STATUS_STATE (5 : Fin 18)) lsCdr, svc, used 12,
     fld (R.LAN_x_STATUS_RX_AWAKE (5 : Fin 18)) 1, fld (R.LAN_x_CFG_USE (5 : Fin 18)) 2]), (5 : Fin 18), rfl, by decide +kernel⟩,
   ⟨(wst [fld (R.LAN_x_STATUS_STATE (5 : Fin 18)) lsHunt, svc, used 12, fld (R.LAN_x_STATUS_RX_AWAKE (5 : Fin 18)) 1,
     fld (R.LAN_x_CFG_USE (5 : Fin 18)) 2]), (5 : Fin 18), (List.replicate 96 1 : List (Fin 4)), rfl, by decide +kernel⟩,
   ⟨(wst [fld (R.LAN_x_STATUS_STATE (5 : Fin 18)) lsHunt, svc, used 12, fld (R.LAN_x_STATUS_RX_AWAKE (5 : Fin 18)) 1,
     fld (R.LAN_x_CFG_USE (5 : Fin 18)) 2]), (5 : Fin 18), ([1, 3] : List (Fin 4)), _, rfl, by decide +kernel, by decide +kernel, by decide +kernel,
     rfl, by decide +kernel⟩,
   ⟨(wst [fld (R.LAN_x_STATUS_STATE (5 : Fin 18)) lsCheck, svc, used 12, fld (R.LAN_x_STATUS_RX_AWAKE (5 : Fin 18)) 1,
     fld (R.LAN_x_CFG_USE (5 : Fin 18)) 2, fld (R.LAN_x_CFG_USE (5 : Fin 18)) 1, fld (R.LAN_x_STATUS_STATE (5 : Fin 18)) lsCheck]), (5 : Fin 18),
     rfl, by decide +kernel⟩,
   ⟨(wst [svc, used 12, fld (R.LAN_x_STATUS_RX_AWAKE (5 : Fin 18)) 1, fld (R.LAN_x_CFG_USE (5 : Fin 18)) 2]), (5 : Fin 18), (5 : Nat), rfl,
     by decide +kernel⟩,
   ⟨(wst [fld (R.LAN_x_STATUS_STATE (5 : Fin 18)) lsCheck, fld (R.LAN_x_CTL_POL_AUTO (5 : Fin 18)) 1, svc, used 12,
     fld (R.LAN_x_STATUS_RX_AWAKE (5 : Fin 18)) 1, fld (R.LAN_x_CFG_USE (5 : Fin 18)) 2, fld (R.LAN_x_STATUS_STATE (5 : Fin 18)) lsCheck]),
     (5 : Fin 18), (MarkerIn.block (BitVec.ofNat 64 (2 ^ 64 - 1 - markerPayload 2))), (2 : Nat), rfl, by decide +kernel, by decide +kernel,
     markedInv (by decide +kernel) (by decide +kernel), by decide +kernel⟩,
   ⟨(wst [fld (R.LAN_x_STATUS_STATE (5 : Fin 18)) lsCheck, svc, used 12, fld (R.LAN_x_STATUS_RX_AWAKE (5 : Fin 18)) 1,
     fld (R.LAN_x_CFG_USE (5 : Fin 18)) 2, fld (R.LAN_x_STATUS_STATE (5 : Fin 18)) lsCheck]), (5 : Fin 18),
     (MarkerIn.block (BitVec.ofNat 64 (markerPayload 2))), (2 : Nat), rfl, by decide +kernel, by decide +kernel,
     marked (by decide +kernel) (by decide +kernel), by decide +kernel⟩,
   ⟨(wst [fld (R.LAN_x_STATUS_STATE (5 : Fin 18)) lsCheck, svc, used 12, fld (R.LAN_x_STATUS_RX_AWAKE (5 : Fin 18)) 1,
     fld (R.LAN_x_CFG_USE (5 : Fin 18)) 2, fld (R.LAN_x_STATUS_STATE (5 : Fin 18)) lsCheck,
     fun d => d.set (R.LAN_Gg_CFG_BONDED (groupOf (5 : Fin 18))) 1]), (5 : Fin 18), (MarkerIn.block (BitVec.ofNat 64 (markerPayload 2))), (2 : Nat),
     rfl, by decide +kernel, by decide +kernel, marked (by decide +kernel) (by decide +kernel), by decide +kernel⟩,
   ⟨(wst [svc, used 12, fld (R.LAN_x_STATUS_RX_AWAKE (5 : Fin 18)) 1, fld (R.LAN_x_CFG_USE (5 : Fin 18)) 2,
     fld (R.LAN_x_STATUS_STATE (5 : Fin 18)) lsCheck]), (5 : Fin 18), (MarkerIn.block 0), false, rfl, by decide +kernel⟩,
   ⟨(wst [fld (R.LAN_x_STATUS_STATE (5 : Fin 18)) lsCheck, fld (R.LAN_x_CTL_POL_AUTO (5 : Fin 18)) 0, svc, used 12,
     fld (R.LAN_x_STATUS_RX_AWAKE (5 : Fin 18)) 1, fld (R.LAN_x_CFG_USE (5 : Fin 18)) 2, fld (R.LAN_x_CFG_USE (5 : Fin 18)) 1,
     fld (R.LAN_x_STATUS_STATE (5 : Fin 18)) lsCheck]), (5 : Fin 18), rfl, by decide +kernel⟩,
   ⟨(wst [fld (R.LAN_x_STATUS_STATE (5 : Fin 18)) lsCheck, svc, used 12, fld (R.LAN_x_STATUS_RX_AWAKE (5 : Fin 18)) 1,
     fld (R.LAN_x_CFG_USE (5 : Fin 18)) 2]), (5 : Fin 18), rfl, by decide +kernel⟩,
   ⟨(wst [fld (R.LAN_x_STATUS_STATE (5 : Fin 18)) lsFail, svc, used 12, fld (R.LAN_x_STATUS_RX_AWAKE (5 : Fin 18)) 1,
     fld (R.LAN_x_CFG_USE (5 : Fin 18)) 2]), (5 : Fin 18), rfl, by decide +kernel⟩,
   ⟨(wst [fld (R.LAN_x_STATUS_STATE (5 : Fin 18)) lsUp, svc, used 12, fld (R.LAN_x_STATUS_RX_AWAKE (5 : Fin 18)) 1,
     fld (R.LAN_x_CFG_USE (5 : Fin 18)) 2]), (5 : Fin 18), (List.replicate 24 0 : List (Fin 4)),
     ((((wst [fld (R.LAN_x_STATUS_STATE (5 : Fin 18)) lsUp, svc, used 12, fld (R.LAN_x_STATUS_RX_AWAKE (5 : Fin 18)) 1,
     fld (R.LAN_x_CFG_USE (5 : Fin 18)) 2])).dev.lane (5 : Fin 18)).align.hold (List.replicate 24 0 : List (Fin 4)) 0).1,
     ((((wst [fld (R.LAN_x_STATUS_STATE (5 : Fin 18)) lsUp, svc, used 12, fld (R.LAN_x_STATUS_RX_AWAKE (5 : Fin 18)) 1,
     fld (R.LAN_x_CFG_USE (5 : Fin 18)) 2])).dev.lane (5 : Fin 18)).align.hold (List.replicate 24 0 : List (Fin 4)) 0).2, rfl, by decide +kernel⟩,
   ⟨(wst [fld (R.LAN_x_STATUS_STATE (5 : Fin 18)) lsUp, svc, used 12, fld (R.LAN_x_STATUS_RX_AWAKE (5 : Fin 18)) 1,
     fld (R.LAN_x_CFG_USE (5 : Fin 18)) 2]), (5 : Fin 18), ([0, 1, 1] : List (Fin 4)), ((((wst [fld (R.LAN_x_STATUS_STATE (5 : Fin 18)) lsUp, svc,
     used 12, fld (R.LAN_x_STATUS_RX_AWAKE (5 : Fin 18)) 1, fld (R.LAN_x_CFG_USE (5 : Fin 18)) 2])).dev.lane (5 : Fin 18)).align.hold ([0, 1,
     1] : List (Fin 4)) 0).1, ((((wst [fld (R.LAN_x_STATUS_STATE (5 : Fin 18)) lsUp, svc, used 12, fld (R.LAN_x_STATUS_RX_AWAKE (5 : Fin 18)) 1,
     fld (R.LAN_x_CFG_USE (5 : Fin 18)) 2])).dev.lane (5 : Fin 18)).align.hold ([0, 1, 1] : List (Fin 4)) 0).2, rfl, by decide +kernel⟩,
   ⟨(wst [fld (R.LAN_x_STATUS_STATE (5 : Fin 18)) lsUp, svc, used 12, fld (R.LAN_x_STATUS_RX_AWAKE (5 : Fin 18)) 1,
     fld (R.LAN_x_CFG_USE (5 : Fin 18)) 2, fld (R.LAN_x_CFG_USE (5 : Fin 18)) 1, fld (R.LAN_x_STATUS_STATE (5 : Fin 18)) lsUp]), (5 : Fin 18), rfl,
     by decide +kernel⟩,
   ⟨(wst [fun d => d.set (R.LAN_Gg_CFG_CLOCK (groupOf (5 : Fin 18))) 0, fld (R.LAN_x_STATUS_STATE (5 : Fin 18)) lsUp, svc, used 12,
     fld (R.LAN_x_STATUS_RX_AWAKE (5 : Fin 18)) 1, fld (R.LAN_x_CFG_USE (5 : Fin 18)) 2]), (5 : Fin 18), rfl, by decide +kernel⟩,
   ⟨(wst [fld (R.LAN_x_CTL_FREEZE (5 : Fin 18)) 0, svc, used 12, fld (R.LAN_x_STATUS_RX_AWAKE (5 : Fin 18)) 1, fld (R.LAN_x_CFG_USE (5 : Fin 18)) 2,
     fld (R.LAN_x_STATUS_STATE (5 : Fin 18)) lsHunt]), (5 : Fin 18), rfl, by decide +kernel⟩,
   ⟨(wst [fun d => { d with sup := { d.sup with mode := .test } }, fld (R.LAN_x_TEST_CHK (5 : Fin 18)) 1, svc, used 12,
     fld (R.LAN_x_STATUS_RX_AWAKE (5 : Fin 18)) 1, fld (R.LAN_x_CFG_USE (5 : Fin 18)) 2, fun d => { d with sup := { d.sup with mode := .test } }]),
     (5 : Fin 18), rfl, by decide +kernel⟩,
   ⟨(wst [svc, used 12, fld (R.LAN_x_STATUS_RX_AWAKE (5 : Fin 18)) 1, fld (R.LAN_x_CFG_USE (5 : Fin 18)) 2]), (5 : Fin 18), rfl, by decide +kernel⟩⟩
theorem witness_RopeFabric :
    (∃ (s : State) (n : Fin 8) (b : List Byte) (c : _), s.runs ∧ c ∈ [Instr.ropeFrameRx n b, .hailRx n b, .lsrRx n b] ∧ s.dev.ropReceives n = false) ∧
    (∃ (s : State) (n : Fin 8) (b : List Byte) (c : _), s.runs ∧ c ∈ [Instr.ropeFrameRx n b, .hailRx n b, .lsrRx n b] ∧ s.dev.ropReceives n = true ∧
      (b.length < 20 ∨ hdrBits b 124 4 ≠ 1 ∨ 8 ≤ hdrKind b ∨ hec (b.take 14) ≠ beAt b 14 2)) ∧
    (∃ (s : State) (n : Fin 8) (b : List Byte) (c : _), s.runs ∧ c ∈ [Instr.ropeFrameRx n b, .hailRx n b, .lsrRx n b] ∧ s.dev.ropReceives n = true ∧
      20 ≤ b.length ∧ hdrBits b 124 4 = 1 ∧ hdrKind b < 8 ∧ hec (b.take 14) = beAt b 14 2 ∧ b.drop (b.length - 4) ≠ fcs (b.take (b.length - 4))) ∧
    (∃ (s : State) (n : Fin 8) (b : List Byte), s.runs ∧ s.dev.RopeGood n b ∧ hdrKind b = kHail) ∧
    (∃ (s : State) (n : Fin 8) (b : List Byte), s.runs ∧ s.dev.RopeGood n b ∧ hdrKind b = kLsr) ∧
    (∃ (s : State) (n : Fin 8) (b : List Byte) (u : _), s.runs ∧ s.dev.RopeGood n b ∧ u = s.dev.access domRope cliFab ∧ hdrKind b ≠ kHail ∧
      hdrKind b ≠ kLsr ∧ u.is (R.ROP_Pn_STATUS_ADJ_UP n) = false) ∧
    (∃ (s : State) (n : Fin 8) (b : List Byte) (u : _), s.runs ∧ s.dev.RopeGood n b ∧ u = s.dev.access domRope cliFab ∧ hdrKind b ≠ kHail ∧
      hdrKind b ≠ kLsr ∧ u.is (R.ROP_Pn_STATUS_ADJ_UP n) = true ∧ u.claimed = true ∧ hdrBits b 110 10 = u.nodeId ∧ hdrKind b = kData) ∧
    (∃ (s : State) (n : Fin 8) (b : List Byte) (u : _), s.runs ∧ s.dev.RopeGood n b ∧ u = s.dev.access domRope cliFab ∧ hdrKind b ≠ kHail ∧
      hdrKind b ≠ kLsr ∧ u.is (R.ROP_Pn_STATUS_ADJ_UP n) = true ∧ u.claimed = true ∧ hdrBits b 110 10 = u.nodeId ∧ hdrKind b = kRelayDown) ∧
    (∃ (s : State) (n : Fin 8) (b : List Byte) (u : _), s.runs ∧ s.dev.RopeGood n b ∧ u = s.dev.access domRope cliFab ∧ hdrKind b ≠ kHail ∧
      hdrKind b ≠ kLsr ∧ u.is (R.ROP_Pn_STATUS_ADJ_UP n) = true ∧ u.claimed = true ∧ hdrBits b 110 10 = u.nodeId ∧ hdrKind b = kRelayUp ∧
      u.is R.ROP_CFG_RELAY_SERVER = true) ∧
    (∃ (s : State) (n : Fin 8) (b : List Byte) (u : _), s.runs ∧ s.dev.RopeGood n b ∧ u = s.dev.access domRope cliFab ∧ hdrKind b ≠ kHail ∧
      hdrKind b ≠ kLsr ∧ u.is (R.ROP_Pn_STATUS_ADJ_UP n) = true ∧ u.claimed = true ∧ hdrBits b 110 10 = u.nodeId ∧ hdrKind b = kRelayUp ∧
      u.is R.ROP_CFG_RELAY_SERVER = false) ∧
    (∃ (s : State) (n : Fin 8) (b : List Byte) (u : _), s.runs ∧ s.dev.RopeGood n b ∧ u = s.dev.access domRope cliFab ∧ hdrKind b ≠ kHail ∧
      hdrKind b ≠ kLsr ∧ u.is (R.ROP_Pn_STATUS_ADJ_UP n) = true ∧ u.claimed = true ∧ hdrBits b 110 10 = u.nodeId ∧ hdrKind b = kMsg) ∧
    (∃ (s : State) (n : Fin 8) (b : List Byte) (u : _), s.runs ∧ s.dev.RopeGood n b ∧ u = s.dev.access domRope cliFab ∧ hdrKind b ≠ kHail ∧
      hdrKind b ≠ kLsr ∧ u.is (R.ROP_Pn_STATUS_ADJ_UP n) = true ∧ u.claimed = true ∧ hdrBits b 110 10 = u.nodeId ∧ hdrKind b = kTwin) ∧
    (∃ (s : State) (n : Fin 8) (b : List Byte) (u : _), s.runs ∧ s.dev.RopeGood n b ∧ u = s.dev.access domRope cliFab ∧ hdrKind b ≠ kHail ∧
      hdrKind b ≠ kLsr ∧ u.is (R.ROP_Pn_STATUS_ADJ_UP n) = true ∧ u.claimed = true ∧ hdrBits b 110 10 = u.nodeId ∧ hdrKind b = kReferee) ∧
    (∃ (s : State) (n : Fin 8) (b : List Byte) (u : _), s.runs ∧ s.dev.RopeGood n b ∧ u = s.dev.access domRope cliFab ∧ hdrKind b ≠ kHail ∧
      hdrKind b ≠ kLsr ∧ u.is (R.ROP_Pn_STATUS_ADJ_UP n) = true ∧ u.draining 14 = false ∧ (u.claimed = false ∨ hdrBits b 110 10 ≠ u.nodeId) ∧
      hdrBits b 92 8 ≤ 1) ∧
    (∃ (s : State) (n : Fin 8) (b : List Byte) (u : _), s.runs ∧ s.dev.RopeGood n b ∧ u = s.dev.access domRope cliFab ∧ hdrKind b ≠ kHail ∧
      hdrKind b ≠ kLsr ∧ u.is (R.ROP_Pn_STATUS_ADJ_UP n) = true ∧ u.draining 14 = false ∧ (u.claimed = false ∨ hdrBits b 110 10 ≠ u.nodeId) ∧
      1 < hdrBits b 92 8 ∧ u.route (hdrBits b 110 10) = none) ∧
    (∃ (s : State) (n : Fin 8) (b : List Byte) (u : _) (r : _), s.runs ∧ s.dev.RopeGood n b ∧ u = s.dev.access domRope cliFab ∧ hdrKind b ≠ kHail ∧
      hdrKind b ≠ kLsr ∧ u.is (R.ROP_Pn_STATUS_ADJ_UP n) = true ∧ u.draining 14 = false ∧ (u.claimed = false ∨ hdrBits b 110 10 ≠ u.nodeId) ∧
      1 < hdrBits b 92 8 ∧ u.route (hdrBits b 110 10) = some r ∧ hdrKind b = kReferee) ∧
    (∃ (s : State) (n : Fin 8) (b : List Byte) (u : _) (r : _) (j : _) (q : _), s.runs ∧ s.dev.RopeGood n b ∧ u = s.dev.access domRope cliFab ∧
      hdrKind b ≠ kHail ∧ hdrKind b ≠ kLsr ∧ u.is (R.ROP_Pn_STATUS_ADJ_UP n) = true ∧ u.draining 14 = false ∧
      (u.claimed = false ∨ hdrBits b 110 10 ≠ u.nodeId) ∧ 1 < hdrBits b 92 8 ∧ u.route (hdrBits b 110 10) = some r ∧
      j = (if hdrKind b = kMsg then u.get R.ROP_FAB_CFG_MSG_QIDX else if hdrKind b = kTwin then u.get R.ROP_FAB_CFG_TWIN_QIDX else hdrBits b 86 6) ∧
      hdrKind b ≠ kReferee ∧ u.ropeQueue r.primary j = some q) ∧
    (∃ (s : State) (n : Fin 8) (b : List Byte) (u : _) (r : _) (j : _), s.runs ∧ s.dev.RopeGood n b ∧ u = s.dev.access domRope cliFab ∧
      hdrKind b ≠ kHail ∧ hdrKind b ≠ kLsr ∧ u.is (R.ROP_Pn_STATUS_ADJ_UP n) = true ∧ u.draining 14 = false ∧
      (u.claimed = false ∨ hdrBits b 110 10 ≠ u.nodeId) ∧ 1 < hdrBits b 92 8 ∧ u.route (hdrBits b 110 10) = some r ∧
      j = (if hdrKind b = kMsg then u.get R.ROP_FAB_CFG_MSG_QIDX else if hdrKind b = kTwin then u.get R.ROP_FAB_CFG_TWIN_QIDX else hdrBits b 86 6) ∧
      hdrKind b ≠ kReferee ∧ u.ropeQueue r.primary j = none) ∧
    (∃ (s : State) (n : Fin 8) (b : List Byte) (p : _) (u : _), s.runs ∧ s.dev.RopeGood n b ∧ u = s.dev.access domRope cliFab ∧ hdrKind b = kHail ∧
      p = ropBody b ∧ ((bit (beAt p 8 2) 15 = true → u.claimed = true → beAt p 8 2 % 1024 = u.nodeId → beAt p 0 8 = u.serial))) ∧
    (∃ (s : State) (n : Fin 8) (b : List Byte) (p : _) (u : _), s.runs ∧ s.dev.RopeGood n b ∧ u = s.dev.access domRope cliFab ∧ hdrKind b = kHail ∧
      p = ropBody b ∧ bit (beAt p 8 2) 15 = true ∧ u.claimed = true ∧ beAt p 8 2 % 1024 = u.nodeId ∧ beAt p 0 8 ≠ u.serial) ∧
    (∃ (s : State) (n : Fin 8) (t : _), s.runs ∧ s.dev.ropReceives n = true ∧ s.dev.draining 14 = false ∧ (s.dev.ropP n).hailAt = some t) ∧
    (∃ (s : State) (n : Fin 8) (t : _), s.runs ∧ (s.dev.ropP n).heardAt = some t) ∧
    (∃ (s : State) (n : Fin 8) (b : List Byte) (u : _), s.runs ∧ s.dev.RopeGood n b ∧ u = s.dev.access domRope cliFab ∧ hdrKind b = kLsr ∧
      u.is (R.ROP_Pn_STATUS_TWO_WAY n) = false) ∧
    (∃ (s : State) (n : Fin 8) (b : List Byte) (r : _) (u : _) (o : Lsr), s.runs ∧ s.dev.RopeGood n b ∧ u = s.dev.access domRope cliFab ∧
      hdrKind b = kLsr ∧ r = lsrOf (ropBody b) u.ticks ∧ u.is (R.ROP_Pn_STATUS_TWO_WAY n) = true ∧ u.claimed = true ∧ r.id = u.nodeId ∧
      r.serial = u.serial ∧ u.rop.own = some o ∧ 1 ≤ seqSub r.seq o.seq ∧ seqSub r.seq o.seq < 2 ^ 31) ∧
    (∃ (s : State) (n : Fin 8) (b : List Byte) (r : _) (u : _), s.runs ∧ s.dev.RopeGood n b ∧ u = s.dev.access domRope cliFab ∧ hdrKind b = kLsr ∧
      r = lsrOf (ropBody b) u.ticks ∧ u.is (R.ROP_Pn_STATUS_TWO_WAY n) = true ∧ ((u.claimed = true → r.id ≠ u.nodeId)) ∧
      u.is R.ROP_STATUS_NO_ID = false ∧ ((∀ o, u.rop.db.find? (fun x => x.id == r.id && x.serial == r.serial) = some o → 1 ≤ seqSub r.seq o.seq ∧
      seqSub r.seq o.seq < 2 ^ 31)) ∧ (bit r.flags 7 = true ∨ u.records.length < 2048)) ∧
    (∃ (s : State) (n : Fin 8) (b : List Byte) (r : _) (u : _), s.runs ∧ s.dev.RopeGood n b ∧ u = s.dev.access domRope cliFab ∧ hdrKind b = kLsr ∧
      r = lsrOf (ropBody b) u.ticks ∧ u.is (R.ROP_Pn_STATUS_TWO_WAY n) = true ∧ ((u.claimed = true → r.id ≠ u.nodeId)) ∧
      u.is R.ROP_STATUS_NO_ID = false ∧ u.rop.db.find? (fun x => x.id == r.id && x.serial == r.serial) = none ∧ bit r.flags 7 = false ∧
      2048 ≤ u.records.length) ∧
    (∃ (s : State) (n : Fin 8) (b : List Byte) (r : _) (u : _) (o : Lsr), s.runs ∧ s.dev.RopeGood n b ∧ u = s.dev.access domRope cliFab ∧
      hdrKind b = kLsr ∧ r = lsrOf (ropBody b) u.ticks ∧ u.is (R.ROP_Pn_STATUS_TWO_WAY n) = true ∧ ((u.claimed = true → r.id ≠ u.nodeId)) ∧
      u.is R.ROP_STATUS_NO_ID = false ∧ u.rop.db.find? (fun x => x.id == r.id && x.serial == r.serial) = some o ∧
      (seqSub r.seq o.seq = 0 ∨ 2 ^ 31 ≤ seqSub r.seq o.seq)) ∧
    (∃ (s : State) (n : Fin 8) (b : List Byte) (r : _) (u : _), s.runs ∧ s.dev.RopeGood n b ∧ u = s.dev.access domRope cliFab ∧ hdrKind b = kLsr ∧
      r = lsrOf (ropBody b) u.ticks ∧ u.is (R.ROP_Pn_STATUS_TWO_WAY n) = true ∧ u.claimed = true ∧ r.id = u.nodeId ∧ r.serial ≠ u.serial ∧
      bit r.flags 7 = false ∧ u.records.length < 2048 ∧ u.rop.db.find? (fun x => x.id == r.id && x.serial == r.serial) = none) ∧
    (∃ (s : State) (o : Lsr), s.runs ∧ s.dev.rop.own = some o ∧ s.dev.claimed = true) ∧
    (∃ (s : State) (t : _), s.runs ∧ (s.dev.rop.db.map fun r => r.since + (800 - r.age) * 10 * msTicks).min? = some t ∧
      s.dev.is R.ROP_STATUS_NO_ID = false) ∧
    (∃ (s : State) (u : _) (a : _) (id : _), s.runs ∧ s.dev.rop.running = true ∧ s.dev.claimed = false ∧ s.dev.is R.ROP_STATUS_NO_ID = false ∧
      u = s.dev.until_ (s.dev.rop.settleFrom + s.dev.get R.ROP_CFG_SETTLE * msTicks) ∧ u.chooseId 0 = some (a, id)) ∧
    (∃ (s : State) (u : _), s.runs ∧ s.dev.rop.running = true ∧ s.dev.claimed = false ∧ s.dev.is R.ROP_STATUS_NO_ID = false ∧
      u = s.dev.until_ (s.dev.rop.settleFrom + s.dev.get R.ROP_CFG_SETTLE * msTicks) ∧ u.chooseId 0 = none) ∧
    (∃ (s : State) (t : _), s.runs ∧ s.dev.rop.changed = some t) ∧
    (∃ (s : State), s.runs ∧ s.dev.open_ R.ROP_CTL ∧ s.dev.relay = true ∧ s.dev.get R.ROP_RELAY_STATUS_STATE ≠ 0) ∧
    (∃ (s : State), s.runs ∧ s.dev.open_ R.ROP_CTL ∧ (s.dev.relay = false ∨ s.dev.get R.ROP_RELAY_STATUS_STATE = 0)) :=
  ⟨⟨(wst [svc, fun d => { d with rop := { d.rop with running := true } }, fun d => d.set (R.LAN_x_CFG_USE (8 + (3 : Fin 8))) 2,
    fun d => d.set (R.LAN_x_STATUS_STATE (8 + (3 : Fin 8))) 5, fun d => d.set (R.LAN_x_STATUS_STATE (8 + (3 : Fin 8))) 4]), (3 : Fin 8),
    (let x : List Byte := ropeHeader kData 5 3 9 0 0 false 0 0 ++ [1,2,3,4]; x ++ fcs x : List Byte),
    (Instr.hailRx (3 : Fin 8) (let x : List Byte := ropeHeader kData 5 3 9 0 0 false 0 0 ++ [1,2,3,4]; x ++ fcs x : List Byte)), rfl,
    by decide +kernel⟩,
   ⟨(wst [svc, fun d => { d with rop := { d.rop with running := true } }, fun d => d.set (R.LAN_x_CFG_USE (8 + (3 : Fin 8))) 2,
     fun d => d.set (R.LAN_x_STATUS_STATE (8 + (3 : Fin 8))) 5]), (3 : Fin 8), (List.replicate 20 0 : List Byte),
     (Instr.lsrRx (3 : Fin 8) (List.replicate 20 0 : List Byte)), rfl, by decide +kernel⟩,
   ⟨(wst [svc, fun d => { d with rop := { d.rop with running := true } }, fun d => d.set (R.LAN_x_CFG_USE (8 + (3 : Fin 8))) 2,
     fun d => d.set (R.LAN_x_STATUS_STATE (8 + (3 : Fin 8))) 5]), (3 : Fin 8),
     (let x : List Byte := ropeHeader kData 5 3 9 0 0 false 0 0 ++ [1,2,3,4]; x ++ [0, 0, 0, 0] : List Byte),
     (Instr.ropeFrameRx (3 : Fin 8) (let x : List Byte := ropeHeader kData 5 3 9 0 0 false 0 0 ++ [1,2,3,4]; x ++ [0, 0, 0, 0] : List Byte)), rfl,
     by decide +kernel⟩,
   ⟨(wst [svc, fun d => { d with rop := { d.rop with running := true } }, fun d => d.set (R.LAN_x_CFG_USE (8 + (3 : Fin 8))) 2,
     fun d => d.set (R.LAN_x_STATUS_STATE (8 + (3 : Fin 8))) 5]), (3 : Fin 8),
     (let x : List Byte := ropeHeader kHail 5 3 9 0 0 false 0 0 ++ (be 8 0x99 ++ be 2 (2 ^ 15 + 12) ++ List.replicate 38 0); x ++ fcs x : List Byte),
     rfl, ropeGood (by decide +kernel), by decide +kernel⟩,
   ⟨(wst [svc, fun d => { d with rop := { d.rop with running := true } }, fun d => d.set (R.LAN_x_CFG_USE (8 + (3 : Fin 8))) 2,
     fun d => d.set (R.LAN_x_STATUS_STATE (8 + (3 : Fin 8))) 5]), (3 : Fin 8),
     (let x : List Byte := ropeHeader kLsr 5 3 9 0 0 false 0 0 ++ (be 2 12 ++ be 8 0x99 ++ be 4 5 ++ be 2 0 ++ be 1 0 ++ be 1 0); x ++ fcs x : List Byte), rfl, ropeGood (by decide +kernel), by decide +kernel⟩,
   ⟨(wst [fld (R.ROP_Pn_STATUS_ADJ_UP (3 : Fin 8)) 0, svc, fun d => { d with rop := { d.rop with running := true } },
     fun d => d.set (R.LAN_x_CFG_USE (8 + (3 : Fin 8))) 2, fun d => d.set (R.LAN_x_STATUS_STATE (8 + (3 : Fin 8))) 5]), (3 : Fin 8),
     (let x : List Byte := ropeHeader kData 5 3 9 0 0 false 0 0 ++ [1,2,3,4]; x ++ fcs x : List Byte), _, rfl, ropeGood (by decide +kernel), rfl,
     by decide +kernel⟩,
   ⟨(wst [fld (R.ROP_Pn_STATUS_ADJ_UP (3 : Fin 8)) 1, svc, fun d => { d with rop := { d.rop with running := true } },
     fun d => d.set (R.LAN_x_CFG_USE (8 + (3 : Fin 8))) 2, fun d => d.set (R.LAN_x_STATUS_STATE (8 + (3 : Fin 8))) 5,
     fun d => (d.set R.ROP_STATUS_CLAIMED 1).set R.ROP_STATUS_NODE_ID 5, fld (R.ROP_Pn_STATUS_ADJ_UP (3 : Fin 8)) 1]), (3 : Fin 8),
     (let x : List Byte := ropeHeader kData 5 3 9 0 0 false 0 0 ++ [1,2,3,4]; x ++ fcs x : List Byte), _, rfl, ropeGood (by decide +kernel), rfl,
     by decide +kernel⟩,
   ⟨(wst [fld (R.ROP_Pn_STATUS_ADJ_UP (3 : Fin 8)) 1, svc, fun d => { d with rop := { d.rop with running := true } },
     fun d => d.set (R.LAN_x_CFG_USE (8 + (3 : Fin 8))) 2, fun d => d.set (R.LAN_x_STATUS_STATE (8 + (3 : Fin 8))) 5,
     fun d => (d.set R.ROP_STATUS_CLAIMED 1).set R.ROP_STATUS_NODE_ID 5, fld (R.ROP_Pn_STATUS_ADJ_UP (3 : Fin 8)) 1]), (3 : Fin 8),
     (let x : List Byte := ropeHeader kRelayDown 5 3 9 0 0 false 0 0 ++ [1,2,3,4]; x ++ fcs x : List Byte), _, rfl, ropeGood (by decide +kernel),
     rfl, by decide +kernel⟩,
   ⟨(wst [fld (R.ROP_Pn_STATUS_ADJ_UP (3 : Fin 8)) 1, fld R.ROP_CFG_RELAY_SERVER 1, svc, fun d => { d with rop := { d.rop with running := true } },
     fun d => d.set (R.LAN_x_CFG_USE (8 + (3 : Fin 8))) 2, fun d => d.set (R.LAN_x_STATUS_STATE (8 + (3 : Fin 8))) 5,
     fun d => (d.set R.ROP_STATUS_CLAIMED 1).set R.ROP_STATUS_NODE_ID 5, fld (R.ROP_Pn_STATUS_ADJ_UP (3 : Fin 8)) 1, fld R.ROP_CFG_RELAY_SERVER 1]),
     (3 : Fin 8), (let x : List Byte := ropeHeader kRelayUp 5 3 9 0 0 false 0 0 ++ [1,2,3,4]; x ++ fcs x : List Byte), _, rfl,
     ropeGood (by decide +kernel), rfl, by decide +kernel⟩,
   ⟨(wst [fld (R.ROP_Pn_STATUS_ADJ_UP (3 : Fin 8)) 1, fld R.ROP_CFG_RELAY_SERVER 0, svc, fun d => { d with rop := { d.rop with running := true } },
     fun d => d.set (R.LAN_x_CFG_USE (8 + (3 : Fin 8))) 2, fun d => d.set (R.LAN_x_STATUS_STATE (8 + (3 : Fin 8))) 5,
     fun d => (d.set R.ROP_STATUS_CLAIMED 1).set R.ROP_STATUS_NODE_ID 5, fld (R.ROP_Pn_STATUS_ADJ_UP (3 : Fin 8)) 1]), (3 : Fin 8),
     (let x : List Byte := ropeHeader kRelayUp 5 3 9 0 0 false 0 0 ++ [1,2,3,4]; x ++ fcs x : List Byte), _, rfl, ropeGood (by decide +kernel), rfl,
     by decide +kernel⟩,
   ⟨(wst [fld (R.ROP_Pn_STATUS_ADJ_UP (3 : Fin 8)) 1, svc, fun d => { d with rop := { d.rop with running := true } },
     fun d => d.set (R.LAN_x_CFG_USE (8 + (3 : Fin 8))) 2, fun d => d.set (R.LAN_x_STATUS_STATE (8 + (3 : Fin 8))) 5,
     fun d => (d.set R.ROP_STATUS_CLAIMED 1).set R.ROP_STATUS_NODE_ID 5, fld (R.ROP_Pn_STATUS_ADJ_UP (3 : Fin 8)) 1]), (3 : Fin 8),
     (let x : List Byte := ropeHeader kMsg 5 3 9 0 0 false 0 0 ++ [0,9,0,0,1]; x ++ fcs x : List Byte), _, rfl, ropeGood (by decide +kernel), rfl,
     by decide +kernel⟩,
   ⟨(wst [fld (R.ROP_Pn_STATUS_ADJ_UP (3 : Fin 8)) 1, svc, fun d => { d with rop := { d.rop with running := true } },
     fun d => d.set (R.LAN_x_CFG_USE (8 + (3 : Fin 8))) 2, fun d => d.set (R.LAN_x_STATUS_STATE (8 + (3 : Fin 8))) 5,
     fun d => (d.set R.ROP_STATUS_CLAIMED 1).set R.ROP_STATUS_NODE_ID 5, fld (R.ROP_Pn_STATUS_ADJ_UP (3 : Fin 8)) 1]), (3 : Fin 8),
     (let x : List Byte := ropeHeader kTwin 5 3 9 0 0 false 0 0 ++ (List.replicate 16 0); x ++ fcs x : List Byte), _, rfl,
     ropeGood (by decide +kernel), rfl, by decide +kernel⟩,
   ⟨(wst [fld (R.ROP_Pn_STATUS_ADJ_UP (3 : Fin 8)) 1, svc, fun d => { d with rop := { d.rop with running := true } },
     fun d => d.set (R.LAN_x_CFG_USE (8 + (3 : Fin 8))) 2, fun d => d.set (R.LAN_x_STATUS_STATE (8 + (3 : Fin 8))) 5,
     fun d => (d.set R.ROP_STATUS_CLAIMED 1).set R.ROP_STATUS_NODE_ID 5, fld (R.ROP_Pn_STATUS_ADJ_UP (3 : Fin 8)) 1]), (3 : Fin 8),
     (let x : List Byte := ropeHeader kReferee 5 3 9 0 0 false 0 0 ++ (List.replicate 16 0); x ++ fcs x : List Byte), _, rfl,
     ropeGood (by decide +kernel), rfl, by decide +kernel⟩,
   ⟨(wst [fld (R.ROP_Pn_STATUS_ADJ_UP (3 : Fin 8)) 1, svc, fun d => { d with rop := { d.rop with running := true } },
     fun d => d.set (R.LAN_x_CFG_USE (8 + (3 : Fin 8))) 2, fun d => d.set (R.LAN_x_STATUS_STATE (8 + (3 : Fin 8))) 5,
     fld (R.ROP_Pn_STATUS_ADJ_UP (3 : Fin 8)) 1]), (3 : Fin 8),
     (let x : List Byte := ropeHeader kData 5 3 1 0 0 false 0 0 ++ [1,2,3,4]; x ++ fcs x : List Byte), _, rfl, ropeGood (by decide +kernel), rfl,
     by decide +kernel⟩,
   ⟨(wst [fld (R.ROP_Pn_STATUS_ADJ_UP (3 : Fin 8)) 1, svc, fun d => { d with rop := { d.rop with running := true } },
     fun d => d.set (R.LAN_x_CFG_USE (8 + (3 : Fin 8))) 2, fun d => d.set (R.LAN_x_STATUS_STATE (8 + (3 : Fin 8))) 5,
     fld (R.ROP_Pn_STATUS_ADJ_UP (3 : Fin 8)) 1]), (3 : Fin 8),
     (let x : List Byte := ropeHeader kData 5 3 9 0 0 false 0 0 ++ [1,2,3,4]; x ++ fcs x : List Byte), _, rfl, ropeGood (by decide +kernel), rfl,
     by decide +kernel⟩,
   ⟨(wst [fld (R.ROP_Pn_STATUS_ADJ_UP (3 : Fin 8)) 1, svc, fun d => { d with rop := { d.rop with running := true } },
     fun d => d.set (R.LAN_x_CFG_USE (8 + (3 : Fin 8))) 2, fun d => d.set (R.LAN_x_STATUS_STATE (8 + (3 : Fin 8))) 5,
     fld (R.ROP_Pn_STATUS_ADJ_UP (3 : Fin 8)) 1, fun d => { d with rop := { d.rop with routes := [(5, (Route.mk 2 none 5 77))] } }]), (3 : Fin 8),
     (let x : List Byte := ropeHeader kReferee 5 3 9 0 0 false 0 0 ++ [1,2,3,4]; x ++ fcs x : List Byte), _, (Route.mk 2 none 5 77), rfl,
     ropeGood (by decide +kernel), rfl, by decide +kernel⟩,
   ⟨(wst [fld (R.ROP_Pn_STATUS_ADJ_UP (3 : Fin 8)) 1, svc, fun d => { d with rop := { d.rop with running := true } },
     fun d => d.set (R.LAN_x_CFG_USE (8 + (3 : Fin 8))) 2, fun d => d.set (R.LAN_x_STATUS_STATE (8 + (3 : Fin 8))) 5,
     fld (R.ROP_Pn_STATUS_ADJ_UP (3 : Fin 8)) 1, fun d => { d with rop := { d.rop with routes := [(5, (Route.mk 2 none 5 77))] } },
     fld (R.SCH_Qn_CFG_EGRESS 6) 11]), (3 : Fin 8), (let x : List Byte := ropeHeader kData 5 3 9 0 0 false 0 0 ++ [1,2,3,4]; x ++ fcs x : List Byte),
     _, (Route.mk 2 none 5 77), _, (6:Nat), rfl, ropeGood (by decide +kernel), rfl, by decide +kernel, by decide +kernel, by decide +kernel,
     by decide +kernel, by decide +kernel, by decide +kernel, by decide +kernel, rfl, by decide +kernel⟩,
   ⟨(wst [fld (R.ROP_Pn_STATUS_ADJ_UP (3 : Fin 8)) 1, svc, fun d => { d with rop := { d.rop with running := true } },
     fun d => d.set (R.LAN_x_CFG_USE (8 + (3 : Fin 8))) 2, fun d => d.set (R.LAN_x_STATUS_STATE (8 + (3 : Fin 8))) 5,
     fld (R.ROP_Pn_STATUS_ADJ_UP (3 : Fin 8)) 1, fun d => { d with rop := { d.rop with routes := [(5, (Route.mk 2 none 5 77))] } }]), (3 : Fin 8),
     (let x : List Byte := ropeHeader kData 5 3 9 0 0 false 0 0 ++ [1,2,3,4]; x ++ fcs x : List Byte), _, (Route.mk 2 none 5 77), _, rfl,
     ropeGood (by decide +kernel), rfl, by decide +kernel, by decide +kernel, by decide +kernel, by decide +kernel, by decide +kernel,
     by decide +kernel, by decide +kernel, rfl, by decide +kernel, no_queue (by decide +kernel)⟩,
   ⟨(wst [svc, fun d => { d with rop := { d.rop with running := true } }, fun d => d.set (R.LAN_x_CFG_USE (8 + (3 : Fin 8))) 2,
     fun d => d.set (R.LAN_x_STATUS_STATE (8 + (3 : Fin 8))) 5, fun d => (d.set R.ROP_STATUS_CLAIMED 1).set R.ROP_STATUS_NODE_ID 7]), (3 : Fin 8),
     (let x : List Byte := ropeHeader kHail 5 3 9 0 0 false 0 0 ++ (be 8 0x99 ++ be 2 (2 ^ 15 + 12) ++ List.replicate 38 0); x ++ fcs x : List Byte),
     _, _, rfl, ropeGood (by decide +kernel), rfl, by decide +kernel, rfl, by decide +kernel⟩,
   ⟨(wst [svc, fun d => { d with rop := { d.rop with running := true } }, fun d => d.set (R.LAN_x_CFG_USE (8 + (3 : Fin 8))) 2,
     fun d => d.set (R.LAN_x_STATUS_STATE (8 + (3 : Fin 8))) 5, fun d => (d.set R.ROP_STATUS_CLAIMED 1).set R.ROP_STATUS_NODE_ID 5,
     fun d => { d with regs := sinsert (R.PLT_SERIAL_LO + 4) 0 (sinsert R.PLT_SERIAL_LO 0xFFFF d.regs) }]), (3 : Fin 8),
     (let x : List Byte := ropeHeader kHail 5 3 9 0 0 false 0 0 ++ (be 8 0x99 ++ be 2 (2 ^ 15 + 5) ++ List.replicate 38 0); x ++ fcs x : List Byte),
     _, _, rfl, ropeGood (by decide +kernel), rfl, by decide +kernel, rfl, by decide +kernel⟩,
   ⟨(wst [svc, fun d => { d with rop := { d.rop with running := true } }, fun d => d.set (R.LAN_x_CFG_USE (8 + (3 : Fin 8))) 2,
     fun d => d.set (R.LAN_x_STATUS_STATE (8 + (3 : Fin 8))) 5, fun d => d.setRopP (3 : Fin 8) { d.ropP (3 : Fin 8) with hailAt := some 500 }]),
     (3 : Fin 8), 500, rfl, by decide +kernel⟩,
   ⟨(wst [svc, fun d => { d with rop := { d.rop with running := true } }, fun d => d.set (R.LAN_x_CFG_USE (8 + (3 : Fin 8))) 2,
     fun d => d.set (R.LAN_x_STATUS_STATE (8 + (3 : Fin 8))) 5, fun d => d.setRopP (3 : Fin 8) { d.ropP (3 : Fin 8) with heardAt := some 500 },
     fld (R.ROP_Pn_STATUS_TWO_WAY (3 : Fin 8)) 1, fld (R.ROP_Pn_STATUS_ADJ_UP (3 : Fin 8)) 1]), (3 : Fin 8), 500, rfl, by decide +kernel⟩,
   ⟨(wst [fld (R.ROP_Pn_STATUS_TWO_WAY (3 : Fin 8)) 0, svc, fun d => { d with rop := { d.rop with running := true } },
     fun d => d.set (R.LAN_x_CFG_USE (8 + (3 : Fin 8))) 2, fun d => d.set (R.LAN_x_STATUS_STATE (8 + (3 : Fin 8))) 5]), (3 : Fin 8),
     (let x : List Byte := ropeHeader kLsr 5 3 9 0 0 false 0 0 ++ (be 2 12 ++ be 8 0x99 ++ be 4 5 ++ be 2 0 ++ be 1 0 ++ be 1 0); x ++ fcs x : List Byte), _, rfl, ropeGood (by decide +kernel), rfl, by decide +kernel⟩,
   ⟨(wst [fld (R.ROP_Pn_STATUS_TWO_WAY (3 : Fin 8)) 1, fun d => { d with rop := { d.rop with own := some (Lsr.mk 5 0xFFFF 3 0 0 0 []) } }, svc,
     fun d => { d with rop := { d.rop with running := true } }, fun d => d.set (R.LAN_x_CFG_USE (8 + (3 : Fin 8))) 2,
     fun d => d.set (R.LAN_x_STATUS_STATE (8 + (3 : Fin 8))) 5, fun d => (d.set R.ROP_STATUS_CLAIMED 1).set R.ROP_STATUS_NODE_ID 5,
     fun d => { d with regs := sinsert (R.PLT_SERIAL_LO + 4) 0 (sinsert R.PLT_SERIAL_LO 0xFFFF d.regs) },
     fld (R.ROP_Pn_STATUS_TWO_WAY (3 : Fin 8)) 1, fun d => { d with rop := { d.rop with own := some (Lsr.mk 5 0xFFFF 3 0 0 0 []) } }]), (3 : Fin 8),
     (let x : List Byte := ropeHeader kLsr 5 3 9 0 0 false 0 0 ++ (be 2 5 ++ be 8 0xFFFF ++ be 4 5 ++ be 2 0 ++ be 1 0 ++ be 1 0); x ++ fcs x : List Byte), _, _, (Lsr.mk 5 0xFFFF 3 0 0 0 []), rfl, ropeGood (by decide +kernel), rfl, by decide +kernel, rfl, by decide +kernel⟩,
   ⟨(wst [fld (R.ROP_Pn_STATUS_TWO_WAY (3 : Fin 8)) 1, fld R.ROP_STATUS_NO_ID 0, svc, fun d => { d with rop := { d.rop with running := true } },
     fun d => d.set (R.LAN_x_CFG_USE (8 + (3 : Fin 8))) 2, fun d => d.set (R.LAN_x_STATUS_STATE (8 + (3 : Fin 8))) 5,
     fld (R.ROP_Pn_STATUS_TWO_WAY (3 : Fin 8)) 1, fld (R.ROP_Pn_STATUS_TWO_WAY 1) 1]), (3 : Fin 8),
     (let x : List Byte := ropeHeader kLsr 5 3 9 0 0 false 0 0 ++ (be 2 12 ++ be 8 0x99 ++ be 4 5 ++ be 2 0 ++ be 1 0 ++ be 1 0); x ++ fcs x : List Byte), _, _, rfl, ropeGood (by decide +kernel), rfl, by decide +kernel, rfl, by decide +kernel⟩,
   ⟨(wst [fld (R.ROP_Pn_STATUS_TWO_WAY (3 : Fin 8)) 1, fld R.ROP_STATUS_NO_ID 0, svc, fun d => { d with rop := { d.rop with running := true } },
     fun d => d.set (R.LAN_x_CFG_USE (8 + (3 : Fin 8))) 2, fun d => d.set (R.LAN_x_STATUS_STATE (8 + (3 : Fin 8))) 5,
     fld (R.ROP_Pn_STATUS_TWO_WAY (3 : Fin 8)) 1,
     fun d => { d with rop := { d.rop with db := (List.range 2048).map fun i => Lsr.mk i 0x98 9 0 100 0 [] } }]), (3 : Fin 8),
     (let x : List Byte := ropeHeader kLsr 5 3 9 0 0 false 0 0 ++ (be 2 12 ++ be 8 0x99 ++ be 4 5 ++ be 2 0 ++ be 1 0 ++ be 1 0); x ++ fcs x : List Byte), _, _, rfl, ropeGood (by decide +kernel), rfl, by decide +kernel, rfl, by decide +kernel⟩,
   ⟨(wst [fld (R.ROP_Pn_STATUS_TWO_WAY (3 : Fin 8)) 1, fld R.ROP_STATUS_NO_ID 0, svc, fun d => { d with rop := { d.rop with running := true } },
     fun d => d.set (R.LAN_x_CFG_USE (8 + (3 : Fin 8))) 2, fun d => d.set (R.LAN_x_STATUS_STATE (8 + (3 : Fin 8))) 5,
     fld (R.ROP_Pn_STATUS_TWO_WAY (3 : Fin 8)) 1, fun d => { d with rop := { d.rop with db := [(Lsr.mk 12 0x99 9 0 0 0 [])] } }]), (3 : Fin 8),
     (let x : List Byte := ropeHeader kLsr 5 3 9 0 0 false 0 0 ++ (be 2 12 ++ be 8 0x99 ++ be 4 5 ++ be 2 0 ++ be 1 0 ++ be 1 0); x ++ fcs x : List Byte), _, _, (Lsr.mk 12 0x99 9 0 0 0 []), rfl, ropeGood (by decide +kernel), rfl, by decide +kernel, rfl, by decide +kernel⟩,
   ⟨(wst [fld (R.ROP_Pn_STATUS_TWO_WAY (3 : Fin 8)) 1, svc, fun d => { d with rop := { d.rop with running := true } },
     fun d => d.set (R.LAN_x_CFG_USE (8 + (3 : Fin 8))) 2, fun d => d.set (R.LAN_x_STATUS_STATE (8 + (3 : Fin 8))) 5,
     fun d => (d.set R.ROP_STATUS_CLAIMED 1).set R.ROP_STATUS_NODE_ID 5,
     fun d => { d with regs := sinsert (R.PLT_SERIAL_LO + 4) 0 (sinsert R.PLT_SERIAL_LO 0xFFFF d.regs) },
     fld (R.ROP_Pn_STATUS_TWO_WAY (3 : Fin 8)) 1]), (3 : Fin 8),
     (let x : List Byte := ropeHeader kLsr 5 3 9 0 0 false 0 0 ++ (be 2 5 ++ be 8 0x1FFFF ++ be 4 5 ++ be 2 0 ++ be 1 0 ++ be 1 0); x ++ fcs x : List Byte), _, _, rfl, ropeGood (by decide +kernel), rfl, by decide +kernel, rfl, by decide +kernel⟩,
   ⟨(wst [fun d => { d with rop := { d.rop with own := some (Lsr.mk 7 0 9 0 100 0 []) } }, svc,
     fun d => { d with rop := { d.rop with running := true } }, fun d => d.set (R.LAN_x_CFG_USE (8 + (3 : Fin 8))) 2,
     fun d => d.set (R.LAN_x_STATUS_STATE (8 + (3 : Fin 8))) 5, fun d => (d.set R.ROP_STATUS_CLAIMED 1).set R.ROP_STATUS_NODE_ID 7,
     fun d => { d with rop := { d.rop with own := some (Lsr.mk 7 0 9 0 100 0 []) } }]), (Lsr.mk 7 0 9 0 100 0 []), rfl, by decide +kernel⟩,
   ⟨(wst [fld R.ROP_STATUS_NO_ID 0, svc, fun d => { d with rop := { d.rop with running := true } },
     fun d => d.set (R.LAN_x_CFG_USE (8 + (3 : Fin 8))) 2, fun d => d.set (R.LAN_x_STATUS_STATE (8 + (3 : Fin 8))) 5,
     fun d => { d with rop := { d.rop with db := [Lsr.mk 12 0x99 9 0 100 0 []] } }]), (100 + 800 * 10 * msTicks), rfl, by decide +kernel⟩,
   ⟨(wst [fun d => { d with rop := { d.rop with running := true } }, fld R.ROP_STATUS_NO_ID 0, svc,
     fun d => { d with rop := { d.rop with running := true } }, fun d => d.set (R.LAN_x_CFG_USE (8 + (3 : Fin 8))) 2,
     fun d => d.set (R.LAN_x_STATUS_STATE (8 + (3 : Fin 8))) 5,
     fun d => { d with regs := sinsert (R.PLT_SERIAL_LO + 4) 0 (sinsert R.PLT_SERIAL_LO 0xFFFF d.regs) }]), _, 0,
     (ropHash ((wst [fun d => { d with rop := { d.rop with running := true } }, fld R.ROP_STATUS_NO_ID 0, svc,
     fun d => { d with rop := { d.rop with running := true } }, fun d => d.set (R.LAN_x_CFG_USE (8 + (3 : Fin 8))) 2,
     fun d => d.set (R.LAN_x_STATUS_STATE (8 + (3 : Fin 8))) 5,
     fun d => { d with regs := sinsert (R.PLT_SERIAL_LO + 4) 0 (sinsert R.PLT_SERIAL_LO 0xFFFF d.regs) }])).dev.serial 0), rfl, by decide +kernel,
     by decide +kernel, by decide +kernel, rfl, by decide +kernel⟩,
   ⟨(wst [fun d => { d with rop := { d.rop with running := true } }, fld R.ROP_STATUS_NO_ID 0, svc,
     fun d => { d with rop := { d.rop with running := true } }, fun d => d.set (R.LAN_x_CFG_USE (8 + (3 : Fin 8))) 2,
     fun d => d.set (R.LAN_x_STATUS_STATE (8 + (3 : Fin 8))) 5,
     fun d => { d with rop := { d.rop with db := (List.range 1024).map fun i => Lsr.mk i 0x99 9 0 100 0 [] } },
     fun d => { d with regs := sinsert (R.PLT_SERIAL_LO + 4) 0 (sinsert R.PLT_SERIAL_LO 0xFFFF d.regs) }]), _, rfl, by decide +kernel,
     by decide +kernel, by decide +kernel, rfl, no_id (by decide +kernel) (by decide +kernel)⟩,
   ⟨(wst [fun d => { d with rop := { d.rop with changed := some 40 } }, svc, fun d => { d with rop := { d.rop with running := true } },
     fun d => d.set (R.LAN_x_CFG_USE (8 + (3 : Fin 8))) 2, fun d => d.set (R.LAN_x_STATUS_STATE (8 + (3 : Fin 8))) 5,
     fun d => { d with rop := { d.rop with changed := some 40 } }]), 40, rfl, by decide +kernel⟩,
   ⟨(wst [fld R.ROP_RELAY_STATUS_STATE 1, svc, fun d => { d with rop := { d.rop with running := true } },
     fun d => d.set (R.LAN_x_CFG_USE (8 + (3 : Fin 8))) 2, fun d => d.set (R.LAN_x_STATUS_STATE (8 + (3 : Fin 8))) 5, fld R.LFE_STATUS_SOURCE 2,
     fld R.ROP_RELAY_STATUS_STATE 2]), rfl, opened (by decide +kernel), by decide +kernel⟩,
   ⟨(wst [svc, fun d => { d with rop := { d.rop with running := true } }, fun d => d.set (R.LAN_x_CFG_USE (8 + (3 : Fin 8))) 2,
     fun d => d.set (R.LAN_x_STATUS_STATE (8 + (3 : Fin 8))) 5]), rfl, opened (by decide +kernel), by decide +kernel⟩⟩
theorem witness_TwinMirror :
    (∃ (s : State) (c : _) (k : _) (p : _), s.runs ∧ s.dev.is R.TWN_CFG_EN = true ∧ s.dev.sup.mode.traffic = true ∧ ((c = Instr.mirrorHelloTimer ∧
      k = mHello ∧ p = s.dev.helloPayload s.dev.twn.ack) ∨ (c = .tribRecordTimer ∧ s.dev.role = .active ∧ k = mTrib ∧
      p = (List.range 16).flatMap (fun n => padTo 32 (s.dev.trbP n).last) ++ be 1 ((List.range 8).map fun n => b2n (s.dev.gpioOut n == some true) * 2 ^ n).sum))) ∧
    (∃ (s : State) (l : _), s.runs ∧ s.dev.is R.TWN_CFG_EN = true ∧ s.dev.role = .active ∧ l = s.dev.pnList.filter (fun x => sget (1,
      0) x.1 s.dev.twn.pnSent != (x.2.1, x.2.2)) ∧ l ≠ [] ∧ l.length ≤ 56) ∧
    (∃ (s : State) (seq : BitVec 32), s.runs ∧ s.dev.MirrorInOrder seq.toNat) ∧
    (∃ (s : State) (seq : BitVec 32) (b : List Byte) (v : Dev) (n : _) (t : _), s.runs ∧ v = s.dev.mirrorAt ∧ s.dev.MirrorInOrder seq.toNat ∧
      t = beAt b 60 1 ∧ beAt b 61 1 = 1 ∧ v.draining 10 = false ∧ v.keyed t = true ∧ v.keyOk t (slice b 0 40) = true ∧
      (Action.of (leAt b 40 20)).legal = true ∧ v.pendCount < 1048576 ∧ v.findEntry t (slice b 0 40) v.pendVer = none ∧
      v.freeSlot (v.buckets t (slice b 0 40)).1 = some n) ∧
    (∃ (s : State) (seq : BitVec 32) (b : List Byte), s.runs ∧ s.dev.MirrorInOrder seq.toNat ∧ beAt b 2 1 ≠ 0) ∧
    (∃ (s : State) (seq : BitVec 32) (b : List Byte), s.runs ∧ s.dev.MirrorInOrder seq.toNat ∧ beAt b 2 1 = 0) ∧
    (∃ (s : State) (seq : BitVec 32) (b : List Byte) (v : Dev) (i : _), s.runs ∧ v = s.dev.mirrorAt ∧ s.dev.MirrorInOrder seq.toNat ∧
      i = beAt b 0 2 % 4096 ∧ beAt b 2 1 = 0 ∧ v.draining 10 = false ∧ (Action.of (leAt b 83 20)).legal = true ∧ v.pendCount < 1048576 ∧
      v.hrow (2 * i) = none ∧ v.hrow (2 * i + 1) = none) ∧
    (∃ (s : State) (seq : BitVec 32) (b : List Byte) (e : _), s.runs ∧ s.dev.MirrorInOrder seq.toNat ∧ e = beAt b 0 1 ∧ e < 18 ∧ beAt b 1 1 = 2) ∧
    (∃ (s : State) (seq : BitVec 32) (b : List Byte) (v : Dev) (e : _), s.runs ∧ v = s.dev.mirrorAt ∧ s.dev.MirrorInOrder seq.toNat ∧
      e = beAt b 0 1 ∧ e < 18 ∧ beAt b 1 1 = 1 ∧ sget [] e v.twn.gcl = []) ∧
    (∃ (s : State) (seq : BitVec 32) (b : List Byte) (e : _), s.runs ∧ s.dev.MirrorInOrder seq.toNat ∧ e = beAt b 0 1 ∧ e < 18 ∧ beAt b 1 1 = 0) ∧
    (∃ (s : State) (seq : BitVec 32) (b : List Byte) (n : _), s.runs ∧ s.dev.MirrorInOrder seq.toNat ∧ beAt b 0 1 = 0 ∧ n = beAt b 1 12 ∧
      0x133627628 ≤ n ∧ n ≤ 0x134000000) ∧
    (∃ (s : State) (seq : BitVec 32) (b : List Byte) (n : _), s.runs ∧ s.dev.MirrorInOrder seq.toNat ∧ beAt b 0 1 = 0 ∧ n = beAt b 1 12 ∧
      (n < 0x133627628 ∨ 0x134000000 < n)) ∧
    (∃ (s : State) (seq : BitVec 32) (b : List Byte) (v : Dev) (w : Dev) (t : Nat), s.runs ∧ v = s.dev.mirrorAt ∧
      w = { v with twn := { v.twn with heardAt := some v.ticks, ack := seq.toNat } } ∧ s.dev.MirrorInOrder seq.toNat ∧ ((beAt b 0 1 = 2 ∧
      t = (beAt b 1 8 % 2 ^ 48 * 1000000000 + beAt b 9 4) * 2 ^ 32) ∨ (beAt b 0 1 = 1 ∧ ∃ x : Nat,
      ((w.elapse 1).tmb.time : Int) + (signed 48 (beAt b 1 8) * 1000000000 + signed 32 (beAt b 9 4)) * 2 ^ 32 = x ∧ t = x % timeWrap))) ∧
    (∃ (s : State) (seq : BitVec 32) (b : List Byte), s.runs ∧ s.dev.MirrorInOrder seq.toNat ∧ beAt b 0 4 % 16 = 2) ∧
    (∃ (s : State) (seq : BitVec 32) (b : List Byte), s.runs ∧ s.dev.MirrorInOrder seq.toNat ∧ beAt b 0 4 % 16 = 3) ∧
    (∃ (s : State) (seq : BitVec 32) (b : List Byte), s.runs ∧ s.dev.MirrorInOrder seq.toNat ∧ beAt b 0 4 % 16 = 1) ∧
    (∃ (s : State) (seq : BitVec 32) (b : List Byte) (v : Dev) (c : _), s.runs ∧ v = s.dev.mirrorAt ∧ s.dev.MirrorInOrder (seqNext v.twn.ack) ∧
      c ∈ [Instr.mirrorThkChange seq b, .mirrorThkCommit seq b, .mirrorHedge seq b, .mirrorGcl seq b, .mirrorTime seq b, .mirrorKey seq b,
      .mirrorPn seq b, .mirrorTrib seq b, .mirrorReg seq b, .bulkEnd seq] ∧ seq.toNat ≠ seqNext v.twn.ack ∧ seqSub seq.toNat v.twn.ack ≠ 0 ∧
      seqSub seq.toNat v.twn.ack < 2 ^ 31) ∧
    (∃ (s : State) (seq : BitVec 32) (b : List Byte) (v : Dev) (c : _), s.runs ∧ v = s.dev.mirrorAt ∧ s.dev.MirrorInOrder (seqNext v.twn.ack) ∧
      c ∈ [Instr.mirrorThkChange seq b, .mirrorThkCommit seq b, .mirrorHedge seq b, .mirrorGcl seq b, .mirrorTime seq b, .mirrorKey seq b,
      .mirrorPn seq b, .mirrorTrib seq b, .mirrorReg seq b, .bulkEnd seq] ∧ seq.toNat ≠ seqNext v.twn.ack ∧
      (seqSub seq.toNat v.twn.ack = 0 ∨ 2 ^ 31 ≤ seqSub seq.toNat v.twn.ack)) ∧
    (∃ (s : State), s.runs ∧ s.dev.MirrorAtStandby) ∧
    (∃ (s : State) (seq : BitVec 32) (v : Dev) (n : Nat) (held : List MirrorRec), s.runs ∧ v = s.dev.mirrorAt ∧ s.dev.MirrorAtStandby ∧
      v.mirrorState = mSyncing ∧ v.twn.bulk = some (n, held) ∧ seq.toNat = seqNext v.twn.ack) ∧
    (∃ (s : State) (seq : BitVec 32) (v : Dev) (n : Nat) (held : List MirrorRec), s.runs ∧ v = s.dev.mirrorAt ∧ s.dev.MirrorAtStandby ∧
      v.mirrorState = mSyncing ∧ v.twn.bulk = some (n, held) ∧ seq.toNat = seqNext v.twn.ack ∧ held = []) ∧
    (∃ (s : State) (seq : BitVec 32) (b : List Byte) (v : Dev) (n : Nat) (held : List MirrorRec) (c : _) (k : _), s.runs ∧ v = s.dev.mirrorAt ∧
      s.dev.MirrorAtStandby ∧ v.mirrorState = mSyncing ∧ v.twn.bulk = some (n, held) ∧ seq.toNat = seqNext v.twn.ack ∧
      ((c = Instr.mirrorThkChange seq b ∧ k = mThkChange) ∨ (c = .mirrorHedge seq b ∧ k = mHedge)) ∧ 0 < n) ∧
    (∃ (s : State) (seq : BitVec 32) (b : List Byte) (v : Dev) (n : Nat) (held : List MirrorRec) (c : _) (k : _), s.runs ∧ v = s.dev.mirrorAt ∧
      s.dev.MirrorAtStandby ∧ v.mirrorState = mSyncing ∧ v.twn.bulk = some (n, held) ∧ seq.toNat = seqNext v.twn.ack ∧
      ((c = Instr.mirrorThkChange seq b ∧ k = mThkChange) ∨ (c = .mirrorHedge seq b ∧ k = mHedge)) ∧ n = 0) ∧
    (∃ (s : State) (seq : BitVec 32) (b : List Byte) (v : Dev) (n : Nat) (held : List MirrorRec) (c : _) (k : _), s.runs ∧ v = s.dev.mirrorAt ∧
      s.dev.MirrorAtStandby ∧ v.mirrorState = mSyncing ∧ v.twn.bulk = some (n, held) ∧ seq.toNat = seqNext v.twn.ack ∧
      ((c = Instr.mirrorThkCommit seq b ∧ k = mThkCommit) ∨ (c = .mirrorTime seq b ∧ k = mTime) ∨ (c = .mirrorTrib seq b ∧ k = mTrib))) ∧
    (∃ (s : State) (seq : BitVec 32) (b : List Byte) (v : Dev) (n : Nat) (held : List MirrorRec) (c : _) (k : _), s.runs ∧ v = s.dev.mirrorAt ∧
      s.dev.MirrorAtStandby ∧ v.mirrorState = mSyncing ∧ v.twn.bulk = some (n, held) ∧ seq.toNat = seqNext v.twn.ack ∧ ((c = Instr.mirrorGcl seq b ∧
      k = mGcl) ∨ (c = .mirrorKey seq b ∧ k = mKey) ∨ (c = .mirrorPn seq b ∧ k = mPn) ∨ (c = .mirrorReg seq b ∧ k = mReg))) ∧
    (∃ (s : State) (b : List Byte) (v : Dev) (flags : BitVec 8) (m : _), s.runs ∧ v = s.dev.mirrorAt ∧ s.dev.mirrorPath = true ∧
      v.is R.TWN_CFG_EN = true ∧ v.sup.mode.traffic = true ∧ v.role = .active ∧ v.agrees (helloOf b) = true ∧ v.twn.withheld = [] ∧
      (helloOf b).role = Role.standby.code ∧ flags.toNat % 2 = 0 ∧ (helloOf b).seeks = false ∧ ((v.mirrorState = mDown ∧
      (helloOf b).mirror ≠ mSynced ∧ m = mSyncing) ∨ (v.mirrorState = mSyncing ∧ (helloOf b).mirror = mSynced ∧
      m = mSynced) ∨ (v.mirrorState = mSynced ∧ m = mSynced) ∨ (v.mirrorState = mLapsed ∧ m = mSynced))) ∧
    (∃ (s : State) (b : List Byte) (v : Dev) (flags : BitVec 8), s.runs ∧ v = s.dev.mirrorAt ∧ s.dev.mirrorPath = true ∧ v.is R.TWN_CFG_EN = true ∧
      v.sup.mode.traffic = true ∧ v.role = .active ∧ v.agrees (helloOf b) = true ∧ v.twn.withheld = [] ∧ (helloOf b).role = Role.standby.code ∧
      flags.toNat % 2 = 0 ∧ (helloOf b).seeks = false ∧ v.mirrorState = mDown ∧ (helloOf b).mirror = mSynced) ∧
    (∃ (s : State) (seq : BitVec 32) (b : List Byte) (v : Dev) (m : _) (a : Nat), s.runs ∧ v = s.dev.mirrorAt ∧ s.dev.mirrorPath = true ∧
      v.is R.TWN_CFG_EN = true ∧ v.sup.mode.traffic = true ∧ v.role = .standby ∧ v.agrees (helloOf b) = true ∧ (helloOf b).role = Role.active.code ∧
      seq.toNat = seqNext v.twn.ack ∧ ((v.mirrorState = mDown ∧ m = mSyncing ∧ a = 0) ∨ (v.mirrorState = mLapsed ∧ m = mSynced ∧ a = seq.toNat))) ∧
    (∃ (s : State) (b : List Byte) (v : Dev), s.runs ∧ v = s.dev.mirrorAt ∧ s.dev.mirrorPath = true ∧ v.is R.TWN_CFG_EN = true ∧
      v.sup.mode.traffic = true ∧ v.role = .active ∧ v.agrees (helloOf b) = false) ∧
    (∃ (s : State) (t : _), s.runs ∧ s.dev.twn.heardAt = some t ∧ s.dev.is R.TWN_CFG_EN = true ∧ s.dev.sup.mode.traffic = true) ∧
    (∃ (s : State) (x : Word), s.runs ∧
      (bit x.toNat 1 = false ∨ s.dev.is R.TWN_CFG_EN = false ∨ s.dev.twnMismatch = true ∨ s.dev.sup.mode.traffic = false)) ∧
    (∃ (s : State) (x : Word), s.runs ∧ bit x.toNat 1 = true ∧ s.dev.is R.TWN_CFG_EN = true ∧ s.dev.twnMismatch = false ∧
      s.dev.sup.mode.traffic = true ∧ s.dev.role = .standby) ∧
    (∃ (s : State) (x : Word), s.runs ∧ bit x.toNat 1 = true ∧ s.dev.is R.TWN_CFG_EN = true ∧ s.dev.twnMismatch = false ∧
      s.dev.sup.mode.traffic = true ∧ s.dev.role = .active) ∧
    (∃ (s : State) (t : _), s.runs ∧ (s.dev.twn.withheld.map (·.until_)).min? = some t) :=
  ⟨⟨(wst [fld R.TWN_CFG_EN 1, svc, svc, fld R.TWN_CFG_EN 1, fld (R.LAN_Gg_STATUS_UP 4) 1, fld R.TWN_STATUS_ROLE 1, fld R.TWN_CFG_ARBITER 0]),
    Instr.tribRecordTimer, mTrib, (List.range 16).flatMap (fun n => padTo 32 (((wst [fld R.TWN_CFG_EN 1, svc, svc, fld R.TWN_CFG_EN 1,
    fld (R.LAN_Gg_STATUS_UP 4) 1, fld R.TWN_STATUS_ROLE 1,
    fld R.TWN_CFG_ARBITER 0])).dev.trbP n).last) ++ be 1 ((List.range 8).map fun n => b2n (((wst [fld R.TWN_CFG_EN 1, svc, svc, fld R.TWN_CFG_EN 1,
    fld (R.LAN_Gg_STATUS_UP 4) 1, fld R.TWN_STATUS_ROLE 1, fld R.TWN_CFG_ARBITER 0])).dev.gpioOut n == some true) * 2 ^ n).sum, rfl,
    by decide +kernel⟩,
   ⟨(wst [fld R.TWN_CFG_EN 1, fld R.TWN_STATUS_ROLE (Role.code .active), svc, fld R.TWN_CFG_EN 1, fld (R.LAN_Gg_STATUS_UP 4) 1,
     fld R.TWN_STATUS_ROLE 1, fld R.TWN_CFG_ARBITER 0,
     fun d => { d with cph := { d.cph with slots := [(9, KeySlot.mk (some (Key.mk 5 0 false [7] [] [] [] 0)) none 5 6 0 0 false [])] } }]), _, rfl,
     by decide +kernel, by decide +kernel, rfl, by decide +kernel⟩,
   ⟨(wst [svc, fld R.TWN_CFG_EN 1, fld (R.LAN_Gg_STATUS_UP 4) 1, fld R.TWN_STATUS_ROLE 2, fld R.TWN_STATUS_PAIRED 1, fld R.TWN_STATUS_MIRROR mSynced,
     fun d => (d.set (R.THK_TMPLn_CFG_DEFINED 3) 1).set (R.THK_TMPLn_CFG_KLEN 3) 4, fld (R.THK_TMPLn_CFG_SIZE 3) 1]), (1 : BitVec 32), rfl,
     mirrored (by decide +kernel)⟩,
   ⟨(wst [svc, fld R.TWN_CFG_EN 1, fld (R.LAN_Gg_STATUS_UP 4) 1, fld R.TWN_STATUS_ROLE 2, fld R.TWN_STATUS_PAIRED 1, fld R.TWN_STATUS_MIRROR mSynced,
     fun d => (d.set (R.THK_TMPLn_CFG_DEFINED 3) 1).set (R.THK_TMPLn_CFG_KLEN 3) 4, fld (R.THK_TMPLn_CFG_SIZE 3) 1]), (1 : BitVec 32),
     (List.replicate 60 0 ++ [3, 1] : List Byte), _, ((wst [svc, fld R.TWN_CFG_EN 1, fld (R.LAN_Gg_STATUS_UP 4) 1, fld R.TWN_STATUS_ROLE 2,
     fld R.TWN_STATUS_PAIRED 1, fld R.TWN_STATUS_MIRROR mSynced, fun d => (d.set (R.THK_TMPLn_CFG_DEFINED 3) 1).set (R.THK_TMPLn_CFG_KLEN 3) 4,
     fld (R.THK_TMPLn_CFG_SIZE 3) 1])).dev.freeSlot (((wst [svc, fld R.TWN_CFG_EN 1, fld (R.LAN_Gg_STATUS_UP 4) 1, fld R.TWN_STATUS_ROLE 2,
     fld R.TWN_STATUS_PAIRED 1, fld R.TWN_STATUS_MIRROR mSynced, fun d => (d.set (R.THK_TMPLn_CFG_DEFINED 3) 1).set (R.THK_TMPLn_CFG_KLEN 3) 4,
     fld (R.THK_TMPLn_CFG_SIZE 3) 1])).dev.buckets 3 (slice (List.replicate 60 0 ++ [3, 1] : List Byte) 0 40)).1 |>.getD 0, _, rfl, rfl,
     mirrored (by decide +kernel), rfl, by decide +kernel⟩,
   ⟨(wst [svc, fld R.TWN_CFG_EN 1, fld (R.LAN_Gg_STATUS_UP 4) 1, fld R.TWN_STATUS_ROLE 2, fld R.TWN_STATUS_PAIRED 1,
     fld R.TWN_STATUS_MIRROR mSynced]), (1 : BitVec 32), ([0,7,1] : List Byte), rfl, mirrored (by decide +kernel), by decide +kernel⟩,
   ⟨(wst [svc, fld R.TWN_CFG_EN 1, fld (R.LAN_Gg_STATUS_UP 4) 1, fld R.TWN_STATUS_ROLE 2, fld R.TWN_STATUS_PAIRED 1,
     fld R.TWN_STATUS_MIRROR mSynced]), (1 : BitVec 32), ([0,7,0] ++ List.replicate 100 0 ++ [5,6,0,9] : List Byte), rfl,
     mirrored (by decide +kernel), by decide +kernel⟩,
   ⟨(wst [svc, fld R.TWN_CFG_EN 1, fld (R.LAN_Gg_STATUS_UP 4) 1, fld R.TWN_STATUS_ROLE 2, fld R.TWN_STATUS_PAIRED 1,
     fld R.TWN_STATUS_MIRROR mSynced]), (1 : BitVec 32), ([0,7,0] ++ List.replicate 100 0 ++ [5,6,0,9] : List Byte), _, _, rfl, rfl,
     mirrored (by decide +kernel), rfl, by decide +kernel⟩,
   ⟨(wst [svc, fld R.TWN_CFG_EN 1, fld (R.LAN_Gg_STATUS_UP 4) 1, fld R.TWN_STATUS_ROLE 2, fld R.TWN_STATUS_PAIRED 1,
     fld R.TWN_STATUS_MIRROR mSynced]), (1 : BitVec 32), ([3,2] ++ List.replicate 16 0 ++ [1,2,3,4] : List Byte), _, rfl,
     mirrored (by decide +kernel), rfl, by decide +kernel⟩,
   ⟨(wst [svc, fld R.TWN_CFG_EN 1, fld (R.LAN_Gg_STATUS_UP 4) 1, fld R.TWN_STATUS_ROLE 2, fld R.TWN_STATUS_PAIRED 1, fld R.TWN_STATUS_MIRROR mSynced,
     fld (R.SCH_Ee_STATUS_PEND_COMMITTED 3) 1]), (1 : BitVec 32), ([3,1] ++ List.replicate 16 0 : List Byte), _, _, rfl, rfl,
     mirrored (by decide +kernel), rfl, by decide +kernel⟩,
   ⟨(wst [svc, fld R.TWN_CFG_EN 1, fld (R.LAN_Gg_STATUS_UP 4) 1, fld R.TWN_STATUS_ROLE 2, fld R.TWN_STATUS_PAIRED 1,
     fld R.TWN_STATUS_MIRROR mSynced]), (1 : BitVec 32), ([3,0,0,2] ++ be 4 1000 ++ be 6 9 ++ be 4 77 ++ be 4 5 ++ be 4 6 : List Byte), _, rfl,
     mirrored (by decide +kernel), rfl, by decide +kernel⟩,
   ⟨(wst [svc, fld R.TWN_CFG_EN 1, fld (R.LAN_Gg_STATUS_UP 4) 1, fld R.TWN_STATUS_ROLE 2, fld R.TWN_STATUS_PAIRED 1,
     fld R.TWN_STATUS_MIRROR mSynced]), (1 : BitVec 32), (0 :: be 12 0x133627629 : List Byte), _, rfl, mirrored (by decide +kernel),
     by decide +kernel, rfl, by decide +kernel⟩,
   ⟨(wst [svc, fld R.TWN_CFG_EN 1, fld (R.LAN_Gg_STATUS_UP 4) 1, fld R.TWN_STATUS_ROLE 2, fld R.TWN_STATUS_PAIRED 1,
     fld R.TWN_STATUS_MIRROR mSynced]), (1 : BitVec 32), (0 :: be 12 5 : List Byte), _, rfl, mirrored (by decide +kernel), by decide +kernel, rfl,
     by decide +kernel⟩,
   ⟨(wst [svc, fld R.TWN_CFG_EN 1, fld (R.LAN_Gg_STATUS_UP 4) 1, fld R.TWN_STATUS_ROLE 2, fld R.TWN_STATUS_PAIRED 1,
     fld R.TWN_STATUS_MIRROR mSynced]), (1 : BitVec 32), (2 :: be 8 5 ++ be 4 7 : List Byte), _, _, ((5 * 1000000000 + 7) * 2 ^ 32 : Nat), rfl, rfl,
     rfl, mirrored (by decide +kernel), .inl (by decide +kernel)⟩,
   ⟨(wst [svc, fld R.TWN_CFG_EN 1, fld (R.LAN_Gg_STATUS_UP 4) 1, fld R.TWN_STATUS_ROLE 2, fld R.TWN_STATUS_PAIRED 1,
     fld R.TWN_STATUS_MIRROR mSynced]), (1 : BitVec 32), (be 4 (5 * 2 ^ 16 + 2) : List Byte), rfl, mirrored (by decide +kernel), by decide +kernel⟩,
   ⟨(wst [svc, fld R.TWN_CFG_EN 1, fld (R.LAN_Gg_STATUS_UP 4) 1, fld R.TWN_STATUS_ROLE 2, fld R.TWN_STATUS_PAIRED 1,
     fld R.TWN_STATUS_MIRROR mSynced]), (1 : BitVec 32), (be 4 3 : List Byte), rfl, mirrored (by decide +kernel), by decide +kernel⟩,
   ⟨(wst [svc, fld R.TWN_CFG_EN 1, fld (R.LAN_Gg_STATUS_UP 4) 1, fld R.TWN_STATUS_ROLE 2, fld R.TWN_STATUS_PAIRED 1,
     fld R.TWN_STATUS_MIRROR mSynced]), (1 : BitVec 32), (be 4 (5 * 2 ^ 16 + 1) ++ [3,1,2,3] : List Byte), rfl, mirrored (by decide +kernel),
     by decide +kernel⟩,
   ⟨(wst [svc, fld R.TWN_CFG_EN 1, fld (R.LAN_Gg_STATUS_UP 4) 1, fld R.TWN_STATUS_ROLE 2, fld R.TWN_STATUS_PAIRED 1,
     fld R.TWN_STATUS_MIRROR mSynced]), (3 : BitVec 32), ([] : List Byte), _, (Instr.mirrorReg (3 : BitVec 32) ([] : List Byte)), rfl, rfl,
     mirrored (by decide +kernel), by decide +kernel⟩,
   ⟨(wst [svc, fld R.TWN_CFG_EN 1, fld (R.LAN_Gg_STATUS_UP 4) 1, fld R.TWN_STATUS_ROLE 2, fld R.TWN_STATUS_PAIRED 1,
     fld R.TWN_STATUS_MIRROR mSynced]), (0 : BitVec 32), ([] : List Byte), _, (Instr.mirrorReg (0 : BitVec 32) ([] : List Byte)), rfl, rfl,
     mirrored (by decide +kernel), by decide +kernel⟩,
   ⟨(wst [svc, fld R.TWN_CFG_EN 1, fld (R.LAN_Gg_STATUS_UP 4) 1, fld R.TWN_STATUS_ROLE 2, fld R.TWN_STATUS_PAIRED 1,
     fld R.TWN_STATUS_MIRROR mSynced]), rfl, atStandby (by decide +kernel)⟩,
   ⟨(wst [fld R.TWN_STATUS_MIRROR mSyncing,
     fun d => { d with twn := { d.twn with bulk := some ((0 : Nat), ([MirrorRec.mk 1 mTime (0 :: be 12 0x133627629)] : List MirrorRec)) } }, svc,
     fld R.TWN_CFG_EN 1, fld (R.LAN_Gg_STATUS_UP 4) 1, fld R.TWN_STATUS_ROLE 2, fld R.TWN_STATUS_PAIRED 1, fld R.TWN_STATUS_MIRROR mSynced,
     fld R.TWN_STATUS_MIRROR mSyncing, fun d => { d with twn := { d.twn with bulk := some (0, [MirrorRec.mk 1 mTime (0 :: be 12 0x133627629)]) } }]),
     (1 : BitVec 32), _, (0 : Nat), ([MirrorRec.mk 1 mTime (0 :: be 12 0x133627629)] : List MirrorRec), rfl, rfl, atStandby (by decide +kernel),
     by decide +kernel⟩,
   ⟨(wst [fld R.TWN_STATUS_MIRROR mSyncing, fun d => { d with twn := { d.twn with bulk := some ((4 : Nat), ([] : List MirrorRec)) } }, svc,
     fld R.TWN_CFG_EN 1, fld (R.LAN_Gg_STATUS_UP 4) 1, fld R.TWN_STATUS_ROLE 2, fld R.TWN_STATUS_PAIRED 1, fld R.TWN_STATUS_MIRROR mSynced,
     fld R.TWN_STATUS_MIRROR mSyncing, fun d => { d with twn := { d.twn with bulk := some (4, []) } }]), (1 : BitVec 32), _, (4 : Nat), _, rfl, rfl,
     atStandby (by decide +kernel), by decide +kernel, by decide +kernel, by decide +kernel, rfl⟩,
   ⟨(wst [fld R.TWN_STATUS_MIRROR mSyncing, fun d => { d with twn := { d.twn with bulk := some ((1 : Nat), ([] : List MirrorRec)) } }, svc,
     fld R.TWN_CFG_EN 1, fld (R.LAN_Gg_STATUS_UP 4) 1, fld R.TWN_STATUS_ROLE 2, fld R.TWN_STATUS_PAIRED 1, fld R.TWN_STATUS_MIRROR mSynced,
     fld R.TWN_STATUS_MIRROR mSyncing, fun d => { d with twn := { d.twn with bulk := some (1, []) } }]), (1 : BitVec 32),
     (List.replicate 100 0 : List Byte), _, (1 : Nat), ([] : List MirrorRec),
     (Instr.mirrorThkChange (1 : BitVec 32) (List.replicate 100 0 : List Byte)), mThkChange, rfl, rfl, atStandby (by decide +kernel),
     by decide +kernel⟩,
   ⟨(wst [fld R.TWN_STATUS_MIRROR mSyncing, fun d => { d with twn := { d.twn with bulk := some ((0 : Nat), ([] : List MirrorRec)) } }, svc,
     fld R.TWN_CFG_EN 1, fld (R.LAN_Gg_STATUS_UP 4) 1, fld R.TWN_STATUS_ROLE 2, fld R.TWN_STATUS_PAIRED 1, fld R.TWN_STATUS_MIRROR mSynced,
     fld R.TWN_STATUS_MIRROR mSyncing, fun d => { d with twn := { d.twn with bulk := some (0, []) } }]), (1 : BitVec 32),
     (List.replicate 100 0 : List Byte), _, _, ([] : List MirrorRec), (Instr.mirrorHedge (1 : BitVec 32) (List.replicate 100 0 : List Byte)), mHedge,
     rfl, rfl, atStandby (by decide +kernel), by decide +kernel, by decide +kernel, by decide +kernel, by decide +kernel, rfl⟩,
   ⟨(wst [fld R.TWN_STATUS_MIRROR mSyncing, fun d => { d with twn := { d.twn with bulk := some ((4 : Nat), ([] : List MirrorRec)) } }, svc,
     fld R.TWN_CFG_EN 1, fld (R.LAN_Gg_STATUS_UP 4) 1, fld R.TWN_STATUS_ROLE 2, fld R.TWN_STATUS_PAIRED 1, fld R.TWN_STATUS_MIRROR mSynced,
     fld R.TWN_STATUS_MIRROR mSyncing, fun d => { d with twn := { d.twn with bulk := some (4, []) } }]), (1 : BitVec 32),
     (List.replicate 100 0 : List Byte), _, (4 : Nat), ([] : List MirrorRec), (Instr.mirrorTime (1 : BitVec 32) (List.replicate 100 0 : List Byte)),
     mTime, rfl, rfl, atStandby (by decide +kernel), by decide +kernel⟩,
   ⟨(wst [fld R.TWN_STATUS_MIRROR mSyncing, fun d => { d with twn := { d.twn with bulk := some ((4 : Nat), ([] : List MirrorRec)) } }, svc,
     fld R.TWN_CFG_EN 1, fld (R.LAN_Gg_STATUS_UP 4) 1, fld R.TWN_STATUS_ROLE 2, fld R.TWN_STATUS_PAIRED 1, fld R.TWN_STATUS_MIRROR mSynced,
     fld R.TWN_STATUS_MIRROR mSyncing, fun d => { d with twn := { d.twn with bulk := some (4, []) } }]), (1 : BitVec 32),
     (List.replicate 100 0 : List Byte), _, (4 : Nat), ([] : List MirrorRec), (Instr.mirrorReg (1 : BitVec 32) (List.replicate 100 0 : List Byte)),
     mReg, rfl, rfl, atStandby (by decide +kernel), by decide +kernel⟩,
   ⟨(wst [fld R.TWN_CFG_EN 1, svc, fld R.TWN_STATUS_ROLE (Role.code .active), fun d => { d with twn := { d.twn with withheld := [] } }, svc,
     fld R.TWN_CFG_EN 1, fld (R.LAN_Gg_STATUS_UP 4) 1, fld R.TWN_STATUS_ROLE 1, fld R.TWN_CFG_ARBITER 0,
     fun d => { d with regs := sinsert (R.PLT_SERIAL_LO + 4) 0 (sinsert R.PLT_SERIAL_LO 0xFFFF d.regs) }]), (be 8 ((wst [fld R.TWN_CFG_EN 1, svc,
     fld R.TWN_STATUS_ROLE (Role.code .active), fun d => { d with twn := { d.twn with withheld := [] } }, svc, fld R.TWN_CFG_EN 1,
     fld (R.LAN_Gg_STATUS_UP 4) 1, fld R.TWN_STATUS_ROLE 1, fld R.TWN_CFG_ARBITER 0,
     fun d => { d with regs := sinsert (R.PLT_SERIAL_LO + 4) 0 (sinsert R.PLT_SERIAL_LO 0xFFFF d.regs) }])).dev.partner ++ be 8 ((wst [fld R.TWN_CFG_EN 1, svc, fld R.TWN_STATUS_ROLE (Role.code .active), fun d => { d with twn := { d.twn with withheld := [] } }, svc, fld R.TWN_CFG_EN 1, fld (R.LAN_Gg_STATUS_UP 4) 1, fld R.TWN_STATUS_ROLE 1, fld R.TWN_CFG_ARBITER 0, fun d => { d with regs := sinsert (R.PLT_SERIAL_LO + 4) 0 (sinsert R.PLT_SERIAL_LO 0xFFFF d.regs) }])).dev.serial ++ be 1 2 ++ be 1 1 ++ be 1 (b2n (((wst [fld R.TWN_CFG_EN 1, svc, fld R.TWN_STATUS_ROLE (Role.code .active), fun d => { d with twn := { d.twn with withheld := [] } }, svc, fld R.TWN_CFG_EN 1, fld (R.LAN_Gg_STATUS_UP 4) 1, fld R.TWN_STATUS_ROLE 1, fld R.TWN_CFG_ARBITER 0, fun d => { d with regs := sinsert (R.PLT_SERIAL_LO + 4) 0 (sinsert R.PLT_SERIAL_LO 0xFFFF d.regs) }])).dev.is R.TWN_CFG_PATH) + 2 * ((wst [fld R.TWN_CFG_EN 1, svc, fld R.TWN_STATUS_ROLE (Role.code .active), fun d => { d with twn := { d.twn with withheld := [] } }, svc, fld R.TWN_CFG_EN 1, fld (R.LAN_Gg_STATUS_UP 4) 1, fld R.TWN_STATUS_ROLE 1, fld R.TWN_CFG_ARBITER 0, fun d => { d with regs := sinsert (R.PLT_SERIAL_LO + 4) 0 (sinsert R.PLT_SERIAL_LO 0xFFFF d.regs) }])).dev.get R.TWN_CFG_ARBITER) ++ be 1 mDown ++ be 4 0 ++ be 2 0 ++ be 4 ((wst [fld R.TWN_CFG_EN 1, svc, fld R.TWN_STATUS_ROLE (Role.code .active), fun d => { d with twn := { d.twn with withheld := [] } }, svc, fld R.TWN_CFG_EN 1, fld (R.LAN_Gg_STATUS_UP 4) 1, fld R.TWN_STATUS_ROLE 1, fld R.TWN_CFG_ARBITER 0, fun d => { d with regs := sinsert (R.PLT_SERIAL_LO + 4) 0 (sinsert R.PLT_SERIAL_LO 0xFFFF d.regs) }])).dev.stampDigest ++ be 1 0 ++ be 2 0 ++ be 1 0 : List Byte), _, (0 : BitVec 8), mSyncing, rfl, rfl, by decide +kernel⟩,
   ⟨(wst [fld R.TWN_CFG_EN 1, svc, fld R.TWN_STATUS_ROLE (Role.code .active), fun d => { d with twn := { d.twn with withheld := [] } },
     fld R.TWN_STATUS_MIRROR mDown, svc, fld R.TWN_CFG_EN 1, fld (R.LAN_Gg_STATUS_UP 4) 1, fld R.TWN_STATUS_ROLE 1, fld R.TWN_CFG_ARBITER 0,
     fun d => { d with regs := sinsert (R.PLT_SERIAL_LO + 4) 0 (sinsert R.PLT_SERIAL_LO 0xFFFF d.regs) }, fld R.TWN_STATUS_MIRROR mDown]),
     (be 8 ((wst [fld R.TWN_CFG_EN 1, svc, fld R.TWN_STATUS_ROLE (Role.code .active), fun d => { d with twn := { d.twn with withheld := [] } },
     fld R.TWN_STATUS_MIRROR mDown, svc, fld R.TWN_CFG_EN 1, fld (R.LAN_Gg_STATUS_UP 4) 1, fld R.TWN_STATUS_ROLE 1, fld R.TWN_CFG_ARBITER 0,
     fun d => { d with regs := sinsert (R.PLT_SERIAL_LO + 4) 0 (sinsert R.PLT_SERIAL_LO 0xFFFF d.regs) },
     fld R.TWN_STATUS_MIRROR mDown])).dev.partner ++ be 8 ((wst [fld R.TWN_CFG_EN 1, svc, fld R.TWN_STATUS_ROLE (Role.code .active),
     fun d => { d with twn := { d.twn with withheld := [] } }, fld R.TWN_STATUS_MIRROR mDown, svc, fld R.TWN_CFG_EN 1, fld (R.LAN_Gg_STATUS_UP 4) 1,
     fld R.TWN_STATUS_ROLE 1, fld R.TWN_CFG_ARBITER 0,
     fun d => { d with regs := sinsert (R.PLT_SERIAL_LO + 4) 0 (sinsert R.PLT_SERIAL_LO 0xFFFF d.regs) },
     fld R.TWN_STATUS_MIRROR mDown])).dev.serial ++ be 1 2 ++ be 1 1 ++ be 1 (b2n (((wst [fld R.TWN_CFG_EN 1, svc,
     fld R.TWN_STATUS_ROLE (Role.code .active), fun d => { d with twn := { d.twn with withheld := [] } }, fld R.TWN_STATUS_MIRROR mDown, svc,
     fld R.TWN_CFG_EN 1, fld (R.LAN_Gg_STATUS_UP 4) 1, fld R.TWN_STATUS_ROLE 1, fld R.TWN_CFG_ARBITER 0,
     fun d => { d with regs := sinsert (R.PLT_SERIAL_LO + 4) 0 (sinsert R.PLT_SERIAL_LO 0xFFFF d.regs) },
     fld R.TWN_STATUS_MIRROR mDown])).dev.is R.TWN_CFG_PATH) + 2 * ((wst [fld R.TWN_CFG_EN 1, svc, fld R.TWN_STATUS_ROLE (Role.code .active),
     fun d => { d with twn := { d.twn with withheld := [] } }, fld R.TWN_STATUS_MIRROR mDown, svc, fld R.TWN_CFG_EN 1, fld (R.LAN_Gg_STATUS_UP 4) 1,
     fld R.TWN_STATUS_ROLE 1, fld R.TWN_CFG_ARBITER 0,
     fun d => { d with regs := sinsert (R.PLT_SERIAL_LO + 4) 0 (sinsert R.PLT_SERIAL_LO 0xFFFF d.regs) },
     fld R.TWN_STATUS_MIRROR mDown])).dev.get R.TWN_CFG_ARBITER) ++ be 1 mSynced ++ be 4 0 ++ be 2 0 ++ be 4 ((wst [fld R.TWN_CFG_EN 1, svc,
     fld R.TWN_STATUS_ROLE (Role.code .active), fun d => { d with twn := { d.twn with withheld := [] } }, fld R.TWN_STATUS_MIRROR mDown, svc,
     fld R.TWN_CFG_EN 1, fld (R.LAN_Gg_STATUS_UP 4) 1, fld R.TWN_STATUS_ROLE 1, fld R.TWN_CFG_ARBITER 0,
     fun d => { d with regs := sinsert (R.PLT_SERIAL_LO + 4) 0 (sinsert R.PLT_SERIAL_LO 0xFFFF d.regs) },
     fld R.TWN_STATUS_MIRROR mDown])).dev.stampDigest ++ be 1 0 ++ be 2 0 ++ be 1 0 : List Byte), _, (0 : BitVec 8), rfl, rfl, by decide +kernel⟩,
   ⟨(wst [fld R.TWN_CFG_EN 1, svc, fld R.TWN_STATUS_ROLE (Role.code .standby), svc, fld R.TWN_CFG_EN 1, fld (R.LAN_Gg_STATUS_UP 4) 1,
     fld R.TWN_STATUS_ROLE 2, fld R.TWN_STATUS_PAIRED 1, fld R.TWN_STATUS_MIRROR mSynced,
     fun d => { d with regs := sinsert (R.PLT_SERIAL_LO + 4) 0 (sinsert R.PLT_SERIAL_LO 0xFFFF d.regs) }, fld R.TWN_STATUS_MIRROR mDown]),
     (1 : BitVec 32), (be 8 ((wst [fld R.TWN_CFG_EN 1, svc, fld R.TWN_STATUS_ROLE (Role.code .standby), svc, fld R.TWN_CFG_EN 1,
     fld (R.LAN_Gg_STATUS_UP 4) 1, fld R.TWN_STATUS_ROLE 2, fld R.TWN_STATUS_PAIRED 1, fld R.TWN_STATUS_MIRROR mSynced,
     fun d => { d with regs := sinsert (R.PLT_SERIAL_LO + 4) 0 (sinsert R.PLT_SERIAL_LO 0xFFFF d.regs) },
     fld R.TWN_STATUS_MIRROR mDown])).dev.partner ++ be 8 ((wst [fld R.TWN_CFG_EN 1, svc, fld R.TWN_STATUS_ROLE (Role.code .standby), svc,
     fld R.TWN_CFG_EN 1, fld (R.LAN_Gg_STATUS_UP 4) 1, fld R.TWN_STATUS_ROLE 2, fld R.TWN_STATUS_PAIRED 1, fld R.TWN_STATUS_MIRROR mSynced,
     fun d => { d with regs := sinsert (R.PLT_SERIAL_LO + 4) 0 (sinsert R.PLT_SERIAL_LO 0xFFFF d.regs) },
     fld R.TWN_STATUS_MIRROR mDown])).dev.serial ++ be 1 1 ++ be 1 1 ++ be 1 (b2n (((wst [fld R.TWN_CFG_EN 1, svc,
     fld R.TWN_STATUS_ROLE (Role.code .standby), svc, fld R.TWN_CFG_EN 1, fld (R.LAN_Gg_STATUS_UP 4) 1, fld R.TWN_STATUS_ROLE 2,
     fld R.TWN_STATUS_PAIRED 1, fld R.TWN_STATUS_MIRROR mSynced,
     fun d => { d with regs := sinsert (R.PLT_SERIAL_LO + 4) 0 (sinsert R.PLT_SERIAL_LO 0xFFFF d.regs) },
     fld R.TWN_STATUS_MIRROR mDown])).dev.is R.TWN_CFG_PATH) + 2 * ((wst [fld R.TWN_CFG_EN 1, svc, fld R.TWN_STATUS_ROLE (Role.code .standby), svc,
     fld R.TWN_CFG_EN 1, fld (R.LAN_Gg_STATUS_UP 4) 1, fld R.TWN_STATUS_ROLE 2, fld R.TWN_STATUS_PAIRED 1, fld R.TWN_STATUS_MIRROR mSynced,
     fun d => { d with regs := sinsert (R.PLT_SERIAL_LO + 4) 0 (sinsert R.PLT_SERIAL_LO 0xFFFF d.regs) },
     fld R.TWN_STATUS_MIRROR mDown])).dev.get R.TWN_CFG_ARBITER) ++ be 1 mDown ++ be 4 0 ++ be 2 0 ++ be 4 ((wst [fld R.TWN_CFG_EN 1, svc,
     fld R.TWN_STATUS_ROLE (Role.code .standby), svc, fld R.TWN_CFG_EN 1, fld (R.LAN_Gg_STATUS_UP 4) 1, fld R.TWN_STATUS_ROLE 2,
     fld R.TWN_STATUS_PAIRED 1, fld R.TWN_STATUS_MIRROR mSynced,
     fun d => { d with regs := sinsert (R.PLT_SERIAL_LO + 4) 0 (sinsert R.PLT_SERIAL_LO 0xFFFF d.regs) },
     fld R.TWN_STATUS_MIRROR mDown])).dev.stampDigest ++ be 1 0 ++ be 2 0 ++ be 1 0 : List Byte), _, mSyncing, (0 : Nat), rfl, rfl,
     by decide +kernel⟩,
   ⟨(wst [fld R.TWN_CFG_EN 1, svc, fld R.TWN_STATUS_ROLE (Role.code .active), svc, fld R.TWN_CFG_EN 1, fld (R.LAN_Gg_STATUS_UP 4) 1,
     fld R.TWN_STATUS_ROLE 1, fld R.TWN_CFG_ARBITER 0,
     fun d => { d with regs := sinsert (R.PLT_SERIAL_LO + 4) 0 (sinsert R.PLT_SERIAL_LO 0xFFFF d.regs) }]), (be 8 (((wst [fld R.TWN_CFG_EN 1, svc,
     fld R.TWN_STATUS_ROLE (Role.code .active), svc, fld R.TWN_CFG_EN 1, fld (R.LAN_Gg_STATUS_UP 4) 1, fld R.TWN_STATUS_ROLE 1,
     fld R.TWN_CFG_ARBITER 0,
     fun d => { d with regs := sinsert (R.PLT_SERIAL_LO + 4) 0 (sinsert R.PLT_SERIAL_LO 0xFFFF d.regs) }])).dev.partner + 1) ++ be 8 ((wst [fld R.TWN_CFG_EN 1, svc, fld R.TWN_STATUS_ROLE (Role.code .active), svc, fld R.TWN_CFG_EN 1, fld (R.LAN_Gg_STATUS_UP 4) 1, fld R.TWN_STATUS_ROLE 1, fld R.TWN_CFG_ARBITER 0, fun d => { d with regs := sinsert (R.PLT_SERIAL_LO + 4) 0 (sinsert R.PLT_SERIAL_LO 0xFFFF d.regs) }])).dev.serial ++ be 1 2 ++ be 1 1 ++ be 1 (b2n (((wst [fld R.TWN_CFG_EN 1, svc, fld R.TWN_STATUS_ROLE (Role.code .active), svc, fld R.TWN_CFG_EN 1, fld (R.LAN_Gg_STATUS_UP 4) 1, fld R.TWN_STATUS_ROLE 1, fld R.TWN_CFG_ARBITER 0, fun d => { d with regs := sinsert (R.PLT_SERIAL_LO + 4) 0 (sinsert R.PLT_SERIAL_LO 0xFFFF d.regs) }])).dev.is R.TWN_CFG_PATH) + 2 * ((wst [fld R.TWN_CFG_EN 1, svc, fld R.TWN_STATUS_ROLE (Role.code .active), svc, fld R.TWN_CFG_EN 1, fld (R.LAN_Gg_STATUS_UP 4) 1, fld R.TWN_STATUS_ROLE 1, fld R.TWN_CFG_ARBITER 0, fun d => { d with regs := sinsert (R.PLT_SERIAL_LO + 4) 0 (sinsert R.PLT_SERIAL_LO 0xFFFF d.regs) }])).dev.get R.TWN_CFG_ARBITER) ++ be 1 mDown ++ be 4 0 ++ be 2 0 ++ be 4 ((wst [fld R.TWN_CFG_EN 1, svc, fld R.TWN_STATUS_ROLE (Role.code .active), svc, fld R.TWN_CFG_EN 1, fld (R.LAN_Gg_STATUS_UP 4) 1, fld R.TWN_STATUS_ROLE 1, fld R.TWN_CFG_ARBITER 0, fun d => { d with regs := sinsert (R.PLT_SERIAL_LO + 4) 0 (sinsert R.PLT_SERIAL_LO 0xFFFF d.regs) }])).dev.stampDigest ++ be 1 0 ++ be 2 0 ++ be 1 0 : List Byte), _, rfl, rfl, by decide +kernel⟩,
   ⟨(wst [fun d => { d with twn := { d.twn with heardAt := some 600 } }, fld R.TWN_CFG_EN 1, svc, svc, fld R.TWN_CFG_EN 1,
     fld (R.LAN_Gg_STATUS_UP 4) 1, fld R.TWN_STATUS_ROLE 1, fld R.TWN_CFG_ARBITER 0, fun d => { d with twn := { d.twn with heardAt := some 600 } },
     fld R.TWN_STATUS_MIRROR mSynced]), 600, rfl, by decide +kernel⟩,
   ⟨(wst []), (1 : Word), rfl, by decide +kernel⟩,
   ⟨(wst [fld R.TWN_CFG_EN 1, svc, fld R.TWN_STATUS_ROLE (Role.code .standby), svc, fld R.TWN_CFG_EN 1, fld (R.LAN_Gg_STATUS_UP 4) 1,
     fld R.TWN_STATUS_ROLE 2, fld R.TWN_STATUS_PAIRED 1, fld R.TWN_STATUS_MIRROR mSynced]), (2 : Word), rfl, by decide +kernel⟩,
   ⟨(wst [fld R.TWN_CFG_EN 1, svc, fld R.TWN_STATUS_ROLE (Role.code .active), svc, fld R.TWN_CFG_EN 1, fld (R.LAN_Gg_STATUS_UP 4) 1,
     fld R.TWN_STATUS_ROLE 1, fld R.TWN_CFG_ARBITER 0]), (3 : Word), rfl, by decide +kernel⟩,
   ⟨(wst [svc, fld R.TWN_CFG_EN 1, fld (R.LAN_Gg_STATUS_UP 4) 1, fld R.TWN_STATUS_ROLE 1, fld R.TWN_CFG_ARBITER 0,
     fun d => { d with twn := { d.twn with withheld := [Withheld.mk 3 700 1 0 []] } }, fld R.TWN_STATUS_MIRROR mSynced]), 700, rfl,
     by decide +kernel⟩⟩
theorem witness_TwinVerdicts :
    (∃ (s : State) (v : Word), s.runs ∧ s.dev.is R.TWN_CFG_EN = false ∧ bit v.toNat 0 = false) ∧
    (∃ (s : State) (v : Word), s.runs ∧ s.dev.is R.TWN_CFG_EN = false ∧ s.dev.role = .none ∧ s.dev.mirrorState = mDown ∧ bit v.toNat 0 = true) ∧
    (∃ (s : State) (v : Word), s.runs ∧ s.dev.is R.TWN_CFG_EN = true ∧ bit v.toNat 0 = true) ∧
    (∃ (s : State) (v : Word), s.runs ∧ s.dev.is R.TWN_CFG_EN = true ∧ bit v.toNat 0 = false) ∧
    (∃ (s : State) (c : _) (src : _) (sq : _) (act : _) (u : Dev), s.runs ∧ s.dev.is R.TWN_CFG_EN = true ∧ s.dev.get R.TWN_CFG_ARBITER + 1 = src ∧
      s.dev.twnMismatch = false ∧ s.dev.sup.mode.traffic = true ∧ s.dev.reloading = false ∧ ((c = Instr.arbInVerdict act ∧ src = 1 ∧ sq = 0 ∧
      u = { s.dev with twn := { s.dev.twn with arbIn := act } } ∨ (∃ b, c = .refereeVerdictRx b ∧ src = 2 ∧ u = s.dev ∧ s.dev.rop.running = true ∧
      beAt b 0 1 = 2 ∧ sq = beAt b 28 2 ∧ (s.dev.twn.first = true ∨ (1 ≤ (sq + 65536 - s.dev.get R.TWN_VERDICT_SEQ) % 65536 ∧
      (sq + 65536 - s.dev.get R.TWN_VERDICT_SEQ) % 65536 ≤ 32767)) ∧ beAt b 17 8 = s.dev.rd64 R.TWN_REF_SERIAL_LO ∧ s.dev.partner ≠ s.dev.serial ∧
      ((beAt b 1 8 = s.dev.serial ∧ beAt b 9 8 = s.dev.partner ∧ act = decide (beAt b 27 1 = 0)) ∨ (beAt b 1 8 = s.dev.partner ∧
      beAt b 9 8 = s.dev.serial ∧ act = decide (beAt b 27 1 ≠ 0))))))) ∧
    (∃ (s : State), s.runs ∧ s.dev.is R.TWN_CFG_EN = true ∧ s.dev.get R.TWN_CFG_ARBITER ≠ 0) ∧
    (∃ (s : State), s.runs ∧ s.dev.is R.TWN_CFG_EN = true ∧ s.dev.get R.TWN_CFG_ARBITER = 1 ∧ s.dev.rop.running = true ∧
      s.dev.rd64 R.TWN_REF_SERIAL_LO = s.dev.serial ∧ s.dev.is R.ROP_CFG_REFEREE = true) ∧
    (∃ (s : State) (m : _) (r : _), s.runs ∧ s.dev.is R.TWN_CFG_EN = true ∧ s.dev.get R.TWN_CFG_ARBITER = 1 ∧ s.dev.rop.running = true ∧
      s.dev.rd64 R.TWN_REF_SERIAL_LO ≠ s.dev.serial ∧ s.dev.nodeOf (s.dev.rd64 R.TWN_REF_SERIAL_LO) = some m ∧ s.dev.route m = some r) ∧
    (∃ (s : State) (b : List Byte), s.runs ∧ s.dev.rop.running = true ∧ s.dev.sup.mode.traffic = true ∧ beAt b 0 1 = 1 ∧
      s.dev.is R.ROP_CFG_REFEREE = true ∧ beAt b 17 8 = beAt b 1 8 ∧ ((∀ p, p ∈ s.dev.twn.pairs → p.serialA = beAt b 1 8 → p.serialB ≠ beAt b 9 8)) ∧
      s.dev.twn.pairs.length < 16) ∧
    (∃ (s : State) (b : List Byte), s.runs ∧ s.dev.rop.running = true ∧ s.dev.sup.mode.traffic = true ∧ beAt b 0 1 = 1 ∧
      s.dev.is R.ROP_CFG_REFEREE = true ∧ beAt b 17 8 = beAt b 1 8 ∧ ((∀ p, p ∈ s.dev.twn.pairs → p.serialA = beAt b 1 8 → p.serialB ≠ beAt b 9 8)) ∧
      16 ≤ s.dev.twn.pairs.length) ∧
    (∃ (s : State) (b : List Byte), s.runs ∧ s.dev.rop.running = true ∧ s.dev.sup.mode.traffic = true ∧ beAt b 0 1 = 1 ∧
      s.dev.is R.ROP_CFG_REFEREE = true ∧ beAt b 1 8 ≠ beAt b 9 8 ∧ ((∃ p, p ∈ s.dev.twn.pairs ∧ p.serialA = beAt b 1 8 ∧ p.serialB = beAt b 9 8))) ∧
    (∃ (s : State) (l : _), s.runs ∧ s.dev.is R.ROP_CFG_REFEREE = true ∧ s.dev.rop.running = true ∧
      l = s.dev.twn.pairs.map (fun p => p.eval s.dev.ticks (s.dev.get R.TWN_REF_CFG_TIMEOUT * msTicks)) ∧ ((∀ p, p ∈ l → p.serialA ≠ s.dev.serial ∧
      p.serialB ≠ s.dev.serial))) ∧
    (∃ (s : State) (p : RefPair) (now : _) (lim : _) (ra : _) (rb : _), s.runs ∧ p.active = some 0 ∧ p.a = some ra ∧ p.b = some rb ∧
      now ≤ rb.at_ + lim ∧ rb.health = 1 ∧ (ra.at_ + lim < now ∨ ra.health ≠ 1)) ∧
    (∃ (s : State) (p : RefPair) (now : _) (lim : _) (ra : _) (rb : _), s.runs ∧ p.active = some 0 ∧ p.a = some ra ∧ p.b = some rb ∧
      now ≤ rb.at_ + lim ∧ rb.health = 1 ∧ now ≤ ra.at_ + lim ∧ ra.health = 1) ∧
    (∃ (s : State), s.runs ∧ s.dev.twn.gapDue = true ∧ s.dev.role = .active) ∧
    (∃ (s : State) (c : _) (t : _) (u : _), s.runs ∧ s.dev.twn.gapAt = some t ∧ ((c = Instr.gapEnd ∧ s.dev.twn.gapBurst = true ∧
      s.dev.sup.mode = .service ∧ u = s.dev) ∨ (c = .gapLimitExpiry ∧ s.dev.get R.TWN_GAP_LIMIT_MS ≠ 0 ∧
      u = s.dev.until_ (t + s.dev.get R.TWN_GAP_LIMIT_MS * msTicks)))) ∧
    (∃ (s : State) (t : _) (h : Hello), s.runs ∧ s.dev.twn.peerAt = some t ∧ s.dev.twn.hello = some h ∧ s.dev.role = .active ∧ h.seeks = true) ∧
    (∃ (s : State), s.runs ∧ s.dev.trb.applied = true ∧ s.dev.standby = false ∧ s.dev.trbStopped = false ∧ s.dev.relay = false ∧
      s.dev.sch.gap = false ∧ s.dev.decl 13 = none) ∧
    (∃ (s : State) (n : Fin 16) (x : Decl) (b : List Byte) (rest : _), s.runs ∧ s.dev.trb.applied = true ∧ s.dev.standby = false ∧
      s.dev.trbStopped = false ∧ s.dev.relay = false ∧ s.dev.sch.gap = false ∧ s.dev.decl 13 = some x ∧ bit (s.dev.get R.TRB_ENABLE_EN) n = true ∧
      s.dev.draining 13 = false ∧ s.dev.pwr.coord = .run ∧ s.dev.sup.mode ∈ [.acquire, .range, .service] ∧ s.dev.framed n = false ∧
      (s.dev.trbP n).down = (b, false, false) :: rest) ∧
    (∃ (s : State), s.runs ∧ s.dev.decl 13 = none ∧ s.dev.standby = false ∧ s.dev.trbStopped = false) ∧
    (∃ (s : State) (t : _), s.runs ∧ s.dev.twn.gapAt = some t ∧ s.dev.get R.TRB_HOLD_LIMIT_MS ≠ 0 ∧ s.dev.trb.isOver = false) :=
  ⟨⟨(wst [fld R.TWN_CFG_EN 0, fld R.TWN_CFG_ARBITER 1]), (0x32 : Word), rfl, by decide +kernel⟩,
   ⟨(wst [fld R.TWN_CFG_EN 0, fld R.TWN_STATUS_ROLE (Role.code .none), fld R.TWN_STATUS_MIRROR mDown]), (1 : Word), rfl, by decide +kernel⟩,
   ⟨(wst [fld R.TWN_CFG_EN 1]), (1 : Word), rfl, by decide +kernel⟩,
   ⟨(wst [fld R.TWN_CFG_EN 1, svc, fld R.TWN_CFG_EN 1, fld R.TWN_STATUS_ROLE 1]), (0 : Word), rfl, by decide +kernel⟩,
   ⟨(wst [fld R.TWN_CFG_EN 1, svc, svc, fld R.TWN_STATUS_ROLE 1]), (Instr.arbInVerdict true), 1, 0, true,
     ({ ((wst [fld R.TWN_CFG_EN 1, svc, svc, fld R.TWN_STATUS_ROLE 1])).dev with twn := { ((wst [fld R.TWN_CFG_EN 1, svc, svc, fld R.TWN_STATUS_ROLE 1])).dev.twn with arbIn := true } } : Dev), rfl, by decide +kernel, by decide +kernel, by decide +kernel, by decide +kernel, by decide +kernel, .inl ⟨rfl, rfl, rfl, rfl⟩⟩,
   ⟨(wst [fld R.TWN_CFG_EN 1, fld R.TWN_CFG_ARBITER 1, fld R.TWN_CFG_ARBITER 1]), rfl, by decide +kernel⟩,
   ⟨(wst [fld R.TWN_CFG_EN 1, fld R.TWN_CFG_ARBITER 1, fun d => { d with rop := { d.rop with running := true } }, fld R.ROP_CFG_REFEREE 1, svc,
     fun d => { d with rop := { d.rop with running := true } },
     fun d => { d with regs := sinsert (R.PLT_SERIAL_LO + 4) 0 (sinsert R.PLT_SERIAL_LO 0xFFFF d.regs) }, fun d => d.wr R.TWN_REF_SERIAL_LO 0xFFFF,
     fld R.ROP_CFG_REFEREE 1]), rfl, by decide +kernel⟩,
   ⟨(wst [fld R.TWN_CFG_EN 1, fld R.TWN_CFG_ARBITER 1, fun d => { d with rop := { d.rop with running := true } }, svc,
     fun d => { d with rop := { d.rop with running := true } }, fun d => { d with rop := { d.rop with routes := [(12, (Route.mk 2 none 5 77))] } },
     fun d => d.wr R.TWN_REF_SERIAL_LO 77, fun d => { d with regs := sinsert (R.PLT_SERIAL_LO + 4) 0 (sinsert R.PLT_SERIAL_LO 0xFFFF d.regs) },
     fun d => { d with rop := { d.rop with db := [Lsr.mk 12 77 9 0 100 0 []] } }]), 12, (Route.mk 2 none 5 77), rfl, by decide +kernel⟩,
   ⟨(wst [fun d => { d with rop := { d.rop with running := true } }, svc, fld R.ROP_CFG_REFEREE 1, svc]),
     (be 1 1 ++ be 8 5 ++ be 8 6 ++ be 8 5 ++ [1,1,0,0,9] : List Byte), rfl, by decide +kernel⟩,
   ⟨(wst [fun d => { d with rop := { d.rop with running := true } }, svc, fld R.ROP_CFG_REFEREE 1, svc,
     fun d => { d with twn := { d.twn with pairs := (List.range 16).map fun i => RefPair.mk i 99 none 0 none none } }]),
     (be 1 1 ++ be 8 5 ++ be 8 6 ++ be 8 5 ++ [1,1,0,0,9] : List Byte), rfl, by decide +kernel⟩,
   ⟨(wst [fun d => { d with rop := { d.rop with running := true } }, svc, fld R.ROP_CFG_REFEREE 1, svc,
     fun d => { d with twn := { d.twn with pairs := [RefPair.mk 5 6 none 0 none none] } }, fld R.ROP_CFG_REFEREE 1,
     fun d => { d with rop := { d.rop with running := true } }]), (be 1 1 ++ be 8 5 ++ be 8 6 ++ be 8 5 ++ [1,1,0,0,9] : List Byte), rfl,
     by decide +kernel⟩,
   ⟨(wst [fld R.ROP_CFG_REFEREE 1, fun d => { d with rop := { d.rop with running := true } }, svc,
     fun d => { d with twn := { d.twn with pairs := [RefPair.mk 77 99 (some 0) 3 (some (RefReport.mk 0 2 1 0)) none] } },
     fun d => { d with rop := { d.rop with routes := [(12, (Route.mk 2 none 5 77))] } },
     fun d => { d with regs := sinsert (R.PLT_SERIAL_LO + 4) 0 (sinsert R.PLT_SERIAL_LO 0xFFFF d.regs) }]), _, rfl, by decide +kernel,
     by decide +kernel, rfl, by decide +kernel⟩,
   ⟨(wst []), (RefPair.mk 1 2 (some 0) 3 (some (RefReport.mk 80 1 1 0)) (some (RefReport.mk 90 1 1 0))), 100, 10, (RefReport.mk 80 1 1 0),
     (RefReport.mk 90 1 1 0), rfl, by decide +kernel⟩,
   ⟨(wst []), (RefPair.mk 1 2 (some 0) 3 (some (RefReport.mk 90 1 1 0)) (some (RefReport.mk 90 1 1 0))), 100, 10, (RefReport.mk 90 1 1 0),
     (RefReport.mk 90 1 1 0), rfl, by decide +kernel⟩,
   ⟨(wst [fun d => { d with twn := { d.twn with gapDue := true } }, fld R.TWN_STATUS_ROLE (Role.code .active),
     fun d => { d with twn := { d.twn with gapDue := true } }, fld R.TWN_STATUS_ROLE 1]), rfl, by decide +kernel⟩,
   ⟨(wst [fun d => { d with twn := { d.twn with gapAt := some 0 } }, svc,
     fun d => { d with twn := { d.twn with gapAt := some 0, gapBurst := true } }]), Instr.gapEnd, 0,
     ((wst [fun d => { d with twn := { d.twn with gapAt := some 0 } }, svc,
     fun d => { d with twn := { d.twn with gapAt := some 0, gapBurst := true } }])).dev, rfl, by decide +kernel, .inl ⟨rfl, by decide +kernel,
     by decide +kernel, rfl⟩⟩,
   ⟨(wst [fun d => { d with twn := { d.twn with peerAt := some 900 } },
     fun d => { d with twn := { d.twn with hello := some ({ (default : Hello) with serial := 9, act := 1 } : Hello) } },
     fld R.TWN_STATUS_ROLE (Role.code .active),
     fun d => { d with twn := { d.twn with peerAt := some 900, hello := some ({ (default : Hello) with serial := 9, act := 1 } : Hello) } },
     fld R.TWN_STATUS_ROLE 1]), 900, ({ (default : Hello) with serial := 9, act := 1 } : Hello), rfl, by decide +kernel⟩,
   ⟨(wst [fun d => { d with trb := { d.trb with applied := true } }, fun d => { d with sch := { d.sch with gap := false } }, svc,
     fld R.TRB_ENABLE_EN 255, fld R.TWN_STATUS_ROLE 1, fun d => { d with trb := { d.trb with applied := true } }, fun d => { d with decls := [] }]),
     rfl, by decide +kernel⟩,
   ⟨(wst [fun d => { d with trb := { d.trb with applied := true } }, fun d => { d with sch := { d.sch with gap := false } },
     fun d => { d with pwr := { d.pwr with coord := .run } }, svc, fld R.TRB_ENABLE_EN 255,
     fun d => { d with trb := { d.trb with applied := true } }, fun d => { d with decls := [(13, (default : Decl))] },
     fun d => d.setTrbP (3 : Fin 16) { d.trbP (3 : Fin 16) with down := [((List.replicate 32 7 : List Byte), false, false)] },
     fld (R.TRB_n_CFG_FRAMING (3 : Fin 16)) 0]), (3 : Fin 16), (default : Decl), (List.replicate 32 7 : List Byte),
     ([] : List (List Byte × Bool × Bool)), rfl, by decide +kernel⟩,
   ⟨(wst []), rfl, by decide +kernel⟩,
   ⟨(wst [fun d => { d with twn := { d.twn with gapAt := some 50 } }, fld R.TRB_HOLD_LIMIT_MS 1,
     fun d => { d with trb := { d.trb with isOver := false } }, fld R.TRB_HOLD_LIMIT_MS 3, fld R.TRB_ENABLE_EN 3,
     fun d => { d with twn := { d.twn with gapAt := some 50 } }]), 50, rfl, by decide +kernel⟩⟩
theorem witness_MemoryIntegrity :
    (∃ (s : State) (inst : Fin 2304) (addr : Fin 65536) (flips : BitVec 80) (k : _) (e : _), s.runs ∧ s.dev.is R.MEM_CTL_SCRUB_EN = true ∧
      s.dev.memRuns (Config.instPitch inst) = true ∧ s.dev.instUp inst = true ∧ addr < Config.instWords inst ∧ k = 65536 * inst.val + addr.val ∧
      s.dev.anchor k = none ∧ s.dev.errsOf k = 0 ∧ e = flips.toNat ∧ e = 0 ∧ s.dev.mem.suspects = []) ∧
    (∃ (s : State) (inst : Fin 2304) (addr : Fin 65536) (flips : BitVec 80) (k : _) (e : _) (n : _), s.runs ∧ s.dev.is R.MEM_CTL_SCRUB_EN = true ∧
      s.dev.memRuns (Config.instPitch inst) = true ∧ s.dev.instUp inst = true ∧ addr < Config.instWords inst ∧ k = 65536 * inst.val + addr.val ∧
      s.dev.anchor k = none ∧ s.dev.errsOf k = 0 ∧ e = flips.toNat ∧ n < 64 ∧ e = 2 ^ n ∧ s.dev.mem.suspects = [] ∧
      s.dev.get R.MEM_PITON_CFG_CE_TH ≠ 1 ∧ s.dev.mem.log.length < 16) ∧
    (∃ (s : State) (inst : Fin 2304) (addr : Fin 65536) (flips : BitVec 80) (k : _) (e : _), s.runs ∧ s.dev.is R.MEM_CTL_SCRUB_EN = true ∧
      s.dev.memRuns (Config.instPitch inst) = true ∧ s.dev.instUp inst = true ∧ addr < Config.instWords inst ∧ k = 65536 * inst.val + addr.val ∧
      s.dev.anchor k = none ∧ s.dev.errsOf k = 0 ∧ e = flips.toNat ∧ synClass (rowSyn e) (colSyn e) = .uncorrectable ∧ k ∉ s.dev.mem.logged) ∧
    (∃ (s : State) (v : Word) (i : _) (a : _) (k : _) (p : _), s.runs ∧ i = v.toNat / 65536 % 4096 ∧ a = v.toNat % 65536 ∧ k = 65536 * i + a ∧
      i < 2304 ∧ a < Config.instWords i ∧ s.dev.anchor k = none ∧ s.dev.errsOf k = 0 ∧ p < 8 ∧ (s.dev.piton i p).valid = false ∧
      (s.dev.piton i p).bad = false ∧ ((∀ q, q < p → (s.dev.piton i q).valid = true ∨ (s.dev.piton i q).bad = true))) ∧
    (∃ (s : State) (v : Word) (i : _) (a : _) (k : _), s.runs ∧ i = v.toNat / 65536 % 4096 ∧ a = v.toNat % 65536 ∧ k = 65536 * i + a ∧ i < 2304 ∧
      a < Config.instWords i ∧ s.dev.anchor k = none ∧ ((∀ p, p < 8 → (s.dev.piton i p).valid = true ∨ (s.dev.piton i p).bad = true))) ∧
    (∃ (s : State) (v : Word), s.runs ∧
      (v.toNat / 65536 % 4096 > 2303 ∨ Config.instWords (v.toNat / 65536 % 4096) ≤ v.toNat % 65536 ∨ (s.dev.anchor (65536 * (v.toNat / 65536 % 4096) + v.toNat % 65536)).isSome = true)) ∧
    (∃ (s : State) (n : _), s.runs ∧ n = s.dev.slice ∧ n < 32 ∧ s.dev.get R.MEM_STATUS_BIST = 0 ∧ s.dev.bistMay = true ∧ s.dev.memRuns 0 = true ∧
      s.dev.isUp n = true) ∧
    (∃ (s : State) (n : _), s.runs ∧ n = s.dev.slice ∧ n < 32 ∧ s.dev.get R.MEM_STATUS_BIST = 0 ∧ s.dev.bistMay = true ∧ s.dev.memRuns 0 = true ∧
      s.dev.isUp n = false) ∧
    (∃ (s : State) (n : Nat), s.runs ∧ n = s.dev.slice ∧ 32 ≤ n ∧ n < 2399 ∧ s.dev.get R.MEM_STATUS_BIST = 0 ∧ s.dev.is R.MEM_CTL_BIST_EN = true ∧
      s.dev.pwr.coord = .run ∧ s.dev.memRuns 0 = true ∧ s.dev.bistMay = true ∧ ((∀ d, sliceDomain n = some d → s.dev.isUp d = true))) ∧
    (∃ (s : State) (n : Nat), s.runs ∧ n = s.dev.slice ∧ 32 ≤ n ∧ n < 2399 ∧ s.dev.get R.MEM_STATUS_BIST = 0 ∧ s.dev.is R.MEM_CTL_BIST_EN = true ∧
      s.dev.pwr.coord = .run ∧ s.dev.memRuns 0 = true ∧ s.dev.bistMay = false) ∧
    (∃ (s : State) (c : _), s.runs ∧ c ∈ [Instr.bistIsolated, .bistIsolateTimeout] ∧ s.dev.get R.MEM_STATUS_BIST = 1 ∧ s.dev.bistMay = false ∧
      s.dev.mem.full = false) ∧
    (∃ (s : State), s.runs ∧ s.dev.get R.MEM_STATUS_BIST = 1 ∧ s.dev.bistMay = true ∧ s.dev.isolated s.dev.slice = true) ∧
    (∃ (s : State), s.runs ∧ s.dev.get R.MEM_STATUS_BIST = 1 ∧ s.dev.bistMay = true ∧ s.dev.isolated s.dev.slice = false) ∧
    (∃ (s : State) (n : _), s.runs ∧ s.dev.get R.MEM_STATUS_BIST = 1 ∧ s.dev.bistMay = true ∧ n = s.dev.slice ∧ n < 32 ∧ n ∉ s.dev.mem.fenced) ∧
    (∃ (s : State), s.runs ∧ s.dev.get R.MEM_STATUS_BIST = 2 ∧ s.dev.mem.full = false ∧ s.dev.bistMay = true ∧ 48 ≤ s.dev.slice ∧
      s.dev.slice < 2399 ∧ (s.dev.storeOk (Config.slicePitch s.dev.slice) = true ∨ imageSlice s.dev.slice = false)) ∧
    (∃ (s : State) (k : Nat) (p : Nat), s.runs ∧ s.dev.get R.MEM_STATUS_BIST = 2 ∧ s.dev.mem.full = false ∧ s.dev.bistMay = true ∧ 48 ≤ s.dev.slice ∧
      s.dev.slice < 2399 ∧ (s.dev.storeOk (Config.slicePitch s.dev.slice) = true ∨ imageSlice s.dev.slice = false) ∧ k / 65536 < 2304 ∧
      k % 65536 < Config.instWords (k / 65536) ∧ s.dev.anchor k = none ∧ s.dev.errsOf k = 0 ∧ p < 8 ∧ (s.dev.piton (k / 65536) p).valid = false ∧
      (s.dev.piton (k / 65536) p).bad = false) ∧
    (∃ (s : State), s.runs ∧ s.dev.get R.MEM_STATUS_BIST = 2 ∧ s.dev.mem.full = true) ∧
    (∃ (s : State) (v : Word), s.runs ∧ bit v.toNat 0 = true ∧ s.dev.sup.mode = .test) ∧
    (∃ (s : State) (v : Word), s.runs ∧ (bit v.toNat 0 = false ∨ s.dev.sup.mode ≠ .test)) ∧
    (∃ (s : State), s.runs ∧ s.dev.mem.log = []) ∧
    (∃ (s : State) (e : _) (rest : List MemLog), s.runs ∧ s.dev.mem.log = e :: rest ∧ e.inst < 4096 ∧ e.kind < 16 ∧ e.source < 16 ∧ e.bit < 128 ∧
      e.addr < 65536 ∧ e.row < 256 ∧ e.col < 256) :=
  ⟨⟨(wst [fld R.MEM_CTL_SCRUB_EN 1, fun d => { d with mem := { d.mem with suspects := [] } }, svc]), (5 : Fin 2304), (0 : Fin 65536),
    (0 : BitVec 80), _, _, rfl, by decide +kernel, by decide +kernel, inst_up (by decide +kernel) _, Nat.succ_pos _, rfl, by decide +kernel,
    by decide +kernel, rfl, by decide +kernel⟩,
   ⟨(wst [fld R.MEM_CTL_SCRUB_EN 1, fun d => { d with mem := { d.mem with suspects := [] } }, fld R.MEM_PITON_CFG_CE_TH (1 + 1), svc]),
     (5 : Fin 2304), (0 : Fin 65536), (4 : BitVec 80), _, _, 2, rfl, by decide +kernel, by decide +kernel, inst_up (by decide +kernel) _,
     Nat.succ_pos _, rfl, by decide +kernel, by decide +kernel, rfl, by decide +kernel⟩,
   ⟨(wst [fld R.MEM_CTL_SCRUB_EN 1, svc]), (5 : Fin 2304), (0 : Fin 65536), (3 : BitVec 80), _, _, rfl, by decide +kernel, by decide +kernel,
     inst_up (by decide +kernel) _, Nat.succ_pos _, rfl, by decide +kernel, by decide +kernel, rfl, by decide +kernel⟩,
   ⟨(wst [svc]), (0x50000 : Word), _, _, _, 0, rfl, rfl, rfl, rfl, by decide +kernel, Nat.succ_pos _, by decide +kernel⟩,
   ⟨(wst [svc, fun d => { d with mem := { d.mem with pitons := (List.range 8).map fun p => (8 * 5 + p, Piton.mk true false false (p + 9) 0) } }]),
     (0x50000 : Word), _, _, _, rfl, rfl, rfl, rfl, by decide +kernel, Nat.succ_pos _, by decide +kernel⟩,
   ⟨(wst [svc]), (0xFFFF0000 : Word), rfl, by decide +kernel⟩,
   ⟨(wst [fld R.MEM_STATUS_BIST 0, svc]), _, rfl, rfl, by decide +kernel⟩,
   ⟨(wst [fld R.MEM_STATUS_BIST 0, svc, fld R.MEM_CTL_BIST_EN 1, fun d => { d with pwr := { d.pwr with coord := .run } }, fld R.MEM_STATUS_SLICE 9,
     fun d => d.setDom 9 .off]), _, rfl, rfl, by decide +kernel⟩,
   ⟨(wst [fld R.MEM_STATUS_BIST 0, fld R.MEM_CTL_BIST_EN 1, fun d => { d with pwr := { d.pwr with coord := .run } }, svc, svc,
     fld R.MEM_STATUS_SLICE 40, used 10, fld R.MEM_CTL_BIST_EN 1, fun d => { d with pwr := { d.pwr with coord := .run } }]), _, rfl, rfl,
     by decide +kernel⟩,
   ⟨(wst [fld R.MEM_STATUS_BIST 0, fld R.MEM_CTL_BIST_EN 1, fun d => { d with pwr := { d.pwr with coord := .run } }, svc, fld R.MEM_STATUS_SLICE 40,
     fun d => { d with img := { d.img with op := some (ImgOp.mk .loadFull false false 600 (2 ^ 10) 5 6 0 0 0 []), state := .drain } },
     fld R.MEM_CTL_BIST_EN 1, fun d => { d with pwr := { d.pwr with coord := .run } }]), _, rfl, rfl, by decide +kernel⟩,
   ⟨(wst [fld R.MEM_STATUS_BIST 1, fun d => { d with mem := { d.mem with full := false } }, svc, fld R.MEM_CTL_BIST_EN 0, fld R.MEM_STATUS_SLICE 40,
     fld R.MEM_STATUS_BIST 1]), (Instr.bistIsolated), rfl, by decide +kernel⟩,
   ⟨(wst [fld R.MEM_STATUS_BIST 1, svc, fld R.MEM_CTL_BIST_EN 1, fun d => { d with pwr := { d.pwr with coord := .run } }, fld R.MEM_STATUS_SLICE 9]),
     rfl, by decide +kernel⟩,
   ⟨(wst [fld R.MEM_STATUS_BIST 1, svc, svc, fld R.MEM_STATUS_SLICE 3, fld R.MEM_STATUS_BIST 1,
     fun d => { d with tsk := { d.tsk with tasks := [(4, ({ (default : Task) with st := .running, pitch := 1, cmask := 15 } : Task))] } },
     fun d => d.setEng 50 ({ Eng.idle with st := .running, task := 4, pc := 8 } : Eng), fld R.MEM_CTL_BIST_EN 1,
     fun d => { d with pwr := { d.pwr with coord := .run } }]), rfl, by decide +kernel⟩,
   ⟨(wst [fld R.MEM_STATUS_BIST 1, svc, fld R.MEM_CTL_BIST_EN 1, fun d => { d with pwr := { d.pwr with coord := .run } }, fld R.MEM_STATUS_SLICE 9]),
     _, rfl, by decide +kernel, by decide +kernel, rfl, by decide +kernel⟩,
   ⟨(wst [fld R.MEM_STATUS_BIST 2, fun d => { d with mem := { d.mem with full := false } }, svc, fld R.MEM_CTL_BIST_EN 1,
     fun d => { d with pwr := { d.pwr with coord := .run } }, fld R.MEM_STATUS_SLICE 60]), rfl, by decide +kernel⟩,
   ⟨(wst [fld R.MEM_STATUS_BIST 2, fun d => { d with mem := { d.mem with full := false } }, svc, svc, fld R.MEM_STATUS_SLICE 60,
     fld R.MEM_STATUS_BIST 2, fld R.MEM_CTL_BIST_EN 1, fun d => { d with pwr := { d.pwr with coord := .run } }]), (0 : Nat), (0 : Nat), rfl,
     by decide +kernel⟩,
   ⟨(wst [fld R.MEM_STATUS_BIST 2, fun d => { d with mem := { d.mem with full := true } }, svc]), rfl, by decide +kernel⟩,
   ⟨(wst [fun d => { d with sup := { d.sup with mode := .test } }, svc, fun d => { d with sup := { d.sup with mode := .test } }]), (1 : Word), rfl,
     by decide +kernel⟩,
   ⟨(wst [svc]), (0 : Word), rfl, by decide +kernel⟩,
   ⟨(wst [fun d => { d with mem := { d.mem with log := [] } }, svc]), rfl, by decide +kernel⟩,
   ⟨(wst [fun d => { d with mem := { d.mem with log := (MemLog.mk 5 1 2 3 4 5 6 7) :: ([] : List MemLog) } }, svc]), (MemLog.mk 5 1 2 3 4 5 6 7),
     ([] : List MemLog), rfl, by decide +kernel⟩⟩

end Sys2Proof.Tests
end

/-!
PROOFS. The host watchdog (R94 to R96) and the pace loop (R99, R100): what each of
WDOG_KICK, WDOG_CFG_WRITE, WDOG_WARN and PACE_COMPARE makes of the block, and obligation O16.
-/
namespace Sys2Proof.Machine

/-! Outside a reset a command's answer is its effect on the block. -/

theorem State.run_of_runs {s : State} (hs : s.runs) (f : Dev → Dev) : s.run f = .next { s with dev := f s.dev } := by
  have hr : s.dev.sup.inReset = none := hs
  simp [State.run, hr]

section
variable {s : State} (hs : s.runs)
include hs

theorem answers_wdogKick (v : Word) : answers (.wdogKick v) s (doWdogKick v s.dev) := State.run_of_runs hs _
theorem answers_wdogCfgWrite (v : Word) : answers (.wdogCfgWrite v) s (doWdogCfgWrite v s.dev) := State.run_of_runs hs _
theorem answers_wdogWarn : answers .wdogWarn s (doWdogWarn s.dev) := State.run_of_runs hs _
theorem answers_paceCompare (r : BitVec 16) : answers (.paceCompare r) s (doPaceCompare r s.dev) := State.run_of_runs hs _

end

variable {s : Dev}

/-! WDOG_KICK (R94, R95): one equation per outcome of a write. -/

/-- The first half of the pair only advances EXPECT. -/
theorem doWdogKick_first {v : Word} (hv : bits v.toNat 0 16 = 0x5A5A) (he : s.is R.PLT_WDOG_STATUS_EXPECT = false) :
    doWdogKick v s = s.setB R.PLT_WDOG_STATUS_EXPECT true := by
  simp [doWdogKick, hv, he]

/-- The second half is the kick: a running host period starts again. -/
theorem doWdogKick_second {v : Word} {e : Nat} (hv : bits v.toNat 0 16 = 0xA5A5) (he : s.is R.PLT_WDOG_STATUS_EXPECT = true)
    (hw : s.sup.hostWdog = some e) :
    doWdogKick v s = { s.setB R.PLT_WDOG_STATUS_EXPECT false with
      sup := { s.sup with hostWdog := (s.setB R.PLT_WDOG_STATUS_EXPECT false).wdogFull } } := by
  simp [doWdogKick, hv, he, hw]

/-- Another pattern is counted and is no kick. -/
theorem doWdogKick_wrong {v : Word} (hv : bits v.toNat 0 16 ≠ if s.is R.PLT_WDOG_STATUS_EXPECT = true then 0xA5A5 else 0x5A5A) :
    doWdogKick v s = s.count R.PLT_WDOG_STATUS_BAD 1 := by
  simp only [doWdogKick, if_neg hv]

/-- A full host period is HOST_TIMEOUT ms from now. -/
theorem Dev.wdogFull_of_ne (h : s.get R.PLT_WDOG_CFG_HOST_TIMEOUT ≠ 0) :
    s.wdogFull = some (s.ticks + s.get R.PLT_WDOG_CFG_HOST_TIMEOUT * msTicks) := by
  simp [Dev.wdogFull, h]

theorem Dev.wdogFull_of_eq_zero (h : s.get R.PLT_WDOG_CFG_HOST_TIMEOUT = 0) : s.wdogFull = none := by
  simp [Dev.wdogFull, h]

/-! WDOG_CFG_WRITE (R94, R96). -/

/-- The block with HOST_TIMEOUT n and the pair expected from its start, before the period is set. -/
def Dev.wdogSetUp (s : Dev) (n : Nat) : Dev := (s.set R.PLT_WDOG_CFG_HOST_TIMEOUT n).set R.PLT_WDOG_STATUS_EXPECT 0

theorem Dev.get_wdogSetUp (n : Nat) (hn : n < 2 ^ 14) : (s.wdogSetUp n).get R.PLT_WDOG_CFG_HOST_TIMEOUT = n := by
  have apart : R.PLT_WDOG_STATUS_EXPECT.apart R.PLT_WDOG_CFG_HOST_TIMEOUT = true := by decide
  have fits : R.PLT_WDOG_CFG_HOST_TIMEOUT.fits = true := by decide
  rw [Dev.wdogSetUp, Dev.get_set_apart _ _ _ _ apart, Dev.get_set _ _ _ fits]
  exact Nat.mod_eq_of_lt hn

/-- A legal HOST_TIMEOUT is taken; the period starts but in the modes that suspend it. -/
theorem doWdogCfgWrite_legal {v : Word} (hv : bits v.toNat 0 14 = 0 ∨ 100 ≤ bits v.toNat 0 14 ∧ bits v.toNat 0 14 ≤ 10000) :
    doWdogCfgWrite v s = { s.wdogSetUp (bits v.toNat 0 14) with
      sup := { s.sup with hostWdog :=
        if s.sup.mode = .bivouac ∨ s.sup.mode = .test then none else (s.wdogSetUp (bits v.toNat 0 14)).wdogFull } } := by
  have legal : ¬(bits v.toNat 0 14 ≠ 0 ∧ (bits v.toNat 0 14 < 100 ∨ 10000 < bits v.toNat 0 14)) := by omega
  simp only [doWdogCfgWrite, if_neg legal]
  rfl

/-- An illegal HOST_TIMEOUT is discarded (R8). -/
theorem doWdogCfgWrite_illegal {v : Word} (h0 : bits v.toNat 0 14 ≠ 0) (hv : bits v.toNat 0 14 < 100 ∨ 10000 < bits v.toNat 0 14) :
    doWdogCfgWrite v s = s := by
  simp only [doWdogCfgWrite, if_pos (And.intro h0 hv)]

theorem doWdogCfgWrite_frame (v : Word) : Dev.Frame false [.sup] [R.PLT_WDOG_CFG, R.PLT_WDOG_STATUS] s (doWdogCfgWrite v s) := by
  unfold doWdogCfgWrite
  refine Dev.Frame.ite (fun _ => .refl ..) fun _ => ?_
  exact (((Dev.Frame.refl ..).set _ _ (by decide)).set _ _ (by decide)).sup_ _ (by decide)

/-! WDOG_WARN (R95). -/

/-- The warning for the period that ends at e has been given. -/
def Dev.markWarned (s : Dev) (e : Nat) : Dev := { s with sup := { s.sup with wdogWarned := some e } }

/-- Half a host period before its end e the warning is raised and journalled, once for a period. -/
theorem doWdogWarn_due {e : Nat} (hw : s.sup.hostWdog = some e) (hn : s.sup.wdogWarned ≠ some e) :
    doWdogWarn s = (((s.until_ (e - s.get R.PLT_WDOG_CFG_HOST_TIMEOUT * msTicks / 2)).markWarned e).raise R.PLT_IRQ_WDOG_WARN).event
      0x0080 (le 1 3) := by
  unfold doWdogWarn
  rw [hw]
  exact if_neg hn

/-! PACE_COMPARE (R99, R100). -/

/-- MOD_PACE_STATUS as a comparison leaves it. -/
def Dev.paceStatus (s : Dev) (measured setting : Nat) (high low : Bool) : Dev :=
  (((s.set R.MOD_PACE_STATUS_MEASURED measured).set R.MOD_PACE_STATUS_SETTING setting).setB R.MOD_PACE_STATUS_SAT_HIGH high).setB
    R.MOD_PACE_STATUS_SAT_LOW low

theorem Dev.get_paceStatus_setting (measured setting : Nat) (high low : Bool) (h : setting < 2 ^ 10) :
    (s.paceStatus measured setting high low).get R.MOD_PACE_STATUS_SETTING = setting := by
  rw [Dev.paceStatus, Dev.get_setB_apart _ _ _ _ (by decide), Dev.get_setB_apart _ _ _ _ (by decide), Dev.get_set _ _ _ (by decide)]
  exact Nat.mod_eq_of_lt h

theorem Dev.get_paceStatus_measured (measured setting : Nat) (high low : Bool) (h : measured < 2 ^ 16) :
    (s.paceStatus measured setting high low).get R.MOD_PACE_STATUS_MEASURED = measured := by
  rw [Dev.paceStatus, Dev.get_setB_apart _ _ _ _ (by decide), Dev.get_setB_apart _ _ _ _ (by decide),
    Dev.get_set_apart _ _ _ _ (by decide), Dev.get_set _ _ _ (by decide)]
  exact Nat.mod_eq_of_lt h

theorem Dev.Frame.paceStatus {m : Bool} {P : List Part} {L : List Nat} {t : Dev} (h : Dev.Frame m P L s t)
    (hL : R.MOD_PACE_STATUS_SETTING.reg ∈ L) (measured setting : Nat) (high low : Bool) :
    Dev.Frame m P L s (t.paceStatus measured setting high low) :=
  (((h.set R.MOD_PACE_STATUS_MEASURED _ hL).set R.MOD_PACE_STATUS_SETTING _ hL).setB R.MOD_PACE_STATUS_SAT_HIGH _ hL).setB
    R.MOD_PACE_STATUS_SAT_LOW _ hL

/-- PACE_SAT raised and journalled where a saturation bit rose. -/
def Dev.paceReport (s : Dev) (rose : Bool) : Dev := if rose then (s.raise R.MOD_IRQ_PACE_SAT).event 0x0080 (le 1 4) else s

theorem Dev.get_paceReport (rose : Bool) (f : Fld) (hf : R.MOD_IRQ_PACE_SAT.apart f = true) (hm : msgReg f.reg = false) :
    (s.paceReport rose).get f = s.get f := by
  unfold Dev.paceReport
  split
  · rw [Dev.get_event _ _ _ _ hm, Dev.get_raise_apart _ _ _ hf]
  · rfl

theorem Dev.Frame.paceReport {P : List Part} {L : List Nat} {t : Dev} (h : Dev.Frame true P L s t) (hL : R.MOD_IRQ ∈ L) (rose : Bool) :
    Dev.Frame true P L s (t.paceReport rose) :=
  Dev.Frame.ite (fun _ => (h.raise _ hL).event _ _) fun _ => h

/-- The setting after a comparison with reading r (R99). -/
def Dev.paceNext (s : Dev) (r : Nat) : Nat :=
  if r < s.get R.MOD_PACE_TARGET_TARGET then min 850 (s.get R.MOD_PACE_STATUS_SETTING + 5)
  else if 102 * s.get R.MOD_PACE_TARGET_TARGET < 100 * r then max 680 (s.get R.MOD_PACE_STATUS_SETTING - 5)
  else s.get R.MOD_PACE_STATUS_SETTING

theorem Dev.paceNext_lt (r : Nat) : s.paceNext r < 2 ^ 10 := by
  have hv : s.get R.MOD_PACE_STATUS_SETTING < 2 ^ 10 := s.get_lt _
  unfold Dev.paceNext
  split
  · omega
  · split <;> omega

/-- Target 0 holds 0.68 V without saturation. -/
theorem doPaceCompare_held {r : BitVec 16} (hm : s.sup.mode ≠ .bivouac) (ht : s.get R.MOD_PACE_TARGET_TARGET = 0) :
    doPaceCompare r s = s.paceStatus r.toNat 680 false false := by
  simp only [doPaceCompare, if_neg hm, if_pos ht]
  rfl

/-- Another target moves the setting by a step, and a saturation that begins is reported. -/
theorem doPaceCompare_loop {r : BitVec 16} (hm : s.sup.mode ≠ .bivouac) (ht : s.get R.MOD_PACE_TARGET_TARGET ≠ 0) :
    ∃ high low rose, doPaceCompare r s = (s.paceStatus r.toNat (s.paceNext r.toNat) high low).paceReport rose := by
  simp only [doPaceCompare, if_neg hm, if_neg ht]
  exact ⟨_, _, _, rfl⟩

/-! The obligation's clauses, for the block. -/

theorem doWdogKick_first_advances {v : Word} (hv : bits v.toNat 0 16 = 0x5A5A) (he : s.is R.PLT_WDOG_STATUS_EXPECT = false) :
    (doWdogKick v s).is R.PLT_WDOG_STATUS_EXPECT = true ∧ Dev.Frame false [] [R.PLT_WDOG_STATUS] s (doWdogKick v s) := by
  rw [doWdogKick_first hv he]
  exact ⟨s.is_setB _ _ (by decide), (Dev.Frame.refl ..).setB _ _ (by decide)⟩

theorem doWdogKick_second_restarts {v : Word} {e : Nat} (hv : bits v.toNat 0 16 = 0xA5A5) (he : s.is R.PLT_WDOG_STATUS_EXPECT = true)
    (hw : s.sup.hostWdog = some e) (hn : s.get R.PLT_WDOG_CFG_HOST_TIMEOUT ≠ 0) :
    (doWdogKick v s).is R.PLT_WDOG_STATUS_EXPECT = false ∧
      (doWdogKick v s).sup.hostWdog = some (s.ticks + s.get R.PLT_WDOG_CFG_HOST_TIMEOUT * msTicks) ∧
      Dev.Frame false [.sup] [R.PLT_WDOG_STATUS] s (doWdogKick v s) := by
  have timeout : (s.setB R.PLT_WDOG_STATUS_EXPECT false).get R.PLT_WDOG_CFG_HOST_TIMEOUT = s.get R.PLT_WDOG_CFG_HOST_TIMEOUT :=
    s.get_setB_apart _ _ _ (by decide)
  rw [doWdogKick_second hv he hw, Dev.wdogFull_of_ne (timeout ▸ hn), timeout]
  exact ⟨s.is_setB _ _ (by decide), rfl, ((Dev.Frame.refl ..).setB _ _ (by decide)).sup_ _ (by decide)⟩

theorem doWdogKick_wrong_counts {v : Word}
    (hv : bits v.toNat 0 16 ≠ if s.is R.PLT_WDOG_STATUS_EXPECT = true then 0xA5A5 else 0x5A5A) :
    (doWdogKick v s).get R.PLT_WDOG_STATUS_BAD = min (s.get R.PLT_WDOG_STATUS_BAD + 1) (2 ^ R.PLT_WDOG_STATUS_BAD.w - 1) ∧
      (doWdogKick v s).is R.PLT_WDOG_STATUS_EXPECT = s.is R.PLT_WDOG_STATUS_EXPECT ∧
      Dev.Frame false [] [R.PLT_WDOG_STATUS] s (doWdogKick v s) := by
  rw [doWdogKick_wrong hv]
  exact ⟨s.get_count _ _ (by decide), s.is_count_apart _ _ _ (by decide), (Dev.Frame.refl ..).count _ _ (by decide)⟩

theorem doWdogCfgWrite_arms {v : Word} (h1 : 100 ≤ bits v.toNat 0 14) (h2 : bits v.toNat 0 14 ≤ 10000)
    (hb : s.sup.mode ≠ .bivouac) (ht : s.sup.mode ≠ .test) :
    (doWdogCfgWrite v s).get R.PLT_WDOG_CFG_HOST_TIMEOUT = bits v.toNat 0 14 ∧
      (doWdogCfgWrite v s).sup.hostWdog = some (s.ticks + bits v.toNat 0 14 * msTicks) := by
  have timeout := s.get_wdogSetUp (bits v.toNat 0 14) (by omega)
  have nonzero : (s.wdogSetUp (bits v.toNat 0 14)).get R.PLT_WDOG_CFG_HOST_TIMEOUT ≠ 0 := by omega
  rw [doWdogCfgWrite_legal (.inr ⟨h1, h2⟩), if_neg (not_or.mpr ⟨hb, ht⟩), Dev.wdogFull_of_ne nonzero, timeout]
  exact ⟨timeout, rfl⟩

theorem doWdogCfgWrite_disarms {v : Word} (h0 : bits v.toNat 0 14 = 0) :
    (doWdogCfgWrite v s).get R.PLT_WDOG_CFG_HOST_TIMEOUT = 0 ∧ (doWdogCfgWrite v s).sup.hostWdog = none := by
  have timeout := s.get_wdogSetUp 0 (by decide)
  rw [doWdogCfgWrite_legal (.inl h0), h0, Dev.wdogFull_of_eq_zero timeout, ite_self]
  exact ⟨timeout, rfl⟩

theorem doWdogWarn_due_warns {e : Nat} (hw : s.sup.hostWdog = some e) (hn : s.sup.wdogWarned ≠ some e) :
    (doWdogWarn s).is R.PLT_IRQ_WDOG_WARN = true ∧ (doWdogWarn s).sup.wdogWarned = some e ∧
      (doWdogWarn s).ticks = max s.ticks (e - s.get R.PLT_WDOG_CFG_HOST_TIMEOUT * msTicks / 2) ∧
      Dev.Frame true [.sup, .ticks, .tmb] [R.PLT_IRQ] s (doWdogWarn s) := by
  rw [doWdogWarn_due hw hn]
  refine ⟨?_, ?_, ?_, ?_⟩
  · rw [Dev.is_event _ _ _ _ (by decide), Dev.is_raise_same _ _ (by decide)]
  · rw [Dev.sup_event, Dev.sup_raise]
    rfl
  · rw [Dev.ticks_event, Dev.ticks_raise]
    exact s.ticks_until _
  · exact ((((Dev.Frame.refl ..).until_ _ (by decide)).sup_ _ (by decide)).raise _ (by decide)).event _ _

theorem doPaceCompare_loop_steps {r : BitVec 16} (hm : s.sup.mode ≠ .bivouac) (ht : s.get R.MOD_PACE_TARGET_TARGET ≠ 0) :
    (doPaceCompare r s).get R.MOD_PACE_STATUS_SETTING = s.paceNext r.toNat ∧
      (doPaceCompare r s).get R.MOD_PACE_STATUS_MEASURED = r.toNat ∧
      Dev.Frame true [] [R.MOD_PACE_STATUS_SETTING.reg, R.MOD_IRQ] s (doPaceCompare r s) := by
  obtain ⟨high, low, rose, next⟩ := doPaceCompare_loop (r := r) hm ht
  rw [next]
  refine ⟨?_, ?_, ?_⟩
  · rw [Dev.get_paceReport _ _ (by decide) (by decide), Dev.get_paceStatus_setting _ _ _ _ (s.paceNext_lt _)]
  · rw [Dev.get_paceReport _ _ (by decide) (by decide), Dev.get_paceStatus_measured _ _ _ _ r.isLt]
  · exact ((Dev.Frame.refl ..).paceStatus (by decide) _ _ _ _).paceReport (by decide) _

theorem doPaceCompare_held_rests {r : BitVec 16} (hm : s.sup.mode ≠ .bivouac) (ht : s.get R.MOD_PACE_TARGET_TARGET = 0) :
    (doPaceCompare r s).get R.MOD_PACE_STATUS_SETTING = 680 ∧ (doPaceCompare r s).get R.MOD_PACE_STATUS_MEASURED = r.toNat ∧
      Dev.Frame false [] [R.MOD_PACE_STATUS_SETTING.reg] s (doPaceCompare r s) := by
  rw [doPaceCompare_held hm ht]
  exact ⟨Dev.get_paceStatus_setting _ _ _ _ (by decide), Dev.get_paceStatus_measured _ _ _ _ r.isLt,
    (Dev.Frame.refl ..).paceStatus (by decide) _ _ _ _⟩

/-- Settles O16: outside a reset each command answers its effect on the block, and each clause is what that effect does in its case. -/
theorem watchdogAndPace : Obligations.WatchdogAndPace := by
  intro s hs
  refine ⟨?kickFirst, ?kickSecond, ?kickWrong, ?arm, ?disarm, ?illegal, ?warn, ?paceLoop, ?paceHeld⟩
  case kickFirst => exact fun v hv he => ⟨_, answers_wdogKick hs v, doWdogKick_first_advances hv he⟩
  case kickSecond => exact fun v e hv he hw hn => ⟨_, answers_wdogKick hs v, doWdogKick_second_restarts hv he hw hn⟩
  case kickWrong => exact fun v hv => ⟨_, answers_wdogKick hs v, doWdogKick_wrong_counts hv⟩
  case arm =>
    intro v h1 h2 hb ht
    obtain ⟨timeout, period⟩ := doWdogCfgWrite_arms h1 h2 hb ht
    exact ⟨_, answers_wdogCfgWrite hs v, timeout, period, doWdogCfgWrite_frame v⟩
  case disarm =>
    intro v h0
    obtain ⟨timeout, period⟩ := doWdogCfgWrite_disarms (s := s.dev) h0
    exact ⟨_, answers_wdogCfgWrite hs v, timeout, period, doWdogCfgWrite_frame v⟩
  case illegal =>
    intro v h0 hv
    have answer := answers_wdogCfgWrite hs v
    rwa [doWdogCfgWrite_illegal h0 hv] at answer
  case warn => exact fun e hw hn => ⟨_, answers_wdogWarn hs, doWdogWarn_due_warns hw hn⟩
  case paceLoop => exact fun r hm ht _ => ⟨_, answers_paceCompare hs r, doPaceCompare_loop_steps hm ht⟩
  case paceHeld => exact fun r hm ht _ => ⟨_, answers_paceCompare hs r, doPaceCompare_held_rests hm ht⟩

end Sys2Proof.Machine

/-!
PROOFS. The choice of the active port (R117 to R119), adaptation (R105) and the pattern checker (R120): what each of PORT_SELECT,
AUTO_SWITCH, SWITCH_COMPLETE, HOLD_EXPIRY, ADAPTATION_UPDATE and LINE_PRBS_LOCK_CHANGE makes of the block, and obligation O13.
-/
namespace Sys2Proof.Machine

section
variable {s : State} (hs : s.runs)
include hs

theorem answers_portSelect (p : Port) : answers (.portSelect p) s (doPortSelect p s.dev) := State.run_of_runs hs _
theorem answers_autoSwitch : answers .autoSwitch s (doAutoSwitch s.dev) := State.run_of_runs hs _
theorem answers_switchComplete : answers .switchComplete s (doSwitchComplete s.dev) := State.run_of_runs hs _
theorem answers_holdExpiry : answers .holdExpiry s (doHoldExpiry s.dev) := State.run_of_runs hs _
theorem answers_adaptationUpdate (p : Port) (ctle : Int) (steps : List Int) :
    answers (.adaptationUpdate p ctle steps) s (doAdaptationUpdate p ctle steps s.dev) := State.run_of_runs hs _
theorem answers_linePrbsLockChange (p : Port) (lock : Bool) (errors : Nat) :
    answers (.linePrbsLockChange p lock errors) s (doLinePrbsLockChange p lock errors s.dev) := State.run_of_runs hs _

end

theorem Fld.apart_of_reg_ne {f g : Fld} (hf : f.fits = true) (h : g.reg ≠ f.reg) : f.apart g = true := by
  simp [Fld.apart, (Fld.fits_spec hf).1, h]

/-! What a frame says of a field, and frames of the updates that a port switch makes. -/

section
variable {m : Bool} {P : List Part} {L : List Nat} {s t : Dev}

theorem Dev.Frame.get_eq (h : Dev.Frame m P L s t) (f : Fld) (hf : f.reg ∉ L) (hm : (m && msgReg f.reg) = false) : t.get f = s.get f := by
  unfold Dev.get
  rw [h.regs _ hf hm]

theorem Dev.Frame.forEach_mem {α : Type} {l : List α} {f : α → Dev → Dev}
    (hf : ∀ x ∈ l, ∀ u : Dev, Dev.Frame m P L s u → Dev.Frame m P L s (f x u)) (h : Dev.Frame m P L s t) :
    Dev.Frame m P L s (Sys2Proof.Machine.forEach l t f) := by
  unfold Sys2Proof.Machine.forEach
  induction l generalizing t with
  | nil => exact h
  | cons x l ih => exact ih (fun y hy => hf y (List.mem_cons_of_mem x hy)) (hf x List.mem_cons_self t h)

theorem Dev.Frame.setGrantIds (h : Dev.Frame m P L s t) (hL : recordRegs ⊆ L) (l : List Nat) : Dev.Frame m P L s (t.setGrantIds l) := by
  have slot : ∀ n ∈ List.range 32, (R.ACT_GRANT_ID_ID n).reg ∈ L := fun n hn =>
    hL (List.mem_append_right _ (List.mem_map_of_mem hn))
  unfold Dev.setGrantIds
  refine Dev.Frame.forEach_mem (fun n hn u hu => ?_) (h.set _ _ (hL (by decide)))
  split
  · exact (hu.set _ _ (slot n hn)).set _ _ (slot n hn)
  · exact (hu.set _ _ (slot n hn)).set _ _ (slot n hn)

theorem Dev.Frame.clearRecord (h : Dev.Frame m P L s t) (hp : Part.act ∈ P) (hL : recordRegs ⊆ L) : Dev.Frame m P L s t.clearRecord :=
  (((((h.act_ _ hp).set _ _ (hL (by decide))).set _ _ (hL (by decide))).wr _ _ (hL (by decide))).set _ _ (hL (by decide))).setGrantIds hL _

theorem Dev.Frame.discardLine (h : Dev.Frame m P L s t) (hp : Part.tmb ∈ P) (hd : R.TMB_MEAS_DISCARDS_LINE.reg ∈ L)
    (hv : R.TMB_LINE_STATUS_LINE_VALID.reg ∈ L) : Dev.Frame m P L s t.discardLine := by
  unfold Dev.discardLine
  split
  · exact ((h.tmb_ _ hp).count _ _ hd).set _ _ hv
  · exact h

theorem Dev.Frame.dropUpstream (h : Dev.Frame m P L s t) (hp : Part.lfr ∈ P) (hu : R.LFR_US_COUNTS_UNUSED.reg ∈ L) :
    Dev.Frame m P L s t.dropUpstream := (h.lfr_ _ hp).count _ _ hu

end

/-! A record on the mirror path (R434, R435). -/

section
variable {P : List Part} {L : List Nat} {s t : Dev}

theorem Dev.ropeQueue_lt {port j q : Nat} (h : s.ropeQueue port j = some q) : q < 8192 := by
  have hq : q ∈ s.queuesOf (9 + port) := List.mem_of_getElem? h
  exact List.mem_range.mp (List.mem_filter.mp hq).1

theorem Dev.sends_admitFrame (f : QFrame) (hq : f.queue < 8192) : s.Sends (s.admitFrame f) :=
  (s.sends_enqueue f hq).trans (Dev.sends_schEventsOnce _ _ _)

theorem Dev.Frame.ropeOut (h : Dev.Frame true P L s t) (hL : mirrorRegs ⊆ L) (dst j : Nat) (hdr : List Byte) (f : QFrame) :
    Dev.Frame true P L s (t.ropeOut dst j hdr f) := by
  unfold Dev.ropeOut
  split
  · exact h.countR _ _ (hL (by decide))
  · split
    next q hq => exact h.sends (Dev.sends_admitFrame _ (Dev.ropeQueue_lt hq))
    next => exact h.count _ _ (hL (by decide))

theorem Dev.Frame.mirrorPut (h : Dev.Frame true P L s t) (hL : mirrorRegs ⊆ L) (r : MirrorRec) (resend : Bool) :
    Dev.Frame true P L s (t.mirrorPut r resend) := by
  unfold Dev.mirrorPut
  refine Dev.Frame.ite (fun _ => h) fun _ => Dev.Frame.ite (fun _ => ?_) fun _ => Dev.Frame.ite (fun _ => h.sends (t.sends_emit _)) fun _ => h
  split
  · exact h.ropeOut hL _ _ _ _
  · exact h

theorem Dev.Frame.mirrorReg (h : Dev.Frame true P L s t) (hp : Part.twn ∈ P) (hL : mirrorRegs ⊆ L) : Dev.Frame true P L s t.mirrorReg :=
  Dev.Frame.ite (fun _ => ((h.twn_ _ hp).wr _ _ (hL (by decide))).mirrorPut hL _ _) fun _ => h

end

/-! Activation at a port switch (A10, A15, A16). -/

section
variable {s : Dev}

/-- Registers that activation may write as it takes a port switch: those of a mirror record, the registration record, and the count of
replaced STATUS packets. -/
def lostRegs : List Nat := R.BEL_TX_COUNTS_REPLACED.reg :: (mirrorRegs ++ recordRegs)

theorem mirrorRegs_subset_lostRegs : mirrorRegs ⊆ lostRegs := by decide
theorem recordRegs_subset_lostRegs : recordRegs ⊆ lostRegs := by decide

/-- A new activation state is mirrored (R435) and may queue a STATUS (R193), and no more. -/
theorem Dev.Frame.setAct {t : Dev} (h : Dev.Frame true [.act, .twn, .bel] lostRegs s t) (x : ActSt) :
    Dev.Frame true [.act, .twn, .bel] lostRegs s (t.setAct x) := by
  have mirrored := (h.act_ { t.act with
    st := x, hintA := if x = .lost then t.act.hintA else none, hintB := if x = .lost then t.act.hintB else none,
    since := if x = t.act.st then t.act.since else t.ticks } (by decide)).mirrorReg (by decide) mirrorRegs_subset_lostRegs
  refine Dev.Frame.ite (fun _ => ?_) fun _ => mirrored
  exact (Dev.Frame.ite (fun _ => mirrored.count R.BEL_TX_COUNTS_REPLACED 1 (by decide)) fun _ => mirrored).bel_ _ (by decide)

theorem Dev.frame_actLost (b : Bool) : Dev.Frame true [.act, .twn, .bel] lostRegs s (s.actLost b) := by
  have same : Dev.Frame true [.act, .twn, .bel] lostRegs s s := .refl ..
  have cleared := same.clearRecord (by decide) recordRegs_subset_lostRegs
  unfold Dev.actLost
  split
  · exact (same.act_ _ (by decide)).setAct _
  · exact Dev.Frame.ite (fun _ => same.setAct _) fun _ => same
  · exact cleared.setAct _
  · exact cleared.setAct _
  · exact cleared.setAct _
  · exact same

theorem Dev.frame_mirrorReg : Dev.Frame true [.twn] mirrorRegs s s.mirrorReg :=
  (Dev.Frame.refl ..).mirrorReg (by decide) (List.Subset.refl _)

theorem Dev.bel_mirrorReg : s.mirrorReg.bel = s.bel := Dev.frame_mirrorReg.parts .bel (by decide)

theorem Dev.win_queueStatus : s.queueStatus.bel.win = s.bel.win := by
  unfold Dev.queueStatus
  simp only
  split
  · rw [Dev.bel_count]
  · rfl

/-- A new activation state leaves the belay receiver's window as it is. -/
theorem Dev.win_setAct (x : ActSt) : (s.setAct x).bel.win = s.bel.win := by
  unfold Dev.setAct
  simp only
  split
  · rw [Dev.win_queueStatus, Dev.bel_mirrorReg]
  · rw [Dev.bel_mirrorReg]

theorem Dev.win_clearRecord : s.clearRecord.bel.win = s.bel.win := by
  have cleared : Dev.Frame false [.act] recordRegs s s.clearRecord := (Dev.Frame.refl ..).clearRecord (by decide) (List.Subset.refl _)
  have bel : s.clearRecord.bel = s.bel := cleared.parts .bel (by decide)
  rw [bel]

theorem Dev.win_actLost (b : Bool) : (s.actLost b).bel.win = s.bel.win := by
  unfold Dev.actLost
  split
  · exact Dev.win_setAct _
  · split
    · exact Dev.win_setAct _
    · rfl
  · exact (Dev.win_setAct _).trans Dev.win_clearRecord
  · exact (Dev.win_setAct _).trans Dev.win_clearRecord
  · exact (Dev.win_setAct _).trans Dev.win_clearRecord
  · rfl

end

/-! Triggers at the mode controller (R79, R507, Table 4-3). -/

section
variable {P : List Part} {L : List Nat} {s t : Dev}

theorem Dev.Frame.setMode (h : Dev.Frame true P L s t) (hs : Part.sup ∈ P) (hp : Part.pwr ∈ P) (ht : R.MOD_TRANSITIONS ∈ L)
    (hi : R.MOD_IRQ ∈ L) (row : Nat) (dest : Mode) (x : Trigger) : Dev.Frame true P L s (t.setMode row dest x) :=
  ((((h.sup_ _ hs).countR _ _ ht).raise _ hi).event _ _).revote hp

/-- A trigger that is no wake is held, completes a row, or does nothing. -/
theorem Dev.Frame.trigger (h : Dev.Frame true P L s t) (hs : Part.sup ∈ P) (hp : Part.pwr ∈ P) (ht : R.MOD_TRANSITIONS ∈ L)
    (hi : R.MOD_IRQ ∈ L) {x : Trigger} (hx : x.wake = false) : Dev.Frame true P L s (t.trigger x) := by
  have noWake : ∀ {q : Prop}, ¬(x.wake = true ∧ q) := by simp [hx]
  unfold Dev.trigger
  refine Dev.Frame.ite (fun _ => ?held) fun _ => ?taken
  case held =>
    rw [if_neg noWake]
    exact h.sup_ _ hs
  case taken =>
    unfold Dev.evalTrigger
    rw [if_neg noWake]
    refine Dev.Frame.ite (fun _ => h) fun _ => ?_
    split
    · exact h.setMode hs hp ht hi _ _ _
    · exact h

theorem Dev.sup_revote : s.revote.sup = s.sup :=
  ((Dev.Frame.refl false [.pwr] [] s).revote (by decide)).parts .sup (by decide)

theorem Dev.mode_setMode (row : Nat) (dest : Mode) (x : Trigger) : (s.setMode row dest x).sup.mode = dest := by
  simp [Dev.setMode, Dev.sup_revote]

theorem Dev.transit_setMode (row : Nat) (dest : Mode) (x : Trigger) : (s.setMode row dest x).sup.transit = s.sup.transit := by
  simp [Dev.setMode, Dev.sup_revote]

/-- Outside a timed transition a trigger that is no wake takes the row it finds. -/
theorem Dev.trigger_of_row {x : Trigger} {n : Nat} {d : Mode} (ht : s.sup.transit = none) (hx : x.wake = false)
    (hr : s.row x = some (n, d)) : s.trigger x = s.setMode n d x := by
  simp [Dev.trigger, Dev.evalTrigger, ht, hx, hr]

theorem Dev.trigger_of_no_row {x : Trigger} (ht : s.sup.transit = none) (hx : x.wake = false) (hr : s.row x = none) : s.trigger x = s := by
  simp [Dev.trigger, Dev.evalTrigger, ht, hx, hr]

/-- Rows 9 and 12: a port switch leaves SERVICE and STANDBY for ISLAND. -/
theorem Dev.trigger_portSwitch_island (ht : s.sup.transit = none) (hm : s.sup.mode = .service ∨ s.sup.mode = .standby) :
    (s.trigger .portSwitch).sup.mode = .island ∧ (s.trigger .portSwitch).sup.transit = none := by
  have row : ∃ n, s.row .portSwitch = some (n, .island) := by
    rcases hm with hm | hm
    · exact ⟨9, by simp [Dev.row, hm]⟩
    · exact ⟨12, by simp [Dev.row, hm]⟩
  obtain ⟨n, hn⟩ := row
  rw [Dev.trigger_of_row ht rfl hn]
  exact ⟨Dev.mode_setMode .., (Dev.transit_setMode ..).trans ht⟩

/-- No row leaves ISLAND by ALIGNED. -/
theorem Dev.trigger_aligned_island (ht : s.sup.transit = none) (hm : s.sup.mode = .island) : s.trigger .aligned = s :=
  Dev.trigger_of_no_row ht rfl (by simp [Dev.row, hm])

end

/-! SWITCH_COMPLETE: steps 2 to 4 of R119. -/

section
variable {s : Dev}

/-- Registers that count what step 2 discards, and the line window's validity. -/
def discardRegs : List Nat := [R.LFR_US_COUNTS_UNUSED.reg, R.TMB_MEAS_DISCARDS_LINE.reg, R.TMB_LINE_STATUS_LINE_VALID.reg]

/-- Both ports' roles and the source as step 2 sets them, the receiver's window closed. -/
def Dev.takeRoles (s : Dev) (p : Port) : Dev :=
  ((({ s with bel := { s.bel with win := none } } : Dev).set (R.LFE_x_STATUS_ROLE p.other.ix) 1).set (R.LFE_x_STATUS_ROLE p.ix) 2).set
    R.LFE_STATUS_SOURCE p.ix

theorem Dev.frame_swapPorts (p : Port) : Dev.Frame false [.lfr, .tmb] discardRegs (s.takeRoles p) (s.swapPorts p) :=
  ((Dev.Frame.refl ..).dropUpstream (by decide) (by decide)).discardLine (by decide) (by decide) (by decide)

theorem Dev.up_swapPorts (p : Port) : (s.swapPorts p).lfr.up = [] := by
  have kept : (s.swapPorts p).lfr = (s.takeRoles p).dropUpstream.lfr :=
    ((Dev.Frame.refl false [.tmb] discardRegs (s.takeRoles p).dropUpstream).discardLine (by decide) (by decide) (by decide)).parts .lfr (by decide)
  rw [kept]
  rfl

/-- Step 2: the new port is ACTIVE and the source, the old one WARM. -/
theorem Dev.swapPorts_roles (p : Port) :
    (s.swapPorts p).get (R.LFE_x_STATUS_ROLE p.ix) = 2 ∧ (s.swapPorts p).get (R.LFE_x_STATUS_ROLE p.other.ix) = 1 ∧
      (s.swapPorts p).get R.LFE_STATUS_SOURCE = p.ix := by
  have kept := s.frame_swapPorts p
  rw [kept.get_eq _ (by cases p <;> decide) (by rfl), kept.get_eq _ (by cases p <;> decide) (by rfl), kept.get_eq _ (by decide) (by rfl)]
  unfold Dev.takeRoles
  refine ⟨?active, ?warm, ?source⟩
  case active => rw [Dev.get_set_apart _ _ _ _ (by cases p <;> decide), Dev.get_set _ _ _ (by cases p <;> decide)]; rfl
  case warm =>
    rw [Dev.get_set_apart _ _ _ _ (by cases p <;> decide), Dev.get_set_apart _ _ _ _ (by cases p <;> decide),
      Dev.get_set _ _ _ (by cases p <;> decide)]
    rfl
  case source => rw [Dev.get_set _ _ _ (by decide)]; cases p <;> rfl

theorem Dev.get_swapPorts_holdoff (p : Port) : (s.swapPorts p).get R.LFE_SEL_HOLDOFF = s.get R.LFE_SEL_HOLDOFF := by
  rw [(s.frame_swapPorts p).get_eq _ (by decide) (by rfl)]
  unfold Dev.takeRoles
  rw [Dev.get_set_apart _ _ _ _ (by decide), Dev.get_set_apart _ _ _ _ (by cases p <;> decide),
    Dev.get_set_apart _ _ _ _ (by cases p <;> decide)]
  rfl

/-- Step 3 but for the switch's own state: PORT_SWITCH at activation and at the mode controller, and ALIGNED of a source that is
aligned already. -/
def Dev.takePortSwitch (s : Dev) : Dev :=
  let t := (s.actLost true).trigger .portSwitch
  if t.aligned then t.trigger .aligned else t

theorem Dev.portSwitched_eq :
    s.portSwitched = { s.takePortSwitch with lfe := { s.takePortSwitch.lfe with switching := none } }.set R.LFE_STATUS_SWITCHING 0 := rfl

/-- Registers that step 3 may write in other blocks. -/
def takenRegs : List Nat := R.MOD_TRANSITIONS :: R.MOD_IRQ :: lostRegs

theorem Dev.frame_takePortSwitch : Dev.Frame true [.sup, .pwr, .act, .twn, .bel] takenRegs s s.takePortSwitch := by
  have lost : Dev.Frame true [.sup, .pwr, .act, .twn, .bel] takenRegs s (s.actLost true) :=
    (s.frame_actLost true).mono (by decide) fun _ h => List.mem_cons_of_mem _ (List.mem_cons_of_mem _ h)
  have switched := lost.trigger (x := .portSwitch) (by decide) (by decide) (by decide) (by decide) rfl
  exact Dev.Frame.ite (fun _ => switched.trigger (by decide) (by decide) (by decide) (by decide) rfl) fun _ => switched

theorem Dev.bel_trigger {x : Trigger} (hx : x.wake = false) : (s.trigger x).bel = s.bel :=
  ((Dev.Frame.refl true [.sup, .pwr] [R.MOD_TRANSITIONS, R.MOD_IRQ] s).trigger (by decide) (by decide) (by decide) (by decide) hx).parts
    .bel (by decide)

theorem Dev.win_takePortSwitch : s.takePortSwitch.bel.win = s.bel.win := by
  unfold Dev.takePortSwitch
  simp only
  split
  · rw [Dev.bel_trigger rfl, Dev.bel_trigger rfl, Dev.win_actLost]
  · rw [Dev.bel_trigger rfl, Dev.win_actLost]

theorem Dev.mode_takePortSwitch (ht : s.sup.transit = none) (hm : s.sup.mode = .service ∨ s.sup.mode = .standby) :
    s.takePortSwitch.sup.mode = .island := by
  have lost : (s.actLost true).sup = s.sup := (s.frame_actLost true).parts .sup (by decide)
  obtain ⟨island, settled⟩ := Dev.trigger_portSwitch_island (s := s.actLost true) (by rwa [lost]) (by rwa [lost])
  unfold Dev.takePortSwitch
  simp only [Dev.trigger_aligned_island settled island, ite_self]
  exact island

/-- Step 4 but for the event: HOLD until its deadline, counted and raised. -/
def Dev.startHold (s : Dev) (auto : Bool) : Dev :=
  ((({ s with lfe := { s.lfe with holdUntil := s.ticks + max (s.get R.LFE_SEL_HOLDOFF) 100 * msTicks } } : Dev).set R.LFE_STATUS_HOLD 1).count
    (if auto then R.LFE_SWITCHES_AUTO else R.LFE_SWITCHES_HOST) 1).raise R.LFE_IRQ_SWITCHED

theorem Dev.switchDone_eq (p : Port) (auto : Bool) : ∃ b, s.switchDone p auto = (s.startHold auto).event 0x0480 b := ⟨_, rfl⟩

theorem Dev.frame_switchDone (p : Port) (auto : Bool) :
    Dev.Frame true [.lfe] [R.LFE_STATUS_HOLD.reg, R.LFE_SWITCHES_AUTO.reg, R.LFE_IRQ] s (s.switchDone p auto) := by
  obtain ⟨b, done⟩ := s.switchDone_eq p auto
  rw [done]
  exact (((((Dev.Frame.refl ..).lfe_ _ (by decide)).set _ _ (by decide)).count _ _ (by cases auto <;> decide)).raise _ (by decide)).event _ _

/-- A field that the switch's end leaves: not one of HOLD, the counts and the interrupt, nor one that a message may change. -/
theorem Dev.get_switchDone (p : Port) (auto : Bool) (f : Fld) (hh : R.LFE_STATUS_HOLD.apart f = true)
    (hc : f.reg ≠ R.LFE_SWITCHES_AUTO.reg) (hi : R.LFE_IRQ_SWITCHED.apart f = true) (hm : msgReg f.reg = false) :
    (s.switchDone p auto).get f = s.get f := by
  obtain ⟨b, done⟩ := s.switchDone_eq p auto
  have counts : (if auto then R.LFE_SWITCHES_AUTO else R.LFE_SWITCHES_HOST).apart f = true := by
    cases auto <;> exact Fld.apart_of_reg_ne (by decide) hc
  rw [done, Dev.get_event _ _ _ _ hm, Dev.startHold, Dev.get_raise_apart _ _ _ hi, Dev.get_count_apart _ _ _ _ counts,
    Dev.get_set_apart _ _ _ _ hh, Dev.get_with_lfe]

/-- Step 4: HOLD is set for HOLDOFF and for 100 ms at least, and the switch reported. -/
theorem Dev.switchDone_holds (p : Port) (auto : Bool) :
    (s.switchDone p auto).is R.LFE_STATUS_HOLD = true ∧ (s.switchDone p auto).is R.LFE_IRQ_SWITCHED = true ∧
      (s.switchDone p auto).lfe = { s.lfe with holdUntil := s.ticks + max (s.get R.LFE_SEL_HOLDOFF) 100 * msTicks } := by
  obtain ⟨b, done⟩ := s.switchDone_eq p auto
  rw [done, Dev.is_event _ _ _ _ (by decide), Dev.is_event _ _ _ _ (by decide), Dev.lfe_event]
  unfold Dev.startHold
  refine ⟨?_, Dev.is_raise_same _ _ (by decide), Dev.lfe_raise ..⟩
  rw [Dev.is_raise_apart _ _ _ (by decide), Dev.is_count_apart _ _ _ _ (by cases auto <;> decide)]
  exact Dev.is_set_one _ _ (by decide) (by decide)

/-- Steps 3 and 4. -/
def Dev.finishSwitch (s : Dev) (p : Port) (auto : Bool) : Dev := s.portSwitched.switchDone p auto

theorem Dev.frame_portSwitched : Dev.Frame true [.lfe, .sup, .pwr, .act, .twn, .bel] (R.LFE_STATUS :: takenRegs) s s.portSwitched :=
  ((Dev.frame_takePortSwitch.mono (fun _ h => List.mem_cons_of_mem _ h) fun _ h => List.mem_cons_of_mem _ h).lfe_ _ (by decide)).set
    R.LFE_STATUS_SWITCHING 0 (by decide)

theorem Dev.frame_finishSwitch (p : Port) (auto : Bool) :
    Dev.Frame true [.lfe, .sup, .pwr, .act, .twn, .bel] (R.LFE_SWITCHES_AUTO.reg :: R.LFE_IRQ :: R.LFE_STATUS :: takenRegs) s
      (s.finishSwitch p auto) :=
  (Dev.frame_portSwitched.mono (fun _ h => h) fun _ h => List.mem_cons_of_mem _ (List.mem_cons_of_mem _ h)).trans
    ((Dev.frame_switchDone p auto).mono (by decide) (by decide))

/-- A field that steps 3 and 4 leave: in no register that they write but STATUS, and there apart from SWITCHING and HOLD. -/
theorem Dev.get_finishSwitch (p : Port) (auto : Bool) (f : Fld)
    (hf : (R.LFE_STATUS_SWITCHING.apart f && R.LFE_STATUS_HOLD.apart f && R.LFE_IRQ_SWITCHED.apart f) = true)
    (hr : f.reg ∉ R.LFE_SWITCHES_AUTO.reg :: takenRegs) (hm : msgReg f.reg = false) : (s.finishSwitch p auto).get f = s.get f := by
  simp only [Bool.and_eq_true] at hf
  obtain ⟨⟨switching, hold⟩, irq⟩ := hf
  obtain ⟨count, taken⟩ := List.ne_and_not_mem_of_not_mem_cons hr
  rw [Dev.finishSwitch, Dev.get_switchDone _ _ _ hold count irq hm, Dev.portSwitched_eq, Dev.get_set_apart _ _ _ _ switching]
  exact Dev.frame_takePortSwitch.get_eq f taken hm

theorem Dev.finishSwitch_holds (p : Port) (auto : Bool) :
    (s.finishSwitch p auto).is R.LFE_STATUS_SWITCHING = false ∧ (s.finishSwitch p auto).is R.LFE_STATUS_HOLD = true ∧
      (s.finishSwitch p auto).lfe.switching = none ∧ (s.finishSwitch p auto).is R.LFE_IRQ_SWITCHED = true ∧
      (s.finishSwitch p auto).lfe.holdUntil = s.ticks + max (s.get R.LFE_SEL_HOLDOFF) 100 * msTicks := by
  obtain ⟨held, raised, lfe⟩ := s.portSwitched.switchDone_holds p auto
  have holdoff : s.portSwitched.get R.LFE_SEL_HOLDOFF = s.get R.LFE_SEL_HOLDOFF := Dev.frame_portSwitched.get_eq _ (by decide) (by decide)
  have ticks : s.portSwitched.ticks = s.ticks := Dev.frame_portSwitched.parts .ticks (by decide)
  rw [holdoff, ticks] at lfe
  refine ⟨?_, held, ?_, raised, ?_⟩
  · rw [Dev.is, Dev.finishSwitch, Dev.get_switchDone _ _ _ (by decide) (by decide) (by decide) (by decide)]
    exact Dev.is_set_zero _ _ (by decide)
  · rw [Dev.finishSwitch, lfe]
    rfl
  · rw [Dev.finishSwitch, lfe]

theorem Dev.win_finishSwitch (p : Port) (auto : Bool) : (s.finishSwitch p auto).bel.win = s.bel.win := by
  have done : (s.finishSwitch p auto).bel = s.portSwitched.bel := (Dev.frame_switchDone p auto).parts .bel (by decide)
  rw [done]
  exact Dev.win_takePortSwitch

theorem Dev.mode_finishSwitch (p : Port) (auto : Bool) (ht : s.sup.transit = none) (hm : s.sup.mode = .service ∨ s.sup.mode = .standby) :
    (s.finishSwitch p auto).sup.mode = .island := by
  have done : (s.finishSwitch p auto).sup = s.portSwitched.sup := (Dev.frame_switchDone p auto).parts .sup (by decide)
  rw [done]
  exact Dev.mode_takePortSwitch ht hm

theorem Dev.ticks_swapPorts (p : Port) : (s.swapPorts p).ticks = s.ticks := (s.frame_swapPorts p).parts .ticks (by decide)

theorem Dev.win_swapPorts (p : Port) : (s.swapPorts p).bel.win = none := by
  have kept : (s.swapPorts p).bel = (s.takeRoles p).bel := (s.frame_swapPorts p).parts .bel (by decide)
  rw [kept]
  rfl

/-- Step 2 once a burst in progress has ended. -/
def Dev.swapAfterBurst (s : Dev) (p : Port) : Dev := (s.until_ (s.lfeP p.other).burstEnd).swapPorts p

/-- A switch completed, before the mode controller follows. -/
def Dev.switchOver (s : Dev) (p : Port) (auto : Bool) : Dev := (s.swapAfterBurst p).finishSwitch p auto

theorem doSwitchComplete_switches {p : Port} {auto : Bool} (hs : s.lfe.switching = some (p, auto)) (hb : (s.lfeP p.other).sending = false) :
    doSwitchComplete s = (s.switchOver p auto).settle := by
  simp [doSwitchComplete, hs, hb, Dev.switchOver, Dev.swapAfterBurst, Dev.finishSwitch]

/-- The new port is the ACTIVE source and the old one WARM, the switch is over and HOLD set, and what the old port received is gone. -/
theorem Dev.switchOver_completes (p : Port) (auto : Bool) :
    (s.switchOver p auto).get (R.LFE_x_STATUS_ROLE p.ix) = 2 ∧ (s.switchOver p auto).get (R.LFE_x_STATUS_ROLE p.other.ix) = 1 ∧
      (s.switchOver p auto).get R.LFE_STATUS_SOURCE = p.ix ∧ (s.switchOver p auto).is R.LFE_STATUS_SWITCHING = false ∧
      (s.switchOver p auto).is R.LFE_STATUS_HOLD = true ∧ (s.switchOver p auto).lfe.switching = none ∧
      (s.switchOver p auto).ticks = max s.ticks (s.lfeP p.other).burstEnd ∧
      (s.switchOver p auto).lfe.holdUntil = (s.switchOver p auto).ticks + max (s.get R.LFE_SEL_HOLDOFF) 100 * msTicks ∧
      (s.switchOver p auto).bel.win = none ∧ (s.switchOver p auto).lfr.up = [] ∧ (s.switchOver p auto).is R.LFE_IRQ_SWITCHED = true := by
  obtain ⟨active, warm, source⟩ := (s.until_ (s.lfeP p.other).burstEnd).swapPorts_roles p
  obtain ⟨ended, held, done, raised, deadline⟩ := (s.swapAfterBurst p).finishSwitch_holds p auto
  have finished := (s.swapAfterBurst p).frame_finishSwitch p auto
  have swapped : (s.swapAfterBurst p).ticks = max s.ticks (s.lfeP p.other).burstEnd := (Dev.ticks_swapPorts p).trans (s.ticks_until _)
  have holdoff : (s.swapAfterBurst p).get R.LFE_SEL_HOLDOFF = s.get R.LFE_SEL_HOLDOFF := Dev.get_swapPorts_holdoff p
  have ticks : (s.switchOver p auto).ticks = max s.ticks (s.lfeP p.other).burstEnd := (finished.parts .ticks (by decide)).trans swapped
  refine ⟨?_, ?_, ?_, ended, held, done, ticks, ?_, ?_, ?_, raised⟩
  · rwa [Dev.switchOver, Dev.get_finishSwitch _ _ _ (by cases p <;> decide) (by cases p <;> decide) (by cases p <;> decide)]
  · rwa [Dev.switchOver, Dev.get_finishSwitch _ _ _ (by cases p <;> decide) (by cases p <;> decide) (by cases p <;> decide)]
  · rwa [Dev.switchOver, Dev.get_finishSwitch _ _ _ (by decide) (by decide) (by decide)]
  · rw [ticks, Dev.switchOver, deadline, holdoff, swapped]
  · exact (Dev.win_finishSwitch p auto).trans (Dev.win_swapPorts p)
  · have kept : (s.switchOver p auto).lfr = (s.swapAfterBurst p).lfr := finished.parts .lfr (by decide)
    rw [kept]
    exact Dev.up_swapPorts p

/-- Rows 9 and 12: SERVICE and STANDBY end in ISLAND. -/
theorem Dev.mode_switchOver (p : Port) (auto : Bool) (ht : s.sup.transit = none) (hm : s.sup.mode = .service ∨ s.sup.mode = .standby) :
    (s.switchOver p auto).sup.mode = .island := by
  have swapped : (s.swapAfterBurst p).sup = s.sup := (Dev.frame_swapPorts p).parts .sup (by decide)
  exact Dev.mode_finishSwitch p auto (by rwa [swapped]) (by rwa [swapped])

end

/-! A port chosen (R117, R118). -/

section
variable {s : Dev}

/-- Step 1 of R119: the switch is under way, and SWITCHING shows it. -/
theorem Dev.startSwitch_shows (p : Port) (auto : Bool) :
    (s.startSwitch p auto).lfe.switching = some (p, auto) ∧ (s.startSwitch p auto).is R.LFE_STATUS_SWITCHING = true :=
  ⟨rfl, Dev.is_set_one _ _ (by decide) (by decide)⟩

theorem Dev.Frame.startSwitch {m : Bool} {P : List Part} {L : List Nat} {t : Dev} (h : Dev.Frame m P L s t) (hp : Part.lfe ∈ P)
    (hL : R.LFE_STATUS ∈ L) (p : Port) (auto : Bool) : Dev.Frame m P L s (t.startSwitch p auto) := (h.lfe_ _ hp).set _ _ hL

theorem doPortSelect_source {p : Port} (h : s.sourcePort = some p) : doPortSelect p s = s := by
  simp [doPortSelect, h]

theorem doPortSelect_other {p : Port} (h : s.sourcePort ≠ some p) (hs : s.switchable = true) (hn : s.lfe.switching = none)
    (hr : s.is (R.LFE_x_STATUS_READY p.ix) = true) : doPortSelect p s = s.startSwitch p false := by
  simp [doPortSelect, h, hs, hn, hr]

theorem doPortSelect_refused {p : Port} (h : s.sourcePort ≠ some p)
    (hr : s.switchable = false ∨ s.lfe.switching ≠ none ∨ s.is (R.LFE_x_STATUS_READY p.ix) = false) :
    doPortSelect p s = s.raise R.LFE_IRQ_SEL_REFUSED := by
  have refused : !s.switchable ∨ s.lfe.switching.isSome ∨ !s.is (R.LFE_x_STATUS_READY p.ix) := by
    simpa [Option.isSome_iff_ne_none] using hr
  rw [doPortSelect, if_neg h, if_pos refused]

theorem doPortSelect_starts {p : Port} (h : s.sourcePort ≠ some p) (hs : s.switchable = true) (hn : s.lfe.switching = none)
    (hr : s.is (R.LFE_x_STATUS_READY p.ix) = true) :
    (doPortSelect p s).lfe.switching = some (p, false) ∧ (doPortSelect p s).is R.LFE_STATUS_SWITCHING = true ∧
      Dev.Frame false [.lfe] [R.LFE_STATUS] s (doPortSelect p s) := by
  rw [doPortSelect_other h hs hn hr]
  obtain ⟨chosen, shown⟩ := s.startSwitch_shows p false
  exact ⟨chosen, shown, (Dev.Frame.refl ..).startSwitch (by decide) (by decide) p false⟩

theorem doPortSelect_refuses {p : Port} (h : s.sourcePort ≠ some p)
    (hr : s.switchable = false ∨ s.lfe.switching ≠ none ∨ s.is (R.LFE_x_STATUS_READY p.ix) = false) :
    (doPortSelect p s).is R.LFE_IRQ_SEL_REFUSED = true ∧ Dev.Frame true [] [R.LFE_IRQ] s (doPortSelect p s) := by
  rw [doPortSelect_refused h hr]
  exact ⟨Dev.is_raise_same _ _ (by decide), (Dev.Frame.refl ..).raise _ (by decide)⟩

/-- The holdoff ends with the active port faulty since t1 and the warm port clear since t2. -/
theorem doAutoSwitch_due {p : Port} {t1 t2 : Nat} (ha : s.activePort = some p) (hf : (s.lfeP p).faultySince = some t1)
    (hc : (s.lfeP p.other).clearSince = some t2) (hp : s.get R.LFE_SEL_POLICY = 1) (hs : s.switchable = true)
    (hn : s.lfe.switching = none) (hh : s.is R.LFE_STATUS_HOLD = false) :
    doAutoSwitch s = (s.until_ (max t1 t2 + s.get R.LFE_SEL_HOLDOFF * msTicks)).startSwitch p.other true := by
  simp [doAutoSwitch, ha, hf, hc, hp, hs, hn, hh]

theorem doAutoSwitch_starts {p : Port} {t1 t2 : Nat} (ha : s.activePort = some p) (hf : (s.lfeP p).faultySince = some t1)
    (hc : (s.lfeP p.other).clearSince = some t2) (hp : s.get R.LFE_SEL_POLICY = 1) (hs : s.switchable = true)
    (hn : s.lfe.switching = none) (hh : s.is R.LFE_STATUS_HOLD = false) :
    (doAutoSwitch s).lfe.switching = some (p.other, true) ∧ (doAutoSwitch s).is R.LFE_STATUS_SWITCHING = true ∧
      (doAutoSwitch s).ticks = max s.ticks (max t1 t2 + s.get R.LFE_SEL_HOLDOFF * msTicks) ∧
      Dev.Frame false [.lfe, .ticks, .tmb] [R.LFE_STATUS] s (doAutoSwitch s) := by
  rw [doAutoSwitch_due ha hf hc hp hs hn hh]
  obtain ⟨chosen, shown⟩ := (s.until_ (max t1 t2 + s.get R.LFE_SEL_HOLDOFF * msTicks)).startSwitch_shows p.other true
  exact ⟨chosen, shown, s.ticks_until _, ((Dev.Frame.refl ..).until_ _ (by decide)).startSwitch (by decide) (by decide) _ _⟩

/-! HOLD_EXPIRY (R119). -/

theorem doHoldExpiry_ends (h : s.is R.LFE_STATUS_HOLD = true) :
    (doHoldExpiry s).is R.LFE_STATUS_HOLD = false ∧ (doHoldExpiry s).ticks = max s.ticks s.lfe.holdUntil ∧
      Dev.Frame false [.ticks, .tmb] [R.LFE_STATUS] s (doHoldExpiry s) := by
  rw [doHoldExpiry, if_pos h]
  exact ⟨Dev.is_set_zero _ _ (by decide), s.ticks_until _, ((Dev.Frame.refl ..).until_ _ (by decide)).set _ _ (by decide)⟩

/-! LINE_PRBS_LOCK_CHANGE (R120). -/

theorem doLinePrbsLockChange_checks {p : Port} {lock : Bool} {errors : Nat} (hm : s.sup.mode = .test)
    (hc : s.is (R.LFE_x_TEST_PRBS_CHK p.ix) = true) :
    (doLinePrbsLockChange p lock errors s).is (R.LFE_x_STATUS_PRBS_LOCK p.ix) = lock ∧
      ((doLinePrbsLockChange p lock errors s).rd (R.LFE_x_PRBS_ERR p.ix)).toNat =
        min ((s.rd (R.LFE_x_PRBS_ERR p.ix)).toNat + errors) (2 ^ 32 - 1) ∧
      Dev.Frame false [] [(R.LFE_x_STATUS_LOS p.ix).reg, R.LFE_x_PRBS_ERR p.ix] s (doLinePrbsLockChange p lock errors s) := by
  rw [doLinePrbsLockChange, if_pos ⟨hm, hc⟩]
  refine ⟨?_, ?_, ?_⟩
  · rw [Dev.is_countR_ne _ _ _ _ (by cases p <;> decide), Dev.is_setB _ _ _ (by cases p <;> decide)]
  · have other : R.LFE_x_PRBS_ERR p.ix ≠ (R.LFE_x_STATUS_PRBS_LOCK p.ix).reg := by cases p <;> decide
    rw [Dev.countR_toNat, Dev.rd_setB_ne _ _ _ other]
  · exact ((Dev.Frame.refl ..).setB (R.LFE_x_STATUS_PRBS_LOCK p.ix) lock (by cases p <;> decide)).countR (R.LFE_x_PRBS_ERR p.ix) errors
      (by cases p <;> decide)

theorem doLinePrbsLockChange_rests {p : Port} {lock : Bool} {errors : Nat}
    (h : s.sup.mode ≠ .test ∨ s.is (R.LFE_x_TEST_PRBS_CHK p.ix) = false) : doLinePrbsLockChange p lock errors s = s := by
  rw [doLinePrbsLockChange, if_neg]
  rintro ⟨hm, hc⟩
  rcases h with h | h
  · exact h hm
  · exact absurd (hc.symm.trans h) (by decide)

/-! ADAPTATION_UPDATE (R105). -/

/-- Tap k's bits among the taps of a port. -/
def tapFld (p : Port) (k : Nat) : Fld := ⟨(R.LFE_x_DFE_TAPS p.ix).reg, 6 * k, 6⟩

/-- A value within a tap's range reads back from its six bits. -/
theorem signed_unsigned_six {x : Int} (h1 : -32 ≤ x) (h2 : x ≤ 31) : signed 6 (unsigned 6 x % 2 ^ 6) = x := by
  unfold signed unsigned
  split <;> omega

theorem Dev.tap_set_same {p : Port} {k : Nat} (hk : k < 5) (x : Int) (h1 : -32 ≤ x) (h2 : x ≤ 31) :
    (s.set (tapFld p k) (unsigned 6 x)).tap p k = x := by
  have fits : (tapFld p k).lo + (tapFld p k).w ≤ 32 := by simp only [tapFld]; omega
  exact (congrArg (signed 6) (Dev.get_set_same s (tapFld p k) _ fits)).trans (signed_unsigned_six h1 h2)

theorem Dev.tap_set_ne {p : Port} {j k : Nat} (hk : k < 5) (hj : j ≠ k) (v : Nat) : (s.set (tapFld p k) v).tap p j = s.tap p j := by
  have apart : (s.set (tapFld p k) v).get (tapFld p j) = s.get (tapFld p j) :=
    Dev.get_set_ne s (tapFld p k) (tapFld p j) v (by simp only [tapFld]; omega) (.inr (by simp only [tapFld]; omega))
  exact congrArg (signed 6) apart

/-- A tap moved by a step, within its range. -/
def tapStep (x step : Int) : Int := max (-32) (min 31 (x + step))

/-- The first n taps of a port moved by their steps. -/
def Dev.adaptTaps (s : Dev) (p : Port) (steps : List Int) (n : Nat) : Dev :=
  forEach (List.range n) s fun k t => t.set (tapFld p k) (unsigned 6 (tapStep (t.tap p k) (steps.getD k 0)))

theorem Dev.adaptTaps_succ (p : Port) (steps : List Int) (n : Nat) :
    s.adaptTaps p steps (n + 1) = (s.adaptTaps p steps n).set (tapFld p n)
      (unsigned 6 (tapStep ((s.adaptTaps p steps n).tap p n) (steps.getD n 0))) := by
  simp [Dev.adaptTaps, forEach, List.range_succ]

theorem Dev.tap_adaptTaps (p : Port) (steps : List Int) {n : Nat} (hn : n ≤ 5) (k : Nat) :
    (s.adaptTaps p steps n).tap p k = if k < n then tapStep (s.tap p k) (steps.getD k 0) else s.tap p k := by
  induction n with
  | zero => rfl
  | succ n ih =>
    have before := ih (by omega)
    rw [Dev.adaptTaps_succ]
    by_cases hk : k = n
    · subst hk
      rw [Dev.tap_set_same (by omega) _ (by unfold tapStep; omega) (by unfold tapStep; omega), before, if_neg (Nat.lt_irrefl k),
        if_pos (Nat.lt_succ_self k)]
    · rw [Dev.tap_set_ne (by omega) hk, before]
      by_cases hlt : k < n
      · rw [if_pos hlt, if_pos (by omega)]
      · rw [if_neg hlt, if_neg (by omega)]

theorem Dev.Frame.adaptTaps {m : Bool} {P : List Part} {L : List Nat} {t : Dev} (h : Dev.Frame m P L s t) (p : Port)
    (hL : (R.LFE_x_DFE_TAPS p.ix).reg ∈ L) (steps : List Int) (n : Nat) : Dev.Frame m P L s (t.adaptTaps p steps n) :=
  Dev.Frame.forEach _ _ (fun _ _ hu => hu.set _ _ hL) h

/-- The CTLE code moved by a step, within its range. -/
def Dev.adaptCtle (s : Dev) (p : Port) (ctle : Int) : Dev :=
  s.set (R.LFE_x_EQ_CTLE p.ix)
    (max 0 (min (2 ^ (R.LFE_x_EQ_CTLE p.ix).w - 1) ((s.get (R.LFE_x_EQ_CTLE p.ix) : Int) + ctle))).toNat

theorem Dev.get_adaptCtle (p : Port) (ctle : Int) :
    ((s.adaptCtle p ctle).get (R.LFE_x_EQ_CTLE p.ix) : Int) = max 0 (min 15 ((s.get (R.LFE_x_EQ_CTLE p.ix) : Int) + ctle)) := by
  have width : (R.LFE_x_EQ_CTLE p.ix).w = 4 := rfl
  rw [Dev.adaptCtle, Dev.get_set _ _ _ (by cases p <;> decide), width]
  omega

/-- One update of an adapting port: the code, the five taps, and what they say of ADAPTED. -/
theorem doAdaptationUpdate_adapts {p : Port} (ctle : Int) (steps : List Int) (hr : s.get (R.LFE_x_STATUS_ROLE p.ix) ≠ 0)
    (hp : s.powered p = true) (hl : s.is (R.LFE_x_STATUS_LOL p.ix) = false) (hf : s.is (R.LFE_x_CTL_FREEZE p.ix) = false) :
    ∃ x b, doAdaptationUpdate p ctle steps s =
      (((s.adaptCtle p ctle).adaptTaps p steps 5).setLfeP p x).setB (R.LFE_x_STATUS_ADAPTED p.ix) b := by
  have adapts : ¬(s.get (R.LFE_x_STATUS_ROLE p.ix) = 0 ∨ !s.powered p ∨ s.is (R.LFE_x_STATUS_LOL p.ix) ∨ s.is (R.LFE_x_CTL_FREEZE p.ix)) := by
    simp [hr, hp, hl, hf]
  rw [doAdaptationUpdate]
  simp only [if_neg adapts]
  exact ⟨_, _, rfl⟩

theorem Dev.get_setLfeP (p : Port) (x : LfePort) (f : Fld) : (s.setLfeP p x).get f = s.get f := by
  cases p <;> rfl

theorem doAdaptationUpdate_steps {p : Port} (ctle : Int) (steps : List Int) (hr : s.get (R.LFE_x_STATUS_ROLE p.ix) ≠ 0)
    (hp : s.powered p = true) (hl : s.is (R.LFE_x_STATUS_LOL p.ix) = false) (hf : s.is (R.LFE_x_CTL_FREEZE p.ix) = false) :
    ((doAdaptationUpdate p ctle steps s).get (R.LFE_x_EQ_CTLE p.ix) : Int) =
        max 0 (min 15 ((s.get (R.LFE_x_EQ_CTLE p.ix) : Int) + ctle)) ∧
      (∀ k, k < 5 → (doAdaptationUpdate p ctle steps s).tap p k = max (-32) (min 31 (s.tap p k + steps.getD k 0))) ∧
      Dev.Frame false [.lfe] [(R.LFE_x_EQ_CTLE p.ix).reg, (R.LFE_x_DFE_TAPS p.ix).reg, (R.LFE_x_STATUS_LOS p.ix).reg] s
        (doAdaptationUpdate p ctle steps s) := by
  obtain ⟨x, b, update⟩ := doAdaptationUpdate_adapts (s := s) ctle steps hr hp hl hf
  have others : ∀ f : Fld, f.reg ≠ (R.LFE_x_STATUS_ADAPTED p.ix).reg →
      (doAdaptationUpdate p ctle steps s).get f = ((s.adaptCtle p ctle).adaptTaps p steps 5).get f := fun f h => by
    rw [update, Dev.get_setB_apart _ _ _ _ (Fld.apart_of_reg_ne (by cases p <;> decide) h), Dev.get_setLfeP]
  refine ⟨?ctle, fun k hk => ?tap, ?frame⟩
  case ctle =>
    have taps := (Dev.Frame.refl false [] [(R.LFE_x_DFE_TAPS p.ix).reg] (s.adaptCtle p ctle)).adaptTaps p List.mem_cons_self steps 5
    rw [others _ (by cases p <;> decide), taps.get_eq _ (by cases p <;> decide) rfl]
    exact Dev.get_adaptCtle p ctle
  case tap =>
    have ctleReg : (R.LFE_x_DFE_TAPS p.ix).reg ≠ (R.LFE_x_EQ_CTLE p.ix).reg := by cases p <;> decide
    have statusReg : (R.LFE_x_DFE_TAPS p.ix).reg ≠ (R.LFE_x_STATUS_ADAPTED p.ix).reg := by cases p <;> decide
    have before : (s.adaptCtle p ctle).tap p k = s.tap p k :=
      congrArg (signed 6) (Dev.get_set_ne s _ (tapFld p k) _ (by cases p <;> decide) (.inl ctleReg))
    have after := congrArg (signed 6) (others (tapFld p k) statusReg)
    exact after.trans ((Dev.tap_adaptTaps p steps (by decide) k).trans (by rw [if_pos hk, before]; rfl))
  case frame =>
    rw [update]
    exact ((((Dev.Frame.refl ..).set _ _ (by simp)).adaptTaps p (by simp) steps 5).setLfeP p x (by decide)).setB _ _ (by
      cases p <;> decide)

end

/-- Settles O13: outside a reset each command answers its effect on the block, and each clause is what that effect does in its case. -/
theorem linePortChoice : Obligations.LinePortChoice := by
  intro s p hs
  refine ⟨?start, ?refuse, ?auto, ?complete, ?hold, ?adapt, ?check, ?noCheck, ?source⟩
  case start => exact fun h hw hn hr => ⟨_, answers_portSelect hs p, doPortSelect_starts h hw hn hr⟩
  case refuse => exact fun h hr => ⟨_, answers_portSelect hs p, doPortSelect_refuses h hr⟩
  case auto => exact fun t1 t2 ha hf hc hp hw hn hh => ⟨_, answers_autoSwitch hs, doAutoSwitch_starts ha hf hc hp hw hn hh⟩
  case complete =>
    intro auto hw hb
    have answer := answers_switchComplete hs
    rw [doSwitchComplete_switches hw hb] at answer
    obtain ⟨active, warm, source, ended, held, done, ticks, deadline, closed, dropped, raised⟩ := s.dev.switchOver_completes p auto
    exact ⟨_, answer, active, warm, source, ended, held, done, ticks, deadline, closed, dropped, raised, s.dev.mode_switchOver p auto⟩
  case hold => exact fun h => ⟨_, answers_holdExpiry hs, doHoldExpiry_ends h⟩
  case adapt => exact fun ctle steps hr hp hl hf => ⟨_, answers_adaptationUpdate hs p ctle steps, doAdaptationUpdate_steps ctle steps hr hp hl hf⟩
  case check => exact fun lock errors hm hc => ⟨_, answers_linePrbsLockChange hs p lock errors, doLinePrbsLockChange_checks hm hc⟩
  case noCheck =>
    intro lock errors h
    have answer := answers_linePrbsLockChange hs p lock errors
    rwa [doLinePrbsLockChange_rests h] at answer
  case source =>
    intro h
    have answer := answers_portSelect hs p
    rwa [doPortSelect_source h] at answer

end Sys2Proof.Machine

/-!
PROOFS. The rope fabric (R18, R407, R410 to R423, R425): what each of its commands makes of the
block, and obligation O57. First the frames (what a step leaves) and what the fabric keeps
(SameFabric, SameIdentity), then the shared steps (control frames, the own record, an adjacency
judged, an ID claimed), then one command after another.
-/
namespace Sys2Proof.Machine

/-! What answers each command of the fabric. -/

section
variable {s : State} (hs : s.runs)
include hs

theorem answers_ropeFrameRx (n : Fin 8) (b : List Byte) : answers (.ropeFrameRx n b) s (doRopeFrameRx n b s.dev) := State.run_of_runs hs _
theorem answers_hailRx (n : Fin 8) (b : List Byte) : answers (.hailRx n b) s (doHailRx n b s.dev) := State.run_of_runs hs _
theorem answers_lsrRx (n : Fin 8) (b : List Byte) : answers (.lsrRx n b) s (doLsrRx n b s.dev) := State.run_of_runs hs _
theorem answers_hailTimer (n : Fin 8) : answers (.hailTimer n) s (doHailTimer n s.dev) := State.run_of_runs hs _
theorem answers_hailTimeout (n : Fin 8) : answers (.hailTimeout n) s (doHailTimeout n s.dev) := State.run_of_runs hs _
theorem answers_lsrRefresh : answers .lsrRefresh s (doLsrRefresh s.dev) := State.run_of_runs hs _
theorem answers_lsrAgeOut : answers .lsrAgeOut s (doLsrAgeOut s.dev) := State.run_of_runs hs _
theorem answers_nodeClaim : answers .nodeClaim s (doNodeClaim s.dev) := State.run_of_runs hs _
theorem answers_routeCompute : answers .routeCompute s (doRouteCompute s.dev) := State.run_of_runs hs _
theorem answers_rebind : answers .rebind s (doRebind s.dev) := State.run_of_runs hs _

end

/-! Numbers, and pairs of registers. -/

theorem ofLe_lt (l : List Byte) : ofLe l < 256 ^ l.length := by
  induction l with
  | nil => decide
  | cons b l ih =>
    have hb : b.toNat < 256 := b.isLt
    rw [ofLe, List.length_cons, Nat.pow_succ]
    omega

theorem slice_length (bs : List Byte) (o k : Nat) : (slice bs o k).length = k := by
  simp only [slice, List.length_append, List.length_replicate, List.length_take]
  omega

theorem beAt_lt (bs : List Byte) (o k : Nat) : beAt bs o k < 256 ^ k := by
  have h := ofLe_lt (slice bs o k).reverse
  rwa [List.length_reverse, slice_length] at h

theorem Dev.rd64_wr64 (s : Dev) (a n : Nat) (hn : n < 2 ^ 64) : (s.wr64 a n).rd64 a = n := by
  have low : (s.wr64 a n).rd a = BitVec.ofNat 32 n := by
    rw [Dev.wr64, Dev.rd_wr_ne _ _ (by omega), Dev.rd_wr_same]
  have high : (s.wr64 a n).rd (a + 4) = BitVec.ofNat 32 (n / 2 ^ 32) := Dev.rd_wr_same _ _ _
  rw [Dev.rd64, low, high, BitVec.toNat_ofNat, BitVec.toNat_ofNat]
  omega

/-- One bit of a field is one bit of its register. -/
theorem bit_bits {x w i : Nat} (hi : i < w) : bit (bits x 0 w) i = bit x i := by
  have h := Nat.testBit_mod_two_pow x w i
  simp only [Nat.testBit_eq_decide_div_mod_eq, hi, decide_true, Bool.true_and, decide_eq_decide] at h
  simp only [bit, bits, Nat.pow_zero, Nat.div_one]
  exact Bool.eq_iff_iff.mpr (by simpa using h)

/-- Every step of a loop standing in a relation, the loop does. -/
theorem forEach_rel {α β : Type} {r : β → β → Prop} (refl : ∀ s, r s s) (trans : ∀ s t u, r s t → r t u → r s u) {f : α → β → β}
    (l : List α) (h : ∀ x ∈ l, ∀ s, r s (f x s)) (s : β) : r s (forEach l s f) := by
  unfold forEach
  induction l generalizing s with
  | nil => exact refl s
  | cons x l ih => exact trans _ _ _ (h x List.mem_cons_self s) (ih (fun y hy => h y (List.mem_cons_of_mem x hy)) _)

/-! Registers of the rope block: none that a message may change, and none that another block reads. -/

/-- The address lies in the rope block. -/
def ropBlock (a : Nat) : Bool := a / 2 ^ 20 == 19

theorem msgReg_of_ropBlock {a : Nat} (h : ropBlock a = true) : msgReg a = false := by
  have block : a / 2 ^ 20 = 19 := by simpa [ropBlock] using h
  have named : ∀ b ∈ [R.HIF_D2H_NEXT_SEQ, R.HIF_JOURNAL_OLDEST, R.HIF_D2H_TAIL, R.HIF_ERR, R.HIF_SKIP_RING, R.HIF_SKIP_PATHS_IB.reg,
      R.SCH_NO_EGRESS, R.IMG_DRAIN_DROPS, R.SCH_IRQ, R.SCH_STATUS, R.MEM_HEALED, R.MEM_LOG_POP_LOST.reg], b / 2 ^ 20 ≠ 19 := by decide
  have other : a ∉ [R.HIF_D2H_NEXT_SEQ, R.HIF_JOURNAL_OLDEST, R.HIF_D2H_TAIL, R.HIF_ERR, R.HIF_SKIP_RING, R.HIF_SKIP_PATHS_IB.reg,
      R.SCH_NO_EGRESS, R.IMG_DRAIN_DROPS, R.SCH_IRQ, R.SCH_STATUS, R.MEM_HEALED, R.MEM_LOG_POP_LOST.reg] := fun m => named a m block
  have above : 0xb61200 ≤ a := by omega
  simp only [msgReg, List.contains_eq_mem, other, decide_false, Bool.false_or, Bool.or_eq_false_iff, Bool.and_eq_false_iff,
    decide_eq_false_iff_not]
  refine ⟨⟨?_, ?_⟩, ?_⟩ <;> omega

section
variable {m : Bool} {P : List Part} {L : List Nat} {s t : Dev}

theorem Dev.Frame.is_eq (h : Dev.Frame m P L s t) (f : Fld) (hf : f.reg ∉ L) (hm : (m && msgReg f.reg) = false) : t.is f = s.is f := by
  unfold Dev.is
  rw [h.get_eq f hf hm]

/-- A frame within the rope block keeps the module's serial and the state of the rope links. -/
theorem Dev.Frame.serial_eq (h : Dev.Frame m P L s t) (hL : ∀ a ∈ L, ropBlock a = true) : t.serial = s.serial := by
  have other : ∀ a, ropBlock a = false → a ∉ L := fun a ha hm => absurd (hL a hm) (by simp [ha])
  unfold Dev.serial Dev.rd64
  rw [h.regs _ (other _ (by decide)) (by cases m <;> decide), h.regs _ (other _ (by decide)) (by cases m <;> decide)]

end

/-- What the state of a rope link follows lies outside the rope block, and no message changes it. -/
theorem ropeLinkFlds_outside : ∀ n, n < 8 →
    ∀ f ∈ [R.LAN_Gg_CFG_BONDED (2 + n / 4), R.LAN_Gg_STATUS_UP (2 + n / 4), R.LAN_x_CFG_USE (8 + n), R.LAN_x_STATUS_STATE (8 + n)],
      ropBlock f.reg = false ∧ msgReg f.reg = false := by
  decide

theorem Dev.Frame.ropeLink_eq {m : Bool} {P : List Part} {L : List Nat} {s t : Dev} (h : Dev.Frame m P L s t)
    (hL : ∀ a ∈ L, ropBlock a = true) {n : Nat} (hn : n < 8) : t.ropeLink n = s.ropeLink n := by
  have same : ∀ f ∈ [R.LAN_Gg_CFG_BONDED (2 + n / 4), R.LAN_Gg_STATUS_UP (2 + n / 4), R.LAN_x_CFG_USE (8 + n), R.LAN_x_STATUS_STATE (8 + n)],
      t.get f = s.get f := fun f hf => by
    obtain ⟨outside, quiet⟩ := ropeLinkFlds_outside n hn f hf
    exact h.get_eq f (fun hm => absurd (hL _ hm) (by simp [outside])) (by rw [quiet, Bool.and_false])
  simp only [List.forall_mem_cons, List.not_mem_nil, false_implies, implies_true, and_true] at same
  obtain ⟨bonded, groupUp, use, state⟩ := same
  unfold Dev.ropeLink Dev.is
  dsimp only
  rw [bonded, groupUp, use, state]

/-! Control frames on rope ports (R408). -/

/-- Between s and t control frames left rope ports or began to wait there: nothing else of the block changed, and what was emitted
before still stands. -/
structure Dev.CtlSent (s t : Dev) : Prop where
  frame : Dev.Frame false [.out, .sch] [] s t
  launching : t.sch.launching = s.sch.launching
  out : s.out ⊆ t.out

namespace Dev.CtlSent
variable {s t u : Dev}

theorem refl (s : Dev) : s.CtlSent s := ⟨.refl .., rfl, List.Subset.refl _⟩

theorem trans (h : s.CtlSent t) (k : t.CtlSent u) : s.CtlSent u :=
  ⟨h.frame.trans k.frame, k.launching.trans h.launching, List.Subset.trans h.out k.out⟩

theorem rd (h : s.CtlSent t) (a : Nat) : t.rd a = s.rd a := h.frame.regs a List.not_mem_nil rfl
theorem get (h : s.CtlSent t) (f : Fld) : t.get f = s.get f := h.frame.get_eq f List.not_mem_nil rfl
theorem is (h : s.CtlSent t) (f : Fld) : t.is f = s.is f := h.frame.is_eq f List.not_mem_nil rfl
theorem rop (h : s.CtlSent t) : t.rop = s.rop := h.frame.parts .rop (by decide)
theorem ticks (h : s.CtlSent t) : t.ticks = s.ticks := h.frame.parts .ticks (by decide)

theorem claimed (h : s.CtlSent t) : t.claimed = s.claimed := by
  rw [Dev.claimed, Dev.claimed, h.rop, h.is]

theorem nodeId (h : s.CtlSent t) : t.nodeId = s.nodeId := h.get _

/-- Control frames send no more than messages may. -/
theorem sends (h : s.CtlSent t) : s.Sends t := by
  have parts : s.changesOnly t [.regs, .hif, .out, .free, .sch, .rate] := Dev.changesOnly_mono h.frame.parts fun p hp => by
    have listed : p = .out ∨ p = .sch ∨ p = .regs := by simpa using hp
    rcases listed with rfl | rfl | rfl <;> decide
  have hif : t.hif = s.hif := h.frame.parts .hif (by decide)
  exact sends_of_eq parts (congrArg Hif.kept hif) fun a _ => h.rd a

theorem forEach {α : Type} {f : α → Dev → Dev} (l : List α) (h : ∀ x ∈ l, ∀ t : Dev, t.CtlSent (f x t)) (s : Dev) :
    s.CtlSent (Sys2Proof.Machine.forEach l s f) :=
  forEach_rel refl (fun _ _ _ => trans) l h s

end Dev.CtlSent

section
variable {s t : Dev}

/-- Occupying an egress changes its end and nothing else. -/
theorem Dev.occupy_eq (s : Dev) (e n : Nat) : ∃ x, s.occupy e n = { s with sch := { s.sch with ctlUntil := x } } := ⟨_, rfl⟩

theorem Dev.ctlSent_occupy (s : Dev) (e n : Nat) : s.CtlSent (s.occupy e n) := by
  obtain ⟨x, occupied⟩ := s.occupy_eq e n
  rw [occupied]
  exact ⟨(Dev.Frame.refl ..).sch_ _ (by decide), rfl, List.Subset.refl _⟩

theorem Dev.ctlSent_ctlOut (s : Dev) (n : Nat) (b : List Byte) : s.CtlSent (s.ctlOut n b) := by
  unfold Dev.ctlOut
  simp only
  split
  · exact ⟨(Dev.Frame.refl ..).sch_ _ (by decide), rfl, List.Subset.refl _⟩
  · have emitted : s.CtlSent (s.emit (.rope n b)) := ⟨(Dev.Frame.refl ..).out_ _ (by decide), rfl, List.subset_cons_self ..⟩
    exact emitted.trans (Dev.ctlSent_occupy ..)

/-- A control frame of this module: header, payload, FCS (R406). -/
def Dev.ctlFrame (s : Dev) (kind dst ttl : Nat) (b : List Byte) : List Byte :=
  let f := ropeHeader kind dst (if s.claimed then s.nodeId else 0) ttl 0 0 false 0 0 ++ b
  f ++ fcs f

theorem Dev.ropCtl_eq (s : Dev) (n kind dst ttl : Nat) (b : List Byte) : s.ropCtl n kind dst ttl b = s.ctlOut n (s.ctlFrame kind dst ttl b) := rfl

theorem Dev.ctlSent_ropCtl (s : Dev) (n kind dst ttl : Nat) (b : List Byte) : s.CtlSent (s.ropCtl n kind dst ttl b) := s.ctlSent_ctlOut _ _

theorem Dev.out_ctlOut {n : Nat} {b : List Byte} (h : sget none (9 + n) s.sch.launching = none) :
    (s.ctlOut n b).out = .rope n b :: s.out := by
  simp only [Dev.ctlOut, h]
  rfl

/-- A control frame waits for the frame in progress. -/
theorem Dev.ctlWait_ctlOut {n : Nat} {b : List Byte} (h : sget none (9 + n) s.sch.launching ≠ none) :
    (s.ctlOut n b).out = s.out ∧ sget [] (9 + n) (s.ctlOut n b).sch.ctlWait = sget [] (9 + n) s.sch.ctlWait ++ [b] := by
  have busy : (sget none (9 + n) s.sch.launching).isSome = true := Option.isSome_iff_ne_none.mpr h
  rw [Dev.ctlOut, if_pos busy]
  refine ⟨rfl, ?_⟩
  rw [sget_sset _ _ _ _ _ _ fun _ => Or.inl rfl, if_pos rfl]

theorem Dev.ctlSent_flood (s : Dev) (except : Option Nat) (r : Lsr) : s.CtlSent (s.flood except r) := by
  refine Dev.CtlSent.forEach _ (fun n _ t => ?_) s
  split
  · exact t.ctlSent_ropCtl _ _ _ _ _
  · exact .refl t

theorem Dev.ctlSent_sendAll (s : Dev) (n : Nat) : s.CtlSent (s.sendAll n) :=
  Dev.CtlSent.forEach _ (fun _ _ t => t.ctlSent_ropCtl _ _ _ _ _) s

/-- The link-state frame of a record. -/
def Dev.lsrFrame (s : Dev) (r : Lsr) : List Byte := s.ctlFrame kLsr 0 1 (s.lsrBytes r)

theorem Dev.CtlSent.lsrFrame (h : s.CtlSent t) (r : Lsr) : t.lsrFrame r = s.lsrFrame r := by
  simp only [Dev.lsrFrame, Dev.ctlFrame, Dev.lsrBytes, h.claimed, h.nodeId, h.ticks]

/-- Flooding emits the record at once on each TWO_WAY port but one on which no frame is in progress (R417). -/
theorem Dev.mem_out_flood {except : Option Nat} {r : Lsr} {n : Nat} (hn : n < 8) (he : except ≠ some n)
    (ht : s.is (R.ROP_Pn_STATUS_TWO_WAY n) = true) (hl : sget none (9 + n) s.sch.launching = none) :
    Out.rope n (s.lsrFrame r) ∈ (s.flood except r).out := by
  obtain ⟨before, after, split⟩ := List.append_of_mem (List.mem_range.mpr hn)
  unfold Dev.flood forEach
  rw [split, List.foldl_append, List.foldl_cons]
  have step : ∀ (k : Nat) (t : Dev), t.CtlSent (if t.is (R.ROP_Pn_STATUS_TWO_WAY k) ∧ except ≠ some k then t.sendLsr k r else t) := by
    intro k t
    split
    · exact t.ctlSent_ropCtl _ _ _ _ _
    · exact .refl t
  have reached := Dev.CtlSent.forEach before (fun k _ t => step k t) s
  unfold forEach at reached
  generalize List.foldl _ s before = t at reached ⊢
  have later := Dev.CtlSent.forEach after (fun k _ t => step k t) (t.sendLsr n r)
  dsimp only
  rw [if_pos ⟨by rwa [reached.is], he⟩]
  refine later.out ?_
  have sent : (t.sendLsr n r).out = .rope n (t.lsrFrame r) :: t.out := Dev.out_ctlOut (by rwa [reached.launching])
  rw [sent, reached.lsrFrame]
  exact List.mem_cons_self

end

section
variable {P Q : List Part} {L : List Nat} {s t u : Dev}

theorem Dev.Frame.ctlSent (h : Dev.Frame true P L s t) (k : t.CtlSent u) : Dev.Frame true P L s u := h.sends k.sends

/-- What control frames change, messages may change too. -/
theorem Dev.Frame.mayCtl (h : Dev.Frame false P L s t) (hP : ∀ p ∈ P, p ∈ Q ∨ p = .out ∨ p = .sch) : Dev.Frame true Q L s t where
  parts := Dev.changesOnly_mono h.may.parts fun p hp => by
    rcases List.mem_append.mp hp with hp | hp
    · rcases hP p hp with hp | rfl | rfl
      · exact List.mem_append_left _ hp
      · exact List.mem_append_right _ (by decide)
      · exact List.mem_append_right _ (by decide)
    · exact List.mem_append_right _ hp
  act := h.act.imp_left fun hp => by simpa using hP _ hp
  hif := h.hif.imp_left fun hp => by simpa using hP _ hp
  mem := h.mem.imp_left fun hp => by simpa using hP _ hp
  regs := h.may.regs

end

/-! The database and the module's own record (R416, R417, R420). -/

section
variable {s : Dev}

theorem Dev.rop_dbChanged (s : Dev) : s.dbChanged.rop = { s.rop with changed := some s.ticks } := by
  simp only [Dev.dbChanged, Dev.rop_set, Dev.ticks_set]

theorem Dev.frame_dbChanged (s : Dev) : Dev.Frame false [.rop] [R.ROP_STATUS] s s.dbChanged := by
  unfold Dev.dbChanged
  exact ((Dev.Frame.refl ..).set _ _ (by decide)).rop_ _ (by decide)

theorem Dev.get_dbChanged (f : Fld) (h : R.ROP_STATUS_RECORDS.apart f = true) : s.dbChanged.get f = s.get f := by
  simp only [Dev.dbChanged, Dev.get_with_rop, Dev.get_set_apart _ _ _ _ h]

/-- The record that the module originates next. -/
def Dev.nextLsr (s : Dev) : Lsr := Lsr.mk s.nodeId s.serial s.rop.nextSeq 0 s.ticks s.ropFlags s.upLinks

/-- That record held as the own one, its number used up. -/
def Dev.holdNext (s : Dev) : Dev := { s with rop := { s.rop with
  nextSeq := seqNext s.rop.nextSeq, own := some s.nextLsr, db := s.rop.db.filter fun x => x.id != s.nodeId || x.serial != s.serial } }

theorem Dev.originate_claimed (h : s.claimed = true) : s.originate = (s.holdNext.flood none s.nextLsr).dbChanged := by
  rw [Dev.originate, if_neg (by simp [h])]
  rfl

theorem Dev.originate_unclaimed (h : s.claimed = false) : s.originate = s := by
  rw [Dev.originate, if_pos (by simp [h])]

theorem Dev.rop_originate (h : s.claimed = true) : s.originate.rop = { s.holdNext.rop with changed := some s.ticks } := by
  have sent := s.holdNext.ctlSent_flood none s.nextLsr
  rw [Dev.originate_claimed h, Dev.rop_dbChanged, sent.rop, sent.ticks]
  rfl

theorem Dev.frame_originate (s : Dev) : Dev.Frame false [.rop, .out, .sch] [R.ROP_STATUS] s s.originate := by
  cases h : s.claimed with
  | false =>
    rw [Dev.originate_unclaimed h]
    exact .refl ..
  | true =>
    rw [Dev.originate_claimed h]
    have held : Dev.Frame false [.rop, .out, .sch] [R.ROP_STATUS] s s.holdNext := (Dev.Frame.refl ..).rop_ _ (by decide)
    exact (held.trans ((s.holdNext.ctlSent_flood none _).frame.mono (by decide) (by decide))).trans
      ((Dev.frame_dbChanged _).mono (by decide) (by decide))

theorem Dev.get_originate (f : Fld) (hf : R.ROP_STATUS_RECORDS.apart f = true) : s.originate.get f = s.get f := by
  cases h : s.claimed with
  | false => rw [Dev.originate_unclaimed h]
  | true =>
    rw [Dev.originate_claimed h, Dev.get_dbChanged f hf, (s.holdNext.ctlSent_flood none _).get]
    rfl

end

/-! What the fabric keeps through every change of its adjacencies and of the module's claim. -/

/-- The fabric runs or not, the module's serial, the records of other modules and the causes raised are kept. -/
structure Dev.SameFabric (s t : Dev) : Prop where
  running : t.rop.running = s.rop.running
  serial : t.serial = s.serial
  db : ∀ r, r.serial ≠ s.serial → (r ∈ t.rop.db ↔ r ∈ s.rop.db)
  causes : ∀ i, s.is ⟨R.ROP_IRQ, i, 1⟩ = true → t.is ⟨R.ROP_IRQ, i, 1⟩ = true

/-- A frame that leaves the causes alone. -/
theorem Dev.Frame.cause_eq {m : Bool} {P : List Part} {L : List Nat} {s t : Dev} (h : Dev.Frame m P L s t) (hi : R.ROP_IRQ ∉ L) (i : Nat) :
    t.is ⟨R.ROP_IRQ, i, 1⟩ = s.is ⟨R.ROP_IRQ, i, 1⟩ := by
  have quiet : msgReg R.ROP_IRQ = false := by decide
  exact h.is_eq _ hi (by rw [quiet, Bool.and_false])

/-- So are the claim and its ID, and the own record is as before or one under them. -/
structure Dev.SameIdentity (s t : Dev) : Prop extends Dev.SameFabric s t where
  status : ∀ f, f.reg = R.ROP_STATUS → R.ROP_STATUS_RECORDS.apart f = true → t.get f = s.get f
  own : t.rop.own = s.rop.own ∨ ∃ r, t.rop.own = some r ∧ r.id = s.nodeId ∧ r.serial = s.serial

namespace Dev.SameFabric
variable {s t u : Dev}

theorem refl (s : Dev) : s.SameFabric s := ⟨rfl, rfl, fun _ _ => .rfl, fun _ h => h⟩

theorem trans (h : s.SameFabric t) (k : t.SameFabric u) : s.SameFabric u where
  running := k.running.trans h.running
  serial := k.serial.trans h.serial
  db := fun r hr => (k.db r (by rwa [h.serial])).trans (h.db r hr)
  causes := fun i hi => k.causes i (h.causes i hi)

/-- The IDs that the module may choose follow the records of other modules (R414). -/
theorem chooseId_eq (h : s.SameFabric t) (a : Nat) : t.chooseId a = s.chooseId a := by
  have taken : ∀ id, t.idTaken id = s.idTaken id := fun id => by
    unfold Dev.idTaken
    rw [Bool.eq_iff_iff, List.any_eq_true, List.any_eq_true, h.serial]
    refine exists_congr fun r => and_congr_left fun hr => h.db r ?_
    have lower : r.serial < s.serial := by simpa using (Bool.and_eq_true_iff.mp hr).2
    exact Nat.ne_of_lt lower
  have free : t.idTaken = s.idTaken := funext taken
  unfold Dev.chooseId
  rw [free, h.serial]

end Dev.SameFabric

/-- A cause bit raised keeps every cause bit that is set. -/
theorem Dev.is_raise_of_is {s : Dev} {a i j : Nat} (hj : j < 32) (h : s.is ⟨a, i, 1⟩ = true) : (s.raise ⟨a, j, 1⟩).is ⟨a, i, 1⟩ = true := by
  by_cases hij : i = j
  · subst hij
    exact s.is_raise_same _ (by simp [Fld.fits]; omega)
  · rw [Dev.is_raise_apart _ _ _ (by simp [Fld.apart]; omega)]
    exact h

namespace Dev.SameIdentity
variable {s t u : Dev}

theorem refl (s : Dev) : s.SameIdentity s := ⟨.refl s, fun _ _ _ => rfl, .inl rfl⟩

theorem nodeId (h : s.SameIdentity t) : t.nodeId = s.nodeId := h.status _ rfl (by decide)

theorem claimed (h : s.SameIdentity t) : t.claimed = s.claimed := by
  rw [Dev.claimed, Dev.claimed, Dev.is, Dev.is, h.running, h.status _ rfl (by decide)]

theorem trans (h : s.SameIdentity t) (k : t.SameIdentity u) : s.SameIdentity u where
  toSameFabric := h.toSameFabric.trans k.toSameFabric
  status := fun f hr hf => (k.status f hr hf).trans (h.status f hr hf)
  own := by
    rcases k.own with same | ⟨r, own, id, serial⟩
    · rw [same]
      exact h.own
    · exact .inr ⟨r, own, id.trans h.nodeId, serial.trans h.serial⟩

/-- A step within the rope block that writes neither the status nor the causes, nor touches the records. -/
theorem of_frame {m : Bool} {P : List Part} {L : List Nat} (h : Dev.Frame m P L s t) (hL : ∀ a ∈ L, ropBlock a = true)
    (hs : R.ROP_STATUS ∉ L) (hi : R.ROP_IRQ ∉ L) (running : t.rop.running = s.rop.running) (db : t.rop.db = s.rop.db)
    (own : t.rop.own = s.rop.own) : s.SameIdentity t where
  running := running
  serial := h.serial_eq hL
  db := fun r _ => by rw [db]
  causes := fun i hc => by
    rwa [h.cause_eq hi]
  status := fun f hr _ => h.get_eq f (by rwa [hr]) (by rw [hr]; cases m <;> decide)
  own := .inl own

theorem ctlSent (h : s.CtlSent t) : s.SameIdentity t :=
  of_frame h.frame (by simp) (by simp) (by simp) (by rw [h.rop]) (by rw [h.rop]) (by rw [h.rop])

theorem event (s : Dev) (typ : Nat) (b : List Byte) : s.SameIdentity (s.event typ b) :=
  of_frame (L := []) ((Dev.Frame.refl true [] [] s).event typ b) (by simp) (by simp) (by simp) (by simp) (by simp) (by simp)

theorem eventRated (s : Dev) (typ c n : Nat) (b : Nat → List Byte) : s.SameIdentity (s.eventRated typ c n b) := by
  have h := (Dev.Frame.refl true [] [] s).eventRated typ c n b
  have rop : (s.eventRated typ c n b).rop = s.rop := h.parts .rop (by decide)
  exact of_frame h (by simp) (by simp) (by simp) (by rw [rop]) (by rw [rop]) (by rw [rop])

theorem wr (s : Dev) {a : Nat} (v : Word) (ha : ropBlock a = true) (hs : a ≠ R.ROP_STATUS) (hi : a ≠ R.ROP_IRQ) :
    s.SameIdentity (s.wr a v) :=
  of_frame (L := [a]) ((Dev.Frame.refl false [] [a] s).wr a v List.mem_cons_self) (by simp [ha]) (by simp [hs.symm]) (by simp [hi.symm])
    rfl rfl rfl

theorem count (s : Dev) (f : Fld) (n : Nat) (ha : ropBlock f.reg = true) (hs : f.reg ≠ R.ROP_STATUS) (hi : f.reg ≠ R.ROP_IRQ) :
    s.SameIdentity (s.count f n) := wr s _ ha hs hi

theorem raise (s : Dev) {j : Nat} (hj : j < 32) : s.SameIdentity (s.raise ⟨R.ROP_IRQ, j, 1⟩) where
  running := by simp
  serial := by
    have h := (Dev.Frame.refl true [] [R.ROP_IRQ] s).raise ⟨R.ROP_IRQ, j, 1⟩ List.mem_cons_self
    exact h.serial_eq (by decide)
  db := fun r _ => by simp
  causes := fun _ hi => Dev.is_raise_of_is hj hi
  status := fun f hr _ => by
    have other : f.reg ≠ R.ROP_IRQ := by rw [hr]; decide
    exact Dev.get_raise_apart _ _ _ (Fld.apart_of_reg_ne (by simp [Fld.fits]; omega) other)
  own := by simp

/-- Parts of the fabric replaced that are not the records. -/
theorem with_rop (s : Dev) (x : Rop) (running : x.running = s.rop.running) (db : x.db = s.rop.db) (own : x.own = s.rop.own) :
    s.SameIdentity { s with rop := x } :=
  of_frame ((Dev.Frame.refl false [.rop] [] s).rop_ x (by decide)) (by simp) (by simp) (by simp) running db own

theorem dbChanged (s : Dev) : s.SameIdentity s.dbChanged where
  running := by rw [Dev.rop_dbChanged]
  serial := (Dev.frame_dbChanged s).serial_eq (by decide)
  db := fun _ _ => by rw [Dev.rop_dbChanged]
  causes := fun i hi => by rwa [(Dev.frame_dbChanged s).cause_eq (by decide)]
  status := fun f _ hf => Dev.get_dbChanged f hf
  own := .inl (by rw [Dev.rop_dbChanged])

theorem originate (s : Dev) : s.SameIdentity s.originate := by
  cases h : s.claimed with
  | false =>
    rw [Dev.originate_unclaimed h]
    exact refl s
  | true =>
    have rop := Dev.rop_originate h
    exact {
      running := by rw [rop]; rfl
      serial := (Dev.frame_originate s).serial_eq (by decide)
      db := fun r hr => by
        rw [rop]
        simp [Dev.holdNext, hr]
      causes := fun i hi => by rwa [(Dev.frame_originate s).cause_eq (by decide)]
      status := fun f _ hf => Dev.get_originate f hf
      own := .inr ⟨s.nextLsr, by rw [rop]; rfl, rfl, rfl⟩ }

end Dev.SameIdentity

/-! An adjacency judged again (R411, R412, R417, R421). -/

section
variable {s : Dev} {n : Nat}

/-- A HAIL arrived within the last 30 ms. -/
def Dev.heardNow (s : Dev) (n : Nat) : Bool :=
  match (s.ropP n).heardAt with
  | some t => decide (s.ticks ≤ t + 30 * msTicks)
  | none => false

/-- What holds an adjacency TWO_WAY, and what holds it UP. -/
def Dev.twoWayNow (s : Dev) (n : Nat) : Bool := s.rop.running && s.ropeLink n && s.heardNow n && (s.ropP n).seen == s.serial
def Dev.upNow (s : Dev) (n : Nat) : Bool := s.twoWayNow n && (s.ropP n).claimed && s.claimed

/-- The adjacency stays UP and its neighbour shows another ID than before. -/
def Dev.movedNow (s : Dev) (n : Nat) : Bool :=
  s.upNow n && s.is (R.ROP_Pn_STATUS_ADJ_UP n) && s.get (R.ROP_Pn_STATUS_NEIGHBOR n) != (s.ropP n).node

/-- The port's status follows what was heard. -/
def Dev.setAdj (s : Dev) (n : Nat) : Dev :=
  (((s.setB (R.ROP_Pn_STATUS_TWO_WAY n) (s.twoWayNow n)).setB (R.ROP_Pn_STATUS_ADJ_UP n) (s.upNow n)).setB
    (R.ROP_Pn_STATUS_HEARD n) (s.heardNow n)).set (R.ROP_Pn_STATUS_NEIGHBOR n) (s.ropP n).node

/-- An adjacency that leaves DOWN is sent every record in use. -/
def Dev.showAdj (s : Dev) (n : Nat) : Dev :=
  if s.twoWayNow n && !s.is (R.ROP_Pn_STATUS_TWO_WAY n) then (s.setAdj n).sendAll n else s.setAdj n

/-- A change of UP reported. -/
def Dev.tellAdj (s : Dev) (n : Nat) : Dev :=
  ((s.showAdj n).raiseAt R.ROP_IRQ_ADJ n).event 0x1380 (ropPayload (if s.upNow n then 1 else 2) n (s.ropP n).node (s.ropP n).serial)

/-- Routes over an adjacency that went down give way. -/
def Dev.reportAdj (s : Dev) (n : Nat) : Dev := if s.upNow n then s.tellAdj n else (s.tellAdj n).failover n

theorem Dev.adjEval_eq (s : Dev) (n : Nat) : s.adjEval n =
    if s.upNow n = s.is (R.ROP_Pn_STATUS_ADJ_UP n) then
      (if s.movedNow n && (s.showAdj n).claimed then (s.showAdj n).originate else s.showAdj n)
    else if (s.reportAdj n).claimed then (s.reportAdj n).originate else (s.reportAdj n).dbChanged := rfl

/-- What the status, its report, a new record and a changed database keep, judging keeps. -/
theorem Dev.adjEval_rel {r : Dev → Dev → Prop} (trans : ∀ {s t u}, r s t → r t u → r s u) (shown : r s (s.showAdj n))
    (reported : r (s.showAdj n) (s.reportAdj n)) (originated : ∀ t, r t t.originate) (changed : ∀ t, r t t.dbChanged) :
    r s (s.adjEval n) := by
  rw [Dev.adjEval_eq]
  split
  · split
    · exact trans shown (originated _)
    · exact shown
  · split
    · exact trans (trans shown reported) (originated _)
    · exact trans (trans shown reported) (changed _)

theorem Dev.ctlSent_showAdj (s : Dev) (n : Nat) : (s.setAdj n).CtlSent (s.showAdj n) := by
  unfold Dev.showAdj
  split
  · exact Dev.ctlSent_sendAll _ _
  · exact .refl _

theorem Dev.rop_setAdj (s : Dev) (n : Nat) : (s.setAdj n).rop = s.rop := by
  simp only [Dev.setAdj, Dev.rop_set, Dev.rop_setB]

theorem Dev.rop_showAdj (s : Dev) (n : Nat) : (s.showAdj n).rop = s.rop := by
  rw [(s.ctlSent_showAdj n).rop, Dev.rop_setAdj]

theorem Dev.rop_tellAdj (s : Dev) (n : Nat) : (s.tellAdj n).rop = s.rop := by
  rw [Dev.tellAdj, Dev.rop_event, Dev.rop_raiseAt, Dev.rop_showAdj]

theorem Dev.frame_setAdj (s : Dev) (n : Nat) : Dev.Frame false [] [R.ROP_Pn_STATUS n] s (s.setAdj n) := by
  have status : ∀ f : Fld, f.reg = R.ROP_Pn_STATUS n → f.reg ∈ [R.ROP_Pn_STATUS n] := fun _ h => List.mem_singleton.mpr h
  unfold Dev.setAdj
  exact ((((Dev.Frame.refl ..).setB _ _ (status _ rfl)).setB _ _ (status _ rfl)).setB _ _ (status _ rfl)).set _ _ (status _ rfl)

theorem Dev.frame_showAdj (s : Dev) (n : Nat) : Dev.Frame true [] [R.ROP_Pn_STATUS n] s (s.showAdj n) :=
  (s.frame_setAdj n).may.ctlSent (s.ctlSent_showAdj n)

/-- Failover replaces routes and counts. -/
theorem Dev.failover_eq (s : Dev) (n : Nat) : ∃ l k, s.failover n = ({ s with rop := { s.rop with routes := l } }).count R.ROP_ROUTING_FAILOVERS k :=
  ⟨_, _, rfl⟩

theorem Dev.Frame.failover {m : Bool} {P : List Part} {L : List Nat} {s t : Dev} (h : Dev.Frame m P L s t) (hp : Part.rop ∈ P)
    (hL : R.ROP_ROUTING_FAILOVERS.reg ∈ L) (n : Nat) : Dev.Frame m P L s (t.failover n) := by
  obtain ⟨l, k, switched⟩ := t.failover_eq n
  rw [switched]
  exact (h.rop_ _ hp).count _ _ hL

theorem Dev.SameIdentity.failover (s : Dev) (n : Nat) : s.SameIdentity (s.failover n) := by
  obtain ⟨l, k, switched⟩ := s.failover_eq n
  rw [switched]
  exact (Dev.SameIdentity.with_rop s { s.rop with routes := l } rfl rfl rfl).trans (.count _ _ _ (by decide) (by decide) (by decide))

/-- Registers that the report of an adjacency and what follows from it may write. -/
def reportRegs : List Nat := [R.ROP_IRQ, R.ROP_ROUTING_FAILOVERS.reg, R.ROP_STATUS]

theorem Dev.frame_reportAdj (s : Dev) (n : Nat) : Dev.Frame true [.rop] reportRegs (s.showAdj n) (s.reportAdj n) := by
  have told : Dev.Frame true [.rop] reportRegs (s.showAdj n) (s.tellAdj n) := ((Dev.Frame.refl ..).raiseAt _ _ (by decide)).event _ _
  exact Dev.Frame.ite (fun _ => told) fun _ => told.failover (by decide) (by decide) n

theorem Dev.frame_originate_may (s : Dev) : Dev.Frame true [.rop] reportRegs s s.originate :=
  (s.frame_originate.mayCtl (by decide)).mono (fun _ h => h) (by decide)

theorem Dev.frame_dbChanged_may (s : Dev) : Dev.Frame true [.rop] reportRegs s s.dbChanged :=
  s.frame_dbChanged.may.mono (fun _ h => h) (by decide)

/-- Once the status is set, judging leaves it. -/
theorem Dev.frame_adjEval_of_setAdj (s : Dev) (n : Nat) : Dev.Frame true [.rop] reportRegs (s.setAdj n) (s.adjEval n) := by
  have shown : Dev.Frame true [.rop] reportRegs (s.setAdj n) (s.showAdj n) := (Dev.Frame.refl ..).ctlSent (s.ctlSent_showAdj n)
  rw [Dev.adjEval_eq]
  refine Dev.Frame.ite (fun _ => Dev.Frame.ite (fun _ => ?_) fun _ => shown) fun _ => Dev.Frame.ite (fun _ => ?_) fun _ => ?_
  · exact shown.trans (Dev.frame_originate_may _)
  · exact (shown.trans (s.frame_reportAdj n)).trans (Dev.frame_originate_may _)
  · exact (shown.trans (s.frame_reportAdj n)).trans (Dev.frame_dbChanged_may _)

theorem Dev.frame_adjEval (s : Dev) (n : Nat) : Dev.Frame true [.rop] (R.ROP_Pn_STATUS n :: reportRegs) s (s.adjEval n) :=
  ((s.frame_setAdj n).may.mono (by simp) (by simp)).trans ((s.frame_adjEval_of_setAdj n).mono (fun _ h => h) fun _ h => List.mem_cons_of_mem _ h)

theorem ropBlock_status {n : Nat} (hn : n < 8) : ropBlock (R.ROP_Pn_STATUS n) = true := by
  simp only [ropBlock, R.ROP_Pn_STATUS, beq_iff_eq]
  omega

theorem ne_status {a : Nat} (h : a < 0x1300100) (n : Nat) : a ≠ R.ROP_Pn_STATUS n := by
  simp only [R.ROP_Pn_STATUS]
  omega

theorem status_not_mem {L : List Nat} (h : ∀ a ∈ L, a < 0x1300100) (n : Nat) : R.ROP_Pn_STATUS n ∉ L := fun hm => ne_status (h _ hm) n rfl

theorem Dev.sameIdentity_showAdj (s : Dev) {n : Nat} (hn : n < 8) : s.SameIdentity (s.showAdj n) :=
  .of_frame (s.frame_showAdj n) (by simp [ropBlock_status hn]) (by simp [ne_status (a := R.ROP_STATUS) (by decide)])
    (by simp [ne_status (a := R.ROP_IRQ) (by decide)]) (by rw [Dev.rop_showAdj]) (by rw [Dev.rop_showAdj]) (by rw [Dev.rop_showAdj])

theorem Dev.sameIdentity_reportAdj (s : Dev) {n : Nat} (hn : n < 8) : (s.showAdj n).SameIdentity (s.reportAdj n) := by
  have told : (s.showAdj n).SameIdentity (s.tellAdj n) := (Dev.SameIdentity.raise _ (j := 0 + n) (by omega)).trans (.event _ _ _)
  unfold Dev.reportAdj
  split
  · exact told
  · exact told.trans (.failover _ _)

theorem Dev.sameIdentity_adjEval (s : Dev) {n : Nat} (hn : n < 8) : s.SameIdentity (s.adjEval n) :=
  Dev.adjEval_rel (fun h k => h.trans k) (s.sameIdentity_showAdj hn) (s.sameIdentity_reportAdj hn) .originate .dbChanged

/-- Originating and judging leave what was heard on the ports. -/
theorem Dev.ports_originate (s : Dev) : s.originate.rop.ports = s.rop.ports := by
  cases h : s.claimed with
  | false => rw [Dev.originate_unclaimed h]
  | true =>
    rw [Dev.rop_originate h]
    rfl

theorem Dev.ports_failover (s : Dev) (n : Nat) : (s.failover n).rop.ports = s.rop.ports := by
  obtain ⟨l, k, switched⟩ := s.failover_eq n
  rw [switched, Dev.rop_count]

theorem Dev.ports_reportAdj (s : Dev) (n : Nat) : (s.reportAdj n).rop.ports = s.rop.ports := by
  unfold Dev.reportAdj
  split
  · rw [Dev.rop_tellAdj]
  · rw [Dev.ports_failover, Dev.rop_tellAdj]

theorem Dev.ports_adjEval (s : Dev) (n : Nat) : (s.adjEval n).rop.ports = s.rop.ports :=
  Dev.adjEval_rel (r := fun s t => t.rop.ports = s.rop.ports) (fun h k => k.trans h) (by rw [Dev.rop_showAdj])
    (by rw [Dev.ports_reportAdj, Dev.rop_showAdj]) Dev.ports_originate fun t => by rw [Dev.rop_dbChanged]

theorem Dev.ropP_adjEval (s : Dev) (n k : Nat) : (s.adjEval n).ropP k = s.ropP k := by
  rw [Dev.ropP, Dev.ports_adjEval, Dev.ropP]

theorem Dev.routes_originate (s : Dev) : s.originate.rop.routes = s.rop.routes := by
  cases h : s.claimed with
  | false => rw [Dev.originate_unclaimed h]
  | true =>
    rw [Dev.rop_originate h]
    rfl

/-- Without routes there is nothing that could fail over. -/
theorem Dev.routes_adjEval_nil (s : Dev) (n : Nat) (h : s.rop.routes = []) : (s.adjEval n).rop.routes = [] := by
  refine Dev.adjEval_rel (r := fun s t => s.rop.routes = [] → t.rop.routes = []) (fun h k x => k (h x)) (fun h => ?_) (fun h => ?_)
    (fun t h => ?_) (fun t h => ?_) h
  · rwa [Dev.rop_showAdj]
  · rw [Dev.rop_showAdj] at h
    unfold Dev.reportAdj
    split
    · rwa [Dev.rop_tellAdj]
    · rw [Dev.failover, Dev.rop_count, Dev.rop_tellAdj, h]
      rfl
  · rwa [Dev.routes_originate]
  · rwa [Dev.rop_dbChanged]

/-- The port's status is what was heard. -/
theorem Dev.flags_adjEval (s : Dev) {n : Nat} (hn : n < 8) :
    (s.adjEval n).is (R.ROP_Pn_STATUS_TWO_WAY n) = s.twoWayNow n ∧ (s.adjEval n).is (R.ROP_Pn_STATUS_ADJ_UP n) = s.upNow n ∧
      (s.adjEval n).is (R.ROP_Pn_STATUS_HEARD n) = s.heardNow n := by
  have kept : ∀ f : Fld, f.reg = R.ROP_Pn_STATUS n → (s.adjEval n).is f = (s.setAdj n).is f := fun f hf => by
    have other : f.reg ∉ reportRegs := by
      rw [hf]
      exact status_not_mem (by decide) n
    exact (s.frame_adjEval_of_setAdj n).is_eq f other (by rw [hf, msgReg_of_ropBlock (ropBlock_status hn), Bool.and_false])
  rw [kept _ rfl, kept _ rfl, kept _ rfl]
  unfold Dev.setAdj
  refine ⟨?_, ?_, ?_⟩
  · rw [Dev.is_set_apart _ _ _ _ (by simp [Fld.apart, R.ROP_Pn_STATUS_TWO_WAY, R.ROP_Pn_STATUS_NEIGHBOR]),
      Dev.is_setB_apart _ _ _ _ (by simp [Fld.apart, R.ROP_Pn_STATUS_TWO_WAY, R.ROP_Pn_STATUS_HEARD]),
      Dev.is_setB_apart _ _ _ _ (by simp [Fld.apart, R.ROP_Pn_STATUS_TWO_WAY, R.ROP_Pn_STATUS_ADJ_UP]), Dev.is_setB _ _ _ (by rfl)]
  · rw [Dev.is_set_apart _ _ _ _ (by simp [Fld.apart, R.ROP_Pn_STATUS_ADJ_UP, R.ROP_Pn_STATUS_NEIGHBOR]),
      Dev.is_setB_apart _ _ _ _ (by simp [Fld.apart, R.ROP_Pn_STATUS_ADJ_UP, R.ROP_Pn_STATUS_HEARD]), Dev.is_setB _ _ _ (by rfl)]
  · rw [Dev.is_set_apart _ _ _ _ (by simp [Fld.apart, R.ROP_Pn_STATUS_HEARD, R.ROP_Pn_STATUS_NEIGHBOR]), Dev.is_setB _ _ _ (by rfl)]

/-- An adjacency that leaves UP is raised as a cause. -/
theorem Dev.adjEval_down_raises (s : Dev) {n : Nat} (hn : n < 8) (hu : s.upNow n = false) (hw : s.is (R.ROP_Pn_STATUS_ADJ_UP n) = true) :
    bit ((s.adjEval n).get R.ROP_IRQ_ADJ) n = true := by
  have told : (s.tellAdj n).is ⟨R.ROP_IRQ, n, 1⟩ = true := by
    refine (Dev.SameIdentity.event _ _ _).causes n ?_
    have raised := (s.showAdj n).is_raiseAt_same R.ROP_IRQ_ADJ n (by simp [Fld.fits, Fld.at, R.ROP_IRQ_ADJ]; omega)
    rwa [Fld.at, R.ROP_IRQ_ADJ, Nat.zero_add] at raised
  have reported : (s.reportAdj n).is ⟨R.ROP_IRQ, n, 1⟩ = true := by
    rw [Dev.reportAdj, if_neg (by simp [hu])]
    exact (Dev.SameIdentity.failover _ n).causes n told
  have judged : (s.adjEval n).is ⟨R.ROP_IRQ, n, 1⟩ = true := by
    rw [Dev.adjEval_eq, if_neg (by simp [hu, hw])]
    split
    · exact (Dev.SameIdentity.originate _).causes n reported
    · exact (Dev.SameIdentity.dbChanged _).causes n reported
  rw [Dev.get, R.ROP_IRQ_ADJ, bit_bits hn]
  exact judged

/-- No route that failed over uses the port, where none had it as primary and alternate (R421). -/
theorem Dev.routes_failover {n : Nat} (h : ∀ x, x ∈ s.rop.routes → x.2.alt ≠ some x.2.primary) :
    ∀ x, x ∈ (s.failover n).rop.routes → x.2.primary ≠ n ∧ x.2.alt ≠ some n := by
  intro x hx
  rw [Dev.failover, Dev.rop_count] at hx
  obtain ⟨y, hy, switched⟩ := List.mem_filterMap.mp hx
  by_cases hp : y.2.primary = n
  · rw [if_pos hp, Option.map_eq_some_iff] at switched
    obtain ⟨a, alt, rfl⟩ := switched
    refine ⟨fun ha : a = n => h y hy ?_, by simp⟩
    rw [alt, hp, ha]
  · rw [if_neg hp, Option.some_inj] at switched
    subst switched
    refine ⟨hp, ?_⟩
    by_cases ha : y.2.alt = some n
    · simp [ha]
    · simp [ha]

theorem Dev.adjEval_down_routes (s : Dev) {n : Nat} (hu : s.upNow n = false) (hw : s.is (R.ROP_Pn_STATUS_ADJ_UP n) = true)
    (h : ∀ x, x ∈ s.rop.routes → x.2.alt ≠ some x.2.primary) :
    ∀ x, x ∈ (s.adjEval n).rop.routes → x.2.primary ≠ n ∧ x.2.alt ≠ some n := by
  have kept : (s.adjEval n).rop.routes = ((s.tellAdj n).failover n).rop.routes := by
    have reported : s.reportAdj n = (s.tellAdj n).failover n := by rw [Dev.reportAdj, if_neg (by simp [hu])]
    rw [Dev.adjEval_eq, if_neg (by simp [hu, hw]), reported]
    split
    · rw [Dev.routes_originate]
    · rw [Dev.rop_dbChanged]
  rw [kept]
  exact Dev.routes_failover (by rwa [Dev.rop_tellAdj])

/-- An adjacency that keeps its states and its neighbour changes no more than the status. -/
theorem Dev.adjEval_steady (ht : s.twoWayNow n = s.is (R.ROP_Pn_STATUS_TWO_WAY n)) (hu : s.upNow n = s.is (R.ROP_Pn_STATUS_ADJ_UP n))
    (hm : s.movedNow n = false) : s.adjEval n = s.setAdj n := by
  rw [Dev.adjEval_eq, if_pos hu, if_neg (by simp [hm]), Dev.showAdj, if_neg (by simp [ht])]

/-- A neighbour under a new ID is told in a new record (R18). -/
theorem Dev.adjEval_moved (ht : s.twoWayNow n = s.is (R.ROP_Pn_STATUS_TWO_WAY n)) (hu : s.upNow n = s.is (R.ROP_Pn_STATUS_ADJ_UP n))
    (hm : s.movedNow n = true) (hc : (s.setAdj n).claimed = true) : s.adjEval n = (s.setAdj n).originate := by
  have shown : s.showAdj n = s.setAdj n := by rw [Dev.showAdj, if_neg (by simp [ht])]
  rw [Dev.adjEval_eq, if_pos hu, shown, if_pos (by simp [hm, hc])]

end

/-! Node IDs: claimed, not to be had, given up (R413 to R415). -/

/-- Registers that a change of the module's claim may write. -/
def claimRegs : List Nat := [R.ROP_STATUS, R.ROP_IRQ, R.ROP_ROUTING_FAILOVERS.reg] ++ (List.range 8).map R.ROP_Pn_STATUS

theorem reportRegs_subset_claimRegs : reportRegs ⊆ claimRegs := by decide

theorem ropBlock_claimRegs : ∀ a ∈ claimRegs, ropBlock a = true := by decide

section
variable {s t : Dev}

theorem Dev.Frame.adjEval {P : List Part} {L : List Nat} (h : Dev.Frame true P L s t) (hp : Part.rop ∈ P) {n : Nat}
    (hL : R.ROP_Pn_STATUS n :: reportRegs ⊆ L) : Dev.Frame true P L s (t.adjEval n) :=
  h.trans ((t.frame_adjEval n).mono (by simpa using hp) hL)

theorem Dev.frame_adjAll (s : Dev) : Dev.Frame true [.rop] claimRegs s s.adjAll := by
  refine Dev.Frame.forEach_mem (fun n hn u hu => hu.adjEval (by decide) ?_) (.refl ..)
  exact List.cons_subset.mpr ⟨List.mem_append_right _ (List.mem_map_of_mem hn), reportRegs_subset_claimRegs⟩

theorem Dev.sameIdentity_adjAll (s : Dev) : s.SameIdentity s.adjAll :=
  forEach_rel .refl (fun _ _ _ h k => h.trans k) _ (fun _ hn t => t.sameIdentity_adjEval (List.mem_range.mp hn)) s

theorem Dev.routes_adjAll_nil (h : s.rop.routes = []) : s.adjAll.rop.routes = [] :=
  forEach_rel (r := fun s t => s.rop.routes = [] → t.rop.routes = []) (fun _ h => h) (by intro _ _ _ h k x; exact k (h x)) _
    (fun n _ t => t.routes_adjEval_nil n) s h

theorem Dev.chooseId_bounds {a b id : Nat} (h : s.chooseId a = some (b, id)) : b < 256 ∧ id < 1024 := by
  unfold Dev.chooseId at h
  split at h
  next k hk =>
    have below : k < 256 - a := List.mem_range.mp (List.mem_of_find?_eq_some hk)
    obtain ⟨rfl, rfl⟩ := Prod.mk.inj (Option.some.inj h)
    exact ⟨by omega, Nat.mod_lt _ (by decide)⟩
  next =>
    obtain ⟨x, hx, chosen⟩ := Option.map_eq_some_iff.mp h
    obtain ⟨rfl, rfl⟩ := Prod.mk.inj chosen
    obtain ⟨k, _, rfl⟩ := List.mem_map.mp (List.mem_of_find?_eq_some hx)
    exact ⟨by decide, Nat.mod_lt _ (by decide)⟩

/-- The status of a module that claims an ID. -/
def Dev.takeId (s : Dev) (a id : Nat) : Dev :=
  (((s.set R.ROP_STATUS_NODE_ID id).set R.ROP_STATUS_ATTEMPT a).set R.ROP_STATUS_CLAIMED 1).set R.ROP_STATUS_NO_ID 0

theorem Dev.claim_eq (s : Dev) (a id : Nat) : s.claim a id = (s.takeId a id).originate.adjAll := rfl

theorem Dev.frame_takeId (s : Dev) (a id : Nat) : Dev.Frame false [] [R.ROP_STATUS] s (s.takeId a id) :=
  ((((Dev.Frame.refl ..).set R.ROP_STATUS_NODE_ID _ (by decide)).set R.ROP_STATUS_ATTEMPT _ (by decide)).set R.ROP_STATUS_CLAIMED _
    (by decide)).set R.ROP_STATUS_NO_ID _ (by decide)

theorem Dev.get_takeId {a id : Nat} (ha : a < 256) (hid : id < 1024) :
    (s.takeId a id).get R.ROP_STATUS_NODE_ID = id ∧ (s.takeId a id).get R.ROP_STATUS_ATTEMPT = a ∧
      (s.takeId a id).is R.ROP_STATUS_CLAIMED = true := by
  unfold Dev.takeId
  refine ⟨?_, ?_, ?_⟩
  · rw [Dev.get_set_apart _ _ _ _ (by decide), Dev.get_set_apart _ _ _ _ (by decide), Dev.get_set_apart _ _ _ _ (by decide),
      Dev.get_set _ _ _ (by decide)]
    exact Nat.mod_eq_of_lt hid
  · rw [Dev.get_set_apart _ _ _ _ (by decide), Dev.get_set_apart _ _ _ _ (by decide), Dev.get_set _ _ _ (by decide)]
    exact Nat.mod_eq_of_lt ha
  · rw [Dev.is_set_apart _ _ _ _ (by decide)]
    exact Dev.is_set_one _ _ (by decide) (by decide)

/-- A step that leaves the fabric's state, and the causes, keeps the fabric. -/
theorem Dev.SameFabric.of_frame {m : Bool} {P : List Part} {L : List Nat} (h : Dev.Frame m P L s t) (hL : ∀ a ∈ L, ropBlock a = true)
    (hi : R.ROP_IRQ ∉ L) (running : t.rop.running = s.rop.running) (db : t.rop.db = s.rop.db) : s.SameFabric t where
  running := running
  serial := h.serial_eq hL
  db := fun r _ => by rw [db]
  causes := fun i hc => by rwa [h.cause_eq hi]

theorem Dev.frame_claim (s : Dev) (a id : Nat) : Dev.Frame true [.rop] claimRegs s (s.claim a id) := by
  have taken : Dev.Frame true [.rop] claimRegs s (s.takeId a id) := (s.frame_takeId a id).may.mono (by simp) (by decide)
  exact (taken.trans ((Dev.frame_originate_may _).mono (fun _ h => h) reportRegs_subset_claimRegs)).trans (Dev.frame_adjAll _)

theorem Dev.sameIdentity_claim (s : Dev) (a id : Nat) : (s.takeId a id).SameIdentity (s.claim a id) :=
  (Dev.SameIdentity.originate _).trans (Dev.sameIdentity_adjAll _)

theorem Dev.sameFabric_claim (s : Dev) (a id : Nat) : s.SameFabric (s.claim a id) :=
  (Dev.SameFabric.of_frame (s.frame_takeId a id) (by decide) (by decide) rfl rfl).trans (s.sameIdentity_claim a id).toSameFabric

/-- A running module that claims an ID shows it and holds a record of its own under it. -/
theorem Dev.claim_claims {a id : Nat} (hr : s.rop.running = true) (ha : a < 256) (hid : id < 1024) :
    (s.claim a id).get R.ROP_STATUS_NODE_ID = id ∧ (s.claim a id).get R.ROP_STATUS_ATTEMPT = a ∧
      (s.claim a id).is R.ROP_STATUS_CLAIMED = true ∧ ∃ r, (s.claim a id).rop.own = some r ∧ r.id = id ∧ r.serial = s.serial := by
  obtain ⟨node, attempt, shown⟩ := s.get_takeId ha hid
  have kept := s.sameIdentity_claim a id
  have serial : (s.takeId a id).serial = s.serial := (s.frame_takeId a id).serial_eq (by decide)
  have claimed : (s.takeId a id).claimed = true := Bool.and_eq_true_iff.mpr ⟨hr, shown⟩
  refine ⟨?_, ?_, ?_, ?_⟩
  · rwa [kept.status _ rfl (by decide)]
  · rwa [kept.status _ rfl (by decide)]
  · rwa [Dev.is, kept.status _ rfl (by decide)]
  · have first : (s.takeId a id).originate.rop.own = some (s.takeId a id).nextLsr := by rw [Dev.rop_originate claimed]; rfl
    have original := Dev.SameIdentity.originate (s.takeId a id)
    rcases (Dev.sameIdentity_adjAll (s.takeId a id).originate).own with same | ⟨r, own, rid, rserial⟩
    · exact ⟨_, same.trans first, node, serial⟩
    · exact ⟨r, own, rid.trans (original.nodeId.trans node), rserial.trans (original.serial.trans serial)⟩

/-- The block of a module for which no ID is free, before its adjacencies follow. -/
def Dev.loseId (s : Dev) : Dev :=
  ({ (s.set R.ROP_STATUS_CLAIMED 0).set R.ROP_STATUS_NO_ID 1 with rop := { s.rop with routes := [] } } : Dev).dbChanged

theorem Dev.noId_eq (s : Dev) : s.noId =
    if s.is R.ROP_STATUS_NO_ID then s.loseId.adjAll
    else (s.loseId.adjAll.raise R.ROP_IRQ_NO_ID).event 0x1380 (ropPayload 8 0xFF 0 0) := rfl

theorem Dev.rop_loseId (s : Dev) : s.loseId.rop = { s.rop with routes := [], changed := some s.ticks } := by
  simp only [Dev.loseId, Dev.rop_dbChanged, Dev.ticks_set]

theorem Dev.frame_loseId (s : Dev) : Dev.Frame false [.rop] [R.ROP_STATUS] s s.loseId := by
  have taken : Dev.Frame false [.rop] [R.ROP_STATUS] s ((s.set R.ROP_STATUS_CLAIMED 0).set R.ROP_STATUS_NO_ID 1) :=
    ((Dev.Frame.refl ..).set R.ROP_STATUS_CLAIMED _ (by decide)).set R.ROP_STATUS_NO_ID _ (by decide)
  exact (taken.rop_ _ (by decide)).trans (Dev.frame_dbChanged _)

theorem Dev.is_loseId (s : Dev) : s.loseId.is R.ROP_STATUS_NO_ID = true ∧ s.loseId.is R.ROP_STATUS_CLAIMED = false := by
  unfold Dev.loseId Dev.is
  constructor
  · rw [Dev.get_dbChanged _ (by decide), Dev.get_with_rop, Dev.get_set _ _ _ (by decide)]
    rfl
  · rw [Dev.get_dbChanged _ (by decide), Dev.get_with_rop, Dev.get_set_apart _ _ _ _ (by decide), Dev.get_set _ _ _ (by decide)]
    rfl

/-- What the report that no ID is free keeps. -/
theorem Dev.sameIdentity_noId (s : Dev) : s.loseId.SameIdentity s.noId := by
  rw [Dev.noId_eq]
  split
  · exact Dev.sameIdentity_adjAll _
  · exact (Dev.sameIdentity_adjAll _).trans ((Dev.SameIdentity.raise _ (by decide)).trans (.event _ _ _))

theorem Dev.sameFabric_noId (s : Dev) : s.SameFabric s.noId :=
  (Dev.SameFabric.of_frame s.frame_loseId (by decide) (by decide) (by rw [Dev.rop_loseId]) (by rw [Dev.rop_loseId])).trans
    s.sameIdentity_noId.toSameFabric

theorem Dev.frame_noId (s : Dev) : Dev.Frame true [.rop] claimRegs s s.noId := by
  have lost : Dev.Frame true [.rop] claimRegs s s.loseId := s.frame_loseId.may.mono (fun _ h => h) (by decide)
  have judged := lost.trans (Dev.frame_adjAll _)
  rw [Dev.noId_eq]
  exact Dev.Frame.ite (fun _ => judged) fun _ => (judged.raise _ (by decide)).event _ _

/-- A module without an ID shows it, says so once, and has no route. -/
theorem Dev.noId_shows (hn : s.is R.ROP_STATUS_NO_ID = false) :
    s.noId.is R.ROP_STATUS_NO_ID = true ∧ s.noId.is R.ROP_STATUS_CLAIMED = false ∧ s.noId.is R.ROP_IRQ_NO_ID = true ∧
      s.noId.rop.routes = [] := by
  obtain ⟨none, unclaimed⟩ := s.is_loseId
  refine ⟨?_, ?_, ?_, ?_⟩
  · rwa [Dev.is, s.sameIdentity_noId.status _ rfl (by decide)]
  · rwa [Dev.is, s.sameIdentity_noId.status _ rfl (by decide)]
  · rw [Dev.noId_eq, if_neg (by simp [hn]), Dev.is_event _ _ _ _ (by decide)]
    exact Dev.is_raise_same _ _ (by decide)
  · rw [Dev.noId_eq, if_neg (by simp [hn]), Dev.rop_event, Dev.rop_raise]
    exact Dev.routes_adjAll_nil (by rw [Dev.rop_loseId])

/-- The own record is given up. -/
theorem Dev.withdrawOwn_ctlSent (s : Dev) :
    Dev.CtlSent { s with rop := { s.rop with nextSeq := seqNext s.rop.nextSeq, own := none } } s.withdrawOwn := Dev.ctlSent_flood _ _ _

theorem Dev.frame_withdrawOwn (s : Dev) : Dev.Frame true [.rop] [] s s.withdrawOwn :=
  (((Dev.Frame.refl false [.rop] [] s).rop_ _ (by decide)).may).ctlSent s.withdrawOwn_ctlSent

theorem Dev.get_withdrawOwn (f : Fld) : s.withdrawOwn.get f = s.get f := s.withdrawOwn_ctlSent.get f

theorem Dev.sameFabric_withdrawOwn (s : Dev) : s.SameFabric s.withdrawOwn :=
  .of_frame s.frame_withdrawOwn (by simp) (by simp) (by rw [s.withdrawOwn_ctlSent.rop]) (by rw [s.withdrawOwn_ctlSent.rop])

/-! Another module under this one's ID (R414). -/

/-- A collision counted and reported. -/
def Dev.noteCollision (s : Dev) (other : Nat) : Dev :=
  ((s.count R.ROP_COUNTS_COLLISIONS 1).raise R.ROP_IRQ_COLLISION).eventRated 0x1380 4 0 fun _ => ropPayload 4 0xFF s.nodeId other

/-- Another ID claimed, counted and reported. -/
def Dev.moveId (s : Dev) (a id : Nat) : Dev :=
  (((s.claim a id).count R.ROP_COUNTS_ID_CHANGES 1).raise R.ROP_IRQ_ID_CHANGED).event 0x1380 (ropPayload 3 0xFF id 0)

theorem Dev.collision_eq (s : Dev) (other : Nat) : s.collision other =
    if other ≥ s.serial then s.noteCollision other
    else match (s.noteCollision other).withdrawOwn.chooseId ((s.noteCollision other).withdrawOwn.get R.ROP_STATUS_ATTEMPT + 1) with
      | none => (s.noteCollision other).withdrawOwn.noId
      | some (a, id) => (s.noteCollision other).withdrawOwn.moveId a id := rfl

/-- The three ways out of a collision: the ID kept, no other free, another claimed. -/
theorem Dev.collision_cases (s : Dev) (other : Nat) :
    s.collision other = s.noteCollision other ∨ s.collision other = (s.noteCollision other).withdrawOwn.noId ∨
      ∃ a id, s.collision other = (s.noteCollision other).withdrawOwn.moveId a id := by
  rw [Dev.collision_eq]
  split
  · exact .inl rfl
  · split
    · exact .inr (.inl rfl)
    · exact .inr (.inr ⟨_, _, rfl⟩)

/-- Registers that a collision may write. -/
def collisionRegs : List Nat := R.ROP_COUNTS_COLLISIONS.reg :: claimRegs

theorem Dev.frame_noteCollision (s : Dev) (other : Nat) :
    Dev.Frame true [] [R.ROP_COUNTS_COLLISIONS.reg, R.ROP_IRQ] s (s.noteCollision other) :=
  (((Dev.Frame.refl ..).count _ _ (by decide)).raise _ (by decide)).eventRated _ _ _ _

theorem Dev.sameIdentity_noteCollision (s : Dev) (other : Nat) : s.SameIdentity (s.noteCollision other) :=
  ((Dev.SameIdentity.count s _ _ (by decide) (by decide) (by decide)).trans (.raise _ (by decide))).trans (.eventRated _ _ _ _ _)

theorem Dev.rop_eventRated (s : Dev) (typ c n : Nat) (b : Nat → List Byte) : (s.eventRated typ c n b).rop = s.rop :=
  (s.sends_eventRated typ c n b).parts .rop (by decide)

theorem Dev.get_eventRated (s : Dev) (typ c n : Nat) (b : Nat → List Byte) (f : Fld) (h : msgReg f.reg = false) :
    (s.eventRated typ c n b).get f = s.get f := by
  unfold Dev.get
  rw [(s.sends_eventRated typ c n b).regs _ h]

theorem Dev.noteCollision_notes (s : Dev) (other : Nat) :
    (s.noteCollision other).get R.ROP_COUNTS_COLLISIONS = min (s.get R.ROP_COUNTS_COLLISIONS + 1) 255 ∧
      (s.noteCollision other).is R.ROP_IRQ_COLLISION = true := by
  unfold Dev.noteCollision Dev.is
  rw [Dev.get_eventRated _ _ _ _ _ _ (by decide), Dev.get_eventRated _ _ _ _ _ _ (by decide), Dev.get_raise_apart _ _ _ (by decide),
    Dev.get_count _ _ _ (by decide), Dev.get_raise_same _ _ (by decide)]
  exact ⟨rfl, rfl⟩

theorem Dev.frame_moveId (s : Dev) (a id : Nat) : Dev.Frame true [.rop] collisionRegs s (s.moveId a id) := by
  have claimed : Dev.Frame true [.rop] collisionRegs s (s.claim a id) :=
    (s.frame_claim a id).mono (fun _ h => h) fun _ h => List.mem_cons_of_mem _ h
  exact ((claimed.count _ _ (by decide)).raise _ (by decide)).event _ _

theorem Dev.sameIdentity_moveId (s : Dev) (a id : Nat) : (s.claim a id).SameIdentity (s.moveId a id) :=
  ((Dev.SameIdentity.count _ _ _ (by decide) (by decide) (by decide)).trans (.raise _ (by decide))).trans (.event _ _ _)

theorem Dev.get_moveId_counts (s : Dev) (a id : Nat) :
    (s.moveId a id).get R.ROP_COUNTS_COLLISIONS = s.get R.ROP_COUNTS_COLLISIONS ∧
      (s.moveId a id).get R.ROP_COUNTS_ID_CHANGES = min (s.get R.ROP_COUNTS_ID_CHANGES + 1) 255 ∧
      (s.moveId a id).is R.ROP_IRQ_ID_CHANGED = true := by
  have kept := s.frame_claim a id
  unfold Dev.moveId Dev.is
  rw [Dev.get_event _ _ _ _ (by decide), Dev.get_event _ _ _ _ (by decide), Dev.get_event _ _ _ _ (by decide),
    Dev.get_raise_same _ _ (by decide), Dev.get_raise_apart _ _ _ (by decide), Dev.get_raise_apart _ _ _ (by decide),
    Dev.get_count_apart _ _ _ _ (by decide), Dev.get_count _ _ _ (by decide), kept.get_eq _ (by decide) (by decide),
    kept.get_eq _ (by decide) (by decide)]
  exact ⟨rfl, rfl, rfl⟩

theorem Dev.frame_collision (s : Dev) (other : Nat) : Dev.Frame true [.rop] collisionRegs s (s.collision other) := by
  have noted : Dev.Frame true [.rop] collisionRegs s (s.noteCollision other) := (s.frame_noteCollision other).mono (by simp) (by decide)
  have withdrawn := noted.trans ((s.noteCollision other).frame_withdrawOwn.mono (fun _ h => h) (by simp))
  rcases s.collision_cases other with kept | lost | ⟨a, id, moved⟩
  · rwa [kept]
  · rw [lost]
    exact withdrawn.trans ((Dev.frame_noId _).mono (fun _ h => h) fun _ h => List.mem_cons_of_mem _ h)
  · rw [moved]
    exact withdrawn.trans (Dev.frame_moveId _ _ _)

/-- A collision keeps the fabric, is counted and raised. -/
theorem Dev.collision_counts (s : Dev) (other : Nat) :
    s.SameFabric (s.collision other) ∧ (s.collision other).get R.ROP_COUNTS_COLLISIONS = min (s.get R.ROP_COUNTS_COLLISIONS + 1) 255 ∧
      (s.collision other).is R.ROP_IRQ_COLLISION = true := by
  obtain ⟨count, raised⟩ := s.noteCollision_notes other
  have noted := (s.sameIdentity_noteCollision other).toSameFabric
  have withdrawn := (s.noteCollision other).sameFabric_withdrawOwn
  have count' : (s.noteCollision other).withdrawOwn.get R.ROP_COUNTS_COLLISIONS = min (s.get R.ROP_COUNTS_COLLISIONS + 1) 255 := by
    rwa [Dev.get_withdrawOwn]
  rcases s.collision_cases other with kept | lost | ⟨a, id, moved⟩
  · rw [kept]
    exact ⟨noted, count, raised⟩
  · have after := withdrawn.trans (Dev.sameFabric_noId _)
    rw [lost]
    exact ⟨noted.trans after, ((Dev.frame_noId _).get_eq _ (by decide) (by decide)).trans count', after.causes _ raised⟩
  · have after := (withdrawn.trans (Dev.sameFabric_claim _ a id)).trans (Dev.sameIdentity_moveId _ a id).toSameFabric
    rw [moved]
    exact ⟨noted.trans after, (Dev.get_moveId_counts _ a id).1.trans count', after.causes _ raised⟩

/-- The module of the lower serial keeps its ID. -/
theorem Dev.collision_lower {other : Nat} (h : s.serial < other) : s.SameIdentity (s.collision other) := by
  rw [Dev.collision_eq, if_pos (Nat.le_of_lt h)]
  exact s.sameIdentity_noteCollision other

/-- The module of the higher serial moves to the next ID that is free. -/
theorem Dev.collision_higher {other a id : Nat} (h : other < s.serial) (hr : s.rop.running = true)
    (hc : s.chooseId (s.get R.ROP_STATUS_ATTEMPT + 1) = some (a, id)) :
    (s.collision other).nodeId = id ∧ (s.collision other).claimed = true ∧
      (s.collision other).get R.ROP_COUNTS_ID_CHANGES = min (s.get R.ROP_COUNTS_ID_CHANGES + 1) 255 ∧
      (s.collision other).is R.ROP_IRQ_ID_CHANGED = true := by
  have noted := s.sameIdentity_noteCollision other
  have fabric := noted.toSameFabric.trans (s.noteCollision other).sameFabric_withdrawOwn
  have attempt : (s.noteCollision other).withdrawOwn.get R.ROP_STATUS_ATTEMPT = s.get R.ROP_STATUS_ATTEMPT := by
    rw [Dev.get_withdrawOwn, noted.status _ rfl (by decide)]
  have changes : (s.noteCollision other).withdrawOwn.get R.ROP_COUNTS_ID_CHANGES = s.get R.ROP_COUNTS_ID_CHANGES := by
    rw [Dev.get_withdrawOwn, Dev.noteCollision, Dev.get_eventRated _ _ _ _ _ _ (by decide), Dev.get_raise_apart _ _ _ (by decide),
      Dev.get_count_apart _ _ _ _ (by decide)]
  have moved : s.collision other = (s.noteCollision other).withdrawOwn.moveId a id := by
    rw [Dev.collision_eq, if_neg (by omega), attempt, fabric.chooseId_eq, hc]
  have running : (s.noteCollision other).withdrawOwn.rop.running = true := by rwa [fabric.running]
  obtain ⟨ha, hid⟩ := Dev.chooseId_bounds hc
  obtain ⟨node, _, claimed, _⟩ := Dev.claim_claims running ha hid
  obtain ⟨_, counted, raised⟩ := (s.noteCollision other).withdrawOwn.get_moveId_counts a id
  have after := (s.noteCollision other).withdrawOwn.sameIdentity_moveId a id
  rw [moved]
  refine ⟨after.nodeId.trans node, after.claimed.trans ?_, by rw [counted, changes], raised⟩
  exact Bool.and_eq_true_iff.mpr ⟨((Dev.sameFabric_claim _ a id).running).trans running, claimed⟩

end

/-! HAILs sent (R410). -/

section
variable {s t : Dev} {n : Nat}

theorem Dev.Frame.draining_eq {m : Bool} {P : List Part} {L : List Nat} (h : Dev.Frame m P L s t) (hp : Part.img ∉ P) (p : Nat) :
    t.draining p = s.draining p := by
  have img : t.img = s.img := h.parts .img (by cases m <;> simp [hp, msgParts])
  rw [Dev.draining, img, Dev.draining]

theorem Dev.ropP_setRopP (s : Dev) (n : Nat) (x : RopPort) : (s.setRopP n x).ropP n = x := by
  rw [Dev.ropP, Dev.setRopP, sget_sset _ _ _ _ _ _ fun _ => Or.inl rfl, if_pos rfl]

theorem Dev.sendHail_runs (hr : s.rop.running = true) (hl : s.ropeLink n = true) (hd : s.draining 14 = false) :
    s.sendHail n = (s.ropCtl n kHail 0 1 (s.hailBytes n)).count (R.ROP_Pn_HAILS_TX n) 1 := by
  rw [Dev.sendHail, if_pos (by simp [hr, hl, hd])]

/-- A HAIL sent is a control frame and a count, or nothing. -/
theorem Dev.sendHail_cases (s : Dev) (n : Nat) :
    s.sendHail n = s ∨ ∃ t, s.CtlSent t ∧ s.sendHail n = t.count (R.ROP_Pn_HAILS_TX n) 1 := by
  unfold Dev.sendHail
  split
  · exact .inr ⟨_, s.ctlSent_ropCtl _ _ _ _ _, rfl⟩
  · exact .inl rfl

theorem Dev.rop_sendHail (s : Dev) (n : Nat) : (s.sendHail n).rop = s.rop := by
  rcases s.sendHail_cases n with same | ⟨t, sent, counted⟩
  · rw [same]
  · rw [counted, Dev.rop_count, sent.rop]

theorem Dev.get_sendHail (s : Dev) (n : Nat) (f : Fld) (hf : (R.ROP_Pn_HAILS_TX n).apart f = true) : (s.sendHail n).get f = s.get f := by
  rcases s.sendHail_cases n with same | ⟨t, sent, counted⟩
  · rw [same]
  · rw [counted, Dev.get_count_apart _ _ _ _ hf, sent.get]

theorem Dev.Frame.sendHail {P : List Part} {L : List Nat} (h : Dev.Frame true P L s t) (hL : (R.ROP_Pn_HAILS_TX n).reg ∈ L) :
    Dev.Frame true P L s (t.sendHail n) := by
  rcases t.sendHail_cases n with same | ⟨v, sent, counted⟩
  · rwa [same]
  · rw [counted]
    exact (h.ctlSent sent).count _ _ hL

/-! A HAIL taken (R410 to R412): its steps. -/

/-- A new partner takes the adjacency DOWN. -/
def Dev.hailGreet (s : Dev) (n : Nat) (p : List Byte) : Dev :=
  if beAt p 0 8 ≠ (s.ropP n).serial then
    (s.setRopP n { s.ropP n with serial := beAt p 0 8, heardAt := none, differ := 0 }).adjEval n
  else s

/-- What the HAIL says is noted at the instant it arrives. -/
def Dev.hailNote (s : Dev) (n : Nat) (p : List Byte) (now : Nat) : Dev :=
  (s.setRopP n { s.ropP n with
    serial := beAt p 0 8, heardAt := some now, seen := beAt p 12 8, claimed := bit (beAt p 8 2) 15, node := beAt p 8 2 % 1024 }).wr64
      (R.ROP_Pn_NBR_SERIAL_LO n) (beAt p 0 8)

/-- Consecutive HAILs, this one included, whose DIGEST differed. -/
def Dev.hailDiffer (s : Dev) (n : Nat) (p : List Byte) : Nat :=
  if beAt p 24 4 = s.ropDigest ∨ !s.is (R.ROP_Pn_STATUS_TWO_WAY n) then 0 else (s.ropP n).differ + 1

/-- The digests compared, and at the third difference every record sent again. -/
def Dev.hailCompare (s : Dev) (n : Nat) (p : List Byte) : Dev :=
  let t := s.setRopP n { s.ropP n with differ := if s.hailDiffer n p ≥ 3 then 0 else s.hailDiffer n p }
  if s.hailDiffer n p ≥ 3 then (t.sendAll n).count R.ROP_COUNTS_DB_RESYNC 1 else t

/-- A HAIL counted and noted, the adjacency then judged, and the digests compared. -/
def Dev.hailNoted (s : Dev) (n : Nat) (p : List Byte) : Dev := ((s.count (R.ROP_Pn_HAILS_RX n) 1).hailGreet n p).hailNote n p s.ticks
def Dev.hailJudged (s : Dev) (n : Nat) (p : List Byte) : Dev := (s.hailNoted n p).adjEval n
def Dev.hailCompared (s : Dev) (n : Nat) (p : List Byte) : Dev := (s.hailJudged n p).hailCompare n p

/-- A HAIL taken, but for a collision of IDs: a new partner is answered at once. -/
def Dev.hailTaken (s : Dev) (n : Nat) (p : List Byte) : Dev :=
  if beAt p 0 8 ≠ (s.ropP n).serial then (s.hailCompared n p).sendHail n else s.hailCompared n p

theorem Dev.hailIn_eq (s : Dev) (n : Nat) (p : List Byte) : s.hailIn n p =
    if bit (beAt p 8 2) 15 ∧ (s.hailTaken n p).claimed ∧ beAt p 8 2 % 1024 = (s.hailTaken n p).nodeId ∧
        beAt p 0 8 ≠ (s.hailTaken n p).serial then (s.hailTaken n p).collision (beAt p 0 8)
    else s.hailTaken n p := rfl

/-- Registers of port n that a HAIL may write beside its counts, and all of them. -/
def hailNoteRegs (n : Nat) : List Nat := [R.ROP_Pn_STATUS n, R.ROP_Pn_NBR_SERIAL_LO n, R.ROP_Pn_NBR_SERIAL_LO n + 4]
def hailPortRegs (n : Nat) : List Nat := hailNoteRegs n ++ [(R.ROP_Pn_HAILS_RX n).reg]

/-- Registers that judging a port and comparing digests may write, and those that a HAIL without a collision may. -/
def compareRegs : List Nat := R.ROP_COUNTS_DB_RESYNC.reg :: reportRegs
def hailRegs (n : Nat) : List Nat := hailPortRegs n ++ compareRegs

theorem ropBlock_hailRegs (hn : n < 8) : ∀ a ∈ hailRegs n, ropBlock a = true := by
  revert n
  decide

theorem Dev.Frame.setRopP {m : Bool} {P : List Part} {L : List Nat} (h : Dev.Frame m P L s t) (hp : Part.rop ∈ P) (n : Nat) (x : RopPort) :
    Dev.Frame m P L s (t.setRopP n x) := h.rop_ _ hp

theorem Dev.Frame.wr64 {m : Bool} {P : List Part} {L : List Nat} (h : Dev.Frame m P L s t) (a v : Nat) (ha : a ∈ L) (hb : a + 4 ∈ L) :
    Dev.Frame m P L s (t.wr64 a v) := (h.wr _ _ ha).wr _ _ hb

theorem Dev.Frame.hailCompare {L : List Nat} (h : Dev.Frame true [.rop] L s t) (hL : R.ROP_COUNTS_DB_RESYNC.reg ∈ L) (p : List Byte) :
    Dev.Frame true [.rop] L s (t.hailCompare n p) := by
  have noted := fun x => h.setRopP (by decide) n x
  exact Dev.Frame.ite (fun _ => ((noted _).ctlSent (Dev.ctlSent_sendAll _ _)).count _ _ hL) fun _ => noted _

section
variable {L : List Nat} (h : Dev.Frame true [.rop] L s t) (hp : hailNoteRegs n ⊆ L) (hr : reportRegs ⊆ L)
include h hp hr

theorem Dev.Frame.judge : Dev.Frame true [.rop] L s (t.adjEval n) :=
  h.adjEval (by decide) (List.cons_subset.mpr ⟨hp (by simp [hailNoteRegs]), hr⟩)

theorem Dev.Frame.hailNote (p : List Byte) (now : Nat) : Dev.Frame true [.rop] L s ((t.hailGreet n p).hailNote n p now) := by
  have greeted : Dev.Frame true [.rop] L s (t.hailGreet n p) :=
    Dev.Frame.ite (fun _ => (h.setRopP (by decide) n _).judge hp hr) fun _ => h
  exact (greeted.setRopP (by decide) n _).wr64 _ _ (hp (by simp [hailNoteRegs])) (hp (by simp [hailNoteRegs]))

end

theorem noteRegs_subset_port : hailNoteRegs n ⊆ hailPortRegs n ++ reportRegs :=
  List.Subset.trans (List.subset_append_left _ _) (List.subset_append_left _ _)

theorem judgedRegs_subset_hailRegs : hailPortRegs n ++ reportRegs ⊆ hailRegs n :=
  List.append_subset.mpr ⟨List.subset_append_left _ _, List.Subset.trans (List.subset_cons_self _ _) (List.subset_append_right _ _)⟩

/-- All that a HAIL does between its count and the answer to it. -/
theorem Dev.frame_hailCompared (s : Dev) (n : Nat) (p : List Byte) :
    Dev.Frame true [.rop] (hailNoteRegs n ++ compareRegs) (s.count (R.ROP_Pn_HAILS_RX n) 1) (s.hailCompared n p) := by
  have note : hailNoteRegs n ⊆ hailNoteRegs n ++ compareRegs := List.subset_append_left _ _
  have compare : compareRegs ⊆ hailNoteRegs n ++ compareRegs := List.subset_append_right _ _
  have report := List.Subset.trans (List.subset_cons_self R.ROP_COUNTS_DB_RESYNC.reg reportRegs) compare
  exact (((Dev.Frame.refl ..).hailNote note report p s.ticks).judge note report).hailCompare (compare List.mem_cons_self) p

theorem Dev.frame_hailNoted (s : Dev) (n : Nat) (p : List Byte) :
    Dev.Frame true [.rop] (hailPortRegs n ++ reportRegs) s (s.hailNoted n p) :=
  ((Dev.Frame.refl ..).count (R.ROP_Pn_HAILS_RX n) 1 (List.mem_append_left _ (List.mem_append_right _ List.mem_cons_self))).hailNote
    noteRegs_subset_port (List.subset_append_right _ _) p s.ticks

theorem Dev.frame_hailJudged (s : Dev) (n : Nat) (p : List Byte) :
    Dev.Frame true [.rop] (hailPortRegs n ++ reportRegs) s (s.hailJudged n p) :=
  (s.frame_hailNoted n p).judge noteRegs_subset_port (List.subset_append_right _ _)

theorem Dev.frame_hailTaken (s : Dev) (n : Nat) (p : List Byte) : Dev.Frame true [.rop] (hailRegs n) s (s.hailTaken n p) := by
  have judged := (s.frame_hailJudged n p).mono (fun _ h => h) fun _ h => judgedRegs_subset_hailRegs h
  have compared := judged.hailCompare (n := n) (List.mem_append_right _ List.mem_cons_self) p
  exact Dev.Frame.ite (fun _ => compared.sendHail (by simp [hailRegs, hailPortRegs, R.ROP_Pn_HAILS_TX, R.ROP_Pn_HAILS_RX])) fun _ => compared

/-! What the steps keep. -/

theorem port_ne {n a : Nat} (h : a < 0x1300100) : ∀ b ∈ hailPortRegs n, b ≠ a := by
  intro b hb
  simp only [hailPortRegs, hailNoteRegs, R.ROP_Pn_STATUS, R.ROP_Pn_NBR_SERIAL_LO, R.ROP_Pn_HAILS_RX, List.mem_append, List.mem_cons, List.not_mem_nil,
    or_false] at hb
  omega

theorem Dev.SameIdentity.setRopP (s : Dev) (n : Nat) (x : RopPort) : s.SameIdentity (s.setRopP n x) :=
  .with_rop s { s.rop with ports := _ } rfl rfl rfl

/-- A register of the port written. -/
theorem Dev.SameIdentity.wrPort (s : Dev) (hn : n < 8) {a : Nat} (v : Word) (ha : a ∈ hailPortRegs n) : s.SameIdentity (s.wr a v) :=
  .wr s v (ropBlock_hailRegs hn a (List.mem_append_left _ ha)) (port_ne (by decide) a ha) (port_ne (by decide) a ha)

theorem Dev.sameIdentity_hailGreet (s : Dev) (hn : n < 8) (p : List Byte) : s.SameIdentity (s.hailGreet n p) := by
  unfold Dev.hailGreet
  split
  · exact (Dev.SameIdentity.setRopP _ _ _).trans (Dev.sameIdentity_adjEval _ hn)
  · exact .refl s

theorem Dev.sameIdentity_hailNote (s : Dev) (hn : n < 8) (p : List Byte) (now : Nat) : s.SameIdentity (s.hailNote n p now) :=
  ((Dev.SameIdentity.setRopP _ _ _).trans (.wrPort _ hn _ (by simp [hailPortRegs, hailNoteRegs]))).trans
    (.wrPort _ hn _ (by simp [hailPortRegs, hailNoteRegs]))

theorem Dev.sameIdentity_hailCompare (s : Dev) (n : Nat) (p : List Byte) : s.SameIdentity (s.hailCompare n p) := by
  unfold Dev.hailCompare
  simp only
  split
  · exact ((Dev.SameIdentity.setRopP _ _ _).trans (.ctlSent (Dev.ctlSent_sendAll _ _))).trans
      (.count _ _ _ (by decide) (by decide) (by decide))
  · exact .setRopP _ _ _

theorem Dev.sameIdentity_sendHail (s : Dev) (hn : n < 8) : s.SameIdentity (s.sendHail n) := by
  rcases s.sendHail_cases n with same | ⟨t, sent, counted⟩
  · rw [same]
    exact .refl s
  · rw [counted]
    exact (Dev.SameIdentity.ctlSent sent).trans
      (.wrPort t hn _ (by simp [hailPortRegs, R.ROP_Pn_HAILS_TX, R.ROP_Pn_HAILS_RX]))

theorem Dev.sameIdentity_hailNoted (s : Dev) (hn : n < 8) (p : List Byte) : s.SameIdentity (s.hailNoted n p) :=
  ((Dev.SameIdentity.wrPort s hn _ (by simp [hailPortRegs])).trans (Dev.sameIdentity_hailGreet _ hn p)).trans
    (Dev.sameIdentity_hailNote _ hn p _)

theorem Dev.sameIdentity_hailTaken (s : Dev) (hn : n < 8) (p : List Byte) : s.SameIdentity (s.hailTaken n p) := by
  have compared : s.SameIdentity (s.hailCompared n p) :=
    ((s.sameIdentity_hailNoted hn p).trans (Dev.sameIdentity_adjEval _ hn)).trans (Dev.sameIdentity_hailCompare _ n p)
  unfold Dev.hailTaken
  split
  · exact compared.trans (Dev.sameIdentity_sendHail _ hn)
  · exact compared

end

/-! A HAIL taken: what it leaves (R410 to R412, R417). -/

section
variable {s t : Dev} {n : Nat} {p : List Byte}

theorem Dev.Frame.rd64_eq {m : Bool} {P : List Part} {L : List Nat} (h : Dev.Frame m P L s t) {a : Nat} (ha : a ∉ L) (hb : a + 4 ∉ L)
    (qa : ropBlock a = true) (qb : ropBlock (a + 4) = true) : t.rd64 a = s.rd64 a := by
  unfold Dev.rd64
  rw [h.regs a ha (by rw [msgReg_of_ropBlock qa, Bool.and_false]), h.regs _ hb (by rw [msgReg_of_ropBlock qb, Bool.and_false])]

/-- A field of the rope block. -/
theorem Dev.Frame.get_rop {m : Bool} {P : List Part} {L : List Nat} (h : Dev.Frame m P L s t) (f : Fld) (hf : f.reg ∉ L)
    (hb : ropBlock f.reg = true) : t.get f = s.get f :=
  h.get_eq f hf (by rw [msgReg_of_ropBlock hb, Bool.and_false])

theorem Dev.Frame.is_rop {m : Bool} {P : List Part} {L : List Nat} (h : Dev.Frame m P L s t) (f : Fld) (hf : f.reg ∉ L)
    (hb : ropBlock f.reg = true) : t.is f = s.is f := by
  unfold Dev.is
  rw [h.get_rop f hf hb]

theorem ropBlock_hails (hn : n < 8) : ropBlock (R.ROP_Pn_HAILS_RX n).reg = true :=
  ropBlock_hailRegs hn _ (List.mem_append_left _ (List.mem_append_right _ List.mem_cons_self))

theorem hails_not_mem (n : Nat) : (R.ROP_Pn_HAILS_RX n).reg ∉ hailNoteRegs n ++ compareRegs := by
  have other : ∀ a ∈ compareRegs, a < 0x1300100 := by decide
  intro hm
  rcases List.mem_append.mp hm with hm | hm
  · simp only [hailNoteRegs, R.ROP_Pn_STATUS, R.ROP_Pn_NBR_SERIAL_LO, R.ROP_Pn_HAILS_RX, List.mem_cons, List.not_mem_nil, or_false] at hm
    omega
  · have low := other _ hm
    simp only [R.ROP_Pn_HAILS_RX] at low
    omega

/-- The HAIL is counted. -/
theorem Dev.hailTaken_counts (s : Dev) (hn : n < 8) (p : List Byte) :
    (s.hailTaken n p).get (R.ROP_Pn_HAILS_RX n) = min (s.get (R.ROP_Pn_HAILS_RX n) + 1) 65535 := by
  have compared : (s.hailCompared n p).get (R.ROP_Pn_HAILS_RX n) = min (s.get (R.ROP_Pn_HAILS_RX n) + 1) 65535 := by
    rw [(s.frame_hailCompared n p).get_rop _ (hails_not_mem n) (ropBlock_hails hn), Dev.get_count _ _ _ (by rfl)]
    rfl
  unfold Dev.hailTaken
  split
  · rwa [Dev.get_sendHail _ _ _ (by simp [Fld.apart, R.ROP_Pn_HAILS_TX, R.ROP_Pn_HAILS_RX])]
  · exact compared

/-- A new partner is answered (R410). -/
theorem Dev.hailTaken_answers (hn : n < 8) (new : beAt p 0 8 ≠ (s.ropP n).serial) (hr : s.rop.running = true) (hl : s.ropeLink n = true)
    (hd : s.draining 14 = false) : (s.hailTaken n p).get (R.ROP_Pn_HAILS_TX n) = min (s.get (R.ROP_Pn_HAILS_TX n) + 1) 65535 := by
  have kept := s.frame_hailCompared n p
  have block : ∀ a ∈ hailNoteRegs n ++ compareRegs, ropBlock a = true := fun a ha => by
    refine ropBlock_hailRegs hn a ?_
    rcases List.mem_append.mp ha with h | h
    · exact List.mem_append_left _ (List.mem_append_left _ h)
    · exact List.mem_append_right _ h
  have counted : Dev.Frame false [] [(R.ROP_Pn_HAILS_RX n).reg] s (s.count (R.ROP_Pn_HAILS_RX n) 1) :=
    (Dev.Frame.refl ..).count _ _ List.mem_cons_self
  have running : (s.hailCompared n p).rop.running = true := by
    have compared : s.SameIdentity (s.hailCompared n p) :=
      ((s.sameIdentity_hailNoted hn p).trans (Dev.sameIdentity_adjEval _ hn)).trans (Dev.sameIdentity_hailCompare _ n p)
    rw [compared.running, hr]
  have link : (s.hailCompared n p).ropeLink n = true := by
    rw [kept.ropeLink_eq block hn, counted.ropeLink_eq (by simp [ropBlock_hails hn]) hn, hl]
  have open_ : (s.hailCompared n p).draining 14 = false := by
    rw [kept.draining_eq (by decide), counted.draining_eq (by decide), hd]
  have before : (s.hailCompared n p).get (R.ROP_Pn_HAILS_TX n) = s.get (R.ROP_Pn_HAILS_TX n) := by
    rw [kept.get_rop (R.ROP_Pn_HAILS_TX n) (hails_not_mem n) (ropBlock_hails hn),
      Dev.get_count_apart _ _ _ _ (by simp [Fld.apart, R.ROP_Pn_HAILS_TX, R.ROP_Pn_HAILS_RX])]
  rw [Dev.hailTaken, if_pos new, Dev.sendHail_runs running link open_, Dev.get_count _ _ _ (by rfl),
    (Dev.ctlSent_ropCtl _ _ _ _ _ _).get, before]
  rfl

/-- From the note on, the port's partner and status are left but for judging. -/
theorem Dev.frame_hailTaken_of_judged (s : Dev) (n : Nat) (p : List Byte) :
    Dev.Frame true [.rop] [R.ROP_COUNTS_DB_RESYNC.reg, (R.ROP_Pn_HAILS_TX n).reg] (s.hailJudged n p) (s.hailTaken n p) := by
  have judged := Dev.Frame.refl true [.rop] [R.ROP_COUNTS_DB_RESYNC.reg, (R.ROP_Pn_HAILS_TX n).reg] (s.hailJudged n p)
  have noted := fun x => judged.setRopP (by decide) n x
  have compared : Dev.Frame true [.rop] [R.ROP_COUNTS_DB_RESYNC.reg, (R.ROP_Pn_HAILS_TX n).reg] (s.hailJudged n p) (s.hailCompared n p) :=
    Dev.Frame.ite (fun _ => ((noted _).ctlSent (Dev.ctlSent_sendAll _ _)).count _ _ List.mem_cons_self) fun _ => noted _
  exact Dev.Frame.ite (fun _ => compared.sendHail (by simp)) fun _ => compared

theorem tail_not_mem {a : Nat} (ha : a ∈ hailNoteRegs n) : a ∉ [R.ROP_COUNTS_DB_RESYNC.reg, (R.ROP_Pn_HAILS_TX n).reg] := by
  simp only [hailNoteRegs, R.ROP_Pn_STATUS, R.ROP_Pn_NBR_SERIAL_LO, R.ROP_Pn_HAILS_TX, R.ROP_COUNTS_DB_RESYNC, List.mem_cons,
    List.not_mem_nil, or_false] at ha ⊢
  omega

/-- The partner's serial is shown. -/
theorem Dev.hailTaken_serial (s : Dev) (hn : n < 8) (p : List Byte) : (s.hailTaken n p).rd64 (R.ROP_Pn_NBR_SERIAL_LO n) = beAt p 0 8 := by
  have low : ropBlock (R.ROP_Pn_NBR_SERIAL_LO n) = true := ropBlock_hailRegs hn _ (by simp [hailRegs, hailPortRegs, hailNoteRegs])
  have high : ropBlock (R.ROP_Pn_NBR_SERIAL_LO n + 4) = true := ropBlock_hailRegs hn _ (by simp [hailRegs, hailPortRegs, hailNoteRegs])
  have other : ∀ a ∈ reportRegs, a < 0x1300100 := by decide
  have judge : ∀ a, a = R.ROP_Pn_NBR_SERIAL_LO n ∨ a = R.ROP_Pn_NBR_SERIAL_LO n + 4 → a ∉ R.ROP_Pn_STATUS n :: reportRegs := by
    intro a ha hm
    simp only [R.ROP_Pn_NBR_SERIAL_LO] at ha
    rcases List.mem_cons.mp hm with rfl | hm
    · simp only [R.ROP_Pn_STATUS] at ha
      omega
    · have below := other a hm
      omega
  rw [(s.frame_hailTaken_of_judged n p).rd64_eq (tail_not_mem (by simp [hailNoteRegs])) (tail_not_mem (by simp [hailNoteRegs])) low high,
    Dev.hailJudged, (Dev.frame_adjEval _ n).rd64_eq (judge _ (.inl rfl)) (judge _ (.inr rfl)) low high, Dev.hailNoted, Dev.hailNote]
  exact Dev.rd64_wr64 _ _ _ (beAt_lt p 0 8)

/-- What the port holds once the HAIL is noted. -/
theorem Dev.ropP_hailNoted (s : Dev) (n : Nat) (p : List Byte) : (s.hailNoted n p).ropP n =
    { ((s.count (R.ROP_Pn_HAILS_RX n) 1).hailGreet n p).ropP n with
      serial := beAt p 0 8, heardAt := some s.ticks, seen := beAt p 12 8, claimed := bit (beAt p 8 2) 15, node := beAt p 8 2 % 1024 } := by
  have same : ∀ (t : Dev) (a v : Nat), (t.wr64 a v).ropP n = t.ropP n := fun t a v => by rw [Dev.ropP, Dev.rop_wr64, Dev.ropP]
  rw [Dev.hailNoted, Dev.hailNote, same, Dev.ropP_setRopP]

theorem Dev.ropP_hailTaken (s : Dev) (n : Nat) (p : List Byte) : (s.hailTaken n p).ropP n =
    { (s.hailNoted n p).ropP n with
      differ := if (s.hailJudged n p).hailDiffer n p ≥ 3 then 0 else (s.hailJudged n p).hailDiffer n p } := by
  have judged : (s.hailJudged n p).ropP n = (s.hailNoted n p).ropP n := Dev.ropP_adjEval ..
  have compared : (s.hailCompared n p).ropP n = { (s.hailJudged n p).ropP n with
      differ := if (s.hailJudged n p).hailDiffer n p ≥ 3 then 0 else (s.hailJudged n p).hailDiffer n p } := by
    unfold Dev.hailCompared Dev.hailCompare
    simp only
    split
    · rw [Dev.ropP, Dev.rop_count, (Dev.ctlSent_sendAll _ _).rop, ← Dev.ropP, Dev.ropP_setRopP]
    · rw [Dev.ropP_setRopP]
  rw [← judged, ← compared]
  unfold Dev.hailTaken
  split
  · rw [Dev.ropP, Dev.rop_sendHail, ← Dev.ropP]
  · rfl

theorem Dev.twoWayNow_hailNoted (s : Dev) (hn : n < 8) (p : List Byte) :
    (s.hailNoted n p).twoWayNow n = (s.rop.running && s.ropeLink n && (beAt p 12 8 == s.serial)) := by
  have kept := (s.frame_hailNoted n p).mono (fun _ h => h) fun _ h => judgedRegs_subset_hailRegs h
  have same := s.sameIdentity_hailNoted hn p
  have ticks : (s.hailNoted n p).ticks = s.ticks := kept.parts .ticks (by decide)
  have heard : (s.hailNoted n p).heardNow n = true := by
    rw [Dev.heardNow, Dev.ropP_hailNoted]
    simp [ticks]
  rw [Dev.twoWayNow, same.running, kept.ropeLink_eq (ropBlock_hailRegs hn) hn, heard, same.serial, Dev.ropP_hailNoted, Bool.and_true]

theorem Dev.upNow_hailNoted (s : Dev) (hn : n < 8) (p : List Byte) : (s.hailNoted n p).upNow n =
    (s.rop.running && s.ropeLink n && (beAt p 12 8 == s.serial) && bit (beAt p 8 2) 15 && s.claimed) := by
  rw [Dev.upNow, Dev.twoWayNow_hailNoted s hn, Dev.ropP_hailNoted, (s.sameIdentity_hailNoted hn p).claimed]

/-- The adjacency is what the HAIL makes it. -/
theorem Dev.hailTaken_flags (s : Dev) (hn : n < 8) (p : List Byte) :
    (s.hailTaken n p).is (R.ROP_Pn_STATUS_TWO_WAY n) = (s.rop.running && s.ropeLink n && (beAt p 12 8 == s.serial)) ∧
      (s.hailTaken n p).is (R.ROP_Pn_STATUS_ADJ_UP n) =
        (s.rop.running && s.ropeLink n && (beAt p 12 8 == s.serial) && bit (beAt p 8 2) 15 && s.claimed) := by
  have kept : ∀ f : Fld, f.reg = R.ROP_Pn_STATUS n → (s.hailTaken n p).is f = (s.hailJudged n p).is f := fun f hf =>
    (s.frame_hailTaken_of_judged n p).is_rop f (by rw [hf]; exact tail_not_mem List.mem_cons_self) (by rw [hf]; exact ropBlock_status hn)
  obtain ⟨two, up, _⟩ := (s.hailNoted n p).flags_adjEval hn
  rw [kept _ rfl, kept _ rfl, Dev.hailJudged, two, up]
  exact ⟨s.twoWayNow_hailNoted hn p, s.upNow_hailNoted hn p⟩

theorem Dev.get_hailJudged_counts (f : Fld) (hf : f.reg = R.ROP_COUNTS_DB_RESYNC.reg) : (s.hailJudged n p).get f = s.get f := by
  refine (s.frame_hailJudged n p).get_rop f (fun hm => ?_) (by rw [hf]; decide)
  rw [hf] at hm
  rcases List.mem_append.mp hm with hm | hm
  · exact port_ne (by decide) _ hm rfl
  · exact absurd hm (by decide)

/-- Other counts of the same register stay. -/
theorem Dev.get_hailTaken_counts (f : Fld) (hf : f.reg = R.ROP_COUNTS_DB_RESYNC.reg) (ha : R.ROP_COUNTS_DB_RESYNC.apart f = true) :
    (s.hailTaken n p).get f = s.get f := by
  have compared : (s.hailCompared n p).get f = s.get f := by
    refine Eq.trans ?_ (Dev.get_hailJudged_counts (s := s) (n := n) (p := p) f hf)
    unfold Dev.hailCompared Dev.hailCompare
    simp only
    split
    · rw [Dev.get_count_apart _ _ _ _ ha, (Dev.ctlSent_sendAll _ _).get, Dev.setRopP, Dev.get_with_rop]
    · rw [Dev.setRopP, Dev.get_with_rop]
  have tx : (R.ROP_Pn_HAILS_TX n).apart f = true := by
    refine Fld.apart_of_reg_ne (by rfl) ?_
    rw [hf]
    simp only [R.ROP_Pn_HAILS_TX, R.ROP_COUNTS_DB_RESYNC]
    omega
  unfold Dev.hailTaken
  split
  · rwa [Dev.get_sendHail _ _ _ tx]
  · exact compared

/-! A HAIL of the known partner over an adjacency that keeps its state. -/

section
variable (hn : n < 8) (known : beAt p 0 8 = (s.ropP n).serial) (htwo : s.is (R.ROP_Pn_STATUS_TWO_WAY n) = true)
  (hr : s.rop.running = true) (hl : s.ropeLink n = true) (hs : beAt p 12 8 = s.serial)
  (hup : s.is (R.ROP_Pn_STATUS_ADJ_UP n) = (bit (beAt p 8 2) 15 && s.claimed))

include known in
theorem Dev.hailNoted_known : s.hailNoted n p = (s.count (R.ROP_Pn_HAILS_RX n) 1).hailNote n p s.ticks := by
  have same : (s.count (R.ROP_Pn_HAILS_RX n) 1).hailGreet n p = s.count (R.ROP_Pn_HAILS_RX n) 1 := if_neg (by simpa [Dev.ropP] using known)
  rw [Dev.hailNoted, same]

include known in
theorem Dev.hailTaken_known : s.hailTaken n p = s.hailCompared n p := if_neg (by simpa using known)

include hn known in
theorem Dev.get_hailNoted_status (f : Fld) (hf : f.reg = R.ROP_Pn_STATUS n) : (s.hailNoted n p).get f = s.get f := by
  have port : f.reg ∉ [R.ROP_Pn_NBR_SERIAL_LO n, R.ROP_Pn_NBR_SERIAL_LO n + 4, (R.ROP_Pn_HAILS_RX n).reg] := by
    rw [hf]
    simp only [R.ROP_Pn_STATUS, R.ROP_Pn_NBR_SERIAL_LO, R.ROP_Pn_HAILS_RX, List.mem_cons, List.not_mem_nil, or_false]
    omega
  have noted : Dev.Frame false [.rop] [R.ROP_Pn_NBR_SERIAL_LO n, R.ROP_Pn_NBR_SERIAL_LO n + 4, (R.ROP_Pn_HAILS_RX n).reg] s
      ((s.count (R.ROP_Pn_HAILS_RX n) 1).hailNote n p s.ticks) :=
    (((Dev.Frame.refl ..).count _ _ (by simp)).setRopP (by decide) _ _).wr64 _ _ (by simp) (by simp)
  rw [Dev.hailNoted_known known]
  exact noted.get_rop f port (by rw [hf]; exact ropBlock_status hn)

include hn known htwo hr hl hs in
theorem Dev.hailNoted_keeps_twoWay : (s.hailNoted n p).twoWayNow n = (s.hailNoted n p).is (R.ROP_Pn_STATUS_TWO_WAY n) := by
  rw [Dev.twoWayNow_hailNoted s hn, Dev.is, Dev.get_hailNoted_status hn known _ rfl, ← Dev.is, htwo]
  simp [hr, hl, hs]

include hn known hr hl hs hup in
theorem Dev.hailNoted_keeps_up : (s.hailNoted n p).upNow n = (s.hailNoted n p).is (R.ROP_Pn_STATUS_ADJ_UP n) := by
  rw [Dev.upNow_hailNoted s hn, Dev.is, Dev.get_hailNoted_status hn known _ rfl, ← Dev.is, hup]
  simp [hr, hl, hs]

include hn known in
theorem Dev.movedNow_hailNoted : (s.hailNoted n p).movedNow n =
    ((s.hailNoted n p).upNow n && s.is (R.ROP_Pn_STATUS_ADJ_UP n) && s.get (R.ROP_Pn_STATUS_NEIGHBOR n) != beAt p 8 2 % 1024) := by
  rw [Dev.movedNow, Dev.is, Dev.get_hailNoted_status hn known _ rfl, Dev.get_hailNoted_status hn known _ rfl, Dev.ropP_hailNoted]
  rfl

/-- The digest follows the records alone. -/
theorem Dev.ropDigest_congr (db : t.rop.db = s.rop.db) (own : t.rop.own = s.rop.own) : t.ropDigest = s.ropDigest := by
  unfold Dev.ropDigest Dev.inUse Dev.records
  rw [db, own]

include hn known htwo hr hl hs hup in
/-- The third differing digest has every record sent again (R412). -/
theorem Dev.hailTaken_resyncs (node : beAt p 8 2 % 1024 = s.get (R.ROP_Pn_STATUS_NEIGHBOR n)) (digest : beAt p 24 4 ≠ s.ropDigest)
    (third : (s.ropP n).differ = 2) :
    ((s.hailTaken n p).ropP n).differ = 0 ∧
      (s.hailTaken n p).get R.ROP_COUNTS_DB_RESYNC = min (s.get R.ROP_COUNTS_DB_RESYNC + 1) 255 := by
  have still : (s.hailNoted n p).movedNow n = false := by rw [Dev.movedNow_hailNoted hn known]; simp [node]
  have judged : s.hailJudged n p = (s.hailNoted n p).setAdj n :=
    Dev.adjEval_steady (Dev.hailNoted_keeps_twoWay hn known htwo hr hl hs) (Dev.hailNoted_keeps_up hn known hr hl hs hup) still
  have rop : (s.hailJudged n p).rop = (s.hailNoted n p).rop := by rw [judged, Dev.rop_setAdj]
  have records : (s.hailJudged n p).ropDigest = s.ropDigest := by
    refine Dev.ropDigest_congr ?_ ?_ <;> (rw [rop, Dev.hailNoted_known known]; rfl)
  have two : (s.hailJudged n p).is (R.ROP_Pn_STATUS_TWO_WAY n) = true := by
    rw [Dev.hailJudged, ((s.hailNoted n p).flags_adjEval hn).1, s.twoWayNow_hailNoted hn p]
    simp [hr, hl, hs]
  have count : ((s.hailJudged n p).ropP n).differ = 2 := by
    have same : (s.count (R.ROP_Pn_HAILS_RX n) 1).hailGreet n p = s.count (R.ROP_Pn_HAILS_RX n) 1 := if_neg (by simpa [Dev.ropP] using known)
    rw [Dev.hailJudged, Dev.ropP_adjEval, Dev.ropP_hailNoted, same]
    exact third
  have differ : (s.hailJudged n p).hailDiffer n p = 3 := by simp [Dev.hailDiffer, records, digest, two, count]
  refine ⟨by rw [Dev.ropP_hailTaken, differ]; rfl, ?_⟩
  rw [Dev.hailTaken_known known, Dev.hailCompared, Dev.hailCompare, if_pos (by omega), Dev.get_count _ _ _ (by decide),
    (Dev.ctlSent_sendAll _ _).get, Dev.setRopP, Dev.get_with_rop, Dev.get_hailJudged_counts _ rfl]
  rfl

/-- No HAIL writes the register of the port's cost. -/
theorem costReg_kept : ∀ n, n < 8 →
    (R.ROP_Pn_CFG_COST n).reg ∉ hailPortRegs n ++ reportRegs ∧ ropBlock (R.ROP_Pn_CFG_COST n).reg = true := by
  decide

include hn known htwo hr hl hs hup in
/-- A neighbour under a new ID is in the new record at once (R18, R417). -/
theorem Dev.hailTaken_tells (node : beAt p 8 2 % 1024 ≠ s.get (R.ROP_Pn_STATUS_NEIGHBOR n)) (up : s.is (R.ROP_Pn_STATUS_ADJ_UP n) = true) :
    ∃ r, (s.hailTaken n p).rop.own = some r ∧ r.seq = s.rop.nextSeq ∧
      RopLink.mk n (s.get (R.ROP_Pn_CFG_COST n)) (beAt p 8 2 % 1024) (beAt p 0 8) ∈ r.links := by
  have keepsUp := Dev.hailNoted_keeps_up hn known hr hl hs hup
  have isUp : (s.hailNoted n p).upNow n = true := by
    rw [keepsUp, Dev.is, Dev.get_hailNoted_status hn known _ rfl, ← Dev.is, up]
  have moved : (s.hailNoted n p).movedNow n = true := by
    rw [Dev.movedNow_hailNoted hn known, isUp, up]
    simpa using Ne.symm node
  have claimed : ((s.hailNoted n p).setAdj n).claimed = true := by
    have noted : (s.hailNoted n p).claimed = true := (Bool.and_eq_true_iff.mp isUp).2
    have kept := (s.hailNoted n p).frame_setAdj n
    rw [Dev.claimed, Dev.rop_setAdj, kept.is_rop _ (by simp [ne_status (a := R.ROP_STATUS_CLAIMED.reg) (by decide)]) (by decide)]
    exact noted
  have judged : s.hailJudged n p = ((s.hailNoted n p).setAdj n).originate :=
    Dev.adjEval_moved (Dev.hailNoted_keeps_twoWay hn known htwo hr hl hs) keepsUp moved claimed
  have own : (s.hailTaken n p).rop.own = some ((s.hailNoted n p).setAdj n).nextLsr := by
    have compared : (s.hailCompared n p).rop.own = (s.hailJudged n p).rop.own := by
      unfold Dev.hailCompared Dev.hailCompare
      simp only
      split
      · rw [Dev.rop_count, (Dev.ctlSent_sendAll _ _).rop]
        rfl
      · rfl
    rw [Dev.hailTaken_known known, compared, judged, Dev.rop_originate claimed]
    rfl
  have seq : ((s.hailNoted n p).setAdj n).rop.nextSeq = s.rop.nextSeq := by
    rw [Dev.rop_setAdj, Dev.hailNoted_known known]
    rfl
  have flag : ((s.hailNoted n p).setAdj n).is (R.ROP_Pn_STATUS_ADJ_UP n) = true := by
    rw [Dev.setAdj, Dev.is_set_apart _ _ _ _ (by simp [Fld.apart, R.ROP_Pn_STATUS_ADJ_UP, R.ROP_Pn_STATUS_NEIGHBOR]),
      Dev.is_setB_apart _ _ _ _ (by simp [Fld.apart, R.ROP_Pn_STATUS_ADJ_UP, R.ROP_Pn_STATUS_HEARD]), Dev.is_setB _ _ _ (by rfl), isUp]
  have cost : ((s.hailNoted n p).setAdj n).get (R.ROP_Pn_CFG_COST n) = s.get (R.ROP_Pn_CFG_COST n) := by
    obtain ⟨other, block⟩ := costReg_kept n hn
    have both := (s.frame_hailNoted n p).trans (((s.hailNoted n p).frame_setAdj n).may.mono (Q := [.rop]) (M := hailPortRegs n ++ reportRegs)
      (by simp) (by simp [hailPortRegs, hailNoteRegs]))
    exact both.get_rop _ other block
  have port : ((s.hailNoted n p).setAdj n).ropP n = (s.hailNoted n p).ropP n := by rw [Dev.ropP, Dev.rop_setAdj, Dev.ropP]
  refine ⟨_, own, seq, List.mem_map.mpr ⟨n, List.mem_filter.mpr ⟨List.mem_range.mpr hn, flag⟩, ?_⟩⟩
  rw [cost, port, Dev.ropP_hailNoted]

end

end

/-! Frames received: checked (R407), told apart by kind, delivered or passed on (R422, R423). -/

section
variable {s : Dev} {n : Nat} {b : List Byte}

theorem Dev.ropCheck_header (h : b.length < 20 ∨ hdrBits b 124 4 ≠ 1 ∨ 8 ≤ hdrKind b ∨ hec (b.take 14) ≠ beAt b 14 2) :
    s.ropCheck b = (s.count R.ROP_DROPS_HDR 1, false) := if_pos h

theorem Dev.ropCheck_fcs (hl : 20 ≤ b.length) (hv : hdrBits b 124 4 = 1) (hk : hdrKind b < 8) (hh : hec (b.take 14) = beAt b 14 2)
    (hf : b.drop (b.length - 4) ≠ fcs (b.take (b.length - 4))) : s.ropCheck b = (s.count R.ROP_DROPS_FCS 1, false) := by
  have header : ¬(b.length < 20 ∨ hdrBits b 124 4 ≠ 1 ∨ hdrKind b ≥ 8 ∨ hec (b.take 14) ≠ beAt b 14 2) := by simp [hv, hh]; omega
  rw [Dev.ropCheck, if_neg header, if_pos hf]

theorem Dev.RopeGood.check {n : Fin 8} {u : Dev} (h : s.RopeGood n b) : u.ropCheck b = (u, true) := by
  have header : ¬(b.length < 20 ∨ hdrBits b 124 4 ≠ 1 ∨ hdrKind b ≥ 8 ∨ hec (b.take 14) ≠ beAt b 14 2) := by
    simp [h.version, h.header]
    exact ⟨h.length, h.kind⟩
  rw [Dev.ropCheck, if_neg header, if_neg fun broken => broken h.frame]

/-- The frame of another kind than HAIL and LSR on a good port: discarded, held back by a drain, for this module, or in transit. -/
def Dev.ropePass (s : Dev) (n : Nat) (b : List Byte) : Dev :=
  if !s.is (R.ROP_Pn_STATUS_ADJ_UP n) then s
  else if s.draining 14 ∧ !(s.claimed && hdrBits b 110 10 == s.nodeId) then s
  else if s.claimed && hdrBits b 110 10 == s.nodeId then (s.ropeLocal n b).settle
  else s.ropeTransit b

section
variable {n : Fin 8} (h : s.RopeGood n b)
include h

theorem doHailRx_good (hk : hdrKind b = kHail) : doHailRx n b s = ((s.access domRope cliFab).hailIn n (ropBody b)).settle := by
  simp [doHailRx, h.receives, h.check, hk]

theorem doLsrRx_good (hk : hdrKind b = kLsr) : doLsrRx n b s = ((s.access domRope cliFab).lsrIn n (ropBody b)).settle := by
  simp [doLsrRx, h.receives, h.check, hk]

theorem doRopeFrameRx_hail (hk : hdrKind b = kHail) : doRopeFrameRx n b s = ((s.access domRope cliFab).hailIn n (ropBody b)).settle := by
  simp [doRopeFrameRx, h.receives, h.check, hk]

theorem doRopeFrameRx_lsr (hk : hdrKind b = kLsr) : doRopeFrameRx n b s = ((s.access domRope cliFab).lsrIn n (ropBody b)).settle := by
  have other : kLsr ≠ kHail := by decide
  simp [doRopeFrameRx, h.receives, h.check, hk, other]

theorem doRopeFrameRx_other (hh : hdrKind b ≠ kHail) (hl : hdrKind b ≠ kLsr) :
    doRopeFrameRx n b s = (s.access domRope cliFab).ropePass n b := by
  simp only [doRopeFrameRx, h.receives, h.check, hh, hl, Bool.not_true, Bool.false_eq_true, if_false]
  rfl

end

theorem Dev.ropePass_down (hu : s.is (R.ROP_Pn_STATUS_ADJ_UP n) = false) : s.ropePass n b = s := by
  simp [Dev.ropePass, hu]

theorem Dev.ropePass_local (hu : s.is (R.ROP_Pn_STATUS_ADJ_UP n) = true) (hc : s.claimed = true) (hd : hdrBits b 110 10 = s.nodeId) :
    s.ropePass n b = (s.ropeLocal n b).settle := by
  simp [Dev.ropePass, hu, hc, hd]

theorem Dev.ropePass_transit (hu : s.is (R.ROP_Pn_STATUS_ADJ_UP n) = true) (hd : s.draining 14 = false)
    (ho : s.claimed = false ∨ hdrBits b 110 10 ≠ s.nodeId) : s.ropePass n b = s.ropeTransit b := by
  have other : (s.claimed && hdrBits b 110 10 == s.nodeId) = false := by
    rwa [Bool.and_eq_false_iff, beq_eq_false_iff_ne]
  simp [Dev.ropePass, hu, hd, other]

/-- The queue index of a frame in transit, and its header on the next hop. -/
def Dev.transitIndex (s : Dev) (b : List Byte) : Nat :=
  if hdrKind b = kMsg then s.get R.ROP_FAB_CFG_MSG_QIDX else if hdrKind b = kTwin then s.get R.ROP_FAB_CFG_TWIN_QIDX else hdrBits b 86 6
def transitHeader (b : List Byte) : List Byte :=
  ropeHeader (hdrKind b) (hdrBits b 110 10) (hdrBits b 100 10) (hdrBits b 92 8 - 1) (hdrBits b 86 6) (hdrBits b 70 16)
    (bit (beAt b 0 16) 69) (hdrBits b 53 16) (hdrBits b 48 5)

theorem Dev.ropeTransit_eq (s : Dev) (b : List Byte) : s.ropeTransit b =
    if hdrBits b 92 8 ≤ 1 then s.count R.ROP_DROPS_TTL 1
    else if hdrKind b = kReferee then
      (match s.route (hdrBits b 110 10) with
        | some r => s.ctlOut r.primary (transitHeader b ++ ropBody b ++ fcs (transitHeader b ++ ropBody b))
        | none => s.countR R.ROP_NO_ROUTE 1)
    else s.ropeOut (hdrBits b 110 10) (s.transitIndex b) (transitHeader b) { (default : QFrame) with bytes := ropBody b, rx := s.now } := rfl

theorem Dev.ropeTransit_dies (ht : hdrBits b 92 8 ≤ 1) : s.ropeTransit b = s.count R.ROP_DROPS_TTL 1 := by
  rw [Dev.ropeTransit_eq, if_pos ht]

theorem Dev.ropeTransit_unrouted (ht : 1 < hdrBits b 92 8) (hr : s.route (hdrBits b 110 10) = none) :
    s.ropeTransit b = s.countR R.ROP_NO_ROUTE 1 := by
  rw [Dev.ropeTransit_eq, if_neg (by omega), Dev.ropeOut, hr, ite_self]

section
variable {r : Route} (ht : 1 < hdrBits b 92 8) (hr : s.route (hdrBits b 110 10) = some r)
include ht hr

theorem Dev.ropeTransit_referee (hk : hdrKind b = kReferee) :
    s.ropeTransit b = s.ctlOut r.primary (transitHeader b ++ ropBody b ++ fcs (transitHeader b ++ ropBody b)) := by
  rw [Dev.ropeTransit_eq, if_neg (by omega), if_pos hk, hr]

theorem Dev.ropeTransit_queued {q : Nat} (hk : hdrKind b ≠ kReferee) (hq : s.ropeQueue r.primary (s.transitIndex b) = some q) :
    s.ropeTransit b =
      s.admitFrame { (default : QFrame) with bytes := ropBody b, rx := s.now, queue := q, rope := some (transitHeader b) } := by
  rw [Dev.ropeTransit_eq, if_neg (by omega), if_neg hk, Dev.ropeOut, hr]
  simp only [hq]

theorem Dev.ropeTransit_unqueued (hk : hdrKind b ≠ kReferee) (hq : s.ropeQueue r.primary (s.transitIndex b) = none) :
    s.ropeTransit b = s.count R.ROP_DROPS_QUEUE 1 := by
  rw [Dev.ropeTransit_eq, if_neg (by omega), if_neg hk, Dev.ropeOut, hr]
  simp only [hq]

end

/-- A field counted in its register alone. -/
theorem Dev.count_counts (s : Dev) (f : Fld) (hf : f.fits = true) :
    (s.count f 1).get f = min (s.get f + 1) (2 ^ f.w - 1) ∧ Dev.Frame false [] [f.reg] s (s.count f 1) :=
  ⟨Dev.get_count _ _ _ hf, (Dev.Frame.refl ..).count _ _ List.mem_cons_self⟩

end

/-! Link-state records received (R414, R417 to R419). -/

section
variable {s : Dev} {n : Nat} {p : List Byte} {r : Lsr} {o : Nat}

/-- A record's key, and whether it is newer than a number (R417). -/
def Lsr.sameKey (r x : Lsr) : Bool := x.id == r.id && x.serial == r.serial
def Lsr.newer (r : Lsr) (old : Nat) : Bool := decide (1 ≤ seqSub r.seq old) && decide (seqSub r.seq old < 2 ^ 31)

/-- The database once a record is taken, before it is flooded. -/
def Dev.lsrHold (s : Dev) (r : Lsr) : Dev := { s with rop := { s.rop with
  db := if bit r.flags 7 then s.rop.db.filter fun x => !r.sameKey x else (s.rop.db.filter fun x => !r.sameKey x) ++ [r],
  settleFrom := if bit r.flags 7 then s.rop.settleFrom else s.ticks } }

/-- A record taken, flooded on and counted. -/
def Dev.lsrStore (s : Dev) (n : Nat) (r : Lsr) : Dev := (((s.lsrHold r).flood (some n) r).count (R.ROP_Pn_LSR_ACCEPTED n) 1).dbChanged

/-- The own key received with a newer number: the copy is counted and the number taken up, and the record originates again (R418). -/
def Dev.lsrRenumber (s : Dev) (n : Nat) (r : Lsr) : Dev :=
  let t := s.count (R.ROP_Pn_LSR_DISCARDED n) 1
  { t with rop := { t.rop with nextSeq := seqNext r.seq } }
def Dev.lsrOverride (s : Dev) (n : Nat) (r : Lsr) : Dev := (s.lsrRenumber n r).originate

/-- A new key that finds the database full. -/
def Dev.lsrFull (s : Dev) (r : Lsr) : Dev :=
  ((s.count R.ROP_COUNTS_DB_FULL 1).raise R.ROP_IRQ_DB_FULL).eventRated 0x1380 7 0 fun _ => ropPayload 7 0xFF r.id 0

theorem Dev.lsrIn_eq (s : Dev) (n : Nat) (p : List Byte) : s.lsrIn n p =
    if !s.is (R.ROP_Pn_STATUS_TWO_WAY n) then s.count (R.ROP_Pn_LSR_DISCARDED n) 1
    else if s.claimed ∧ (lsrOf p s.ticks).id = s.nodeId ∧ (lsrOf p s.ticks).serial = s.serial then
      (match s.rop.own with
        | some o => if (lsrOf p s.ticks).newer o.seq then s.lsrOverride n (lsrOf p s.ticks) else s.count (R.ROP_Pn_LSR_DISCARDED n) 1
        | none => s.count (R.ROP_Pn_LSR_DISCARDED n) 1)
    else if !(match s.rop.db.find? (lsrOf p s.ticks).sameKey with | some o => (lsrOf p s.ticks).newer o.seq | none => true) then
      s.count (R.ROP_Pn_LSR_DISCARDED n) 1
    else if (s.rop.db.find? (lsrOf p s.ticks).sameKey).isNone ∧ !bit (lsrOf p s.ticks).flags 7 ∧ s.records.length ≥ 2048 then
      s.lsrFull (lsrOf p s.ticks)
    else if !bit (lsrOf p s.ticks).flags 7 ∧ (s.lsrStore n (lsrOf p s.ticks)).claimed ∧
        (lsrOf p s.ticks).id = (s.lsrStore n (lsrOf p s.ticks)).nodeId ∧
        (lsrOf p s.ticks).serial ≠ (s.lsrStore n (lsrOf p s.ticks)).serial then
      (s.lsrStore n (lsrOf p s.ticks)).collision (lsrOf p s.ticks).serial
    else (s.lsrStore n (lsrOf p s.ticks)).retryId := rfl

theorem Lsr.newer_of (h : 1 ≤ seqSub r.seq o) (k : seqSub r.seq o < 2 ^ 31) : r.newer o = true := by
  rw [Lsr.newer, decide_eq_true h, decide_eq_true k]
  rfl

theorem Lsr.not_newer_of (h : seqSub r.seq o = 0 ∨ 2 ^ 31 ≤ seqSub r.seq o) : r.newer o = false := by
  rw [Lsr.newer, Bool.and_eq_false_iff, decide_eq_false_iff_not, decide_eq_false_iff_not]
  omega

/-! What becomes of a record. -/

theorem Dev.lsrIn_down (ht : s.is (R.ROP_Pn_STATUS_TWO_WAY n) = false) : s.lsrIn n p = s.count (R.ROP_Pn_LSR_DISCARDED n) 1 := by
  rw [Dev.lsrIn_eq, if_pos (by simp [ht])]

section
variable (hp : r = lsrOf p s.ticks) (ht : s.is (R.ROP_Pn_STATUS_TWO_WAY n) = true)
include hp ht

theorem Dev.lsrIn_own {o : Lsr} (hc : s.claimed = true) (hi : r.id = s.nodeId) (hs : r.serial = s.serial) (ho : s.rop.own = some o)
    (hn : r.newer o.seq = true) : s.lsrIn n p = s.lsrOverride n r := by
  subst hp
  rw [Dev.lsrIn_eq, if_neg (by simp [ht]), if_pos ⟨hc, hi, hs⟩, ho]
  exact if_pos hn

variable (hk : ¬(s.claimed = true ∧ r.id = s.nodeId ∧ r.serial = s.serial))
include hk

theorem Dev.lsrIn_stale {o : Lsr} (hf : s.rop.db.find? r.sameKey = some o) (hn : r.newer o.seq = false) :
    s.lsrIn n p = s.count (R.ROP_Pn_LSR_DISCARDED n) 1 := by
  subst hp
  rw [Dev.lsrIn_eq, if_neg (by simp [ht]), if_neg hk, if_pos (by simp [hf, hn])]

theorem Dev.lsrIn_full (hf : s.rop.db.find? r.sameKey = none) (hg : bit r.flags 7 = false) (hl : 2048 ≤ s.records.length) :
    s.lsrIn n p = s.lsrFull r := by
  subst hp
  rw [Dev.lsrIn_eq, if_neg (by simp [ht]), if_neg hk, if_neg (by simp [hf]), if_pos (by simp [hf, hg, hl])]

variable (hf : ∀ o, s.rop.db.find? r.sameKey = some o → r.newer o.seq = true) (hl : bit r.flags 7 = true ∨ s.records.length < 2048)
include hf hl

theorem Dev.lsrIn_taken : s.lsrIn n p =
    if !bit r.flags 7 ∧ (s.lsrStore n r).claimed ∧ r.id = (s.lsrStore n r).nodeId ∧ r.serial ≠ (s.lsrStore n r).serial then
      (s.lsrStore n r).collision r.serial
    else (s.lsrStore n r).retryId := by
  subst hp
  have newer : ¬(!(match s.rop.db.find? (lsrOf p s.ticks).sameKey with
      | some o => (lsrOf p s.ticks).newer o.seq | none => true)) = true := by
    cases held : s.rop.db.find? (lsrOf p s.ticks).sameKey with
    | none => simp
    | some o => simp [hf o held]
  have room : ¬((s.rop.db.find? (lsrOf p s.ticks).sameKey).isNone ∧ !bit (lsrOf p s.ticks).flags 7 ∧ s.records.length ≥ 2048) := by
    rintro ⟨_, gone, full⟩
    rcases hl with hl | hl
    · simp [hl] at gone
    · omega
  rw [Dev.lsrIn_eq, if_neg (by simp [ht]), if_neg hk, if_neg newer, if_neg room]

end

theorem Dev.retryId_idle (h : s.is R.ROP_STATUS_NO_ID = false) : s.retryId = s := by
  rw [Dev.retryId, if_neg (by simp [h])]

/-! A record taken. -/

theorem Dev.ctlSent_lsrHold (s : Dev) (n : Nat) (r : Lsr) : (s.lsrHold r).CtlSent ((s.lsrHold r).flood (some n) r) := Dev.ctlSent_flood _ _ _

theorem Dev.rop_lsrStore (s : Dev) (n : Nat) (r : Lsr) :
    (s.lsrStore n r).rop = { (s.lsrHold r).rop with changed := some s.ticks } := by
  have sent := s.ctlSent_lsrHold n r
  rw [Dev.lsrStore, Dev.rop_dbChanged, Dev.rop_count, Dev.ticks_count, sent.rop, sent.ticks]
  rfl

theorem Dev.db_lsrStore (s : Dev) (n : Nat) (r : Lsr) : (s.lsrStore n r).rop.db =
    (s.rop.db.filter fun x => !(x.id == r.id && x.serial == r.serial)) ++ if bit r.flags 7 = true then [] else [r] := by
  rw [Dev.rop_lsrStore]
  unfold Dev.lsrHold
  cases bit r.flags 7 with
  | false => rfl
  | true => exact (List.append_nil _).symm

theorem Dev.frame_lsrStore (s : Dev) (n : Nat) (r : Lsr) :
    Dev.Frame false [.rop, .out, .sch] [(R.ROP_Pn_LSR_ACCEPTED n).reg, R.ROP_STATUS] s (s.lsrStore n r) := by
  have held : Dev.Frame false [.rop, .out, .sch] [(R.ROP_Pn_LSR_ACCEPTED n).reg, R.ROP_STATUS] s (s.lsrHold r) :=
    (Dev.Frame.refl ..).rop_ _ (by decide)
  have sent := held.trans ((s.ctlSent_lsrHold n r).frame.mono (by decide) (by simp))
  exact (sent.count (R.ROP_Pn_LSR_ACCEPTED n) 1 List.mem_cons_self).trans ((Dev.frame_dbChanged _).mono (by decide) (by simp))

theorem lsrReg_ne {a : Nat} (h : a < 0x1300100) (n : Nat) : a ≠ (R.ROP_Pn_LSR_ACCEPTED n).reg := by
  simp only [R.ROP_Pn_LSR_ACCEPTED]
  omega

theorem ropBlock_lsrReg (hn : n < 8) : ropBlock (R.ROP_Pn_LSR_ACCEPTED n).reg = true := by
  simp only [ropBlock, R.ROP_Pn_LSR_ACCEPTED, beq_iff_eq]
  omega

/-- The claim and its ID do not change with the database. -/
theorem Dev.status_lsrStore (s : Dev) (n : Nat) (r : Lsr) (f : Fld) (hf : f.reg < 0x1300100) (ha : R.ROP_STATUS_RECORDS.apart f = true) :
    (s.lsrStore n r).get f = s.get f := by
  have accepted : (R.ROP_Pn_LSR_ACCEPTED n).apart f = true := Fld.apart_of_reg_ne (by rfl) (lsrReg_ne hf n)
  rw [Dev.lsrStore, Dev.get_dbChanged _ ha, Dev.get_count_apart _ _ _ _ accepted, (s.ctlSent_lsrHold n r).get, Dev.lsrHold, Dev.get_with_rop]

theorem Dev.nodeId_lsrStore (s : Dev) (n : Nat) (r : Lsr) : (s.lsrStore n r).nodeId = s.nodeId :=
  s.status_lsrStore n r _ (by decide) (by decide)

theorem Dev.claimed_lsrStore (s : Dev) (n : Nat) (r : Lsr) : (s.lsrStore n r).claimed = s.claimed := by
  rw [Dev.claimed, Dev.claimed, Dev.rop_lsrStore, Dev.is, Dev.is, s.status_lsrStore n r _ (by decide) (by decide)]
  rfl

theorem Dev.serial_lsrStore (s : Dev) (hn : n < 8) (r : Lsr) : (s.lsrStore n r).serial = s.serial :=
  (s.frame_lsrStore n r).serial_eq (by simp [ropBlock_lsrReg hn]; decide)

/-- The record taken is counted. -/
theorem Dev.lsrStore_counts (s : Dev) (n : Nat) (r : Lsr) :
    (s.lsrStore n r).get (R.ROP_Pn_LSR_ACCEPTED n) = min (s.get (R.ROP_Pn_LSR_ACCEPTED n) + 1) 65535 := by
  have records : R.ROP_STATUS_RECORDS.apart (R.ROP_Pn_LSR_ACCEPTED n) = true :=
    Fld.apart_of_reg_ne (by rfl) (lsrReg_ne (by decide) n).symm
  rw [Dev.lsrStore, Dev.get_dbChanged _ records, Dev.get_count _ _ _ (by rfl), (s.ctlSent_lsrHold n r).get, Dev.lsrHold, Dev.get_with_rop]
  rfl

/-- It is flooded on every other TWO_WAY port (R417). -/
theorem Dev.lsrStore_floods (s : Dev) {m : Nat} (hm : m < 8) (hne : m ≠ n) (ht : s.is (R.ROP_Pn_STATUS_TWO_WAY m) = true)
    (hl : sget none (9 + m) s.sch.launching = none) : Out.rope m (s.lsrFrame r) ∈ (s.lsrStore n r).out := by
  have same : (s.lsrHold r).lsrFrame r = s.lsrFrame r := rfl
  have sent : Out.rope m ((s.lsrHold r).lsrFrame r) ∈ ((s.lsrHold r).flood (some n) r).out :=
    Dev.mem_out_flood hm (by simpa using Ne.symm hne) ht hl
  have kept : (s.lsrStore n r).out = ((s.lsrHold r).flood (some n) r).out := by
    rw [Dev.lsrStore, (Dev.frame_dbChanged _).parts .out (by decide), Dev.out_count]
  rwa [kept, ← same]

/-! The own key received (R418). -/

theorem Dev.Frame.ropFlags_eq {t : Dev} {m : Bool} {P : List Part} {L : List Nat} (h : Dev.Frame m P L s t) (hp : Part.sup ∉ P)
    (hL : ∀ a ∈ L, ropBlock a = true) (hc : R.ROP_CFG_RELAY_SERVER.reg ∉ L) : t.ropFlags = s.ropFlags := by
  have sup : t.sup = s.sup := h.parts .sup (by cases m <;> simp [hp, msgParts])
  have role : t.get R.TWN_STATUS_ROLE = s.get R.TWN_STATUS_ROLE :=
    h.get_eq _ (fun hm => absurd (hL _ hm) (by decide)) (by cases m <;> decide)
  unfold Dev.ropFlags Dev.standby Dev.role
  rw [h.is_rop R.ROP_CFG_RELAY_SERVER hc (by decide), h.is_rop R.ROP_CFG_REFEREE hc (by decide), sup, role]

theorem Dev.upLinks_congr {t : Dev} (ports : t.rop.ports = s.rop.ports)
    (up : ∀ k, k < 8 → t.is (R.ROP_Pn_STATUS_ADJ_UP k) = s.is (R.ROP_Pn_STATUS_ADJ_UP k))
    (cost : ∀ k, k < 8 → t.get (R.ROP_Pn_CFG_COST k) = s.get (R.ROP_Pn_CFG_COST k)) : t.upLinks = s.upLinks := by
  have shown : ((List.range 8).filter fun k => t.is (R.ROP_Pn_STATUS_ADJ_UP k)) = (List.range 8).filter fun k => s.is (R.ROP_Pn_STATUS_ADJ_UP k) :=
    List.filter_congr fun k hk => up k (List.mem_range.mp hk)
  unfold Dev.upLinks Dev.ropP
  rw [shown, ports]
  refine List.map_congr_left fun k hk => ?_
  rw [cost k (List.mem_range.mp (List.mem_filter.mp hk).1)]

theorem Dev.frame_lsrRenumber (s : Dev) (n : Nat) (r : Lsr) :
    Dev.Frame false [.rop] [(R.ROP_Pn_LSR_DISCARDED n).reg] s (s.lsrRenumber n r) :=
  ((Dev.Frame.refl ..).count _ _ List.mem_cons_self).rop_ _ (by decide)

theorem Dev.rop_lsrRenumber (s : Dev) (n : Nat) (r : Lsr) : (s.lsrRenumber n r).rop = { s.rop with nextSeq := seqNext r.seq } := by
  simp only [Dev.lsrRenumber, Dev.rop_count]

theorem Dev.get_lsrRenumber (f : Fld) (hf : f.reg ≠ (R.ROP_Pn_LSR_ACCEPTED n).reg) (hb : ropBlock f.reg = true) :
    (s.lsrRenumber n r).get f = s.get f :=
  (s.frame_lsrRenumber n r).get_rop f (fun hm => hf (List.mem_singleton.mp hm)) hb

theorem Dev.claimed_lsrRenumber (s : Dev) (n : Nat) (r : Lsr) : (s.lsrRenumber n r).claimed = s.claimed := by
  rw [Dev.claimed, Dev.claimed, Dev.rop_lsrRenumber, Dev.is, Dev.is, Dev.get_lsrRenumber _ (lsrReg_ne (by decide) n) (by decide)]

theorem Dev.upLinks_lsrRenumber (s : Dev) (n : Nat) (r : Lsr) : (s.lsrRenumber n r).upLinks = s.upLinks := by
  refine Dev.upLinks_congr (by rw [Dev.rop_lsrRenumber]) (fun k hk => ?_) fun k hk => Dev.get_lsrRenumber _ ?_ ?_
  · have ne : (R.ROP_Pn_STATUS_ADJ_UP k).reg ≠ (R.ROP_Pn_LSR_ACCEPTED n).reg := by
      simp only [R.ROP_Pn_STATUS_ADJ_UP, R.ROP_Pn_LSR_ACCEPTED]
      omega
    rw [Dev.is, Dev.is, Dev.get_lsrRenumber _ ne (ropBlock_status hk)]
  · simp only [R.ROP_Pn_CFG_COST, R.ROP_Pn_LSR_ACCEPTED]
    omega
  · simp only [ropBlock, R.ROP_Pn_CFG_COST, beq_iff_eq]
    omega

theorem Dev.nextLsr_lsrRenumber (s : Dev) (hn : n < 8) (r : Lsr) :
    (s.lsrRenumber n r).nextLsr = Lsr.mk s.nodeId s.serial (seqNext r.seq) 0 s.ticks s.ropFlags s.upLinks := by
  have frame := s.frame_lsrRenumber n r
  have block : ∀ a ∈ [(R.ROP_Pn_LSR_DISCARDED n).reg], ropBlock a = true := fun a ha =>
    List.mem_singleton.mp ha ▸ ropBlock_lsrReg hn
  have node : (s.lsrRenumber n r).nodeId = s.nodeId := Dev.get_lsrRenumber _ (lsrReg_ne (by decide) n) (by decide)
  have ticks : (s.lsrRenumber n r).ticks = s.ticks := frame.parts .ticks (by decide)
  have flags : (s.lsrRenumber n r).ropFlags = s.ropFlags :=
    frame.ropFlags_eq (by decide) block fun hm => lsrReg_ne (by decide) n (List.mem_singleton.mp hm)
  rw [Dev.nextLsr, node, frame.serial_eq block, Dev.rop_lsrRenumber, ticks, flags, Dev.upLinks_lsrRenumber]

theorem Dev.lsrOverride_overrides (hn : n < 8) (hc : s.claimed = true) :
    (s.lsrOverride n r).rop.own = some (Lsr.mk s.nodeId s.serial (seqNext r.seq) 0 s.ticks s.ropFlags s.upLinks) ∧
      (s.lsrOverride n r).get (R.ROP_Pn_LSR_DISCARDED n) = min (s.get (R.ROP_Pn_LSR_DISCARDED n) + 1) 65535 ∧
      Dev.Frame false [.rop, .out, .sch] [(R.ROP_Pn_LSR_DISCARDED n).reg, R.ROP_STATUS] s (s.lsrOverride n r) := by
  have records : R.ROP_STATUS_RECORDS.apart (R.ROP_Pn_LSR_DISCARDED n) = true :=
    Fld.apart_of_reg_ne (by rfl) (lsrReg_ne (by decide) n).symm
  have own := congrArg Rop.own (Dev.rop_originate (s := s.lsrRenumber n r) (by rwa [Dev.claimed_lsrRenumber]))
  refine ⟨own.trans (congrArg some (s.nextLsr_lsrRenumber hn r)), ?_, ?_⟩
  · rw [Dev.lsrOverride, Dev.get_originate _ records, Dev.lsrRenumber, Dev.get_with_rop, Dev.get_count _ _ _ (by rfl)]
    rfl
  · exact ((s.frame_lsrRenumber n r).mono (by decide) (by simp)).trans ((Dev.frame_originate _).mono (fun _ h => h) (by simp))

/-- A new key that finds the database full is counted and raised. -/
theorem Dev.lsrFull_counts (s : Dev) (r : Lsr) : (s.lsrFull r).rop = s.rop ∧
    (s.lsrFull r).get R.ROP_COUNTS_DB_FULL = min (s.get R.ROP_COUNTS_DB_FULL + 1) 255 ∧ (s.lsrFull r).is R.ROP_IRQ_DB_FULL = true ∧
    Dev.Frame true [] [R.ROP_COUNTS_DB_FULL.reg, R.ROP_IRQ] s (s.lsrFull r) := by
  unfold Dev.lsrFull Dev.is
  refine ⟨?_, ?_, ?_, ?_⟩
  · rw [Dev.rop_eventRated, Dev.rop_raise, Dev.rop_count]
  · rw [Dev.get_eventRated _ _ _ _ _ _ (by decide), Dev.get_raise_apart _ _ _ (by decide), Dev.get_count _ _ _ (by decide)]
    rfl
  · rw [Dev.get_eventRated _ _ _ _ _ _ (by decide), Dev.get_raise_same _ _ (by decide)]
    rfl
  · exact (((Dev.Frame.refl ..).count _ _ (by decide)).raise _ (by decide)).eventRated _ _ _ _

/-- A record under this module's ID: the database holds it, and the collision is counted and raised (R414). -/
theorem Dev.lsrStore_collides (hn : n < 8) (hs : r.serial ≠ s.serial) (hg : bit r.flags 7 = false) :
    r ∈ ((s.lsrStore n r).collision r.serial).rop.db ∧
      ((s.lsrStore n r).collision r.serial).get R.ROP_COUNTS_COLLISIONS = min (s.get R.ROP_COUNTS_COLLISIONS + 1) 255 ∧
      ((s.lsrStore n r).collision r.serial).is R.ROP_IRQ_COLLISION = true ∧
      (s.serial < r.serial → ((s.lsrStore n r).collision r.serial).nodeId = s.nodeId ∧
        ((s.lsrStore n r).collision r.serial).claimed = s.claimed) ∧
      Dev.Frame true [.rop] ((R.ROP_Pn_LSR_ACCEPTED n).reg :: collisionRegs) s ((s.lsrStore n r).collision r.serial) := by
  obtain ⟨fabric, count, raised⟩ := (s.lsrStore n r).collision_counts r.serial
  have serial := s.serial_lsrStore hn r
  have stored : r ∈ (s.lsrStore n r).rop.db := by
    rw [Dev.db_lsrStore, if_neg (by simp [hg])]
    exact List.mem_append_right _ List.mem_cons_self
  refine ⟨(fabric.db r (by rwa [serial])).mpr stored, ?_, raised, fun lower => ?_, ?_⟩
  · rw [count, s.status_lsrStore n r _ (by decide) (by decide)]
  · have kept := Dev.collision_lower (s := s.lsrStore n r) (by rwa [serial])
    exact ⟨kept.nodeId.trans (s.nodeId_lsrStore n r), kept.claimed.trans (s.claimed_lsrStore n r)⟩
  · have store : Dev.Frame true [.rop] ((R.ROP_Pn_LSR_ACCEPTED n).reg :: collisionRegs) s (s.lsrStore n r) :=
      ((s.frame_lsrStore n r).mayCtl (by decide)).mono (fun _ h => h) (List.cons_subset_cons _ (by decide))
    exact store.trans ((Dev.frame_collision _ _).mono (fun _ h => h) fun _ h => List.mem_cons_of_mem _ h)

end

/-! Timers (R410, R411, R417). -/

section
variable {s : Dev} {n : Fin 8}

/-- The HAIL that the timer sends. -/
def Dev.hailFrame (s : Dev) (n : Nat) : List Byte := s.ctlFrame kHail 0 1 (s.hailBytes n)

/-- The port's next HAIL set to an instant. -/
def Dev.setHailAt (s : Dev) (n t : Nat) : Dev := s.setRopP n { s.ropP n with hailAt := some t }

theorem Dev.hailFrame_setHailAt (s : Dev) (n t : Nat) : (s.setHailAt n t).hailFrame n = s.hailFrame n := by
  have digest : (s.setHailAt n t).ropDigest = s.ropDigest := Dev.ropDigest_congr rfl rfl
  have bytes : (s.setHailAt n t).hailBytes n = s.hailBytes n := by
    unfold Dev.hailBytes
    rw [digest, Dev.setHailAt, Dev.ropP_setRopP]
    rfl
  unfold Dev.hailFrame
  rw [bytes]
  rfl

/-- The timer's HAIL: sent at once or waiting for the frame in progress, the next one due, counted. -/
theorem doHailTimer_sends {t : Nat} {u : Dev} (hr : s.ropReceives n = true) (hd : s.draining 14 = false) (ha : (s.ropP n).hailAt = some t)
    (hu : u = s.until_ t) :
    (sget none (9 + n.val) u.sch.launching = none → (doHailTimer n s).out = .rope n (u.hailFrame n) :: u.out) ∧
      (sget none (9 + n.val) u.sch.launching ≠ none → (doHailTimer n s).out = u.out ∧
        sget [] (9 + n.val) (doHailTimer n s).sch.ctlWait = sget [] (9 + n.val) u.sch.ctlWait ++ [u.hailFrame n]) ∧
      (doHailTimer n s).ropP n = { s.ropP n with hailAt := some (t + 10 * msTicks) } ∧
      (doHailTimer n s).get (R.ROP_Pn_HAILS_TX n) = min (s.get (R.ROP_Pn_HAILS_TX n) + 1) 65535 ∧
      Dev.Frame false [.rop, .out, .sch] [(R.ROP_Pn_HAILS_TX n).reg] u (doHailTimer n s) := by
  obtain ⟨⟨running, _⟩, link⟩ : (s.rop.running = true ∧ s.isUp domRope = true) ∧ s.ropeLink n = true := by
    simpa [Dev.ropReceives] using hr
  have port : u.ropP n = s.ropP n := by rw [hu, Dev.ropP, Dev.rop_until, Dev.ropP]
  have before : (u.setHailAt n (t + 10 * msTicks)).get (R.ROP_Pn_HAILS_TX n) = s.get (R.ROP_Pn_HAILS_TX n) := by
    rw [Dev.setHailAt, Dev.setRopP, Dev.get_with_rop, hu, Dev.get_until]
  have due : (u.setHailAt n (t + 10 * msTicks)).ropP n = { s.ropP n with hailAt := some (t + 10 * msTicks) } := by
    rw [Dev.setHailAt, Dev.ropP_setRopP, port]
  have sent : doHailTimer n s = ((u.setHailAt n (t + 10 * msTicks)).ctlOut n (u.hailFrame n)).count (R.ROP_Pn_HAILS_TX n) 1 := by
    have timer : doHailTimer n s = (u.setHailAt n (t + 10 * msTicks)).sendHail n := by simp [doHailTimer, hr, ha, hu, Dev.setHailAt]
    rw [timer, ← u.hailFrame_setHailAt n (t + 10 * msTicks), hu]
    exact Dev.sendHail_runs running link hd
  have left := (u.setHailAt n (t + 10 * msTicks)).ctlSent_ctlOut n (u.hailFrame n)
  have moved : Dev.Frame false [.rop, .out, .sch] [(R.ROP_Pn_HAILS_TX n).reg] u (u.setHailAt n (t + 10 * msTicks)) :=
    (Dev.Frame.refl ..).setRopP (by decide) _ _
  rw [sent]
  refine ⟨fun idle => ?_, fun busy => ?_, ?_, ?_, ?_⟩
  · rw [Dev.out_count]
    exact Dev.out_ctlOut (s := u.setHailAt n (t + 10 * msTicks)) idle
  · rw [Dev.out_count, Dev.sch_count]
    exact Dev.ctlWait_ctlOut (s := u.setHailAt n (t + 10 * msTicks)) busy
  · rw [Dev.ropP, Dev.rop_count, left.rop, ← Dev.ropP, due]
  · rw [Dev.get_count _ _ _ (by rfl), left.get, before]
    rfl
  · exact (moved.trans (left.frame.mono (by decide) (by simp))).count _ _ List.mem_cons_self

/-- Without a HAIL for 30 ms the port has heard nothing, and the adjacency goes DOWN. -/
def Dev.unheard (s : Dev) (n : Nat) : Dev := s.setRopP n { s.ropP n with heardAt := none }
def Dev.hailLapse (s : Dev) (n : Nat) : Dev := (s.unheard n).adjEval n

theorem doHailTimeout_due {t : Nat} (h : (s.ropP n).heardAt = some t) : doHailTimeout n s = ((s.until_ (t + 30 * msTicks)).hailLapse n).settle := by
  simp only [doHailTimeout, h]
  rfl

theorem Dev.hailLapse_lapses (s : Dev) (n : Fin 8) :
    ((s.hailLapse n).ropP n).heardAt = none ∧ (s.hailLapse n).is (R.ROP_Pn_STATUS_HEARD n) = false ∧
      (s.hailLapse n).is (R.ROP_Pn_STATUS_TWO_WAY n) = false ∧ (s.hailLapse n).is (R.ROP_Pn_STATUS_ADJ_UP n) = false ∧
      (s.is (R.ROP_Pn_STATUS_ADJ_UP n) = true → bit ((s.hailLapse n).get R.ROP_IRQ_ADJ) n = true ∧
        ((∀ x, x ∈ s.rop.routes → x.2.alt ≠ some x.2.primary) →
          ∀ x, x ∈ (s.hailLapse n).rop.routes → x.2.primary ≠ n ∧ x.2.alt ≠ some n.val)) ∧
      Dev.Frame true [.rop] [R.ROP_Pn_STATUS n, R.ROP_IRQ, R.ROP_ROUTING_FAILOVERS.reg, R.ROP_STATUS] s (s.hailLapse n) := by
  have port : (s.unheard n).ropP n = { s.ropP n with heardAt := none } := by rw [Dev.unheard, Dev.ropP_setRopP]
  have silent : (s.unheard n).heardNow n = false := by rw [Dev.heardNow, port]
  have two : (s.unheard n).twoWayNow n = false := by rw [Dev.twoWayNow, silent, Bool.and_false, Bool.false_and]
  have up : (s.unheard n).upNow n = false := by rw [Dev.upNow, two, Bool.false_and, Bool.false_and]
  obtain ⟨flagTwo, flagUp, flagHeard⟩ := (s.unheard n).flags_adjEval n.isLt
  refine ⟨?_, flagHeard.trans silent, flagTwo.trans two, flagUp.trans up, fun was => ⟨?_, fun routes => ?_⟩, ?_⟩
  · rw [Dev.hailLapse, Dev.ropP_adjEval, port]
  · exact (s.unheard n).adjEval_down_raises n.isLt up was
  · exact (s.unheard n).adjEval_down_routes up was routes
  · exact ((Dev.Frame.refl ..).setRopP (by decide) _ _).adjEval (by decide) (List.Subset.refl _)

/-- The own record originated again. -/
theorem doLsrRefresh_due {o : Lsr} (ho : s.rop.own = some o) (hc : s.claimed = true) :
    doLsrRefresh s = (s.until_ (o.since + 2 * secTicks)).originate := by
  simp [doLsrRefresh, ho, hc]

theorem Dev.originate_originates (hc : s.claimed = true) :
    s.originate.rop.own = some (Lsr.mk s.nodeId s.serial s.rop.nextSeq 0 s.ticks s.ropFlags s.upLinks) ∧
      s.originate.rop.nextSeq = seqNext s.rop.nextSeq ∧ s.originate.rop.changed = some s.ticks ∧
      s.originate.rop.db = s.rop.db.filter (fun x => x.id != s.nodeId || x.serial != s.serial) ∧
      Dev.Frame false [.rop, .out, .sch] [R.ROP_STATUS] s s.originate :=
  have rop := Dev.rop_originate hc
  ⟨congrArg Rop.own rop, congrArg Rop.nextSeq rop, congrArg Rop.changed rop, congrArg Rop.db rop, s.frame_originate⟩

/-- Records removed by age. -/
def Dev.ageOut (s : Dev) : Dev := ({ s with rop := { s.rop with db := s.rop.db.filter fun r => decide (r.ageAt s.ticks < 800) } } : Dev).dbChanged

theorem doLsrAgeOut_due {t : Nat} (h : (s.rop.db.map fun r => r.since + (800 - r.age) * 10 * msTicks).min? = some t)
    (hn : s.is R.ROP_STATUS_NO_ID = false) : doLsrAgeOut s = (s.until_ t).ageOut.settle := by
  have idle : (s.until_ t).ageOut.is R.ROP_STATUS_NO_ID = false := by
    rw [Dev.is, Dev.ageOut, Dev.get_dbChanged _ (by decide), Dev.get_with_rop, ← Dev.is, Dev.is_until, hn]
  simp only [doLsrAgeOut, h]
  exact congrArg Dev.settle (Dev.retryId_idle idle)

theorem Dev.ageOut_removes (s : Dev) : s.ageOut.rop.db = s.rop.db.filter (fun r => decide (r.ageAt s.ticks < 800)) ∧
    s.ageOut.rop.changed = some s.ticks ∧ Dev.Frame false [.rop] [R.ROP_STATUS] s s.ageOut := by
  refine ⟨?_, ?_, ((Dev.Frame.refl false [.rop] [R.ROP_STATUS] s).rop_ _ (by decide)).trans (Dev.frame_dbChanged _)⟩
  · rw [Dev.ageOut, Dev.rop_dbChanged]
  · rw [Dev.ageOut, Dev.rop_dbChanged]

/-! NODE_CLAIM (R414), ROUTE_COMPUTE (R420), REBIND (R425). -/

/-! The end of SETTLE: an ID is claimed, or none is free. -/
section
variable {u : Dev} (hr : s.rop.running = true) (hc : s.claimed = false) (hn : s.is R.ROP_STATUS_NO_ID = false)
  (hu : u = s.until_ (s.rop.settleFrom + s.get R.ROP_CFG_SETTLE * msTicks))
include hr hc hn hu

theorem doNodeClaim_claims {a id : Nat} (free : u.chooseId 0 = some (a, id)) : doNodeClaim s = (u.claim a id).settle := by
  subst hu
  simp only [doNodeClaim, hr, hc, hn, free, Bool.not_true, Bool.or_false, Bool.false_eq_true, if_false]

theorem doNodeClaim_noId (none : u.chooseId 0 = none) : doNodeClaim s = u.noId.settle := by
  subst hu
  simp only [doNodeClaim, hr, hc, hn, none, Bool.not_true, Bool.or_false, Bool.false_eq_true, if_false]

end

/-- The routes computed. -/
def Dev.takeRoutes (s : Dev) : Dev :=
  ({ s with rop := { s.rop with changed := none, routes := if s.claimed then s.computeRoutes else [] } } : Dev).count R.ROP_ROUTING_COMPUTES 1

theorem doRouteCompute_due {t : Nat} (h : s.rop.changed = some t) : doRouteCompute s = (s.until_ (t + msTicks)).takeRoutes.settle := by
  simp only [doRouteCompute, h]
  rfl

/-- The alternate chosen is one of the candidates. -/
theorem foldl_best_mem (l : List (Nat × Nat)) (b : Option (Nat × Nat)) (x : Nat × Nat)
    (h : l.foldl (fun (b : Option (Nat × Nat)) x => match b with
      | some y => if x.1 < y.1 ∨ (x.1 = y.1 ∧ x.2 < y.2) then some x else b
      | none => some x) b = some x) : b = some x ∨ x ∈ l := by
  induction l generalizing b with
  | nil => exact .inl h
  | cons y l ih =>
    rcases ih _ h with next | mem
    · cases b with
      | none => exact .inr (Option.some.inj next ▸ List.mem_cons_self)
      | some z =>
        simp only at next
        split at next
        · exact .inr (Option.some.inj next ▸ List.mem_cons_self)
        · exact .inl next
    · exact .inr (List.mem_cons_of_mem y mem)

/-- A route's alternate is another port than its primary (R420). -/
theorem Dev.computeRoutes_alt (s : Dev) : ∀ x, x ∈ s.computeRoutes → x.2.alt ≠ some x.2.primary := by
  intro x hx ha
  unfold Dev.computeRoutes at hx
  obtain ⟨r, _, route⟩ := List.mem_filterMap.mp hx
  split at route
  · cases route
  · split at route
    · cases route
    · cases route
      obtain ⟨y, best, port⟩ := Option.map_eq_some_iff.mp ha
      rcases foldl_best_mem _ _ _ best with none | mem
      · cases none
      · obtain ⟨z, _, candidate⟩ := List.mem_filterMap.mp mem
        split at candidate
        · cases candidate
        next other =>
          have same : y.2 = z.1 := by
            split at candidate
            · split at candidate
              · cases candidate; rfl
              · cases candidate
            · cases candidate; rfl
            · cases candidate
          exact other (same.symm.trans port)

theorem Dev.takeRoutes_takes (s : Dev) : s.takeRoutes.rop.changed = none ∧
    s.takeRoutes.rop.routes = (if s.claimed = true then s.computeRoutes else []) ∧ (∀ x, x ∈ s.takeRoutes.rop.routes → x.2.alt ≠ some x.2.primary) ∧
    s.takeRoutes.get R.ROP_ROUTING_COMPUTES = min (s.get R.ROP_ROUTING_COMPUTES + 1) 65535 ∧
    Dev.Frame false [.rop] [R.ROP_ROUTING_COMPUTES.reg] s s.takeRoutes := by
  have routes : s.takeRoutes.rop.routes = if s.claimed = true then s.computeRoutes else [] := by rw [Dev.takeRoutes, Dev.rop_count]
  refine ⟨by rw [Dev.takeRoutes, Dev.rop_count], routes, ?_, ?_, ((Dev.Frame.refl ..).rop_ _ (by decide)).count _ _ (by decide)⟩
  · rw [routes]
    split
    · exact s.computeRoutes_alt
    · simp
  · rw [Dev.takeRoutes, Dev.get_count _ _ _ (by decide), Dev.get_with_rop]
    rfl

/-- A host write to an address that takes it at once. -/
theorem Dev.hostDo_open {a : Nat} (h : s.open_ a) (v : Word) (f : Dev → Dev) : s.hostDo a v f = f s := by
  obtain ⟨up, linger, room⟩ := h
  have here : s.accessAddr a = s := by
    unfold Dev.accessAddr Dev.addrUp at *
    cases hd : domOf a with
    | none => rfl
    | some d =>
      simp only [hd] at up
      have none : s.get R.PWR_LINGER_US = 0 := by simpa [hd] using linger
      exact if_pos ⟨up, none⟩
  have takes : s.takesWrite a = true := by simp [Dev.takesWrite, up, room]
  rw [Dev.hostDo, here]
  exact if_pos takes

theorem doRebind_seeks (h : s.open_ R.ROP_CTL) (hr : s.relay = true) (hs : s.get R.ROP_RELAY_STATUS_STATE ≠ 0) :
    doRebind s = ((s.relayTo 0 0 6 0).trigger .syncLost).settle := by
  rw [doRebind, Dev.hostDo_open h, Dev.rebind, if_pos ⟨hr, hs⟩]

theorem doRebind_rests (h : s.open_ R.ROP_CTL) (hr : s.relay = false ∨ s.get R.ROP_RELAY_STATUS_STATE = 0) : doRebind s = s := by
  rw [doRebind, Dev.hostDo_open h, Dev.rebind, if_neg]
  rintro ⟨relay, state⟩
  rcases hr with hr | hr
  · exact absurd (relay.symm.trans hr) (by decide)
  · exact state hr

/-- A relay client without a server. -/
theorem Dev.relayTo_seek (s : Dev) :
    (s.relayTo 0 0 6 0).get R.ROP_RELAY_STATUS_STATE = 0 ∧ (s.relayTo 0 0 6 0).get R.ROP_RELAY_STATUS_SERVER = 0 ∧
      (s.relayTo 0 0 6 0).is R.ROP_IRQ_RELAY = true ∧ Dev.Frame true [] [R.ROP_RELAY_STATUS, R.ROP_IRQ] s (s.relayTo 0 0 6 0) := by
  unfold Dev.relayTo
  refine ⟨?_, ?_, ?_, ?_⟩
  · rw [Dev.get_event _ _ _ _ (by decide), Dev.get_raise_apart _ _ _ (by decide), Dev.get_set_apart _ _ _ _ (by decide),
      Dev.get_set _ _ _ (by decide)]
    rfl
  · rw [Dev.get_event _ _ _ _ (by decide), Dev.get_raise_apart _ _ _ (by decide), Dev.get_set _ _ _ (by decide)]
    rfl
  · rw [Dev.is_event _ _ _ _ (by decide)]
    exact Dev.is_raise_same _ _ (by decide)
  · exact ((((Dev.Frame.refl ..).set _ _ (by decide)).set _ _ (by decide)).raise _ (by decide)).event _ _

end

/-! Frames received, as the commands answer them. -/

section
variable {s : State} {n : Fin 8} {b : List Byte} {c : Instr}

/-- A port that does not receive leaves the block. -/
theorem answers_ropeRx_silent (hs : s.runs) (hc : c ∈ [Instr.ropeFrameRx n b, .hailRx n b, .lsrRx n b]) (hr : s.dev.ropReceives n = false) :
    answers c s s.dev := by
  simp only [List.mem_cons, List.not_mem_nil, or_false] at hc
  rcases hc with rfl | rfl | rfl
  · have answer := answers_ropeFrameRx hs n b
    rwa [doRopeFrameRx, if_pos (by simp [hr])] at answer
  · have answer := answers_hailRx hs n b
    rwa [doHailRx, if_pos (by simp [hr])] at answer
  · have answer := answers_lsrRx hs n b
    rwa [doLsrRx, if_pos (by simp [hr])] at answer

/-- A frame that fails its checks leaves what counting it leaves (R407). -/
theorem answers_ropeRx_discards {d : Dev} (hs : s.runs) (hc : c ∈ [Instr.ropeFrameRx n b, .hailRx n b, .lsrRx n b])
    (hr : s.dev.ropReceives n = true) (h : (s.dev.access domRope cliFab).ropCheck b = (d, false)) : answers c s d := by
  simp only [List.mem_cons, List.not_mem_nil, or_false] at hc
  rcases hc with rfl | rfl | rfl
  · have answer := answers_ropeFrameRx hs n b
    simpa [doRopeFrameRx, hr, h] using answer
  · have answer := answers_hailRx hs n b
    simpa [doHailRx, hr, h] using answer
  · have answer := answers_lsrRx hs n b
    simpa [doLsrRx, hr, h] using answer

section
variable (hs : s.runs) (hg : s.dev.RopeGood n b)
include hs hg

theorem answers_hailRx_good (hk : hdrKind b = kHail) :
    answers (.hailRx n b) s ((s.dev.access domRope cliFab).hailIn n (ropBody b)).settle :=
  doHailRx_good hg hk ▸ answers_hailRx hs n b

theorem answers_lsrRx_good (hk : hdrKind b = kLsr) :
    answers (.lsrRx n b) s ((s.dev.access domRope cliFab).lsrIn n (ropBody b)).settle :=
  doLsrRx_good hg hk ▸ answers_lsrRx hs n b

theorem exec_ropeFrameRx_hail (hk : hdrKind b = kHail) : exec (.ropeFrameRx n b) s = exec (.hailRx n b) s :=
  (doRopeFrameRx_hail hg hk ▸ answers_ropeFrameRx hs n b).trans (answers_hailRx_good hs hg hk).symm

theorem exec_ropeFrameRx_lsr (hk : hdrKind b = kLsr) : exec (.ropeFrameRx n b) s = exec (.lsrRx n b) s :=
  (doRopeFrameRx_lsr hg hk ▸ answers_ropeFrameRx hs n b).trans (answers_lsrRx_good hs hg hk).symm

theorem answers_ropeFrameRx_other (hh : hdrKind b ≠ kHail) (hl : hdrKind b ≠ kLsr) :
    answers (.ropeFrameRx n b) s ((s.dev.access domRope cliFab).ropePass n b) :=
  doRopeFrameRx_other hg hh hl ▸ answers_ropeFrameRx hs n b

end
end

/-! A frame for this module, by kind (R423). -/

section
variable {s : Dev} {n : Nat} {b : List Byte}

theorem Dev.ropeLocal_data (h : hdrKind b = kData) : s.ropeLocal n b = s.ropeDeliver n (hdrBits b 100 10) (ropBody b) := by
  simp only [Dev.ropeLocal, h, kData]

theorem Dev.ropeLocal_relayDown (h : hdrKind b = kRelayDown) :
    s.ropeLocal n b = s.relayDown (hdrBits b 70 16) (bit (beAt b 0 16) 69) (ropBody b) := by
  simp only [Dev.ropeLocal, h, kRelayDown]

theorem Dev.ropeLocal_relayUp (h : hdrKind b = kRelayUp) (hs : s.is R.ROP_CFG_RELAY_SERVER = true) : s.ropeLocal n b =
    s.admitFrame { (default : QFrame) with bytes := ropBody b, queue := s.get R.ROP_RELAY_CFG_UPQ, rx := s.now } := by
  simp only [Dev.ropeLocal, h, kRelayUp, hs, if_true]

theorem Dev.ropeLocal_noServer (h : hdrKind b = kRelayUp) (hs : s.is R.ROP_CFG_RELAY_SERVER = false) :
    s.ropeLocal n b = s.count R.ROP_DROPS_RELAY 1 := by
  simp only [Dev.ropeLocal, h, kRelayUp, hs, Bool.false_eq_true, if_false]

theorem Dev.ropeLocal_msg (h : hdrKind b = kMsg) : s.ropeLocal n b = s.deliverRemote (hdrBits b 53 16)
    { kind := 2, flag := hdrBits b 48 5, src := beAt (ropBody b) 0 2, node := hdrBits b 100 10, payload := Machine.slice (ropBody b) 4 48 } := by
  simp only [Dev.ropeLocal, h, kMsg]

theorem Dev.ropeLocal_twin (h : hdrKind b = kTwin) : s.ropeLocal n b =
    if s.is R.TWN_CFG_PATH = true then s.twinRecords ((ropBody b).length / 8) (ropBody b) else s := by
  simp only [Dev.ropeLocal, h, kTwin]

theorem Dev.ropeLocal_referee (h : hdrKind b = kReferee) : s.ropeLocal n b = s.refereeIn (ropBody b) := by
  simp only [Dev.ropeLocal, h, kReferee]

end

/-! A HAIL received: alone under its ID, or not (R411, R414). -/

section
variable {s : Dev} {n : Nat} {p : List Byte}

theorem Dev.hailIn_alone (hn : n < 8)
    (h : bit (beAt p 8 2) 15 = true → s.claimed = true → beAt p 8 2 % 1024 = s.nodeId → beAt p 0 8 = s.serial) :
    s.hailIn n p = s.hailTaken n p := by
  have kept := s.sameIdentity_hailTaken hn p
  rw [Dev.hailIn_eq, kept.claimed, kept.nodeId, kept.serial]
  exact if_neg fun ⟨shown, claimed, node, other⟩ => other (h shown claimed node)

theorem Dev.hailIn_collides (hn : n < 8) (hb : bit (beAt p 8 2) 15 = true) (hc : s.claimed = true) (hi : beAt p 8 2 % 1024 = s.nodeId)
    (hs : beAt p 0 8 ≠ s.serial) : s.hailIn n p = (s.hailTaken n p).collision (beAt p 0 8) := by
  have kept := s.sameIdentity_hailTaken hn p
  rw [Dev.hailIn_eq, kept.claimed, kept.nodeId, kept.serial]
  exact if_pos ⟨hb, hc, hi, hs⟩

/-- What a HAIL under this module's ID leaves, the HAIL itself taken first. -/
theorem Dev.hailTaken_collides (s : Dev) (hn : n < 8) (p : List Byte) (hc : s.claimed = true) :
    ((s.hailTaken n p).collision (beAt p 0 8)).get R.ROP_COUNTS_COLLISIONS = min (s.get R.ROP_COUNTS_COLLISIONS + 1) 255 ∧
      ((s.hailTaken n p).collision (beAt p 0 8)).is R.ROP_IRQ_COLLISION = true ∧
      (s.serial < beAt p 0 8 → ((s.hailTaken n p).collision (beAt p 0 8)).nodeId = s.nodeId ∧
        ((s.hailTaken n p).collision (beAt p 0 8)).claimed = true) ∧
      (∀ a id, beAt p 0 8 < s.serial → s.chooseId (s.get R.ROP_STATUS_ATTEMPT + 1) = some (a, id) →
        ((s.hailTaken n p).collision (beAt p 0 8)).nodeId = id ∧ ((s.hailTaken n p).collision (beAt p 0 8)).claimed = true ∧
        ((s.hailTaken n p).collision (beAt p 0 8)).get R.ROP_COUNTS_ID_CHANGES = min (s.get R.ROP_COUNTS_ID_CHANGES + 1) 255 ∧
        ((s.hailTaken n p).collision (beAt p 0 8)).is R.ROP_IRQ_ID_CHANGED = true) ∧
      Dev.Frame true [.rop] (hailRegs n ++ collisionRegs) s ((s.hailTaken n p).collision (beAt p 0 8)) := by
  have kept := s.sameIdentity_hailTaken hn p
  obtain ⟨_, count, raised⟩ := (s.hailTaken n p).collision_counts (beAt p 0 8)
  refine ⟨?_, raised, fun lower => ?_, fun a id higher free => ?_, ?_⟩
  · rw [count, Dev.get_hailTaken_counts R.ROP_COUNTS_COLLISIONS rfl (by decide)]
  · have same := Dev.collision_lower (s := s.hailTaken n p) (by rwa [kept.serial])
    exact ⟨same.nodeId.trans kept.nodeId, (same.claimed.trans kept.claimed).trans hc⟩
  · have running : (s.hailTaken n p).rop.running = true := by
      rw [kept.running]
      exact (Bool.and_eq_true_iff.mp hc).1
    have next : (s.hailTaken n p).chooseId ((s.hailTaken n p).get R.ROP_STATUS_ATTEMPT + 1) = some (a, id) := by
      rwa [kept.chooseId_eq, kept.status _ rfl (by decide)]
    obtain ⟨node, claimed, changes, told⟩ := Dev.collision_higher (by rwa [kept.serial]) running next
    exact ⟨node, claimed, by rw [changes, Dev.get_hailTaken_counts R.ROP_COUNTS_ID_CHANGES rfl (by decide)], told⟩
  · exact ((s.frame_hailTaken n p).mono (fun _ h => h) (List.subset_append_left _ _)).trans
      ((Dev.frame_collision _ _).mono (fun _ h => h) (List.subset_append_right _ _))

/-- The registers of a HAIL that collides, as O57 lists them. -/
theorem hailCollisionRegs_listed (n : Fin 8) : hailRegs n ++ collisionRegs ⊆ [R.ROP_Pn_NBR_SERIAL_LO n, R.ROP_Pn_NBR_SERIAL_LO n + 4,
    (R.ROP_Pn_HAILS_RX n).reg, R.ROP_COUNTS_DB_RESYNC.reg, R.ROP_IRQ, R.ROP_ROUTING_FAILOVERS.reg, R.ROP_STATUS] ++
      (List.range 8).map R.ROP_Pn_STATUS := by
  revert n
  decide

end

/-! A record received: what becomes of it, as O57 tells the cases apart. -/

section
variable {s : Dev} {n : Nat} {p : List Byte} {r : Lsr} (hp : r = lsrOf p s.ticks) (ht : s.is (R.ROP_Pn_STATUS_TWO_WAY n) = true)
include hp ht

/-- Another module's ID: the record is stored. -/
theorem Dev.lsrIn_stores (hi : s.claimed = true → r.id ≠ s.nodeId) (hn : s.is R.ROP_STATUS_NO_ID = false)
    (hf : ∀ o, s.rop.db.find? r.sameKey = some o → r.newer o.seq = true) (hl : bit r.flags 7 = true ∨ s.records.length < 2048) :
    s.lsrIn n p = s.lsrStore n r := by
  have idle : (s.lsrStore n r).is R.ROP_STATUS_NO_ID = false := by
    rwa [Dev.is, s.status_lsrStore n r _ (by decide) (by decide)]
  rw [Dev.lsrIn_taken hp ht (fun own => hi own.1 own.2.1) hf hl, s.claimed_lsrStore, s.nodeId_lsrStore, Dev.retryId_idle idle]
  exact if_neg fun own => hi own.2.1 own.2.2.1

/-- This module's ID under another serial: a collision. -/
theorem Dev.lsrIn_collides (hn : n < 8) (hc : s.claimed = true) (hi : r.id = s.nodeId) (hs : r.serial ≠ s.serial)
    (hg : bit r.flags 7 = false) (hl : s.records.length < 2048) (hf : s.rop.db.find? r.sameKey = none) :
    s.lsrIn n p = (s.lsrStore n r).collision r.serial := by
  rw [Dev.lsrIn_taken hp ht (fun own => hs own.2.2) (by simp [hf]) (.inr hl), s.claimed_lsrStore, s.nodeId_lsrStore, s.serial_lsrStore hn]
  exact if_pos ⟨by simp [hg], hc, hi, hs⟩

end

theorem lsrCollisionRegs_listed (n : Fin 8) : (R.ROP_Pn_LSR_ACCEPTED n).reg :: collisionRegs ⊆ [(R.ROP_Pn_LSR_ACCEPTED n).reg,
    R.ROP_COUNTS_DB_RESYNC.reg, R.ROP_IRQ, R.ROP_ROUTING_FAILOVERS.reg, R.ROP_STATUS] ++ (List.range 8).map R.ROP_Pn_STATUS := by
  revert n
  decide

/-! Time brought forward to a deadline leaves the claim and the serial. -/

theorem Dev.claimed_until (s : Dev) (t : Nat) : (s.until_ t).claimed = s.claimed := by
  rw [Dev.claimed, Dev.claimed, Dev.rop_until, Dev.is_until]

theorem Dev.serial_until (s : Dev) (t : Nat) : (s.until_ t).serial = s.serial := by
  rw [Dev.serial, Dev.serial, Dev.rd64, Dev.rd64, Dev.rd_until, Dev.rd_until]

/-- Settles O57: outside a reset each command answers its effect on the block, and each clause is what that effect does in its case. -/
theorem ropeFabric : Obligations.RopeFabric := by
  intro s n hs
  refine ⟨?discard, ?sameAs, ?other, ?hail, ?hailTimer, ?hailTimeout, ?lsr, ?refresh, ?ageOut, ?claim, ?routes, ?rebind, ?noRebind⟩
  case discard =>
    rintro b c u hc rfl
    refine ⟨answers_ropeRx_silent hs hc, fun hr bad => ?header, fun hr hl hv hk hh hf => ?fcs⟩
    case header => exact ⟨_, answers_ropeRx_discards hs hc hr (Dev.ropCheck_header bad), Dev.count_counts _ _ (by decide)⟩
    case fcs => exact ⟨_, answers_ropeRx_discards hs hc hr (Dev.ropCheck_fcs hl hv hk hh hf), Dev.count_counts _ _ (by decide)⟩
  case sameAs => exact fun b hg => ⟨exec_ropeFrameRx_hail hs hg, exec_ropeFrameRx_lsr hs hg⟩
  case other =>
    intro b u hg hu hh hl
    have answer := answers_ropeFrameRx_other hs hg hh hl
    rw [← hu] at answer
    refine ⟨fun down => ?down, fun up hc hd => ?here, fun up hd away => ?transit⟩
    case down => rwa [Dev.ropePass_down down] at answer
    case here =>
      rw [Dev.ropePass_local up hc hd] at answer
      refine ⟨fun hk => ?_, fun hk => ?_, fun hk server => ?_, fun hk server => ?_, fun hk => ?_, fun hk => ?_, fun hk => ?_⟩
      · rwa [Dev.ropeLocal_data hk] at answer
      · rwa [Dev.ropeLocal_relayDown hk] at answer
      · rwa [Dev.ropeLocal_relayUp hk server] at answer
      · rw [Dev.ropeLocal_noServer hk server] at answer
        exact ⟨_, answer, Dev.count_counts _ _ (by decide)⟩
      · rwa [Dev.ropeLocal_msg hk] at answer
      · rwa [Dev.ropeLocal_twin hk] at answer
      · rwa [Dev.ropeLocal_referee hk] at answer
    case transit =>
      rw [Dev.ropePass_transit up hd away] at answer
      refine ⟨fun ttl => ?dies, fun ttl route => ?unrouted, ?routed⟩
      case dies =>
        rw [Dev.ropeTransit_dies ttl] at answer
        exact ⟨_, answer, Dev.count_counts _ _ (by decide)⟩
      case unrouted =>
        rw [Dev.ropeTransit_unrouted ttl route] at answer
        exact ⟨_, answer, Dev.countR_toNat _ _ _, (Dev.Frame.refl ..).countR _ _ List.mem_cons_self⟩
      case routed =>
        intro r j h ttl route hj hh
        obtain rfl : j = u.transitIndex b := hj
        obtain rfl : h = transitHeader b := hh
        refine ⟨fun hk => ?_, fun q hk hq => ?_, fun hk hq => ?_⟩
        · rwa [Dev.ropeTransit_referee ttl route hk] at answer
        · rw [Dev.ropeTransit_queued ttl route hk hq] at answer
          exact answer
        · rw [Dev.ropeTransit_unqueued ttl route hk hq] at answer
          exact ⟨_, answer, Dev.count_counts _ _ (by decide)⟩
  case hail =>
    intro b p u hg hu hk hp
    have answer := answers_hailRx_good hs hg hk
    rw [← hu, ← hp] at answer
    refine ⟨fun alone => ?alone, fun shown hc node other => ?collision⟩
    case alone =>
      rw [Dev.hailIn_alone n.isLt alone] at answer
      have port := u.ropP_hailTaken n p
      rw [Dev.ropP_hailNoted] at port
      obtain ⟨two, up⟩ := u.hailTaken_flags n.isLt p
      refine ⟨_, answer, Dev.hailTaken_serial _ n.isLt _, congrArg RopPort.heardAt port, congrArg RopPort.node port, two, up,
        Dev.hailTaken_counts _ n.isLt _, Dev.hailTaken_answers n.isLt, fun known htwo hr link seen hup => ?_, Dev.frame_hailTaken _ _ _⟩
      exact ⟨Dev.hailTaken_resyncs n.isLt known htwo hr link seen hup, Dev.hailTaken_tells n.isLt known htwo hr link seen hup⟩
    case collision =>
      rw [Dev.hailIn_collides n.isLt shown hc node other] at answer
      obtain ⟨count, raised, lower, higher, frame⟩ := u.hailTaken_collides n.isLt p hc
      exact ⟨_, answer, count, raised, lower, higher, frame.mono (fun _ h => h) (hailCollisionRegs_listed n)⟩
  case hailTimer =>
    rintro t u f hr hd ha hu rfl
    exact ⟨_, answers_hailTimer hs n, doHailTimer_sends hr hd ha hu⟩
  case hailTimeout =>
    intro t u ha hu
    have answer := answers_hailTimeout hs n
    rw [doHailTimeout_due ha, ← hu] at answer
    obtain ⟨silent, heard, two, up, fell, frame⟩ := u.hailLapse_lapses n
    rw [show u.is _ = s.dev.is _ by rw [hu, Dev.is_until], show u.rop = s.dev.rop by rw [hu, Dev.rop_until]] at fell
    exact ⟨_, answer, silent, heard, two, up, fell, frame⟩
  case lsr =>
    intro b r u hg hu hk hp
    have answer := answers_lsrRx_good hs hg hk
    rw [← hu] at answer
    refine ⟨fun down => ?down, fun o two hc hi hserial ho new recent => ?own, fun two other idle => ⟨fun new room => ?taken,
      fun fresh held full => ?full, fun o known stale => ?stale⟩, fun two hc hi hserial held room fresh => ?collision⟩
    case down =>
      rw [Dev.lsrIn_down down] at answer
      exact ⟨_, answer, Dev.count_counts _ _ (by rfl)⟩
    case own =>
      rw [Dev.lsrIn_own hp two hc hi hserial ho (Lsr.newer_of new recent)] at answer
      exact ⟨_, answer, Dev.lsrOverride_overrides n.isLt hc⟩
    case taken =>
      rw [Dev.lsrIn_stores hp two other idle (fun o ho => Lsr.newer_of (new o ho).1 (new o ho).2) room] at answer
      have rop := u.rop_lsrStore n r
      refine ⟨_, answer, Dev.db_lsrStore _ _ _, congrArg Rop.changed rop, congrArg Rop.settleFrom rop, Dev.lsrStore_counts _ _ _, ?_,
        Dev.frame_lsrStore _ _ _⟩
      rintro m f hm hne htwo free rfl
      exact Dev.lsrStore_floods _ hm hne htwo free
    case full =>
      rw [Dev.lsrIn_full hp two (fun own => other own.1 own.2.1) fresh held full] at answer
      exact ⟨_, answer, Dev.lsrFull_counts _ r⟩
    case stale =>
      rw [Dev.lsrIn_stale hp two (fun own => other own.1 own.2.1) known (Lsr.not_newer_of stale)] at answer
      exact ⟨_, answer, Dev.count_counts _ _ (by rfl)⟩
    case collision =>
      rw [Dev.lsrIn_collides hp two n.isLt hc hi hserial held room fresh] at answer
      obtain ⟨stored, count, raised, lower, frame⟩ := Dev.lsrStore_collides (s := u) n.isLt hserial held
      exact ⟨_, answer, stored, count, raised, fun h => ⟨(lower h).1, (lower h).2.trans hc⟩,
        frame.mono (fun _ h => h) (lsrCollisionRegs_listed n)⟩
  case refresh =>
    intro o u ho hc hu
    have answer := answers_lsrRefresh hs
    rw [doLsrRefresh_due ho hc, ← hu] at answer
    obtain ⟨own, seq, changed, db, frame⟩ := Dev.originate_originates (s := u) (by rw [hu, Dev.claimed_until, hc])
    exact ⟨_, answer, own, seq, changed, db.trans (by rw [hu, Dev.rop_until]), frame⟩
  case ageOut =>
    rintro t u first rfl idle
    exact ⟨_, doLsrAgeOut_due first idle ▸ answers_lsrAgeOut hs, Dev.ageOut_removes _⟩
  case claim =>
    intro u hr hc idle hu
    have answer := answers_nodeClaim hs
    refine ⟨fun a id free => ?free, fun none => ?none⟩
    case free =>
      rw [doNodeClaim_claims hr hc idle hu free] at answer
      obtain ⟨ha, hid⟩ := Dev.chooseId_bounds free
      have running : u.rop.running = true := by rw [hu, Dev.rop_until, hr]
      obtain ⟨node, attempt, claimed, r, own, rid, rserial⟩ := Dev.claim_claims running ha hid
      exact ⟨_, answer, node, attempt, claimed, ⟨r, own, rid, by rw [rserial, hu, Dev.serial_until]⟩, Dev.frame_claim _ _ _⟩
    case none =>
      rw [doNodeClaim_noId hr hc idle hu none] at answer
      obtain ⟨shown, unclaimed, raised, routes⟩ := Dev.noId_shows (s := u) (by rw [hu, Dev.is_until, idle])
      exact ⟨_, answer, shown, unclaimed, raised, routes, Dev.frame_noId _⟩
  case routes =>
    intro t u changed hu
    have answer := answers_routeCompute hs
    rw [doRouteCompute_due changed, ← hu] at answer
    obtain ⟨done, routes, alt, count, frame⟩ := u.takeRoutes_takes
    rw [show u.claimed = s.dev.claimed by rw [hu, Dev.claimed_until]] at routes
    exact ⟨_, answer, done, routes, alt, count.trans (by rw [hu, Dev.get_until]), frame⟩
  case rebind => exact fun free client bound => ⟨_, doRebind_seeks free client bound ▸ answers_rebind hs, Dev.relayTo_seek _⟩
  case noRebind => exact fun free rests => doRebind_rests free rests ▸ answers_rebind hs

end Sys2Proof.Machine
